-- ==== Sys2Proof/Word.lean ====
section
/-! DEFINITION. The words of the module: the 36-bit native word (R24), bytes, indices of the module's instances, and
the plainest conversions between bits and integers (R7). -/

namespace Sys2Proof

/-- R24: a register or Larder word is 36 bits. -/
abbrev Word := BitVec 36

/-- A byte of a Larder codeword (R325) or of a packed image (R49). -/
abbrev Byte := BitVec 8

/-- R1: axes AX0-AX7 and feedback channels, compare outputs, Hatch channels and ADC cores of the same numbering. -/
abbrev AxisId := Fin 8

/-- R95: legs LEG0-LEG31. -/
abbrev LegId := Fin 32

/-- R12: the gate-drive dies GD0, GD1. -/
abbrev DieId := Fin 2

/-- R128: quadrants Q0-Q3. -/
abbrev Quad := Fin 4

/-- Table 6.1: ADC cores ADC0-ADC7. -/
abbrev CoreId := Fin 8

/-- R389: peripheral ports P0-P3. -/
abbrev PortId := Fin 4

/-- R7: two's complement value of the low `w` bits of `n`. -/
def signed (w n : Nat) : Int :=
  if n % 2 ^ w < 2 ^ (w - 1) then (n % 2 ^ w : Nat) else (n % 2 ^ w : Nat) - (2 ^ w : Nat)

/-- The `w`-bit two's complement code of an integer, modulo 2^w. -/
def unsigned (w : Nat) (i : Int) : Nat := (i % (2 ^ w : Nat)).toNat

/-- Bits [hi:lo] of a number (R7). -/
def bitsOf (n hi lo : Nat) : Nat := (n >>> lo) % 2 ^ (hi + 1 - lo)

/-- Limit `x` to `lo … hi`. -/
def clampInt (lo hi x : Int) : Int := max lo (min hi x)

/-- Division rounded up. -/
def ceilDiv (a b : Nat) : Nat := (a + b - 1) / b

/-- R166, R187: a ÷ b to the nearest integer, halves toward plus infinity, for b above 0. -/
def roundDiv (a : Int) (b : Nat) : Int := (2 * a + b) / (2 * b : Nat)

end Sys2Proof
end

