-- ==== Sys2Proof/Syntax.lean ====
section
/-! DEFINITION. The commands of the module: every row of the table of operations and events, with its operands. -/

namespace Sys2Proof

/-- R23, R338, R366: who asks for a register access: the host port or a Ladder session. -/
inductive Req | hp | ladder
  deriving DecidableEq, Repr

/-- R31, R43: what the module itself does to a register in the same BCLK in which software writes it: W1C bits whose
event sets them, and whether the register's counter takes an increment. -/
structure Race where
  sets : Word
  inc : Bool
  deriving DecidableEq, Repr

/-- What a register write meets outside the registers: whether the Strongbox write of a SAVE succeeds (R437), the words of
the units that a port has received before its ABORT (R394), how far an operation that an ABORT stops has come (words), and
what falls in the same BCLK. -/
structure AccessEnv where
  saved : Bool
  rx : List Word
  done : Nat
  race : Race
  deriving DecidableEq, Repr

/-- R110 to R112: where the gate of a switch stands: below 2.0 V, between that and SOFT_LEVEL, above SOFT_LEVEL. -/
inductive GateLevel | low | mid | high
  deriving DecidableEq, Repr

/-- R119, R123, R130: which leg test an event concerns: that of LGq.CMD, or that of an axis in CHECKING. -/
inductive TestRef | quadrant (q : Quad) | arming (n : AxisId)
  deriving DecidableEq, Repr

/-- R328, R330: what a DRAM fault or a disturbance does to a line: the bits it flips, by byte, on the first read and on
the read after the write-back. -/
structure Disturb where
  line : Nat
  first : List (Nat × Byte)
  again : List (Nat × Byte)
  deriving DecidableEq, Repr

/-- R351: the PTP messages of the profile. -/
inductive PtpKind | sync | followUp | delayReq | delayResp | announce | other
  deriving DecidableEq, Repr

/-- R351: the rank of a clock by the best master clock algorithm, most significant first: priority1, clockClass,
clockAccuracy, variance, priority2, identity. -/
structure ClockRank where
  rank : List Nat
  deriving DecidableEq, Repr

/-- R351: a PTP message: kind, domain, identity of the sender, sequence number, its timestamp (ns since the PTP epoch),
correctionField (ns), the identity it answers (Delay_Resp), the grandmaster it announces, and its sync interval (2^-k s). -/
structure PtpMsg where
  kind : PtpKind
  domain : Nat
  source : Nat
  seq : Nat
  time : Nat
  corr : Int
  answers : Nat
  master : ClockRank
  log : Nat
  deriving DecidableEq, Repr

/-- R346: the fields of an IPv4 header that the module checks. -/
structure IpHdr where
  version : Nat
  ihl : Nat
  sumOk : Bool
  mf : Bool
  frag : Nat
  src : BitVec 32
  dst : BitVec 32
  deriving DecidableEq, Repr

/-- What an Ethernet frame carries. -/
inductive Packet
  | arp (request : Bool) (senderMac : BitVec 48) (senderIp : BitVec 32) (targetIp : BitVec 32)
  | icmp (ip : IpHdr) (echo : Bool) (data : List Byte)
  | udp (ip : IpHdr) (sport dport : BitVec 16) (sumOk : Bool) (payload : List Byte)
  | ptp (ip : IpHdr) (m : PtpMsg)
  | ipOther (ip : IpHdr)
  | pause
  | other
  deriving DecidableEq, Repr

/-- R345: an Ethernet frame as it arrives at a port. -/
structure Frame where
  srcMac : BitVec 48
  dstMac : BitVec 48
  bytes : Nat
  vlan : Bool
  fcsOk : Bool
  body : Packet
  deriving DecidableEq, Repr

/-- What the module measures at a motion frame boundary: the temperature of LD (0.125 K), VAUX (10 mV), VMIN and VML (0.1 V),
for each CMDA input the sum of the eight codes of the frame (R412), and the levels of the XIO pins after their filters. -/
structure MotionEnv where
  tempLd : Int
  vaux : Nat
  vmin : Int
  vml : Nat
  cmda : List Int
  xio : BitVec 32
  deriving DecidableEq, Repr

/-- The commands of the module: one constructor per row of the table of operations and events. `dt` is the time in PCLK
that passes before the command acts (log entry 2). -/
inductive Instr
  /-- LINK_CYCLE: Every 1 µs gate-link cycle carries the event window, ADC results, register data and edge records in fixed order on each lane. (R13) -/
  | linkCycle (d : DieId) (errs : Nat)
  /-- FAULT_RECORD: A fault event reaches the fault manager, which orders it, applies the axis policy and reaction class, queues it or merges it, and writes it to the Strongbox ring. (R21) -/
  | faultRecord (ringOk : Bool)
  /-- REGISTER_WRITE: A write to a register with no row of its own acts by its access codes, masked or ordinary, with same-BCLK conflicts resolved. (R30) -/
  | registerWrite (dt : Nat) (req : Req) (addr : BitVec 16) (data : Word) (env : AccessEnv)
  /-- RH_READ: A read of a holding register stalls while a capture is pending within 8 µs of T and returns the captured values. (R40) -/
  | rhRead (dt : Nat) (req : Req) (addr : BitVec 16)
  /-- CROSS_DOMAIN_RETURN: An access to LGq, PWq or ADd returns over the gate link and releases its stalled requester. (R36) -/
  | crossDomainReturn (dt : Nat) (req : Req) (envs : List AccessEnv)
  /-- CROSS_DOMAIN_TIMEOUT: A cross-domain access not returned after 10 µs ends with read 0 or a dropped write and sets XD_TIMEOUT. (R37) -/
  | crossDomainTimeout (req : Req)
  /-- STOCKTAKE: A write to SYS.STOCKTAKE schedules a capture at T = t_w + 4000 PCLK or is refused while one is pending. (R38) -/
  | stocktake (dt : Nat) (req : Req) (data : Word)
  /-- STOCKTAKE_CAPTURE: At instant T every present die copies each counter into its holding register. (R38) -/
  | stocktakeCapture (gd0 gd1 : Bool)
  /-- STOCKTAKE_CONFIRM: When every present die has confirmed, DONE is set and PENDING cleared. (R40) -/
  | stocktakeConfirm (dt : Nat)
  /-- STOCKTAKE_MISSING: A GD die unconfirmed at T + 20 µs ends the capture with DONE and MISSING_GD0 or MISSING_GD1. (R40) -/
  | stocktakeMissing
  /-- TIMESTAMP_WRAP: The 36-bit module timestamp wraps and sets SYS.STATUS.TS_WRAP. (R42) -/
  | timestampWrap
  /-- RESET: Writing 0x0_0000_C0DE to SYS.RESET engages the Trapdoor on every axis and resets the module except the PLL and Strongbox. (R46) -/
  | reset (dt : Nat) (data : Word)
  /-- BOOT: After PLL lock and Larder ready the module tries slot A, slot B and bare mode in the order of NEXT_BOOT. (R85) -/
  | boot (dt : Nat)
  /-- SLOT_CHECK_END: The check of one boot slot ends in acceptance or refusal, raising 0xB01, 0xB02 or entering bare mode as the order requires. (R86) -/
  | slotCheckEnd (dt : Nat) (device : Bool)
  /-- CHECK: INV.CMD CHECK starts a check of the staged image. (R83) -/
  | check (dt : Nat)
  /-- APPLY: INV.CMD APPLY starts a full or partial application of the staged image. (R89) -/
  | apply (dt : Nat)
  /-- APPLY_SLOT_A: INV.CMD APPLY_SLOT_A starts a full reload from slot A. (R89) -/
  | applySlotA (dt : Nat)
  /-- APPLY_SLOT_B: INV.CMD APPLY_SLOT_B starts a full reload from slot B. (R89) -/
  | applySlotB (dt : Nat)
  /-- PROGRAM_A: INV.CMD PROGRAM_A erases slot A and writes the staged image to it. (R92) -/
  | programA (dt : Nat)
  /-- PROGRAM_B: INV.CMD PROGRAM_B erases slot B and writes the staged image to it. (R92) -/
  | programB (dt : Nat)
  /-- VERIFY_A: INV.CMD VERIFY_A checks slot A. (R83) -/
  | verifyA (dt : Nat)
  /-- VERIFY_B: INV.CMD VERIFY_B checks slot B. (R83) -/
  | verifyB (dt : Nat)
  /-- INV_ABORT: INV.CMD ABORT ends the running Inventory operation by R44. (R93) -/
  | invAbort (dt done : Nat)
  /-- INV_CHECK_END: A CHECK or VERIFY ends with DONE or with ERR and the first failure in ERR_CODE and ERR_AT. (R83) -/
  | invCheckEnd (dt : Nat) (device : Bool)
  /-- APPLY_COMPLETE: A full APPLY replaces the whole configuration on one BCLK edge, creating axes DISABLED and raising VG. (R89) -/
  | applyComplete (dt : Nat) (device : Bool)
  /-- PARTIAL_APPLY_COMPLETE: A partial APPLY switches the named axes to their new LOOP and FEED shelves and frees the old sections. (R90) -/
  | partialApplyComplete (dt : Nat)
  /-- PROGRAM_COMPLETE: PROGRAM_A or PROGRAM_B reads back and checks the written slot and sets its OK bit, or ends with 0xB41. (R92) -/
  | programComplete (dt : Nat) (device : Bool)
  /-- GATE_POWER_UPDATE: Every 1 ms each GD die updates its 1 s mean gate-drive power and raises 0x224 on a rise above 3 W. (R98) -/
  | gatePowerUpdate (d : DieId) (mw vg : Nat)
  /-- VG_LOW: VG of a die falls below its selected value minus 2.5 V, making every switch of the die unavailable. (R99) -/
  | vgLow (dt : Nat) (d : DieId) (vg : Nat)
  /-- VG_RECOVER: VG rises above its selected value minus 1.5 V and the switches become available again. (R99) -/
  | vgRecover (dt : Nat) (d : DieId) (vg : Nat)
  /-- FLOATING_SUPPLY_LOW: CFn − SHn falls below VG − 2.5 V, making the high side unavailable with fault 0x221. (R100) -/
  | floatingSupplyLow (dt : Nat) (l : LegId) (deep : Bool)
  /-- FLOATING_SUPPLY_READY: The floating supply rises above VG − 1.5 V and the high side becomes available again. (R100) -/
  | floatingSupplyReady (dt : Nat) (l : LegId) (full : Bool)
  /-- COMMANDED_EDGE: A leg's PWM counter and delay line produce a commanded gate edge at its tap time. (R132) -/
  | commandedEdge (l : LegId) (rise : Bool)
  /-- SWITCH_TURN_ON: A waiting switch turns on at the latest of its commanded edge, the dead time and the handshake, counting HS_STRETCH when the handshake governs. (R104) -/
  | switchTurnOn (l : LegId) (hi : Bool) (sensed : Nat)
  /-- GATE_TIMEOUT: A gate fails to fall or rise within HS_TIMEOUT, latching the leg with fault 0x213 or 0x214. (R108) -/
  | gateTimeout (l : LegId) (hi rising : Bool)
  /-- SHORT_CONFIRM: A sense current above SC_THRESH for 80 ns confirms a short, starting soft turn-off and the retry or latch decision. (R110) -/
  | shortConfirm (dt : Nat) (l : LegId) (hi : Bool) (gate : GateLevel)
  /-- SOFT_HOLD_END: SOFT_HOLD after confirmation the gate starts its 0.5 A discharge. (R111) -/
  | softHoldEnd (l : LegId) (hi : Bool)
  /-- RETRY_WAIT_END: RETRY_WAIT after a short the held switch becomes available again and a retry is recorded. (R116) -/
  | retryWaitEnd (l : LegId) (hi : Bool)
  /-- CLEAR_LEG: LGq.CMD CLEAR_LEG returns LATCHED legs to IDLE or UNALLOCATED and clears their retry history. (R117) -/
  | clearLeg (dt : Nat) (q : Quad) (legs : BitVec 8)
  /-- WIRE_TEST: LGq.CMD WIRE_TEST starts the wiring test of every axis with a selected leg. (R123) -/
  | wireTest (dt : Nat) (q : Quad) (legs : BitVec 8)
  /-- WIRE_TEST_STEP_END: After 10 ms of settling a wiring test step reads the nodes and moves on. (R124) -/
  | wireTestStepEnd (owner : TestRef) (low high : BitVec 32)
  /-- WIRE_TEST_END: The wiring test ends and each leg reports its first failure in WIRE_RESULT with one fault per failing leg. (R125) -/
  | wireTestEnd (owner : TestRef)
  /-- LEAK_TEST: LGq.CMD LEAK_TEST starts the gate-leakage check of selected allocated legs. (R119) -/
  | leakTest (dt : Nat) (q : Quad) (legs : BitVec 8)
  /-- LEAK_CHECK_HOURLY: An hour after its last check a switch of a DISABLED axis held off for 1 ms starts a leakage check. (R119) -/
  | leakCheckHourly (l : LegId) (hi : Bool)
  /-- LEAK_CHECK_END: A leakage check ends, computes I_L into NOW, learns BASE and judges the result against LEAK_WARN and LEAK_LIMIT. (R120) -/
  | leakCheckEnd (dt : Nat) (l : LegId) (hi : Bool) (rise fall : Option Nat)
  /-- LG_SAVE: LGq.CMD SAVE stores LEG_CFG0–7 and LEAK_CFG in the Strongbox with INV.IMAGE_ID. (R130) -/
  | lgSave (dt : Nat) (q : Quad) (ok : Bool)
  /-- RELEARN: LGq.CMD RELEARN clears BASE_VALID of the selected legs. (R130) -/
  | relearn (dt : Nat) (q : Quad) (legs : BitVec 8)
  /-- READMIT: LGq.CMD READMIT returns RETIRED legs to IDLE or UNALLOCATED and clears BASE_VALID. (R121) -/
  | readmit (dt : Nat) (q : Quad) (legs : BitVec 8)
  /-- LG_ABORT: LGq.CMD ABORT ends a running leg test by R44. (R130) -/
  | lgAbort (dt : Nat) (q : Quad)
  /-- LEG_CFG_WRITE: A write to LGq.LEG_CFGm takes effect only with the leg unallocated or its axis DISABLED, otherwise is refused. (R129) -/
  | legCfgWrite (dt : Nat) (l : LegId) (msk : Bool) (data : Word)
  /-- CARRIER_RELOAD: At each period boundary the die copies the axis's shadow group into the active registers, counting both-on reloads and applying a new M. (R134) -/
  | carrierReload (n : AxisId)
  /-- GROUP_ARRIVAL: The closing edge record of a group arrives and writes the whole group into the shadow registers, counting it late if on or after the reload. (R134) -/
  | groupArrival (dt : Nat) (n : AxisId)
  /-- DELAY_CALIBRATION: Every 100 µs each region measures N on its reference line, builds its map and falls to or returns from coarse edges. (R138) -/
  | delayCalibration (q : Quad) (cells : Nat) (temp : Int)
  /-- COARSE_TIMEOUT: A region coarse for 10 minutes raises fault 0x342 and DELAYLINE_COARSE. (R140) -/
  | coarseTimeout (q : Quad)
  /-- HALL_EDGE: A filtered hall state change switches the mask entry, counts sectors, checks invalid states and refines the commutation offset. (R143) -/
  | hallEdge (dt : Nat) (ch : AxisId) (h : BitVec 3)
  /-- TRIP_LATCH: An active, unblanked trip input latches and its mapped legs take ACTION within 20 ns. (R147) -/
  | tripLatch (dt : Nat) (n : Fin 8) (level : Bool)
  /-- BLANK_END: A trip blanking window ends and a still active trip latches. (R148) -/
  | blankEnd (d : DieId) (n : Fin 8)
  /-- CLEAR_TRIP: PWq.CMD CLEAR_TRIP clears selected trip latches whose inputs are inactive. (R150) -/
  | clearTrip (dt : Nat) (q : Quad) (trips : BitVec 8)
  /-- PW_SAVE: PWq.CMD SAVE stores TRIP_CFG0–7 and HALT_CFG in the Strongbox. (R157) -/
  | pwSave (dt : Nat) (q : Quad) (ok : Bool)
  /-- OUTCFG_WRITE: A write to PWq.OUTCFGm takes effect only while the axis is DISABLED and copies its carrier and mask fields to every leg of the axis. (R156) -/
  | outcfgWrite (dt : Nat) (l : LegId) (msk : Bool) (data : Word)
  /-- PCLK_LOSS: A GD die seeing no PCLK edge for 20 ns switches to its backup oscillator and acts by halt class. (R152) -/
  | pclkLoss (dt : Nat) (d : DieId)
  /-- PCLK_RETURN: PCLK returns and the die resumes at the next link cycle, faulting every axis not DISABLED. (R152) -/
  | pclkReturn (dt : Nat) (d : DieId)
  /-- HOLD_LIMIT_EXPIRY: A HOLD pattern reaching HOLD_LIMIT turns off the axis's legs with fault 0x353. (R153) -/
  | holdLimitExpiry (n : AxisId)
  /-- ADC_TRIGGER: An axis's frame-sequence trigger fires at ADC_DELAY mod 6250, starting its conversions and latching the feedback inputs. (R162) -/
  | adcTrigger (n : AxisId)
  /-- CONVERSION_END: A conversion ends 200 PCLK after sampling and the core starts its next queued conversion. (R161) -/
  | conversionEnd (c : CoreId) (raw : BitVec 18)
  /-- HOUSEKEEPING_CONVERSION: A due housekeeping conversion starts in the first gap long enough before the next trigger. (R164) -/
  | housekeepingConversion (dt : Nat) (c : CoreId)
  /-- HK_PERIOD_END: A housekeeping conversion not made by the end of its period is dropped and counted in HK_MISS. (R164) -/
  | hkPeriodEnd (c : CoreId)
  /-- ADC_RESULT: A raw result arriving on LD is calibrated into y, checked for over-range and temperature loss, and replaces the previous value. (R166) -/
  | adcResult (dt : Nat) (d : DieId)
  /-- CAL_ZERO: ADd.CMD CAL_ZERO averages 1024 conversions into the OFFSET of the selected set. (R171) -/
  | calZero (dt : Nat) (d : DieId) (sel : BitVec 6)
  /-- CAL_FULL: ADd.CMD CAL_FULL averages 1024 conversions and computes or refuses the GAIN of the selected set. (R172) -/
  | calFull (dt : Nat) (d : DieId) (sel : BitVec 6)
  /-- CAL_CLEAR: ADd.CMD CAL_CLEAR clears both VALID bits of the selected set. (R173) -/
  | calClear (dt : Nat) (d : DieId) (sel : BitVec 6)
  /-- ADC_ABORT: ADd.CMD ABORT ends a running calibration by R44. (R173) -/
  | adcAbort (dt : Nat) (d : DieId)
  /-- CAL_COMPLETE: A calibration commits its set to the Strongbox or ends with ERR. (R173) -/
  | calComplete (dt : Nat) (d : DieId)
  /-- COMPARATOR_TICK: Each 1 µs comparator tick powers and decides every SAMPLED comparator and applies pending mode changes. (R177) -/
  | comparatorTick (levels : List Nat)
  /-- COMPARATOR_ACTIVE: A comparator qualifies active, sets its event bit, counts and takes its ACTION or drives its system function. (R178) -/
  | comparatorActive (dt : Nat) (j : Fin 64) (level : Nat)
  /-- COMPARATOR_RELEASE: A comparator qualifies inactive and releases its trip line or system function. (R178) -/
  | comparatorRelease (dt : Nat) (j : Fin 64) (level : Nat)
  /-- AUDIT: CMP.CMD AUDIT starts the six-step audit of one or all permitted comparators. (R179) -/
  | audit (dt : Nat) (all : Bool) (num : Fin 64)
  /-- AUTO_AUDIT: With AUTO set each eligible general comparator is audited once per PERIOD. (R180) -/
  | autoAudit (j : Fin 64)
  /-- AUDIT_END: An audit ends and marks or clears the comparator in FAILED with fault 0x431. (R181) -/
  | auditEnd (outs : BitVec 6)
  /-- CMP_SAVE: CMP.CMD SAVE stores CFG0–CFG55 and AUDIT_CFG in the Strongbox. (R185) -/
  | cmpSave (dt : Nat) (ok : Bool)
  /-- CMP_ABORT: CMP.CMD ABORT ends a running audit by R44. (R185) -/
  | cmpAbort (dt : Nat)
  /-- CMP_CFG_WRITE: A write to CMP.CFGj takes bits [17:0] always and bits [35:18] only while unowned or its axis DISABLED. (R185) -/
  | cmpCfgWrite (dt : Nat) (j : Fin 64) (msk : Bool) (data : Word)
  /-- ENGINE_FRAME: Every 12.5 µs engine frame boundary latches set-points, applies calibration maps, requests Larder fetches and adds compensation. (R19) -/
  | engineFrame
  /-- MOTION_FRAME: Every 100 µs the planner emits trajectory points, Hatch and STREAM targets are handed over and per-frame models and checks run. (R19) -/
  | motionFrame (env : MotionEnv)
  /-- SLOT_START: An axis program starts at its SLOT_START, runs its blocks and observer supervisor, and commits its duty group. (R213) -/
  | slotStart (n : AxisId) (bad : Option Nat) (corr : Nat)
  /-- SLOT_OVERRUN: A program not ended by SLOT_START + D + 1 PCLK is stopped with fault 0x511, or 0x512 on the third. (R215) -/
  | slotOverrun (n : AxisId) (done : Nat)
  /-- STORE_SCRUB: The background scrub reads every engine store word once per 100 ms and faults an owning axis on an uncorrectable word. (R217) -/
  | storeScrub (dt : Nat) (corr : Nat) (bad : Option AxisId)
  /-- SPEED_EST_STALE: 2L frames without a SPEED_EST write set SUPVn.STALE. (R218) -/
  | speedEstStale (n : AxisId)
  /-- WIN_DATA_ACCESS: An access to ENG.WIN_DATA reads, stages or writes the selected word and advances WIN_SEL.OFFSET. (R222) -/
  | winDataAccess (dt : Nat) (data : Option Word)
  /-- APPLY_COEF: ENG.CMD APPLY_COEF schedules the staged coefficient words for the next engine frame boundary. (R223) -/
  | applyCoef (dt : Nat)
  /-- COEF_BATCH_APPLY: At the next engine frame boundary the staged batch is written before any slot, or refused with 0x502. (R223) -/
  | coefBatchApply
  /-- DISCARD: ENG.CMD DISCARD empties the coefficient staging. (R223) -/
  | discard (dt : Nat)
  /-- ENG_ABORT: ENG.CMD ABORT ends APPLY_COEF by R44. (R223) -/
  | engAbort (dt : Nat)
  /-- ARM: AXn.CMD ARM takes a DISABLED axis into CHECKING. (R226) -/
  | arm (dt : Nat) (n : AxisId)
  /-- CF_READY_TIMEOUT: A floating supply not ready within 100 ms of CHECKING fails the arm with 0x222. (R126) -/
  | cfReadyTimeout (n : AxisId)
  /-- CHECKING_END: The checks of CHECKING end and the axis enters ARMED or FAULTED. (R226) -/
  | checkingEnd (dt : Nat) (n : AxisId)
  /-- DISARM: AXn.CMD DISARM ramps an ARMED axis down or stops a moving one, then disables it. (R228) -/
  | disarm (dt : Nat) (n : AxisId)
  /-- DISARM_RAMP_END: After 8 motion frames of ramp the disarmed axis enters DISABLED. (R228) -/
  | disarmRampEnd (n : AxisId)
  /-- STOP: AXn.CMD STOP makes a controlled stop of a RUNNING axis. (R229) -/
  | stop (dt : Nat) (n : AxisId)
  /-- QSTOP: AXn.CMD QSTOP makes a quick stop at PROF_QDEC. (R229) -/
  | qstop (dt : Nat) (n : AxisId)
  /-- MOVE_ABS: AXn.CMD MOVE_ABS plans a profile to TARGET_POS. (R248) -/
  | moveAbs (dt : Nat) (n : AxisId)
  /-- MOVE_REL: AXn.CMD MOVE_REL plans a profile to SET_POS + TARGET_POS. (R248) -/
  | moveRel (dt : Nat) (n : AxisId)
  /-- VELOCITY: AXn.CMD VELOCITY plans a profile to TARGET_VEL. (R248) -/
  | velocity (dt : Nat) (n : AxisId)
  /-- CLEAR: AXn.CMD CLEAR takes a FAULTED axis to DISABLED. (R228) -/
  | clear (dt : Nat) (n : AxisId)
  /-- UNLATCH: AXn.CMD UNLATCH takes a LATCHED axis to DISABLED unless VMIN is reversed or STOP_DISC holds. (R434) -/
  | unlatch (dt : Nat) (n : AxisId)
  /-- REACQUIRE: AXn.CMD REACQUIRE runs reduced checks and arms at zero current to let the observer lock a turning rotor. (R255) -/
  | reacquire (dt : Nat) (n : AxisId)
  /-- REACQUIRE_TIMEOUT: No observer lock within 100 ms of release raises 0x542 and faults the axis. (R255) -/
  | reacquireTimeout (n : AxisId)
  /-- LEARN: AXn.CMD LEARN starts the detent learning run. (R244) -/
  | learn (dt : Nat) (n : AxisId)
  /-- LEARN_END: The learning run computes and writes the 1024-point detent table or fails with 0x561. (R244) -/
  | learnEnd (dt : Nat) (n : AxisId)
  /-- ALIGN: AXn.CMD ALIGN starts the commutation alignment. (R243) -/
  | align (dt : Nat) (n : AxisId)
  /-- ALIGN_HOLD_END: After each 200 ms hold ALIGN reads the mapped feedback angle and moves on or ends, setting COMM_OFS or fault 0x562. (R243) -/
  | alignHoldEnd (n : AxisId)
  /-- AXIS_PRESET: AXn.CMD PRESET sets SET_POS to TARGET_POS. (R228) -/
  | axisPreset (dt : Nat) (n : AxisId)
  /-- AXIS_SAVE: AXn.CMD SAVE stores the axis settings in the Strongbox. (R259) -/
  | axisSave (dt : Nat) (n : AxisId) (ok : Bool)
  /-- AXIS_ABORT: AXn.CMD ABORT ends MOVE, LEARN, ALIGN or REACQUIRE by R44. (R228) -/
  | axisAbort (dt : Nat) (n : AxisId)
  /-- PROFILE_AT_REST: A stopping profile reaches velocity 0 and the axis enters ARMED or FAULTED. (R229) -/
  | profileAtRest (n : AxisId)
  /-- AT_TARGET: A MOVE reaches its target with v = 0 and a = 0 and sets AT_TARGET. (R248) -/
  | atTarget (n : AxisId)
  /-- STOP_TIMEOUT: A stop not at rest within STOP_TIMEOUT raises 0x554 and faults the axis with its Trapdoor policy. (R229) -/
  | stopTimeout (n : AxisId)
  /-- STANDBY_DELAY: An axis at rest for STANDBY_DELAY with AUTO_STANDBY set enters STANDBY-HOLD. (R232) -/
  | standbyDelay (n : AxisId)
  /-- HOLD_SETTLE: HOLD_SETTLE of uninterrupted OPEN hold makes the rotor state HELD. (R251) -/
  | holdSettle (n : AxisId)
  /-- TRANSFER_DONE: At step K the new drive holds fully, XFER_DONE is set and XFER_COUNT counts. (R239) -/
  | transferDone (n : AxisId)
  /-- QUADRATURE_EDGE: A filtered A or B edge counts ±1 or is illegal, and moves P, checks the index and crosses compare entries. (R266) -/
  | quadratureEdge (dt : Nat) (c : AxisId) (a b z : Bool) (held : Nat)
  /-- TOOTH_EDGE: A filtered tooth edge counts one tooth or an extra tooth and recognises a reference gap. (R269) -/
  | toothEdge (dt : Nat) (c : AxisId) (held : Nat)
  /-- LINE_BREAK: A feedback pair out of threshold for 1 µs stops counting and raises 0x601. (R262) -/
  | lineBreak (dt : Nat) (c : AxisId) (p : Fin 3)
  /-- LINE_BREAK_CLEAR: A pair valid for 1 ms clears its live break bit. (R262) -/
  | lineBreakClear (dt : Nat) (c : AxisId) (p : Fin 3)
  /-- SSI_READ: At each motion frame plus ADC_DELAY the module starts an SSI reading on the channel's port. (R275) -/
  | ssiRead (c : AxisId)
  /-- SSI_READ_END: An SSI reading completes and is decoded into the count or rejected. (R276) -/
  | ssiReadEnd (dt : Nat) (c : AxisId) (raw : Nat) (low : Bool)
  /-- SPEED_TIMEOUT: No edge for SPEED_TIMEOUT sets speed 0 and STANDSTILL. (R280) -/
  | speedTimeout (c : AxisId)
  /-- CLEAR_SUSPECT: FBn.CMD CLEAR_SUSPECT clears the mark, REFERENCED, speed history and COMM.VALID. (R278) -/
  | clearSuspect (dt : Nat) (c : AxisId)
  /-- FB_PRESET: FBn.CMD PRESET sets P to PRESET_VAL. (R264) -/
  | fbPreset (dt : Nat) (c : AxisId)
  /-- FB_SAVE: FBn.CMD SAVE stores CFG in the Strongbox. (R287) -/
  | fbSave (dt : Nat) (c : AxisId) (ok : Bool)
  /-- UNREF: FBn.CMD UNREF clears REFERENCED. (R265) -/
  | unref (dt : Nat) (c : AxisId)
  /-- CPO_ARM: CPO.CMD ARM loads entry 0 of the list and arms the output. (R282) -/
  | cpoArm (dt : Nat) (outs : BitVec 8)
  /-- CPO_STOP: CPO.CMD STOP clears ARMED of the selected outputs. (R288) -/
  | cpoStop (dt : Nat) (outs : BitVec 8)
  /-- FIRE: CPO.CMD FIRE makes one pulse now. (R288) -/
  | fire (dt : Nat) (outs : BitVec 8)
  /-- CPO_SAVE: CPO.CMD SAVE stores CFG, LIST and PTR of all outputs. (R288) -/
  | cpoSave (dt : Nat) (ok : Bool)
  /-- PULSE_END: A compare pulse ends after WIDTH PCLK. (R283) -/
  | pulseEnd (n : AxisId)
  /-- COMPARE_LINE_ARRIVAL: A fetched compare-list line arrives, arming entries or recording a miss with 0x661. (R284) -/
  | compareLineArrival (dt : Nat) (n : AxisId)
  /-- START: PLN.CMD START checks the program entry and its axes and sets them all RUNNING on one edge. (R289) -/
  | start (dt : Nat) (prog : Fin 64)
  /-- HOLD: PLN.CMD HOLD brings the path to rest along its course. (R308) -/
  | hold (dt : Nat)
  /-- RESUME: PLN.CMD RESUME ends a feedhold and resumes the path. (R308) -/
  | resume (dt : Nat)
  /-- PLN_SAVE: PLN.CMD SAVE stores the program table and planner settings in the Strongbox. (R322) -/
  | plnSave (dt : Nat) (ok : Bool)
  /-- PLN_ABORT: PLN.CMD ABORT ends the program by R44 and brings the path to rest. (R309) -/
  | plnAbort (dt : Nat)
  /-- BLOCK_READ: A motion block line arrives into look-ahead and is checked, planned or ends the program by R295. (R291) -/
  | blockRead (dt : Nat)
  /-- OVERRIDE: A write to PLN.OVR changes the feed override at the next motion frame boundary. (R307) -/
  | override (dt : Nat) (data : Word)
  /-- DWELL_END: A DWELL's FRAMES count ends and the program continues. (R305) -/
  | dwellEnd
  /-- WAIT_IO_TIMEOUT: A WAIT_IO reaching TIMEOUT jumps to TO_LINE or ends the program with 0x731. (R305) -/
  | waitIoTimeout
  /-- PROGRAM_END: At END the last program axis comes to rest, every axis enters ARMED and DONE is set. (R305) -/
  | programEnd (dt : Nat)
  /-- SYNC_ARRIVAL: The path at rest on a SYNC notes t_a, sends SYNC_ARM and enters WAITING. (R315) -/
  | syncArrival (dt : Nat)
  /-- SYNC_ARM_REPEAT: A module at a SYNC resends its SYNC_ARM every millisecond until T_go. (R369) -/
  | syncArmRepeat
  /-- SYNC_GO: At T_go the next block starts with trajectory time 0, or missing partners are reported absent. (R315) -/
  | syncGo
  /-- SYNC_TIMEOUT: A SYNC wait beyond TIMEOUT raises 0x742 and holds. (R318) -/
  | syncTimeout
  /-- GROUP_HOLD_INSTANT: At T_h of a group event each module begins its feedhold or resume. (R317) -/
  | groupHoldInstant
  /-- STREAM_TIMEOUT: A RUNNING STREAM axis without a set-point for TIMEOUT frames raises 0x751 and stops. (R319) -/
  | streamTimeout (n : AxisId)
  /-- LARDER_INIT: After power-up the DRAM is brought up, cleared and LDC.STATUS.READY set, or fault 0x841 raised. (R324) -/
  | larderInit (dt : Nat) (ok : Bool)
  /-- LINE_READ: A Larder line read is decoded, corrected, checked against ECHO and delivered or handled as uncorrectable. (R328) -/
  | lineRead (dt : Nat) (dist : List Disturb)
  /-- SCRUB_READ: The scrub reads the next line in ascending order at the rate set by PERIOD. (R334) -/
  | scrubRead (dist : List Disturb)
  /-- ECC_HOUR: An hour of corrected-read counting ends and the next begins. (R333) -/
  | eccHour
  /-- REFRESH: A DRAM refresh is issued at the interval in force, ahead of every user. (R335) -/
  | refresh
  /-- DRAM_TEMP: Every millisecond the DRAM temperatures are read and the refresh interval chosen. (R335) -/
  | dramTemp (t0 t1 t2 : BitVec 16)
  /-- HOIST_WINDOW_ACCESS: An access to the HST window reads or gathers the Larder word at the requester's pointer and advances it. (R338) -/
  | hoistWindowAccess (dt : Nat) (req : Req) (write : Option Word)
  /-- POINTER_WRITE: A write to PTR_HP or PTR_LAD commits the gathered line and moves the pointer. (R339) -/
  | pointerWrite (dt : Nat) (hp : Bool) (data : Word)
  /-- LINE_COMMIT: A pointer commits its gathered line, reading the line first when not whole. (R339) -/
  | lineCommit (dt : Nat) (hp : Bool) (dist : List Disturb)
  /-- GATHER_TIMEOUT: 10 µs after the last write a gathered line commits. (R339) -/
  | gatherTimeout (hp : Bool)
  /-- FLUSH: HST.CMD FLUSH commits the gathered lines of both pointers. (R341) -/
  | flush (dt : Nat)
  /-- FILL: HST.CMD FILL writes VALUE to LEN words from DST. (R341) -/
  | fill (dt : Nat)
  /-- COPY: HST.CMD COPY copies LEN words from SRC to DST. (R341) -/
  | copy (dt : Nat)
  /-- CRC: HST.CMD CRC computes CRC-32 over LEN words from SRC into VALUE. (R341) -/
  | crc (dt : Nat)
  /-- HST_ABORT: HST.CMD ABORT ends a running Hoist operation by R44. (R341) -/
  | hstAbort (dt words : Nat)
  /-- HOIST_OP_END: A Hoist operation commits its last word and ends with DONE or ERR. (R341) -/
  | hoistOpEnd (dt : Nat) (dist : List Disturb)
  /-- ETHERNET_FRAME: A received Ethernet frame passes or fails the IEEE 802.3 and IPv4 checks and is switched, taken in or dropped. (R345) -/
  | ethernetFrame (dt : Nat) (port : Fin 2) (leave : Nat) (f : Frame)
  /-- ARP: An ARP packet is answered, resolved or raises address conflict 0x931. (R346) -/
  | arp (dt : Nat)
  /-- ICMP_ECHO: An ICMP echo request is answered. (R346) -/
  | icmpEcho (dt : Nat)
  /-- ARP_AGE: An ARP cache entry ages out after 60 s. (R346) -/
  | arpAge
  /-- MAC_AGE: A learnt switch address ages out after 300 s. (R348) -/
  | macAge
  /-- LINK_UP: A Ladder port links and sends a gratuitous ARP, raising 0x902 at 100 Mbit/s. (R346) -/
  | linkUp (dt : Nat) (port : Fin 2) (gig : Bool)
  /-- LINK_LOST: A Ladder port that was up loses its link with fault 0x901. (R373) -/
  | linkLost (dt : Nat) (port : Fin 2)
  /-- PTP_SYNC: A Sync and its Follow_Up update the PTP map and the lock state. (R353) -/
  | ptpSync (dt : Nat)
  /-- PTP_MESSAGE: Another PTP message is handled by the ordinary or transparent clock. (R351) -/
  | ptpMessage (dt : Nat)
  /-- PTP_SYNC_TIMEOUT: No Sync for three intervals loses lock with fault 0x911. (R353) -/
  | ptpSyncTimeout
  /-- PTP_MASTER_SEND: A master sends Sync every 2^−3 s and Announce every second. (R351) -/
  | ptpMasterSend
  /-- LADDER_FRAME: A Ladder frame is checked for quarantine, rate, layout, session tag and replay before its type is handled. (R357) -/
  | ladderFrame (dt : Nat)
  /-- DISCOVER: A DISCOVER opens a pending session and is answered with Nr, identity and PROOF, or FULL. (R359) -/
  | discover (dt : Nat)
  /-- DISCOVER_RESPONSE: A DISCOVER response verifies PROOF, makes the session valid and sends a HEARTBEAT. (R359) -/
  | discoverResponse (dt : Nat)
  /-- STATUS: A STATUS request is answered with 14 words captured in one BCLK. (R359) -/
  | status (dt : Nat)
  /-- REG_READ: A REG_READ runs a register read transaction and returns its words. (R366) -/
  | regRead (dt : Nat)
  /-- REG_WRITE: A REG_WRITE runs a register write transaction. (R366) -/
  | regWrite (dt : Nat) (envs : List AccessEnv)
  /-- HOIST_READ: A HOIST_READ moves WORDS words out of the Larder through PTR_LAD. (R367) -/
  | hoistRead (dt : Nat)
  /-- HOIST_WRITE: A HOIST_WRITE moves WORDS words into the Larder through PTR_LAD. (R367) -/
  | hoistWrite (dt : Nat)
  /-- STREAM: A STREAM frame gives owned STREAM axes target set-points for an instant, or is rejected. (R368) -/
  | stream (dt : Nat)
  /-- SYNC_ARM: A SYNC_ARM from a partner records its arrival and HELD mask for the SYNC_ID. (R369) -/
  | syncArm (dt : Nat)
  /-- EVENT: A HEARTBEAT, HOLD, RESUME or RESUME_STOP event is acted on once per sender and EVENT_ID. (R370) -/
  | event (dt : Nat)
  /-- EVENT_REPEAT: A group event is resent to each module 100 µs apart, three times. (R370) -/
  | eventRepeat
  /-- STOCKTAKE_AT: A STOCKTAKE_AT converts its instant to T and schedules a capture or is refused. (R372) -/
  | stocktakeAt (dt : Nat)
  /-- SESSION_EXPIRY: A pending session expires after 1 s. (R359) -/
  | sessionExpiry
  /-- PARTNER_DISCOVER: Once per second DISCOVER is sent to each higher-addressed named partner without a valid session. (R361) -/
  | partnerDiscover
  /-- HEARTBEAT: Every PARTNER_TIMEOUT ÷ 4 a HEARTBEAT is sent to each named partner with a valid session. (R370) -/
  | heartbeat
  /-- PARTNER_ABSENT: A named partner silent for PARTNER_TIMEOUT is absent, raising 0x921 and holding the group. (R371) -/
  | partnerAbsent (slot : Fin 16)
  /-- QUARANTINE_EXPIRY: A quarantine lapses after QUAR_TIME. (R364) -/
  | quarantineExpiry
  /-- END_SESSION: LAD.CMD END_SESSION ends the session of a slot. (R361) -/
  | endSession (dt : Nat) (slot : Fin 16)
  /-- CLEAR_QUAR: LAD.CMD CLEAR_QUAR lifts every quarantine. (R364) -/
  | clearQuar (dt : Nat)
  /-- LAD_SAVE: LAD.CMD SAVE stores CFG and RATE in the Strongbox. (R374) -/
  | ladSave (dt : Nat) (ok : Bool)
  /-- PTP_SEC_READ: A read of LAD.PTP_SEC latches PTP_NS. (R374) -/
  | ptpSecRead (dt : Nat) (req : Req)
  /-- HP_READ: An accepted HP READ fetches and sends W words, the data CRC and the trailer. (R383) -/
  | hpRead (dt : Nat) (cmd : Word) (crc : BitVec 16) (edges : Nat) (clocks : Bool)
  /-- HP_WRITE: An accepted HP WRITE writes each word as it arrives, checks the data CRC and sends the trailer. (R382) -/
  | hpWrite (dt : Nat) (cmd : Word) (crc : BitVec 16) (data : List Word) (dataCrc : BitVec 16) (edges : Nat) (clocks : Bool) (envs : List AccessEnv)
  /-- HP_PING: An accepted HP PING returns only the trailer. (R379) -/
  | hpPing (dt : Nat) (cmd : Word) (crc : BitVec 16) (edges : Nat)
  /-- HP_WORD_READY: A stalled HP word becomes present or written and HP_READY rises again. (R383) -/
  | hpWordReady (dt : Nat) (envs : List AccessEnv)
  /-- SELECT_RELEASE: HP_SEL_N rising before the trailer ends discards the partial word and raises 0xA04. (R386) -/
  | selectRelease (dt : Nat)
  /-- OVERCLOCK: HP edges after the trailer are ignored and raise 0xA05. (R387) -/
  | overclock (dt : Nat)
  /-- PORT_START: Pn_XFER START runs a peripheral transfer of command and data units. (R392) -/
  | portStart (dt : Nat) (p : PortId) (sel : Fin 4) (dir : Bool) (cmds : Fin 16) (units : Fin 256)
  /-- PORT_DEFERRED_START: A transfer waiting behind an SSI reading starts once that reading ends. (R396) -/
  | portDeferredStart (dt : Nat) (p : PortId)
  /-- PORT_XFER_END: A peripheral transfer releases its select and ends. (R392) -/
  | portXferEnd (dt : Nat) (p : PortId) (rx : List Word)
  /-- PORT_RDY_TIMEOUT: Pn_RDY low for 1 ms ends the transfer with ERR and 0xA11. (R392) -/
  | portRdyTimeout (dt : Nat) (p : PortId) (rx : List Word)
  /-- BUSY_RETRY: After a busy-pattern match and its retry delay the transfer is repeated or ends with 0xA12. (R393) -/
  | busyRetry (p : PortId)
  /-- PORT_FLUSH: Pn_XFER FLUSH empties both FIFOs. (R394) -/
  | portFlush (dt : Nat) (p : PortId)
  /-- PORT_SAVE: Pn_XFER SAVE stores the port settings of all ports in the Strongbox. (R400) -/
  | portSave (dt : Nat) (p : PortId) (ok : Bool)
  /-- PORT_ABORT: Pn_XFER ABORT stops the clock, releases the select and empties the transmit FIFO. (R394) -/
  | portAbort (dt : Nat) (p : PortId) (rx : List Word)
  /-- PORT_DATA_ACCESS: A write to Pn_DATA pushes the transmit FIFO and a read pops the receive FIFO. (R391) -/
  | portDataAccess (dt : Nat) (p : PortId) (data : Option Word)
  /-- STEP_EDGE: A filtered STEP or DIR edge counts by MODE and moves HTn_COUNT and HTn_TARGET. (R404) -/
  | stepEdge (dt : Nat) (c : AxisId) (step dir : Bool) (held : Nat)
  /-- ENA_EDGE: A debounced ENA edge issues ARM, CLEAR and ARM, or DISARM to its axis. (R409) -/
  | enaEdge (dt : Nat) (c : AxisId) (high : Bool)
  /-- HATCH_PAIR_OPEN: A STEP or DIR pair out of threshold for 1 ms stops counting and raises 0xA21. (R411) -/
  | hatchPairOpen (dt : Nat) (c : AxisId)
  /-- HATCH_PAIR_VALID: A pair valid for 1 ms clears its live bit and counting resumes. (R411) -/
  | hatchPairValid (dt : Nat) (c : AxisId) (step dir : Bool)
  /-- CMDA_CAL_ZERO: HAT.CMD CAL_ZERO averages 1024 conversions of a ±10 V input into OFFSET. (R414) -/
  | cmdaCalZero (dt : Nat) (inp : Fin 4)
  /-- CMDA_CAL_END: The speed-command zero calibration writes OFFSET and ends. (R414) -/
  | cmdaCalEnd (dt : Nat) (sum : Int)
  /-- HAT_SAVE: HAT.CMD SAVE stores HTn_CFG and CMDAn_CFG in the Strongbox. (R416) -/
  | hatSave (dt : Nat) (ok : Bool)
  /-- HAT_ABORT: HAT.CMD ABORT ends CAL_ZERO by R44. (R414) -/
  | hatAbort (dt : Nat)
  /-- PRECHARGE_START: VMIN above 10 V for 10 ms starts the inlet ramp. (R419) -/
  | prechargeStart (dt : Nat)
  /-- PRECHARGE_DONE: VML reaching VMIN − 5 V makes INLET_STATE ON. (R419) -/
  | prechargeDone (dt : Nat)
  /-- PRECHARGE_TIMEOUT: Precharge not complete in 200 ms turns INLET off with 0x104. (R419) -/
  | prechargeTimeout
  /-- VM_REVERSED: VMIN below −2.0 V blocks the inlet within 1 µs and raises 0x103. (R420) -/
  | vmReversed (dt : Nat)
  /-- INLET_UNBLOCK: VMIN above 10 V for 1 s ends BLOCKED and starts a new precharge. (R420) -/
  | inletUnblock (dt : Nat)
  /-- BRAKE_INEFFECTIVE: BRK high for 100 ms with CMP58 still active raises 0x112. (R424) -/
  | brakeIneffective
  /-- BRAKE_HEAT_SAVE: Once per second the brake heat H is written to the Strongbox. (R423) -/
  | brakeHeatSave (ok : Bool)
  /-- STOP_INPUT: A filtered stop input going low raises 0x121 and acts by STOP_CFG.MODE. (R426) -/
  | stopInput (dt : Nat) (b : Bool)
  /-- STOP_DELAY_END: STOP_DELAY after a stop edge every remaining axis enters FAULTED with its Trapdoor policy. (R426) -/
  | stopDelayEnd
  /-- STOPB_BACKSTOP: STOPB low for 2 ms + STOP_DELAY + 10 ms makes each GD die turn every leg off. (R427) -/
  | stopbBackstop (d : DieId)
  /-- STOP_DISCREPANCY: STOPA and STOPB differing longer than STOP_DISC raise 0x122. (R428) -/
  | stopDiscrepancy
  /-- TRAPDOOR_SHORT_TIMEOUT: t_K without a current sign change turns a SHORT axis to OPEN. (R431) -/
  | trapdoorShortTimeout (n : AxisId)
  /-- GATE_LINK_LOSS: A GD die without a valid link cycle for 10 µs acts by halt class and LD raises 0xC31. (R439) -/
  | gateLinkLoss (d : DieId)
  /-- GATE_LINK_RETURN: A returned gate link faults every axis of the die that is not DISABLED. (R439) -/
  | gateLinkReturn (dt : Nat) (d : DieId)
  /-- REPLACE_REASON_CLEAR: A REPLACE reason's clearing condition is met, clearing its bit and possibly REPLACE_N. (R442) -/
  | replaceReasonClear (dt : Nat) (reason : Fin 7)
  /-- POP: FLT.CMD POP removes the oldest fault record. (R436) -/
  | pop (dt : Nat)
  /-- FAULT_FLUSH: FLT.CMD FLUSH empties the fault queue. (R436) -/
  | faultFlush (dt : Nat)
  /-- FLT_SAVE: FLT.CMD SAVE stores STOP_CFG and LATCH_CFG in the Strongbox. (R445) -/
  | fltSave (dt : Nat) (ok : Bool)
  /-- KEY_DATA_WRITE: A write to BOX.KEY_DATA takes the next four key bytes. (R443) -/
  | keyDataWrite (dt : Nat) (data : Word)
  /-- KEY_PROGRAM: BOX.CMD KEY_PROGRAM programs the site key after its checks. (R443) -/
  | keyProgram (dt : Nat)
  /-- KEY_PROGRAM_END: KEY_PROGRAM compares the read-back, writes the confirmation mark and sets KEY_SET, or raises 0xC13. (R444) -/
  | keyProgramEnd (dt : Nat) (flips : BitVec 256)
  /-- RING_DATA_ACCESS: An access to BOX.RING_DATA returns the selected ring word and advances WORD and AGE. (R446) -/
  | ringDataAccess (dt : Nat)
  /-- LIFETIME_UPDATE: At least once per hour the lifetime counters are written to the Strongbox. (R447) -/
  | lifetimeUpdate (dt : Nat) (ok : Bool)
  /-- POWER_UP: VAUX rising above 15.0 V releases the power-on reset and enters START. (R452) -/
  | powerUp (dt : Nat)
  /-- PLL_LOCK: The PLL locks and the derived clocks start. (R452) -/
  | pllLock (dt : Nat)
  /-- STRONGBOX_READ: The Strongbox is read at start-up, restoring stored state and judging the key region, then every comparator is audited and LOADING begins. (R452) -/
  | strongboxRead (dt : Nat)
  /-- POWER_OFF: VAUX below 12.0 V enters OFF with every gate held off by its passive pull. (R450) -/
  | powerOff (dt : Nat) (flips : BitVec 256)
  /-- BROWNOUT: VAUX below 14.0 V for 10 µs engages every Trapdoor, stops large users and completes Strongbox writes. (R456) -/
  | brownout (dt : Nat)
  /-- BROWNOUT_RECOVERY: VAUX back above 15.0 V without falling below 12.0 V enters RESET. (R456) -/
  | brownoutRecovery (dt : Nat)
  /-- RST_N: RST_N low for 1 µs starts a reset as SYS.RESET does. (R454) -/
  | rstN (dt : Nat)
  /-- RESET_END: A reset ends and the module enters LOADING. (R450) -/
  | resetEnd (dt : Nat)
  /-- RESET_SHORT_TIMEOUT: A held SHORT not resumed by LD within 2 s of the reset turns OPEN. (R455) -/
  | resetShortTimeout
  /-- PLL_LOSS: The PLL loses lock, stopping its outputs and raising 0xC21. (R459) -/
  | pllLoss (dt : Nat) (ref : Bool)
  /-- PLL_RELOCK: Lock returning within 8 ms resumes the clocks at a frame boundary with a catch-up refresh. (R459) -/
  | pllRelock (dt : Nat)
  /-- PLL_LOSS_TIMEOUT: Lock not back within 8 ms sends the module to RESET. (R459) -/
  | pllLossTimeout
  /-- EXTEST: JTAG EXTEST lets boundary cells drive pins with every gate off. (R463) -/
  | extest (dt : Nat)
  /-- IDCODE: JTAG IDCODE returns the identification code. (R463) -/
  | idcode (dt : Nat)
  /-- SAMPLE_PRELOAD: JTAG SAMPLE/PRELOAD acts as IEEE 1149.1. (R463) -/
  | samplePreload (dt : Nat)
  /-- HIGHZ: JTAG HIGHZ opens every driven pin. (R463) -/
  | highz (dt : Nat)
  /-- CLAMP: JTAG CLAMP holds pins by the boundary cells. (R463) -/
  | clamp (dt : Nat)
  /-- DEBUG_HALT: JTAG DEBUG_HALT stops the engine and planner and asserts the halt line, legs acting by halt class. (R151) -/
  | debugHalt (dt : Nat) (broken : Option (AxisId × Nat))
  /-- DEBUG_RUN: JTAG DEBUG_RUN ends the halt, completing the interrupted program and faulting DROP axes. (R216) -/
  | debugRun (dt : Nat)
  /-- BYPASS: JTAG BYPASS or any unlisted instruction acts as IEEE 1149.1 bypass. (R463) -/
  | bypass (dt : Nat)
  /-- TEST_LOGIC_RESET: The Test-Logic-Reset state ends a debug halt, and leaving EXTEST, HIGHZ or CLAMP starts a reset. (R463) -/
  | testLogicReset (dt : Nat)
  /-- STOP_INPUT_HIGH: A filtered stop input going high releases the GD die backstop on STOPB and lets the stop discrepancy bit clear once both inputs have been high together. (R427) -/
  | stopInputHigh (dt : Nat) (b : Bool)
  /-- VMIN_BELOW_5V: VMIN falling below 5 V after a precharge timeout permits the next precharge attempt. (R419) -/
  | vminBelow5v (dt : Nat)
  /-- CMDA_EDGE: A rising edge on a duty-cycle or frequency CMDA input ends a timed period, from which the duty or frequency and the loss check are taken. (R412) -/
  | cmdaEdge (dt : Nat) (inp : Fin 4) (high : Nat)
  deriving DecidableEq, Repr

end Sys2Proof
end

