-- ==== Sys2Proof/Config.lean ====
section
/-! DEFINITION. What the silicon or the factory fixes and the manual leaves open: free values, each a constant
without a body, so that nothing can be proved of its value. -/

namespace Sys2Proof.Config

/-- R45, Table 2.11: the factory serial number. -/
opaque serial : BitVec 72

/-- R194: the error of the internal sine at an angle, in LSB of Q1.17; the model limits it to two either way. -/
opaque sineError : Nat → Int

/-- R198: the error of the engine's magnitude and square root, in LSB, by operand; limited to two either way. -/
opaque rootError : Nat → Int

/-- R208: the error of the internal CORDIC in angle units, by operands; limited to four either way. -/
opaque cordicError : Int → Int → Int

/-- R359: the random nonces, by the number of the draw. -/
opaque nonce : Nat → BitVec 128

/-- R369, R370: MODULE_NO of a named partner whose DISCOVER the module answered, by address and port: no message
carries it (log entry 90). -/
opaque partnerModule : BitVec 32 → BitVec 16 → BitVec 2

/-- Table 2.19: the module's estimate of its input power, mW, by the number of the estimate. -/
opaque powerEstimate : Nat → BitVec 16

/-- R208: words 6 to 11 of an OBS block, internal to it, by the number of the step and the word. -/
opaque obsInternal : Nat → Nat → BitVec 36

/-- R200: MAG of a modulator while VM is not above 0, by v and VM. -/
opaque noSupplyMag : BitVec 36 → Int → BitVec 17

/-- Table 3.24: words that a running Inventory operation has processed, by the instant; the model limits it to the image. -/
opaque progress : Nat → Nat

end Sys2Proof.Config
end

