-- ==== Sys2Proof/Machine/Cells.lean ====
section
/-! DEFINITION. Sparse storage in one canonical form: a list of key and value with rising keys in which no entry
equals what an unlisted key reads as. It holds the registers, the Larder's bytes and the flash slots. -/

namespace Sys2Proof.Machine

/-- Stored cells by rising key. -/
abbrev Cells (α : Type) := List (Nat × α)

/-- What key `k` reads as, when an unlisted key reads as `d k`. -/
def Cells.read {α : Type} (d : Nat → α) : Cells α → Nat → α
  | [], k => d k
  | (j, v) :: t, k => if k = j then v else Cells.read d t k

/-- Every entry of key `k` taken out. -/
def Cells.erase {α : Type} : Cells α → Nat → Cells α
  | [], _ => []
  | (j, v) :: t, k => if k = j then Cells.erase t k else (j, v) :: Cells.erase t k

/-- An entry put in its place by key. -/
def Cells.insert {α : Type} (k : Nat) (v : α) : Cells α → Cells α
  | [] => [(k, v)]
  | (j, w) :: t => if k < j then (k, v) :: (j, w) :: t else (j, w) :: Cells.insert k v t

/-- Key `k` takes `v`; writing what an unlisted key reads as removes the entry. -/
def Cells.write {α : Type} [DecidableEq α] (d : Nat → α) (m : Cells α) (k : Nat) (v : α) : Cells α :=
  if v = d k then Cells.erase m k else Cells.insert k v (Cells.erase m k)

/-- The keys from `lo` (inclusive) to `hi` (exclusive) read as unlisted again. -/
def Cells.clear {α : Type} (m : Cells α) (lo hi : Nat) : Cells α :=
  m.filter (fun e => decide (e.1 < lo) || decide (hi ≤ e.1))

/-- The canonical form. -/
def Cells.wf {α : Type} [DecidableEq α] (d : Nat → α) : Cells α → Bool
  | [] => true
  | [(k, v)] => decide (v ≠ d k)
  | (k, v) :: (j, w) :: t => decide (v ≠ d k) && decide (k < j) && Cells.wf d ((j, w) :: t)

end Sys2Proof.Machine
end

