-- ==== Sys2Proof/Machine/Operands.lean ====
section
/-! DEFINITION. Number formats of the module: the engine's Q1.17 values, accumulators, G words and operand addresses
(R186 to R190), integer roots, and the reference sine, cosine and arctangent within the errors the manual allows. -/

namespace Sys2Proof.Machine

open Sys2Proof

/-! ### Q1.17 and accumulators (R186, R187) -/

/-- Saturation to Q1.17 codes. -/
def satQ (x : Int) : Int := clampInt (-131072) 131071 x

/-- R187: saturation of the 48-bit accumulator (34 fraction bits). -/
def satAcc (x : Int) : Int := clampInt (-(2 ^ 47)) (2 ^ 47 - 1) x

/-- R187: an accumulator to a half: 17 fraction bits, halves toward plus infinity, saturated. -/
def accToQ (x : Int) : Int := satQ (roundDiv x 131072)

/-- A code as an accumulator. -/
def qToAcc (q : Int) : Int := q * 131072

/-- A shift by a signed exponent; to the right it drops fraction bits (R188). -/
def shiftBy (x : Int) (e : Int) : Int := if 0 ≤ e then x * 2 ^ e.toNat else x / 2 ^ (-e).toNat

/-- The halves of a word, as codes. -/
def hiQ (w : Word) : Int := signed 18 (w.toNat / 2 ^ 18)
def loQ (w : Word) : Int := signed 18 (w.toNat % 2 ^ 18)

/-- The halves of a word, unsigned. -/
def hiU (w : Word) : Nat := w.toNat / 2 ^ 18
def loU (w : Word) : Nat := w.toNat % 2 ^ 18

/-- A word from two halves. -/
def mkWord (hi lo : Nat) : Word := BitVec.ofNat 36 (hi % 2 ^ 18 * 2 ^ 18 + lo % 2 ^ 18)

/-- A vector word from two codes. -/
def mkVec (a b : Int) : Word := mkWord (unsigned 18 a) (unsigned 18 b)

/-- R188: mantissa and exponent of a G word. -/
def gMant (w : Word) : Int := hiQ w
def gExp (w : Word) : Int := signed 5 (w.toNat % 32)

/-- R187, R188, R214: G word times a code, its exponent moved by `adj`, in the accumulator. -/
def gMul (w : Word) (adj x : Int) : Int := satAcc (shiftBy (gMant w * x) (gExp w + adj))

/-- R193: the 48-bit value held in two words. -/
def accOf (w0 w1 : Word) : Int := signed 48 (w0.toNat + w1.toNat % 2 ^ 12 * 2 ^ 36)
def accLo (x : Int) : Word := BitVec.ofNat 36 (unsigned 48 x)
def accHi (x : Int) : Word := BitVec.ofNat 36 (unsigned 48 x / 2 ^ 36)

/-- Two's complement position difference modulo 2^36 (R187). -/
def posDiff (a b : Word) : Int := (a - b).toInt

/-- A position word of an integer, modulo 2^36. -/
def posWord (x : Int) : Word := BitVec.ofInt 36 x

/-- A signed angle difference modulo 2^18. -/
def angDiff (a b : Nat) : Int := signed 18 (a + 2 ^ 18 - b % 2 ^ 18)

/-- An integer as an angle. -/
def toAngle (x : Int) : Nat := unsigned 18 x

/-! ### Roots and trigonometry -/

/-- Integer square root by bits, from bit `b` down. -/
def isqrtFrom : Nat → Nat → Nat → Nat
  | 0, _, r => r
  | b + 1, n, r =>
    let c := r + 2 ^ b
    isqrtFrom b n (if c * c ≤ n then c else r)

/-- The largest integer whose square does not exceed `n`, for n below 2^160. -/
def isqrt (n : Nat) : Nat := isqrtFrom 80 n 0

/-- Fixed-point ones of the reference functions: 2^48. -/
abbrev refOne : Int := 2 ^ 48

/-- Pi in units of 2^-48. -/
abbrev refPi : Int := 884279719003555

/-- Terms of the sine or cosine series: `t` the last term, `x2` the square of the angle, `k` its order. -/
def sinSeries : Nat → Int → Int → Int → Int → Int
  | 0, acc, _, _, _ => acc
  | n + 1, acc, t, x2, k =>
    let t' := -(t * x2 / refOne) / ((k + 1) * (k + 2))
    sinSeries n (acc + t') t' x2 (k + 2)

/-- Reference sine and cosine of an angle up to an eighth of a turn, units 2^-48; `u` in angle units. -/
def sinOct (u : Nat) : Int := let x := refPi * u / 131072; sinSeries 9 x x (x * x / refOne) 1
def cosOct (u : Nat) : Int := let x := refPi * u / 131072; sinSeries 9 refOne refOne (x * x / refOne) 0

/-- Reference sine of an angle in units of 2^-18 turn, units 2^-48. -/
def sinRef (a : Nat) : Int :=
  let a := a % 262144
  let q := a / 65536
  let r := a % 65536
  let s := if r < 32768 then sinOct r else cosOct (65536 - r)
  let c := if r ≤ 32768 then cosOct r else sinOct (65536 - r)
  match q with
  | 0 => s
  | 1 => c
  | 2 => -s
  | _ => -c

def cosRef (a : Nat) : Int := sinRef (a + 65536)

/-- A whole number within `tol` of a true value that lies at `base` (`exact`), or above it and below `base + 1`: `err` beside
`base`, held to those bounds. -/
def nearBase (tol : Int) (exact : Bool) (base err : Int) : Int := base + clampInt (if exact then -tol else 1 - tol) tol err

/-- R194: the engine's sine, a Q1.17 code within two LSB of the true value, which is a whole code at quarter turns only. -/
def sinQ (a : Nat) : Int :=
  satQ (nearBase 2 (decide (a % 65536 = 0)) (sinRef a / 2 ^ 31) (Config.sineError (a % 262144)))

/-- R194: the engine's cosine. -/
def cosQ (a : Nat) : Int := sinQ (a + 65536)

/-- Reference angle of a vector by bisection, 18 bits, for a vector in the first half turn: the largest angle whose
sine side the vector has not passed. -/
def atanBits : Nat → Int → Int → Nat → Nat
  | 0, _, _, r => r
  | b + 1, x, y, r =>
    let c := r + 2 ^ b
    atanBits b x y (if 0 ≤ y * cosRef c - x * sinRef c then c else r)

/-- R208: the angle of a vector, units of 2^-18 turn, within four units of the true value, which is a whole number of units
on the axes and the diagonals only. The zero vector has no angle: any value (log entry 706). -/
def atanQ (x y : Int) : Nat :=
  if x = 0 ∧ y = 0 then toAngle (Config.cordicError 0 0)
  else
    let base : Nat := if 0 < y ∨ (y = 0 ∧ 0 ≤ x) then atanBits 17 x y 0 else 131072 + atanBits 17 (-x) (-y) 0
    toAngle (nearBase 4 (decide (x = 0 ∨ y = 0 ∨ x.natAbs = y.natAbs)) base (Config.cordicError x y))

/-- R198: the root of a number, in codes, within two LSB. -/
def rootQ (n : Nat) : Int := max 0 (nearBase 2 (decide (isqrt n * isqrt n = n)) (isqrt n : Nat) (Config.rootError n))

/-- R198: the magnitude of a vector of codes. -/
def magQ (x y : Int) : Int := rootQ (x * x + y * y).toNat

/-- R198: sqrt(m² - x²) of codes. -/
def cathetusQ (m x : Int) : Int := rootQ (m * m - x * x).toNat

/-! ### Operand addresses (R190) -/

/-- R190: spaces of an operand address. -/
inductive Space | state | shared | zero | absent
  deriving DecidableEq, Repr

/-- R190: an operand address. -/
structure Operand where
  space : Space
  high : Bool
  index : Nat
  /-- Bit 14, which is reserved. -/
  rsvd : Bool
  deriving DecidableEq, Repr

/-- Table 7.3: the operand address that 18 bits spell. -/
def operandOf (n : Nat) : Operand :=
  { space := match bitsOf n 17 16 with | 0 => .state | 1 => .shared | 2 => .zero | _ => .absent,
    high := bitsOf n 15 15 = 1, index := bitsOf n 13 0, rsvd := bitsOf n 14 14 = 1 }

end Sys2Proof.Machine
end

