-- ==== Sys2Proof/Machine/EngineIsa.lean ====
section
/-! DEFINITION. Programs of the loop engine (chapter 7): instruction words, the blocks of Table 7.6, which words a
program reads, and the checks of R219. -/

namespace Sys2Proof.Machine

open Sys2Proof

/-! ### Opcodes (Table 7.6) -/

abbrev opClarke : Nat := 0x01
abbrev opPark : Nat := 0x02
abbrev opIpark : Nat := 0x03
abbrev opPi : Nat := 0x04
abbrev opPid : Nat := 0x05
abbrev opLeadlag : Nat := 0x06
abbrev opBiquad : Nat := 0x07
abbrev opLutg : Nat := 0x08
abbrev opLimit : Nat := 0x09
abbrev opMinsel : Nat := 0x0A
abbrev opObs : Nat := 0x0B
abbrev opSine : Nat := 0x0C
abbrev opSvm : Nat := 0x0D
abbrev opPenta : Nat := 0x0E
abbrev opFweak : Nat := 0x0F
abbrev opPoserr : Nat := 0x20
abbrev opSum : Nat := 0x21
abbrev opCopy : Nat := 0x22
abbrev opHmod : Nat := 0x23
abbrev opOut : Nat := 0x24
abbrev opCommit : Nat := 0x25
abbrev opEnd : Nat := 0x3F

/-- Table 7.6: an operand position takes a half or a whole word, and may take NONE where it is marked optional. -/
inductive OperandKind | half | halfOpt | whole
  deriving DecidableEq, Repr

def OperandKind.optional : OperandKind → Bool
  | .halfOpt => true
  | _ => false

/-- One row of Table 7.6 at one VAR: operands, coefficient words, state words, cost in MAC. The cost of COMMIT lacks
its 8 per leg. -/
structure BlockRow where
  ops : List OperandKind
  coefs : Nat
  states : Nat
  cost : Nat
  deriving DecidableEq, Repr

/-- Table 7.6. -/
def blockRow (op var : Nat) : Option BlockRow :=
  let v0 (r : BlockRow) : Option BlockRow := if var = 0 then some r else none
  if op = opClarke then
    match var with
    | 0 => some ⟨[.half, .half], 1, 1, 16⟩
    | 1 => some ⟨[.half, .half, .halfOpt], 1, 1, 24⟩
    | 2 => some ⟨List.replicate 5 .half, 1, 1, 48⟩
    | _ => none
  else if op = opPark ∨ op = opIpark then v0 ⟨[.whole, .half], 0, 1, 32⟩
  else if op = opPi then v0 ⟨[.half, .half, .halfOpt], 3, 3, 32⟩
  else if op = opPid then v0 ⟨[.half, .half, .halfOpt], 5, 4, 48⟩
  else if op = opLeadlag then v0 ⟨[.half], 3, 2, 24⟩
  else if op = opBiquad then v0 ⟨[.half], 5, 5, 40⟩
  else if op = opLutg then v0 ⟨[.half], 1, 1, 40⟩
  else if op = opLimit then
    match var with
    | 0 => some ⟨[.half, .halfOpt], 1, 2, 16⟩
    | 1 => some ⟨[.half, .half, .halfOpt], 1, 2, 32⟩
    | 2 => some ⟨[.half, .half, .halfOpt], 1, 2, 32⟩
    | _ => none
  else if op = opMinsel then
    if var < 4 then some ⟨List.replicate (var + 1) .half, 0, 1, 16 + 8 * (var + 1)⟩ else none
  else if op = opObs then v0 ⟨[.whole, .whole, .halfOpt], 8, 12, 600⟩
  else if op = opSine then v0 ⟨[.half, .half], 1, 1, 64⟩
  else if op = opSvm then v0 ⟨[.whole], 0, 3, 64⟩
  else if op = opPenta then v0 ⟨[.whole], 0, 4, 112⟩
  else if op = opFweak then v0 ⟨[.half], 2, 3, 48⟩
  else if op = opPoserr then v0 ⟨[.whole, .whole], 1, 1, 16⟩
  else if op = opSum then
    if var < 4 then some ⟨List.replicate (var + 1) .half, var + 1, 1, 8 + 8 * (var + 1)⟩ else none
  else if op = opCopy then v0 ⟨[.whole], 0, 1, 8⟩
  else if op = opHmod then v0 ⟨[.whole], 0, 3, 32⟩
  else if op = opOut then
    match var with
    | 0 => some ⟨[.half], 0, 0, 8⟩
    | 1 => some ⟨[.whole], 0, 0, 8⟩
    | 2 => some ⟨[.whole], 0, 0, 8⟩
    | 3 => some ⟨[.whole], 0, 0, 8⟩
    | _ => none
  else if op = opCommit then v0 ⟨[.whole, .halfOpt], 0, 0, 8⟩
  else if op = opEnd then v0 ⟨[], 0, 0, 8⟩
  else none

/-- R189: an instruction of a program: its offset, its header fields and its operand addresses. -/
structure Ins where
  at_ : Nat
  op : Nat
  var : Nat
  cbase : Nat
  sbase : Nat
  ops : List Nat
  row : BlockRow
  deriving DecidableEq, Repr

/-- The operand addresses in `n` operand words: high half first. -/
def operandHalves (ws : List Word) : List Nat := ws.flatMap (fun w => [hiU w, loU w])

/-- NONE with INDEX 0, as R189 pads an odd operand count. -/
abbrev operandNone : Nat := 0x30000

/-- R189: the instructions of a program from offset `at_`, and the offset of the first word that breaks rule 1 of R219
or the padding of R189. -/
def decodeProg : Nat → Nat → List Word → List Ins × Option Nat
  | 0, _, _ => ([], none)
  | _ + 1, _, [] => ([], none)
  | fuel + 1, at_, h :: t =>
    let n := h.toNat
    match blockRow (bitsOf n 35 30) (bitsOf n 29 28) with
    | none => ([], some at_)
    | some r =>
      let nw := (r.ops.length + 1) / 2
      if t.length < nw then ([], some at_)
      else
        let halves := operandHalves (t.take nw)
        if (halves.drop r.ops.length).any (fun a => a ≠ operandNone) then ([], some (at_ + nw))
        else
          let (l, e) := decodeProg fuel (at_ + 1 + nw) (t.drop nw)
          (⟨at_, bitsOf n 35 30, bitsOf n 29 28, bitsOf n 27 14, bitsOf n 13 0, halves.take r.ops.length, r⟩ :: l, e)

/-- The instructions of a program. -/
def progOf (ws : List Word) : List Ins := (decodeProg ws.length 0 ws).1

/-- R193: the cost of an instruction on an axis of `legs` legs. -/
def Ins.cost (i : Ins) (legs : Nat) : Nat := i.row.cost + if i.op = opCommit then 8 * legs else 0

/-- R193: MAC of a program. -/
def progMac (l : List Ins) (legs : Nat) : Nat := (l.map (fun i => i.cost legs)).foldl (· + ·) 0

/-- R71: D of a program of `mac`, PCLK. -/
def progDuration (mac : Nat) : Nat := ceilDiv (ceilDiv mac 4 * 5) 6

/-- R191, R162: the (core, input) pairs that a program reads, in the order of first reading. -/
def progReads (l : List Ins) : List (Nat × Nat) :=
  ((l.flatMap (·.ops)).filterMap (fun a =>
    let o := operandOf a
    if o.space = .shared ∧ o.index < 0x40 then some (o.index / 8, o.index % 8) else none)).eraseDups

/-- R207: the block keeps an integrator. -/
def Ins.integrates (i : Ins) : Bool := decide (i.op = opPi) || decide (i.op = opPid) || decide (i.op = opFweak)

/-- R207: the inputs through which an instruction can govern. -/
def Ins.governs (i : Ins) : List Nat :=
  if i.op = opLimit then i.ops.take (if i.var = 0 then 1 else 2)
  else if i.op = opMinsel then i.ops
  else []

/-- R190: the operand address of the high half of a state word. -/
def stateHigh (sbase : Nat) : Nat := 0x8000 + sbase

/-- R207: the governors of the block with state base `sbase` among the instructions after it. -/
def governorsOf (later : List Ins) (sbase : Nat) : List Ins :=
  later.filter (fun g => g.governs.any (fun a => decide (a = stateHigh sbase)))

/-- Axis input j of AXn among the shared inputs (Table 7.4). -/
abbrev axisInput (n j : Nat) : Nat := 0x80 + 16 * n + j

/-- Table 7.8: the program writes the axis output `var`. -/
def progWrites (l : List Ins) (var : Nat) : Bool := l.any (fun i => decide (i.op = opOut) && decide (i.var = var))

/-- R246: the program contains OBS. -/
def progHasObs (l : List Ins) : Bool := l.any (fun i => decide (i.op = opObs))

/-- R206: the program contains a PI or PID. -/
def progHasLoop (l : List Ins) : Bool := l.any (fun i => decide (i.op = opPi) || decide (i.op = opPid))

/-! ### Acceptance (R219, R68, R188, R203 to R205) -/

/-- What the checks need of the axis and the plan. -/
structure ProgCtx where
  axis : Nat
  motor : Nat
  driveMode : Nat
  trapMode : Bool
  planned : List Nat
  cores : Nat
  /-- First Larder word address above the user area. -/
  userEnd : Nat
  prog : List Word
  coef : List Word
  init : List Word
  tables : List Word

/-- R191: the shared input exists on the variant and, for an axis input, names a planned axis. -/
def ProgCtx.sharedOk (c : ProgCtx) (i : Nat) : Bool :=
  if i < 0x40 then decide (i / 8 < c.cores)
  else if i = 0x100 then true
  else decide (0x80 ≤ i) && decide (i < 0x100) && decide (i % 16 < 8) && c.planned.contains ((i - 0x80) / 16)

/-- Rule 2 of R219 for one operand. -/
def ProgCtx.operandOk (c : ProgCtx) (k : OperandKind) (a : Nat) : Bool :=
  let o := operandOf a
  match o.space with
    | .state => decide (o.index < c.init.length)
    | .shared => c.sharedOk o.index
    | .zero => decide (o.index = 0)
    | .absent => k.optional && decide (o.index = 0)

/-- R188: coefficient word k of a block is a G word. -/
def Ins.isG (i : Ins) (k : Nat) : Bool :=
  if i.op = opClarke then k = 0
  else if i.op = opPi then k < 2
  else if i.op = opPid then k < 4
  else if i.op = opLeadlag ∨ i.op = opBiquad ∨ i.op = opSum then true
  else if i.op = opObs then k < 6
  else if i.op = opFweak then k = 0
  else false

/-- Reserved bits of coefficient word k of a block (R188, R203 to R205, R209). -/
def Ins.coefReserved (i : Ins) (k w : Nat) : Bool :=
  if i.isG k then bitsOf w 17 5 ≠ 0
  else if i.op = opLutg then bitsOf w 28 5 ≠ 0
  else if i.op = opSine then bitsOf w 34 30 ≠ 0
  else if i.op = opPoserr then bitsOf w 35 6 ≠ 0
  else if i.op = opObs ∧ k = 7 then bitsOf w 35 18 ≠ 0
  else false

/-- R214: coefficient words whose exponents the loop divisor moves, with the sign. -/
def Ins.adjusted (i : Ins) : List (Nat × Int) :=
  if i.op = opPi then [(1, 1)]
  else if i.op = opPid then [(1, 1), (2, -1)]
  else if i.op = opFweak then [(0, 1)]
  else if i.op = opObs then [(0, 1), (1, 1), (4, 1)]
  else []

/-- R214: the move of the exponent of coefficient word k at log2 L. -/
def Ins.expMove (i : Ins) (k log2L : Nat) : Int :=
  match i.adjusted.find? (fun p => p.1 == k) with
  | none => 0
  | some p => p.2 * log2L

/-- Where the sections stand, counted from the first program word. -/
def ProgCtx.coefAt (c : ProgCtx) : Nat := c.prog.length
def ProgCtx.initAt (c : ProgCtx) : Nat := c.prog.length + c.coef.length
def ProgCtx.tablesAt (c : ProgCtx) : Nat := c.prog.length + c.coef.length + c.init.length

/-- Offsets that satisfy a test, shifted. -/
def badAt {α : Type} (base : Nat) (l : List α) (bad : Nat → α → Bool) : List Nat :=
  (l.zipIdx.filter (fun p => bad p.2 p.1)).map (fun p => base + p.2)

/-- R54: reserved bits that an instruction's operand words and coefficient words set: offsets of those words. -/
def ProgCtx.insReserved (c : ProgCtx) (i : Ins) : List Nat :=
  ((i.ops.zipIdx.filter (fun p => (operandOf p.1).rsvd)).map (fun p => i.at_ + 1 + p.2 / 2)) ++
    badAt (c.coefAt + i.cbase) ((c.coef.drop i.cbase).take i.row.coefs) (fun k w => i.coefReserved k w.toNat)

/-- R54: offsets of the words of a program and of its coefficients that set a reserved bit. -/
def ProgCtx.reservedFails (c : ProgCtx) : List Nat := (progOf c.prog).flatMap c.insReserved

/-- Rules 2 and 3 of R219, SHIFT, and rules 8, 9, 11 and 12 for one instruction: offsets of the offending words. -/
def ProgCtx.insFails (c : ProgCtx) (i : Ins) : List Nat :=
  let operands := ((i.row.ops.zip i.ops).zipIdx.filter (fun p => !c.operandOk p.1.1 p.1.2)).map (fun p => i.at_ + 1 + p.2 / 2)
  let ranges := (if decide (0 < i.row.coefs) && decide (c.coef.length < i.cbase + i.row.coefs) then [i.at_] else []) ++
    (if decide (0 < i.row.states) && decide (c.init.length < i.sbase + i.row.states) then [i.at_] else [])
  let cs := (c.coef.drop i.cbase).take i.row.coefs
  let shift := if i.op = opPoserr then badAt (c.coefAt + i.cbase) cs (fun _ w => decide (35 < bitsOf w.toNat 5 0)) else []
  let tbl := if i.op = opLutg then
      badAt (c.coefAt + i.cbase) cs (fun _ w => decide (c.tables.length / 64 ≤ bitsOf w.toNat 35 30)) else []
  let sine := if i.op = opSine then
      match cs.head? with
      | none => []
      | some w =>
        if !bitOf w.toNat 35 then []
        else
          let a := bitsOf w.toNat 29 0
          (if i.ops.head? = some (0x10000 + axisInput c.axis 4) then [] else [i.at_ + 1]) ++
            (if decide (a % 8 = 0) && decide (a + 1024 ≤ c.userEnd) then [] else [c.coefAt + i.cbase])
    else []
  let exps := badAt (c.coefAt + i.cbase) cs (fun k w =>
    i.adjusted.any (fun p => p.1 == k && [0, 2, 4].any (fun (l : Int) =>
      let e := gExp w + p.2 * l
      decide (e < -16) || decide (15 < e))))
  let obs := if i.op = opObs then badAt (c.initAt + i.sbase) ((c.init.drop i.sbase).take 12) (fun _ w => w ≠ 0) else []
  operands ++ ranges ++ shift ++ tbl ++ sine ++ exps ++ obs
where
  /-- Bit `n` of a number. -/
  bitOf (w n : Nat) : Bool := w / 2 ^ n % 2 = 1

/-- Rule 3 of R219: a state range that overlaps that of an earlier block. -/
def overlapFails : List Ins → List Nat
  | [] => []
  | i :: t =>
    (t.filter (fun j => decide (0 < i.row.states) && decide (0 < j.row.states) &&
      decide (i.sbase < j.sbase + j.row.states) && decide (j.sbase < i.sbase + i.row.states))).map (·.at_) ++ overlapFails t

/-- Rule 7 of R219: the second governor of a block. -/
def governorFails : List Ins → List Nat
  | [] => []
  | i :: t =>
    (if i.integrates then ((governorsOf t i.sbase).drop 1).map (·.at_) else []) ++ governorFails t

/-- Rule 4 of R219: instructions other than OUT between COMMIT and END. -/
def afterCommit (l : List Ins) : List Ins := (l.dropWhile (fun i => i.op ≠ opCommit)).drop 1

/-- Rule 4 of R219. -/
def rule4Fails (l : List Ins) : List Nat :=
  let last := (l.getLast?).elim 0 (·.at_)
  (match l.getLast? with
    | some i => if i.op = opEnd then [] else [i.at_]
    | none => [0]) ++
  ((l.dropLast.filter (fun i => i.op = opEnd)).map (·.at_)) ++
  (match l.filter (fun i => i.op = opCommit) with
    | [] => [last]
    | [_] => []
    | _ :: c :: _ => [c.at_]) ++
  (((afterCommit l).dropLast.filter (fun i => i.op ≠ opOut)).map (·.at_))

/-- Rule 5 of R219: COMMIT names state word 0 of a modulator of the axis's motor type. -/
def rule5Fails (c : ProgCtx) (l : List Ins) : List Nat :=
  let modOp := if c.motor = 0 then opHmod else if c.motor = 1 then opSvm else opPenta
  ((l.filter (fun i => i.op = opCommit)).filter (fun i =>
    let o := operandOf (i.ops.headD operandNone)
    !(decide (o.space = .state) && l.any (fun m => decide (m.op = modOp) && decide (m.sbase = o.index))))).map (·.at_ + 1)

/-- R238: the program reads its own AMP. -/
def readsAmp (axis : Nat) (l : List Ins) : Bool :=
  l.any (fun i => (i.row.ops.zip i.ops).any (fun p =>
    let o := operandOf p.2
    decide (o.space = .shared) && decide (o.index = axisInput axis 5) && (decide (p.1 = .whole) || !o.high)))

/-- Breakpoints of every table that do not rise strictly (rule 8 of R219). -/
def tableFails (base : Nat) (tables : List Word) : List Nat :=
  ((tables.zip (tables.drop 1)).zipIdx.filter (fun p =>
    decide (p.2 % 64 ≠ 63) && decide (hiQ p.1.2 ≤ hiQ p.1.1))).map (fun p => base + p.2 + 1)

/-- R219, R68, R238: offsets, from the first program word, of every word that breaks a rule; the sections follow the
program as in the LOOP body. -/
def ProgCtx.fails (c : ProgCtx) : List Nat :=
  let (l, e) := decodeProg c.prog.length 0 c.prog
  let each := l.flatMap c.insFails
  let obs := ((l.filter (fun i => i.op = opObs)).drop 1).map (·.at_)
  let tables := tableFails c.tablesAt c.tables
  match e with
  | some at_ => at_ :: (each ++ overlapFails l ++ obs ++ governorFails l)
  | none =>
    let last := (l.getLast?).elim 0 (·.at_)
    each ++ overlapFails l ++ obs ++ governorFails l ++ tables ++ rule4Fails l ++ rule5Fails c l ++
      (if !c.trapMode && !progWrites l 0 then [last] else []) ++
      (if (c.driveMode = 0 ∨ c.driveMode = 2) ∧ !readsAmp c.axis l then [last] else [])

/-- R219: the first offending word, if any. -/
def ProgCtx.firstFail (c : ProgCtx) : Option Nat := c.fails.min?

end Sys2Proof.Machine
end

