-- ==== Sys2Proof/Machine/EngineExec.lean ====
section
/-! DEFINITION. What each block of the loop engine computes (R194 to R210): one instruction as a step on the axis's
state section, its accumulators and the integrators that wait for a governor. -/

namespace Sys2Proof.Machine

open Sys2Proof

/-- R207: the increment of an integrating block that waits for its governor: state base, offset of the integrator,
increment, own cuts from above and below, limits of an FWEAK integrator. -/
structure Held where
  sbase : Nat
  delta : Int
  hi : Bool
  lo : Bool
  lim : Option (Int × Int)
  deriving DecidableEq, Repr

/-- R208, R209: what an OBS leaves for the supervisor. -/
structure ObsOut where
  theta : Nat
  omega : Int
  resid : Int
  load : Int
  isOver : Bool
  fast : Bool
  apart : Bool
  deriving DecidableEq, Repr

/-- R201: a closed group: duty codes in phase order, SEL, REV. -/
structure Closed where
  codes : List Int
  sel : Nat
  rev : Bool
  deriving DecidableEq, Repr

/-- A program under way: the offset of the next instruction, the state section, the integrator of ω̂, the increments that
wait, the outputs written, the group closed and the result of OBS. -/
structure Run where
  at_ : Nat
  st : List Word
  omega : Int
  held : List Held
  outs : List (Nat × Word)
  group : Option Closed
  obs : Option ObsOut
  deriving DecidableEq, Repr

/-- What a program reads beside its state section: shared inputs, coefficients, gain tables, log2 L, TRACK, the
entries of the detent table (none: not applied), the calibrated VM input, the motor type and the number of the step. -/
structure EngEnv where
  shared : Nat → Word
  coef : List Word
  tables : List Word
  log2L : Nat
  tracking : Bool
  detent : Nat → Option (Word × Word)
  vm : Int
  motor : Nat
  stepNo : Nat

/-! ### Operands and state words -/

/-- A whole word of an operand address. -/
def EngEnv.word (e : EngEnv) (r : Run) (a : Nat) : Word :=
  let o := operandOf a
  match o.space with
  | .state => r.st.getD o.index 0
  | .shared => e.shared o.index
  | _ => 0

/-- A half as a code. -/
def EngEnv.half (e : EngEnv) (r : Run) (a : Nat) : Int :=
  if (operandOf a).high then hiQ (e.word r a) else loQ (e.word r a)

/-- A half as an angle or number without sign. -/
def EngEnv.angle (e : EngEnv) (r : Run) (a : Nat) : Nat :=
  if (operandOf a).high then hiU (e.word r a) else loU (e.word r a)

/-- R190: an optional half, absent when NONE. -/
def EngEnv.halfOpt (e : EngEnv) (r : Run) (a : Nat) : Option Int :=
  if (operandOf a).space = .absent then none else some (e.half r a)

def Run.get (r : Run) (k : Nat) : Word := r.st.getD k 0
def Run.put (r : Run) (k : Nat) (w : Word) : Run := { r with st := r.st.set k w }

/-- R193: the integrator in words k and k + 1. -/
def Run.acc (r : Run) (k : Nat) : Int := accOf (r.get k) (r.get (k + 1))
def Run.putAcc (r : Run) (k : Nat) (x : Int) : Run := (r.put k (accLo x)).put (k + 1) (accHi x)

/-- Coefficient word k of an instruction. -/
def EngEnv.co (e : EngEnv) (i : Ins) (k : Nat) : Word := e.coef.getD (i.cbase + k) 0

/-- R187, R188, R214: coefficient word k, a G word, times a code. -/
def EngEnv.g (e : EngEnv) (i : Ins) (k : Nat) (x : Int) : Int := gMul (e.co i k) (i.expMove k e.log2L) x

/-- A word with a number in the high half and flags in the low half. -/
def withFlags (x : Int) (flags : Nat) : Word := mkWord (unsigned 18 x) flags

/-- Operand k of an instruction. -/
def Ins.opr (i : Ins) (k : Nat) : Nat := i.ops.getD k operandNone

/-! ### Anti-windup (R206, R207) -/

/-- R206: the engine withholds an increment. -/
def withheld (delta : Int) (hi lo : Bool) : Bool := (hi && decide (0 < delta)) || (lo && decide (delta < 0)) || (hi && lo)

/-- R206, R202: an increment is added or withheld; withheld, the block's FROZEN flag is set. An FWEAK integrator is limited
either way. -/
def Run.integrate (r : Run) (h : Held) (hi lo : Bool) : Run :=
  let frozen := withheld h.delta hi lo
  let r := if frozen then r.put h.sbase (r.get h.sbase ||| 4#36) else r
  let x := if frozen then r.acc (h.sbase + 1) else satAcc (r.acc (h.sbase + 1) + h.delta)
  r.putAcc (h.sbase + 1) (match h.lim with
    | none => x
    | some (a, b) => clampInt a b x)

/-- R207: the increment of a block is added at its own end, or held while a governor follows. -/
def Run.conclude (r : Run) (later : List Ins) (h : Held) : Run :=
  if (governorsOf later h.sbase).isEmpty then r.integrate h h.hi h.lo
  else { r with held := h :: r.held.filter (fun x => x.sbase ≠ h.sbase) }

/-- R206, R207: a governor has run; `cut` gives, for one of its inputs, whether it was cut from above (or lost) and
from below. -/
def Run.govern (r : Run) (input : Nat) (hi lo : Bool) : Run :=
  match r.held.find? (fun h => decide (input = stateHigh h.sbase)) with
  | none => r
  | some h => { r with held := r.held.filter (fun x => x.sbase ≠ h.sbase) }.integrate h (h.hi || hi) (h.lo || lo)

/-! ### Transforms (R194) -/

/-- 1/√3, √3/2, √3, cosines and sines of fifths of a turn, 2 sin(2π/5), in units of 2^-48. -/
abbrev cInvSqrt3 : Int := 162509653574041
abbrev cHalfSqrt3 : Int := 243764480361061
abbrev cSqrt3 : Int := 487528960722123
abbrev cFifthCos : List Int := [281474976710656, 86980551294885, -227718039650213, -227718039650213, 86980551294885]
abbrev cFifthSin : List Int := [0, 267698610774696, 165446840199891, -165446840199891, -267698610774696]
abbrev cPentaMag : Int := 535397221549392

/-- A value of 2^-48 units times codes, as an accumulator under a G word. -/
def gRef (w : Word) (x : Int) : Int := satAcc (shiftBy (gMant w * x) (gExp w) / refOne)

/-- CLARKE: α and β. -/
def clarke (var : Nat) (s : Word) (i : List Int) (w : Option Int) : Word :=
  let a := i.getD 0 0
  let b := i.getD 1 0
  match var with
  | 0 => mkVec (accToQ (gMul s 0 a)) (accToQ (gMul s 0 b))
  | 1 =>
    match w with
    | some c =>
      mkVec (accToQ (satAcc (shiftBy (gMant s * (2 * a - b - c)) (gExp s) / 3))) (accToQ (gRef s ((b - c) * cInvSqrt3)))
    | none => mkVec (accToQ (gMul s 0 a)) (accToQ (gRef s ((a + 2 * b) * cInvSqrt3)))
  | _ =>
    let dot (c : List Int) : Int := ((i.zip c).map (fun p => p.1 * p.2)).foldl (· + ·) 0
    mkVec (accToQ (gRef s (dot cFifthCos * 2 / 5))) (accToQ (gRef s (dot cFifthSin * 2 / 5)))

/-- PARK (`back` false) and IPARK. -/
def rotate (back : Bool) (x : Word) (th : Nat) : Word :=
  let a := hiQ x
  let b := loQ x
  let c := cosQ th
  let s := sinQ th
  if back then mkVec (accToQ (satAcc (a * c - b * s))) (accToQ (satAcc (a * s + b * c)))
  else mkVec (accToQ (satAcc (a * c + b * s))) (accToQ (satAcc (b * c - a * s)))

/-! ### PI, PID, FWEAK (R195, R196, R202) -/

/-- A limit on an accumulator: the code, cut from above, cut from below. -/
def cutAcc (lo hi x : Int) : Int × Bool × Bool :=
  (accToQ (clampInt (qToAcc lo) (qToAcc hi) x), decide (qToAcc hi < x), decide (x < qToAcc lo))

/-- PI and PID. -/
def stepPid (e : EngEnv) (later : List Ins) (i : Ins) (r : Run) : Run :=
  let pid := decide (i.op = opPid)
  let err := satQ (e.half r (i.opr 0) - e.half r (i.opr 1))
  let p := e.g i 0 err
  let w3 := r.get (i.sbase + 3)
  let f := accToQ (satAcc (qToAcc (loQ w3) + e.g i 3 (err - hiQ w3 - loQ w3)))
  let d := if pid then e.g i 2 f else 0
  let r := if pid then r.put (i.sbase + 3) (mkVec err f) else r
  let lim := e.co i (if pid then 4 else 2)
  match (if e.tracking then e.halfOpt r (i.opr 2) else none) with
  | some t =>
    let (u, hi, lo) := cutAcc (loQ lim) (hiQ lim) (qToAcc t)
    (r.put i.sbase (withFlags u (bit hi + 2 * bit lo + 8))).putAcc (i.sbase + 1) (satAcc (qToAcc u - p - d))
  | none =>
    let (u, hi, lo) := cutAcc (loQ lim) (hiQ lim) (satAcc (p + r.acc (i.sbase + 1) + d))
    (r.put i.sbase (withFlags u (bit hi + 2 * bit lo))).conclude later ⟨i.sbase, e.g i 1 err, hi, lo, none⟩
where
  bit (b : Bool) : Nat := if b then 1 else 0

/-- FWEAK. -/
def stepFweak (e : EngEnv) (later : List Ins) (i : Ins) (r : Run) : Run :=
  let lim := e.co i 1
  let idMin := qToAcc (loQ lim)
  let x := r.acc (i.sbase + 1)
  let delta := e.g i 0 (hiQ lim - e.half r (i.opr 0))
  let hi := decide (0 ≤ x)
  let lo := decide (x ≤ idMin)
  let r := r.put i.sbase (withFlags 0 (bit hi + 2 * bit lo))
  let r := r.conclude later ⟨i.sbase, delta, hi, lo, some (idMin, 0)⟩
  r.put i.sbase (mkWord (unsigned 18 (accToQ (clampInt idMin 0 (r.acc (i.sbase + 1))))) (loU (r.get i.sbase)))
where
  bit (b : Bool) : Nat := if b then 1 else 0

/-! ### Filters, tables, limits (R197 to R199, R205) -/

def stepLeadlag (e : EngEnv) (i : Ins) (r : Run) : Run :=
  let x := e.half r (i.opr 0)
  let y := satAcc (satAcc (e.g i 0 x + e.g i 1 (hiQ (r.get (i.sbase + 1)))) - e.g i 2 (hiQ (r.get i.sbase)))
  (r.put i.sbase (mkVec (accToQ y) 0)).put (i.sbase + 1) (mkVec x 0)

def stepBiquad (e : EngEnv) (i : Ins) (r : Run) : Run :=
  let x := e.half r (i.opr 0)
  let y := accToQ (satAcc (e.g i 0 x + r.acc (i.sbase + 1)))
  let s1 := satAcc (satAcc (e.g i 1 x - e.g i 3 y) + r.acc (i.sbase + 3))
  let s2 := satAcc (e.g i 2 x - e.g i 4 y)
  ((r.put i.sbase (mkVec y 0)).putAcc (i.sbase + 1) s1).putAcc (i.sbase + 3) s2

/-- R205: the gain at `x` between the points of a table. -/
def tableGain (x : Int) : List Word → Int
  | [] => 0
  | [p] => loQ p
  | p :: q :: t =>
    if x ≤ hiQ p then loQ p
    else if x < hiQ q then loQ p + roundDiv ((x - hiQ p) * (loQ q - loQ p)) (hiQ q - hiQ p).toNat
    else tableGain x (q :: t)

def stepLutg (e : EngEnv) (i : Ins) (r : Run) : Run :=
  let x := e.half r (i.opr 0)
  let w := (e.co i 0).toNat
  let tbl := (e.tables.drop (bitsOf w 35 30 * 64)).take 64
  let g := tableGain (if bitsOf w 29 29 = 1 then (x.natAbs : Int) else x) tbl
  r.put i.sbase (mkVec (accToQ (satAcc (shiftBy (g * x) (signed 5 (bitsOf w 4 0))))) g)

/-- LIMIT. -/
def stepLimit (e : EngEnv) (i : Ins) (r : Run) : Run :=
  let p := e.co i 0
  if i.var = 0 then
    let x := e.half r (i.opr 0)
    let (lo, hi) := match e.halfOpt r (i.opr 1) with
      | some l => (-(l.natAbs : Int), (l.natAbs : Int))
      | none => (loQ p, hiQ p)
    let r := (r.put i.sbase (mkVec (satQ (clampInt lo hi x)) 0)).put (i.sbase + 1)
      (withFlags 0 (bit (decide (hi < x)) + 2 * bit (decide (x < lo))))
    r.govern (i.opr 0) (decide (hi < x)) (decide (x < lo))
  else
    let xd := e.half r (i.opr 0)
    let xq := e.half r (i.opr 1)
    let m : Int := match e.halfOpt r (i.opr 2) with
      | some l => l.natAbs
      | none => hiQ p
    let mag := magQ xd xq
    let (od, oq) : Int × Int :=
      if i.var = 1 then
        if m < mag then (roundDiv (xd * m) mag.toNat, roundDiv (xq * m) mag.toNat) else (xd, xq)
      else
        let od := clampInt (-m) m xd
        let c := cathetusQ m od
        (od, if xq.natAbs ≤ c then xq else clampInt (-c) c xq)
    let cut (x o : Int) : Bool := decide (o.natAbs < x.natAbs)
    let dh := cut xd od && decide (0 < xd)
    let dl := cut xd od && decide (xd < 0)
    let qh := cut xq oq && decide (0 < xq)
    let ql := cut xq oq && decide (xq < 0)
    let r := (r.put i.sbase (mkVec (satQ od) (satQ oq))).put (i.sbase + 1)
      (withFlags 0 (bit dh + 2 * bit dl + 4 * bit qh + 8 * bit ql))
    (r.govern (i.opr 0) dh dl).govern (i.opr 1) qh ql
where
  bit (b : Bool) : Nat := if b then 1 else 0

/-- R199: the lowest contender and its number; the lower number wins a tie. -/
def lowest : List Int → Nat → Int × Nat → Int × Nat
  | [], _, best => best
  | x :: t, k, best => lowest t (k + 1) (if x < best.1 then (x, k) else best)

def stepMinsel (e : EngEnv) (i : Ins) (r : Run) : Run :=
  let xs := i.ops.map (e.half r)
  let (v, w) := lowest (xs.drop 1) 1 (xs.headD 0, 0)
  let r := r.put i.sbase (withFlags v w)
  i.ops.zipIdx.foldl (fun r p => r.govern p.1 (decide (p.2 ≠ w)) false) r

/-! ### Modulators (R200) -/

/-- A duty from 34 fraction bits: the code and whether it was limited. -/
def dutyCode (x : Int) : Int × Bool :=
  let c := roundDiv x 131072
  (clampInt 0 131071 c, decide (x < 0) || decide (131071 * 131072 < x))

/-- Duties, MAG and flags of a modulator from its phases (34 fraction bits): phases centred on half. -/
def centred (ws : List Int) : List Int :=
  let o := ((ws.max?).getD 0 + (ws.min?).getD 0) / 2
  ws.map (fun w => 2 ^ 33 + w - o)

/-- State words of duties: two to a word. -/
def dutyWords : List Int → List Word
  | [] => []
  | [a] => [mkVec a 0]
  | a :: b :: t => mkVec a b :: dutyWords t

/-- The words of a modulator: duties, then MAG and flags. -/
def modWords (n : Nat) (e : EngEnv) (v : Word) (duties : List Int) (mag : Int) : List Word :=
  if e.vm * 400 ≤ 131072 then
    let m := if 0 < e.vm then clampInt 0 131071 mag else ((Config.noSupplyMag v e.vm).toNat : Int)
    dutyWords (List.replicate n 65536) ++ [withFlags m 2]
  else
    let ds := duties.map dutyCode
    dutyWords (ds.map (·.1)) ++ [withFlags (clampInt 0 131071 mag) (if ds.any (·.2) then 1 else 0)]

/-- v ÷ VM with 34 fraction bits. -/
def perVm (vm x : Int) : Int := if 0 < vm then roundDiv (x * 2 ^ 34) vm.toNat else 0

/-- Magnitude of a vector with 34 fraction bits, times a constant of 2^-48, as a code. -/
def vecMag (c wa wb : Int) : Int := roundDiv ((isqrt (wa * wa + wb * wb).toNat : Int) * c) (2 ^ 65)

def stepModulator (e : EngEnv) (i : Ins) (r : Run) : Run :=
  let v := e.word r (i.opr 0)
  let wa := perVm e.vm (hiQ v)
  let wb := perVm e.vm (loQ v)
  let ws : List Word :=
    if i.op = opHmod then
      modWords 4 e v [2 ^ 33 + wa / 2, 2 ^ 33 - wa / 2, 2 ^ 33 + wb / 2, 2 ^ 33 - wb / 2]
        (roundDiv (max wa.natAbs wb.natAbs : Nat) 131072)
    else if i.op = opSvm then
      let y := wb * cHalfSqrt3 / refOne
      modWords 3 e v (centred [wa, -wa / 2 + y, -wa / 2 - y]) (vecMag cSqrt3 wa wb)
    else
      modWords 5 e v (centred ((cFifthCos.zip cFifthSin).map (fun p => (wa * p.1 + wb * p.2) / refOne)))
        (vecMag cPentaMag wa wb)
  ws.zipIdx.foldl (fun r p => r.put (i.sbase + p.2) p.1) r

/-! ### OBS, SINE, POSERR, SUM (R203, R204, R208) -/

def stepObs (e : EngEnv) (i : Ins) (r : Run) : Run :=
  let cur := e.word r (i.opr 0)
  let v := e.word r (i.opr 1)
  let b := i.sbase
  let th := hiU (r.get b)
  let om := r.omega
  let est := r.get (b + 1)
  let pred := r.get (b + 2)
  let rr (x y : Int) : Int := satQ (x - y)
  let ra := rr (hiQ cur) (hiQ pred)
  let rb := rr (loQ cur) (loQ pred)
  let add (k : Nat) (base x : Int) : Int := accToQ (satAcc (qToAcc base + e.g i k x))
  let ia := add 2 (hiQ pred) ra
  let ib := add 2 (loQ pred) rb
  let ea := add 3 (hiQ est) ra
  let eb := add 3 (loQ est) rb
  let eps0 := accToQ (-(satAcc (ea * cosQ th + eb * sinQ th)))
  let eps := if om < 0 then satQ (-eps0) else eps0
  let om' := satAcc (om + e.g i 4 eps)
  let omQ := accToQ om'
  let th' := toAngle (th + 2 ^ e.log2L * omQ + roundDiv (e.g i 5 eps) 131072)
  let nextPred (c x es : Int) : Int := accToQ (satAcc (satAcc (qToAcc c + e.g i 0 (x - es)) - e.g i 1 c))
  let hiR := max ra.natAbs rb.natAbs
  let loR := min ra.natAbs rb.natAbs
  let res := satQ (roundDiv (8 * hiR + 3 * loR : Nat) 8)
  let load := angDiff (atanQ (hiQ cur) (loQ cur)) th'
  let lim := e.co i 6
  let apart := match e.halfOpt r (i.opr 2) with
    | none => false
    | some _ => decide (bitsOf (e.co i 7).toNat 17 0 < (angDiff (e.angle r (i.opr 2)) th').natAbs)
  let out : ObsOut :=
    { theta := th', omega := omQ, resid := res, load := load, isOver := decide (hiQ lim < res),
      fast := decide (loQ lim ≤ omQ.natAbs), apart := apart }
  let ws : List Word := [mkWord th' (unsigned 18 omQ), mkVec ea eb,
    mkVec (nextPred ia (hiQ v) ea) (nextPred ib (loQ v) eb), mkVec ra rb, withFlags res 0,
    mkVec load 0] ++ (List.range 6).map (fun k => Config.obsInternal e.stepNo k)
  { ws.zipIdx.foldl (fun r p => r.put (b + p.2) p.1) r with omega := om', obs := some out }

def stepSine (e : EngEnv) (i : Ins) (r : Run) : Run :=
  let th := e.angle r (i.opr 0)
  let amp := e.half r (i.opr 1)
  let (da, dg) : Int × Int :=
    if bitsOf (e.co i 0).toNat 35 35 = 1 then
      match e.detent i.cbase with
      | none => (0, 0)
      | some (p, q) =>
        let f : Int := th % 256
        (hiQ p + roundDiv ((hiQ q - hiQ p) * f) 256, loQ p + roundDiv ((loQ q - loQ p) * f) 256)
    else (0, 0)
  let a := toAngle (th + da)
  let scale (t : Int) : Int := satQ (roundDiv (amp * (131072 + dg) * t) (2 ^ 34))
  r.put i.sbase (mkVec (scale (cosQ a)) (scale (sinQ a)))

def stepPoserr (e : EngEnv) (i : Ins) (r : Run) : Run :=
  let d := posDiff (e.word r (i.opr 0)) (e.word r (i.opr 1))
  let x := roundDiv d (2 ^ bitsOf (e.co i 0).toNat 5 0)
  r.put i.sbase (withFlags (satQ x) (if satQ x = x then 0 else 1))

def stepSum (e : EngEnv) (i : Ins) (r : Run) : Run :=
  let y := i.ops.zipIdx.foldl (fun acc p => satAcc (acc + e.g i p.2 (e.half r p.1))) 0
  r.put i.sbase (mkVec (accToQ y) 0)

/-! ### COMMIT (R201) -/

/-- Table 3.5: duties in phase order onto the legs from the lowest. -/
def legOrder (motor : Nat) (phaseRev : Bool) (ds : List Int) : List Int :=
  if !phaseRev then ds
  else match motor, ds with
    | 0, [a, b, c, d] => [a, b, d, c]
    | 1, [u, v, w] => [u, w, v]
    | 2, [a, b, c, d, e] => [a, e, d, c, b]
    | _, l => l

/-- R201: the duty in taps of a code on a carrier period of `p` PCLK. -/
def dutyTaps (p : Nat) (u : Int) : Nat :=
  if u ≤ 0 then 0 else if u = 131071 then 32 * p else (u.toNat * 32 * p + 65536) / 131072

/-- Duty codes of a modulator's first state words. -/
def dutiesAt (r : Run) (k motor : Nat) : List Int :=
  let n := if motor = 0 then 4 else if motor = 1 then 3 else 5
  ((List.range 3).flatMap (fun j => [hiQ (r.get (k + j)), loQ (r.get (k + j))])).take n

def stepCommit (e : EngEnv) (i : Ins) (r : Run) : Run :=
  let s := match e.halfOpt r (i.opr 1) with
    | none => 0
    | some _ => e.angle r (i.opr 1)
  { r with group := some ⟨dutiesAt r (operandOf (i.opr 0)).index e.motor, s % 8, decide (s / 8 % 2 = 1)⟩ }

/-- OUT (R204, R218): a scalar is published in the low bits. -/
def stepOut (e : EngEnv) (i : Ins) (r : Run) : Run :=
  let w := if i.var = 0 then BitVec.ofNat 36 (e.angle r (i.opr 0)) else e.word r (i.opr 0)
  { r with outs := r.outs ++ [(i.var, w)] }

/-! ### The program -/

/-- R193 to R208: one instruction; `later` are the instructions after it. -/
def stepIns (e : EngEnv) (i : Ins) (later : List Ins) (r : Run) : Run :=
  let r := { r with at_ := i.at_ + 1 + (i.row.ops.length + 1) / 2 }
  if i.op = opClarke then
    r.put i.sbase (clarke i.var (e.co i 0) (i.ops.map (e.half r)) (e.halfOpt r (i.opr 2)))
  else if i.op = opPark then r.put i.sbase (rotate false (e.word r (i.opr 0)) (e.angle r (i.opr 1)))
  else if i.op = opIpark then r.put i.sbase (rotate true (e.word r (i.opr 0)) (e.angle r (i.opr 1)))
  else if i.op = opPi ∨ i.op = opPid then stepPid e later i r
  else if i.op = opLeadlag then stepLeadlag e i r
  else if i.op = opBiquad then stepBiquad e i r
  else if i.op = opLutg then stepLutg e i r
  else if i.op = opLimit then stepLimit e i r
  else if i.op = opMinsel then stepMinsel e i r
  else if i.op = opObs then stepObs e i r
  else if i.op = opSine then stepSine e i r
  else if i.op = opSvm ∨ i.op = opPenta ∨ i.op = opHmod then stepModulator e i r
  else if i.op = opFweak then stepFweak e later i r
  else if i.op = opPoserr then stepPoserr e i r
  else if i.op = opSum then stepSum e i r
  else if i.op = opCopy then r.put i.sbase (e.word r (i.opr 0))
  else if i.op = opOut then stepOut e i r
  else if i.op = opCommit then stepCommit e i r
  else r

/-- Instructions from offset `r.at_` on, at most `n` of them. -/
def runProg (e : EngEnv) : Nat → List Ins → Run → Run
  | 0, _, r => r
  | _ + 1, [], r => r
  | n + 1, i :: t, r => if i.at_ < r.at_ then runProg e (n + 1) t r else runProg e n t (stepIns e i t r)

/-- R211: a program at its start over a state section. -/
def Run.start (st : List Word) (omega : Int) : Run := ⟨0, st, omega, [], [], none, none⟩

end Sys2Proof.Machine
end

