-- ==== Sys2Proof/Machine/Profile.lean ====
section
/-! DEFINITION. Profiles (R229, R248 to R250): time-optimal jerk-limited changes of velocity and position, as segments
of constant jerk, and the curves on which a planner axis is led. Positions, velocities, accelerations and jerks are in
2^-40 tick per power of a motion frame, durations in 2^-32 motion frame. -/

namespace Sys2Proof.Machine

open Sys2Proof

/-- A stretch of constant jerk: duration, and velocity, acceleration and jerk at its start. -/
structure Seg where
  dur : Nat
  v : Int
  a : Int
  j : Int
  deriving DecidableEq, Repr

/-- The course of a set-point from a motion or engine frame boundary on, by engine frames: at rest at `p`; segments from
`p0`, ending at `pEnd` when the target is a position, and at velocity `vEnd`; a cubic Hermite curve over eight frames. -/
inductive Path
  | rest (p : Int)
  | segs (p0 : Int) (l : List Seg) (pEnd : Option Int) (vEnd : Int)
  | herm (p0 v0 p1 v1 : Int)
  deriving DecidableEq, Repr

/-- Position, velocity, acceleration. -/
structure Motion where
  p : Int
  v : Int
  a : Int
  deriving DecidableEq, Repr

/-- Units: one tick, one step of PROF_VMAX, of PROF_AMAX and PROF_QDEC, of PROF_JMAX; one motion frame of duration. -/
abbrev uTick : Int := 2 ^ 40
abbrev uVel : Int := 2 ^ 28
abbrev uAcc : Int := 2 ^ 20
abbrev uJerk : Int := 2 ^ 12
abbrev uTime : Nat := 2 ^ 32

/-- Duration of one engine frame. -/
abbrev uFrame : Nat := 2 ^ 29

/-- Where a segment stands after `t`. -/
def Seg.pos (g : Seg) (t : Nat) : Int :=
  g.v * t / 2 ^ 32 + g.a * t * t / 2 ^ 65 + g.j * t * t * t / (6 * 2 ^ 96)

def Seg.vel (g : Seg) (t : Nat) : Int := g.v + g.a * t / 2 ^ 32 + g.j * t * t / 2 ^ 65

def Seg.acc (g : Seg) (t : Nat) : Int := g.a + g.j * t / 2 ^ 32

/-- Distance along segments. -/
def segsDist (l : List Seg) : Int := (l.map (fun g => g.pos g.dur)).foldl (· + ·) 0

/-- A quotient of non-negative numbers as a duration. -/
def durOf (num den : Int) : Nat := if 0 < den then (num * 2 ^ 32 / den).toNat else 0

/-- R248: the fastest change from velocity `v0` and acceleration `a0` to velocity `v1` at rest of acceleration, under
acceleration `amax` and jerk `jmax`, both above 0; an acceleration beyond `amax` comes back at `jmax`. -/
def changeVel (v0 a0 v1 amax jmax : Int) : List Seg :=
  let dv := v1 - v0
  let s : Int := if a0 * a0.natAbs ≤ 2 * jmax * dv then 1 else -1
  let d := s * dv
  let b := s * a0
  let peak : Int := isqrt (jmax * d + b * b / 2).toNat
  let ap := min amax (max peak (if b ≤ amax then b else amax))
  let up : Seg := ⟨durOf (ap - b).natAbs jmax, v0, a0, if b ≤ ap then s * jmax else -(s * jmax)⟩
  let used := (if b ≤ ap then ap * ap - b * b else b * b - ap * ap) / (2 * jmax)
  let tail := ap * ap / (2 * jmax)
  let flat := d - used - tail
  let mid : List Seg := if 0 < flat ∧ 0 < ap then [⟨durOf flat ap, v0 + s * used, s * ap, 0⟩] else []
  up :: mid ++ [⟨durOf ap jmax, v1 - s * tail, s * ap, -(s * jmax)⟩]

/-- Where segments stand after `t`. -/
def segsAt (p : Int) (pEnd : Option Int) (vEnd : Int) : List Seg → Nat → Motion
  | [], t =>
    match pEnd with
    | some q => ⟨q, 0, 0⟩
    | none => ⟨p + vEnd * t / 2 ^ 32, vEnd, 0⟩
  | g :: l, t => if t < g.dur then ⟨p + g.pos t, g.vel t, g.acc t⟩ else segsAt (p + g.pos g.dur) pEnd vEnd l (t - g.dur)

/-- Segments up to `t`; past their end the velocity `vEnd` holds. -/
def cutSegs (vEnd : Int) : List Seg → Nat → List Seg
  | [], t => [⟨t, vEnd, 0, 0⟩]
  | g :: l, t => if t < g.dur then [{ g with dur := t }] else g :: cutSegs vEnd l (t - g.dur)

/-- Total duration. -/
def segsDur (l : List Seg) : Nat := (l.map (·.dur)).foldl (· + ·) 0

/-- Where the fastest stop ends that begins after `t` on the course `l` toward velocity `vmax`. -/
def stopAfter (l : List Seg) (vmax amax jmax : Int) (t : Nat) : Int :=
  let m := segsAt 0 none vmax l t
  m.p + segsDist (changeVel m.v m.a 0 amax jmax)

/-- Bisection: the latest instant between `lo` and `hi` after which the fastest stop ends within `d`. -/
def brakeAt (l : List Seg) (vmax amax jmax d : Int) : Nat → Nat → Nat → Nat
  | 0, lo, _ => lo
  | n + 1, lo, hi =>
    let m := (lo + hi) / 2
    if stopAfter l vmax amax jmax m ≤ d then brakeAt l vmax amax jmax d n m hi else brakeAt l vmax amax jmax d n lo m

/-- R248: the fastest profile from (p, v, a) to rest at `target`: the fastest course toward the velocity limit on the side
where the fastest stop falls short, and the fastest stop at the last instant that does not overrun the target. -/
def planMove (m : Motion) (target vmax amax jmax : Int) : Path :=
  let s : Int := if segsDist (changeVel m.v m.a 0 amax jmax) ≤ target - m.p then 1 else -1
  let d := s * (target - m.p)
  let go := changeVel (s * m.v) (s * m.a) vmax amax jmax
  let full := segsDur go
  let gap := d - stopAfter go vmax amax jmax full
  let t := if 0 ≤ gap then full + durOf gap vmax else brakeAt go vmax amax jmax d (Nat.log2 full + 1) 0 full
  let x := segsAt 0 none vmax go t
  let l := cutSegs vmax go t ++ changeVel x.v x.a 0 amax jmax
  .segs m.p (l.map (fun g => ⟨g.dur, s * g.v, s * g.a, s * g.j⟩)) (some target) 0

/-- R248: the fastest profile to a velocity. -/
def planVelocity (m : Motion) (target vmax amax jmax : Int) : Path :=
  let v1 := clampInt (-vmax) vmax target
  .segs m.p (changeVel m.v m.a v1 amax jmax) none v1

/-- R229: a stop under an acceleration and a jerk limit. -/
def planStop (m : Motion) (amax jmax : Int) : Path := .segs m.p (changeVel m.v m.a 0 amax jmax) none 0

/-- R229: a fault stop: the acceleration steps to QDEC against the velocity at once. -/
def planFaultStop (m : Motion) (qdec : Int) : Path :=
  if m.v = 0 ∨ qdec ≤ 0 then .rest m.p
  else .segs m.p [⟨durOf m.v.natAbs qdec, m.v, if 0 < m.v then -qdec else qdec, 0⟩] none 0

/-- R249: the cubic Hermite curve of a motion frame after k of eight engine frames. -/
def hermAt (p0 v0 p1 v1 : Int) (k : Nat) : Motion :=
  let k := min k 8
  let d := p1 - p0
  let c2 := 3 * d - 2 * v0 - v1
  let c3 := v0 + v1 - 2 * d
  let t : Int := k
  ⟨p0 + v0 * t / 8 + c2 * t * t / 64 + c3 * t * t * t / 512, v0 + 2 * c2 * t / 8 + 3 * c3 * t * t / 64,
    2 * c2 + 6 * c3 * t / 8⟩

/-- Where a path stands after `k` engine frames. -/
def Path.at_ (x : Path) (k : Nat) : Motion :=
  match x with
  | .rest p => ⟨p, 0, 0⟩
  | .segs p0 l pEnd vEnd => segsAt p0 pEnd vEnd l (k * uFrame)
  | .herm p0 v0 p1 v1 => hermAt p0 v0 p1 v1 k

/-- Length of a path in durations; a curve of a planner axis lasts one motion frame. -/
def Path.length (x : Path) : Nat :=
  match x with
  | .rest _ => 0
  | .segs _ l _ _ => segsDur l
  | .herm .. => uTime

/-- R248: the path is over after `k` engine frames. -/
def Path.isOver (x : Path) (k : Nat) : Bool := decide (x.length ≤ k * uFrame)

/-- R248: SET_POS: p rounded to a tick, halves up. -/
def tickOf (p : Int) : Int := roundDiv p (2 ^ 40)

/-- R248: SET_VEL of the profile, in 2^-12 tick per motion frame. -/
def velReg (v : Int) : Int := roundDiv v (2 ^ 28)

end Sys2Proof.Machine
end

