-- ==== Sys2Proof/Machine/Registers.lean ====
section
/-! DEFINITION. The register tables of the manual: every block (Table 2.2), every register with its access masks and
reset word (Tables 2.8 to 15.13), and names for the registers (`R.BLOCK_REGISTER`) and their fields
(`F.BLOCK_REGISTER_FIELD`). A register is named by the key block x 512 + base offset. -/

namespace Sys2Proof.Machine

/-- R30, R42: how a register's COUNT behaves beside the access codes. -/
inductive RegKind | plain | event (w : Nat) | interval (w : Nat) | holding (src : Nat)
  deriving DecidableEq, Repr

/-- One row of a register table: `cnt` registers `stride` apart from `off`; masks of the bits of each access code. -/
structure RegSpec where
  off : Nat
  cnt : Nat
  stride : Nat
  kind : RegKind
  rw : Nat
  w1c : Nat
  reset : Nat
  deriving DecidableEq, Repr

/-- R26: one block kind, its first block number, how many instances it has, its decode width k (R27). -/
structure BlockSpec where
  num : Nat
  inst : Nat
  k : Nat
  regs : List RegSpec
  deriving DecidableEq, Repr

/-- A field of a register: key and bit range. -/
structure Fld where
  key : Nat
  hi : Nat
  lo : Nat
  deriving DecidableEq, Repr

/-- R45: the registers of block SYS. -/
def specsSYS : List RegSpec :=
  [ ⟨0, 1, 1, .plain, 0x0, 0x0, 0x50d883611⟩ /- ID -/,
    ⟨1, 1, 1, .plain, 0x0, 0x0, 0x7b8⟩ /- FEATURES -/,
    ⟨2, 1, 1, .plain, 0x0, 0x1e, 0x0⟩ /- STATUS -/,
    ⟨3, 1, 1, .plain, 0x0, 0x0, 0x0⟩ /- SERIAL_LO -/,
    ⟨4, 1, 1, .plain, 0x0, 0x0, 0x0⟩ /- SERIAL_HI -/,
    ⟨5, 1, 1, .plain, 0x0, 0x0, 0x0⟩ /- TIME -/,
    ⟨6, 1, 1, .plain, 0x0, 0x0, 0x0⟩ /- TIME_H -/,
    ⟨7, 1, 1, .plain, 0x0, 0x0, 0x0⟩ /- STOCK_AT -/,
    ⟨8, 1, 1, .plain, 0x0, 0x0, 0x0⟩ /- STOCKTAKE -/,
    ⟨9, 1, 1, .plain, 0x0, 0x0, 0x0⟩ /- STOCK_DONE -/,
    ⟨10, 1, 1, .plain, 0x0, 0x0, 0x0⟩ /- REPLACE_WHY -/,
    ⟨11, 1, 1, .plain, 0xfffffffff, 0x0, 0x0⟩ /- SCRATCH -/,
    ⟨12, 1, 1, .plain, 0x0, 0x0, 0x0⟩ /- RESET -/ ]

/-- R47: the registers of block CLK. -/
def specsCLK : List RegSpec :=
  [ ⟨0, 1, 1, .plain, 0x0, 0x4, 0x0⟩ /- PLL_STAT -/,
    ⟨1, 1, 1, .plain, 0xfb, 0x0, 0xfb⟩ /- POWER -/,
    ⟨2, 1, 1, .plain, 0x0, 0x0, 0x0⟩ /- TEMP_LD -/,
    ⟨3, 1, 1, .plain, 0x0, 0x0, 0x0⟩ /- TEMP_GD0 -/,
    ⟨4, 1, 1, .plain, 0x0, 0x0, 0x0⟩ /- TEMP_GD1 -/,
    ⟨5, 1, 1, .plain, 0x0, 0x0, 0x0⟩ /- VAUX -/,
    ⟨6, 1, 1, .plain, 0x0, 0x0, 0x0⟩ /- PWR_EST -/,
    ⟨7, 1, 1, .event 16, 0xffff, 0x0, 0x0⟩ /- PLL_LOSS -/,
    ⟨8, 1, 1, .event 16, 0xffff, 0x0, 0x0⟩ /- LINK0_ERR -/,
    ⟨9, 1, 1, .event 16, 0xffff, 0x0, 0x0⟩ /- LINK1_ERR -/ ]

/-- R94: the registers of block INV. -/
def specsINV : List RegSpec :=
  [ ⟨0, 1, 1, .plain, 0x0, 0x0, 0x0⟩ /- CMD -/,
    ⟨1, 1, 1, .plain, 0x0, 0x20, 0x0⟩ /- OP_STAT -/,
    ⟨2, 1, 1, .plain, 0x0, 0x0, 0x0⟩ /- ERR_AT -/,
    ⟨3, 1, 1, .plain, 0x3ffffff8, 0x0, 0x0⟩ /- SRC_ADDR -/,
    ⟨4, 1, 1, .plain, 0x0, 0x0, 0x0⟩ /- ACTIVE -/,
    ⟨5, 1, 1, .plain, 0x0, 0x0, 0x0⟩ /- IMAGE_ID -/,
    ⟨6, 1, 1, .plain, 0x0, 0x0, 0x0⟩ /- AXIS_MAP -/,
    ⟨7, 4, 1, .plain, 0x0, 0x0, 0xffffffff⟩ /- LEG_MAP -/,
    ⟨11, 1, 1, .plain, 0x3, 0x0, 0x0⟩ /- NEXT_BOOT -/,
    ⟨12, 1, 1, .plain, 0x0, 0x0, 0x0⟩ /- PROGRESS -/,
    ⟨13, 1, 1, .plain, 0x0, 0x0, 0x0⟩ /- BUDGET -/ ]

/-- R446: the registers of block BOX. -/
def specsBOX : List RegSpec :=
  [ ⟨0, 1, 1, .plain, 0x0, 0xc, 0x0⟩ /- STATUS -/,
    ⟨1, 1, 1, .plain, 0x0, 0x0, 0x0⟩ /- CMD -/,
    ⟨2, 1, 1, .plain, 0x0, 0x0, 0x0⟩ /- OP_STAT -/,
    ⟨3, 1, 1, .plain, 0x0, 0x0, 0x0⟩ /- KEY_DATA -/,
    ⟨4, 1, 1, .plain, 0xffffffff, 0x0, 0x0⟩ /- KEY_CRC -/,
    ⟨5, 1, 1, .plain, 0xfff, 0x0, 0x0⟩ /- RING_SEL -/,
    ⟨6, 1, 1, .plain, 0x0, 0x0, 0x0⟩ /- RING_DATA -/,
    ⟨7, 1, 1, .plain, 0x0, 0x0, 0x0⟩ /- RING_COUNT -/,
    ⟨8, 1, 1, .plain, 0xf, 0x0, 0x0⟩ /- LIFE_SEL -/,
    ⟨9, 1, 1, .plain, 0x0, 0x0, 0x0⟩ /- LIFE_DATA -/,
    ⟨10, 1, 1, .event 16, 0xffff, 0x0, 0x0⟩ /- DROP_COUNT -/,
    ⟨11, 1, 1, .holding 10, 0x0, 0x0, 0x0⟩ /- DROP_COUNT_H -/ ]

/-- R445: the registers of block FLT. -/
def specsFLT : List RegSpec :=
  [ ⟨0, 1, 1, .plain, 0x0, 0x7, 0x0⟩ /- STATUS -/,
    ⟨1, 1, 1, .plain, 0x0, 0x0, 0x0⟩ /- CMD -/,
    ⟨2, 1, 1, .plain, 0x0, 0x0, 0x0⟩ /- REC0 -/,
    ⟨3, 1, 1, .plain, 0x0, 0x0, 0x0⟩ /- REC1 -/,
    ⟨4, 1, 1, .plain, 0x0, 0x0, 0x0⟩ /- Q_LEVEL -/,
    ⟨5, 1, 1, .plain, 0x0, 0x0, 0x0⟩ /- TRAP_STAT -/,
    ⟨6, 1, 1, .plain, 0x2ffff, 0x0, 0x201f4⟩ /- STOP_CFG -/,
    ⟨7, 1, 1, .plain, 0x3fff, 0x0, 0xc3c⟩ /- LATCH_CFG -/,
    ⟨8, 1, 1, .plain, 0x0, 0x0, 0x0⟩ /- SUPPLY -/,
    ⟨9, 1, 1, .plain, 0x0, 0x0, 0x0⟩ /- BRK_HEAT -/,
    ⟨10, 1, 1, .event 16, 0xffff, 0x0, 0x0⟩ /- OVERFLOW -/,
    ⟨11, 1, 1, .event 16, 0xffff, 0x0, 0x0⟩ /- TRAP_COUNT -/,
    ⟨12, 1, 1, .holding 10, 0x0, 0x0, 0x0⟩ /- OVERFLOW_H -/,
    ⟨13, 1, 1, .holding 11, 0x0, 0x0, 0x0⟩ /- TRAP_COUNT_H -/ ]

/-- R399: the registers of block PRT. -/
def specsPRT : List RegSpec :=
  [ ⟨0, 1, 1, .plain, 0x0, 0x3f0, 0x0⟩ /- HP_STAT -/,
    ⟨1, 1, 1, .event 16, 0xffff, 0x0, 0x0⟩ /- CMD_ERR_COUNT -/,
    ⟨2, 1, 1, .event 16, 0xffff, 0x0, 0x0⟩ /- DATA_CRC_COUNT -/,
    ⟨3, 1, 1, .event 16, 0xffff, 0x0, 0x0⟩ /- ABORT_COUNT -/,
    ⟨4, 1, 1, .event 16, 0xffff, 0x0, 0x0⟩ /- OVERCLOCK_COUNT -/,
    ⟨5, 1, 1, .holding 1, 0x0, 0x0, 0x0⟩ /- CMD_ERR_COUNT_H -/,
    ⟨6, 1, 1, .holding 2, 0x0, 0x0, 0x0⟩ /- DATA_CRC_COUNT_H -/,
    ⟨7, 1, 1, .holding 3, 0x0, 0x0, 0x0⟩ /- ABORT_COUNT_H -/,
    ⟨8, 1, 1, .holding 4, 0x0, 0x0, 0x0⟩ /- OVERCLOCK_COUNT_H -/,
    ⟨9, 1, 1, .plain, 0x0, 0x0, 0x0⟩ /- BOOT_STAT -/,
    ⟨16, 4, 8, .plain, 0x3ffff, 0x0, 0x3914⟩ /- P_CFG -/,
    ⟨17, 4, 8, .plain, 0x0, 0x0, 0x0⟩ /- P_XFER -/,
    ⟨18, 4, 8, .plain, 0xfffffffff, 0x0, 0x0⟩ /- P_DATA -/,
    ⟨19, 4, 8, .plain, 0x0, 0x700, 0x0⟩ /- P_STAT -/,
    ⟨20, 4, 8, .plain, 0x3ffc0000, 0x0, 0x0⟩ /- P_LEN -/,
    ⟨21, 4, 8, .plain, 0xfffffffff, 0x0, 0x0⟩ /- P_BUSYPAT -/,
    ⟨22, 4, 8, .event 16, 0xffff, 0x0, 0x0⟩ /- P_RETRY_COUNT -/,
    ⟨23, 4, 8, .holding 22, 0x0, 0x0, 0x0⟩ /- P_RETRY_COUNT_H -/ ]

/-- R374: the registers of block LAD. -/
def specsLAD : List RegSpec :=
  [ ⟨0, 1, 1, .plain, 0x0, 0x7c0, 0x0⟩ /- STATUS -/,
    ⟨1, 1, 1, .plain, 0x3ffff, 0x0, 0x503c⟩ /- CFG -/,
    ⟨2, 1, 1, .plain, 0x3ffff, 0x0, 0x186a0⟩ /- RATE -/,
    ⟨3, 1, 1, .plain, 0x0, 0x0, 0x0⟩ /- IP_ADDR -/,
    ⟨4, 1, 1, .plain, 0x0, 0x0, 0x250d0⟩ /- MAC_HI -/,
    ⟨5, 1, 1, .plain, 0x0, 0x0, 0x0⟩ /- MAC_LO -/,
    ⟨6, 1, 1, .plain, 0x0, 0x0, 0x0⟩ /- PORT_STAT -/,
    ⟨7, 1, 1, .plain, 0x0, 0x0, 0x0⟩ /- PTP_STAT -/,
    ⟨8, 1, 1, .plain, 0x0, 0x0, 0x0⟩ /- PTP_SEC -/,
    ⟨9, 1, 1, .plain, 0x0, 0x0, 0x0⟩ /- PTP_NS -/,
    ⟨10, 1, 1, .plain, 0x0, 0x0, 0x0⟩ /- PTP_OFFSET -/,
    ⟨11, 1, 1, .plain, 0xf, 0x0, 0x0⟩ /- SESS_SEL -/,
    ⟨12, 1, 1, .plain, 0x0, 0x0, 0x0⟩ /- SESS_INFO -/,
    ⟨13, 1, 1, .plain, 0x0, 0x0, 0x0⟩ /- SESS_ADDR -/,
    ⟨14, 1, 1, .plain, 0x0, 0x0, 0x0⟩ /- PARTNERS -/,
    ⟨15, 1, 1, .plain, 0x0, 0x0, 0x0⟩ /- CMD -/,
    ⟨16, 1, 1, .event 16, 0xffff, 0x0, 0x0⟩ /- RX_RATE_DROP -/,
    ⟨17, 1, 1, .event 16, 0xffff, 0x0, 0x0⟩ /- AUTH_FAIL -/,
    ⟨18, 1, 1, .event 16, 0xffff, 0x0, 0x0⟩ /- REPLAY -/,
    ⟨19, 1, 1, .event 16, 0xffff, 0x0, 0x0⟩ /- MALFORMED -/,
    ⟨20, 1, 1, .event 16, 0xffff, 0x0, 0x0⟩ /- QUAR_DROP -/,
    ⟨21, 1, 1, .event 16, 0xffff, 0x0, 0x0⟩ /- STREAM_REJECT -/,
    ⟨22, 1, 1, .event 16, 0xffff, 0x0, 0x0⟩ /- FWD_DROP -/,
    ⟨24, 1, 1, .holding 16, 0x0, 0x0, 0x0⟩ /- RX_RATE_DROP_H -/,
    ⟨25, 1, 1, .holding 17, 0x0, 0x0, 0x0⟩ /- AUTH_FAIL_H -/,
    ⟨26, 1, 1, .holding 18, 0x0, 0x0, 0x0⟩ /- REPLAY_H -/,
    ⟨27, 1, 1, .holding 19, 0x0, 0x0, 0x0⟩ /- MALFORMED_H -/,
    ⟨28, 1, 1, .holding 20, 0x0, 0x0, 0x0⟩ /- QUAR_DROP_H -/,
    ⟨29, 1, 1, .holding 21, 0x0, 0x0, 0x0⟩ /- STREAM_REJECT_H -/,
    ⟨30, 1, 1, .holding 22, 0x0, 0x0, 0x0⟩ /- FWD_DROP_H -/ ]

/-- R344: the registers of block HST. -/
def specsHST : List RegSpec :=
  [ ⟨0, 256, 1, .plain, 0xfffffffff, 0x0, 0x0⟩ /- WINDOW -/,
    ⟨256, 1, 1, .plain, 0x3fffffff, 0x0, 0x0⟩ /- PTR_HP -/,
    ⟨257, 1, 1, .plain, 0x3fffffff, 0x0, 0x0⟩ /- PTR_LAD -/,
    ⟨258, 1, 1, .plain, 0x0, 0x0, 0x0⟩ /- CMD -/,
    ⟨259, 1, 1, .plain, 0x0, 0x0, 0x0⟩ /- OP_STAT -/,
    ⟨260, 1, 1, .plain, 0x3fffffff, 0x0, 0x0⟩ /- SRC -/,
    ⟨261, 1, 1, .plain, 0x3fffffff, 0x0, 0x0⟩ /- DST -/,
    ⟨262, 1, 1, .plain, 0x3fffffff, 0x0, 0x0⟩ /- LEN -/,
    ⟨263, 1, 1, .plain, 0xfffffffff, 0x0, 0x0⟩ /- VALUE -/,
    ⟨264, 1, 1, .plain, 0x0, 0x98, 0x0⟩ /- STATUS -/,
    ⟨265, 1, 1, .plain, 0x0, 0x0, 0x0⟩ /- ERR_ADDR -/,
    ⟨266, 1, 1, .event 32, 0xffffffff, 0x0, 0x0⟩ /- WORD_COUNT -/,
    ⟨267, 1, 1, .holding 266, 0x0, 0x0, 0x0⟩ /- WORD_COUNT_H -/ ]

/-- R343: the registers of block LDC. -/
def specsLDC : List RegSpec :=
  [ ⟨0, 1, 1, .plain, 0x0, 0x1f, 0x0⟩ /- STATUS -/,
    ⟨1, 1, 1, .plain, 0x0, 0x0, 0x0⟩ /- TEMP -/,
    ⟨2, 1, 1, .plain, 0x200ff, 0x0, 0x20018⟩ /- SCRUB_CFG -/,
    ⟨3, 1, 1, .plain, 0x0, 0x0, 0x0⟩ /- SCRUB_POS -/,
    ⟨4, 1, 1, .plain, 0xffff, 0x0, 0x3e8⟩ /- ECC_CFG -/,
    ⟨5, 1, 1, .plain, 0x0, 0x0, 0x0⟩ /- LAST_ERR -/,
    ⟨6, 1, 1, .plain, 0x0, 0x0, 0x0⟩ /- LAST_INFO -/,
    ⟨7, 1, 1, .plain, 0x0, 0x0, 0x80000000⟩ /- SPARES -/,
    ⟨8, 1, 1, .plain, 0x0, 0x0, 0x0⟩ /- WSEQ -/,
    ⟨9, 1, 1, .event 32, 0xffffffff, 0x0, 0x0⟩ /- CORR_COUNT -/,
    ⟨10, 1, 1, .event 16, 0xffff, 0x0, 0x0⟩ /- UNCORR_COUNT -/,
    ⟨11, 1, 1, .holding 9, 0x0, 0x0, 0x0⟩ /- CORR_COUNT_H -/,
    ⟨12, 1, 1, .holding 10, 0x0, 0x0, 0x0⟩ /- UNCORR_COUNT_H -/,
    ⟨13, 1, 1, .plain, 0x0, 0x0, 0x0⟩ /- LAST_POS -/ ]

/-- R321: the registers of block PLN. -/
def specsPLN : List RegSpec :=
  [ ⟨0, 1, 1, .plain, 0x0, 0x0, 0x0⟩ /- CMD -/,
    ⟨1, 1, 1, .plain, 0x0, 0x0, 0x0⟩ /- OP_STAT -/,
    ⟨2, 1, 1, .plain, 0x0, 0x0, 0x0⟩ /- EXEC -/,
    ⟨3, 1, 1, .plain, 0x0, 0x0, 0x0⟩ /- EXEC_ADDR -/,
    ⟨4, 1, 1, .plain, 0x0, 0x0, 0x0⟩ /- LA_STAT -/,
    ⟨5, 1, 1, .plain, 0x0, 0x0, 0x0⟩ /- ERR_ADDR -/,
    ⟨6, 1, 1, .plain, 0xfff, 0x0, 0x400⟩ /- OVR -/,
    ⟨7, 1, 1, .plain, 0x0, 0x0, 0x0⟩ /- PATH_VEL -/,
    ⟨8, 1, 1, .plain, 0x1fff03ff, 0x0, 0x10000064⟩ /- CFG -/,
    ⟨9, 1, 1, .plain, 0xffffff, 0x0, 0x0⟩ /- TOL -/,
    ⟨10, 1, 1, .plain, 0x3ffff, 0x0, 0x140a⟩ /- SYNC_CFG -/,
    ⟨11, 1, 1, .plain, 0xff, 0x0, 0x14⟩ /- STREAM_CFG -/,
    ⟨12, 1, 1, .plain, 0xff, 0x0, 0x0⟩ /- COMP_OFF -/,
    ⟨13, 1, 1, .plain, 0x0, 0x7f, 0x0⟩ /- STATUS -/,
    ⟨14, 1, 1, .plain, 0x0, 0x0, 0x0⟩ /- IN_STATE -/,
    ⟨15, 1, 1, .plain, 0xffffffff, 0x0, 0x0⟩ /- OUT_STATE -/,
    ⟨16, 8, 1, .plain, 0xfffffffff, 0x0, 0x100000000⟩ /- PSCALE -/,
    ⟨24, 8, 1, .plain, 0x0, 0x0, 0x0⟩ /- COMP_NOW -/,
    ⟨32, 1, 1, .event 16, 0xffff, 0x0, 0x0⟩ /- STARVE_COUNT -/,
    ⟨33, 1, 1, .event 16, 0xffff, 0x0, 0x0⟩ /- LATE_SP_COUNT -/,
    ⟨34, 1, 1, .event 32, 0xffffffff, 0x0, 0x0⟩ /- BLOCK_COUNT -/,
    ⟨35, 1, 1, .holding 32, 0x0, 0x0, 0x0⟩ /- STARVE_COUNT_H -/,
    ⟨36, 1, 1, .holding 33, 0x0, 0x0, 0x0⟩ /- LATE_SP_COUNT_H -/,
    ⟨37, 1, 1, .holding 34, 0x0, 0x0, 0x0⟩ /- BLOCK_COUNT_H -/,
    ⟨64, 64, 1, .plain, 0xfffffffff, 0x0, 0x0⟩ /- PROG -/ ]

/-- R221: the registers of block ENG. -/
def specsENG : List RegSpec :=
  [ ⟨0, 1, 1, .plain, 0x0, 0xf8, 0x0⟩ /- STATUS -/,
    ⟨1, 1, 1, .plain, 0x3ffe000, 0x0, 0x0⟩ /- LOAD -/,
    ⟨2, 1, 1, .event 16, 0xffff, 0x0, 0x0⟩ /- OVERRUN -/,
    ⟨3, 1, 1, .event 16, 0xffff, 0x0, 0x0⟩ /- FETCH_MISS -/,
    ⟨4, 1, 1, .event 16, 0xffff, 0x0, 0x0⟩ /- STORE_CORR -/,
    ⟨5, 1, 1, .holding 2, 0x0, 0x0, 0x0⟩ /- OVERRUN_H -/,
    ⟨6, 1, 1, .holding 3, 0x0, 0x0, 0x0⟩ /- FETCH_MISS_H -/,
    ⟨7, 1, 1, .holding 4, 0x0, 0x0, 0x0⟩ /- STORE_CORR_H -/,
    ⟨8, 1, 1, .plain, 0xf80003fff, 0x0, 0x0⟩ /- WIN_SEL -/,
    ⟨9, 1, 1, .plain, 0xfffffffff, 0x0, 0x0⟩ /- WIN_DATA -/,
    ⟨10, 1, 1, .plain, 0x0, 0x0, 0x0⟩ /- CMD -/,
    ⟨11, 1, 1, .plain, 0x0, 0x0, 0x0⟩ /- OP_STAT -/,
    ⟨16, 8, 1, .plain, 0x0, 0x0, 0x0⟩ /- SLOT -/,
    ⟨24, 8, 1, .plain, 0x0, 0x0, 0x0⟩ /- OBS_A -/,
    ⟨32, 8, 1, .plain, 0x0, 0x0, 0x0⟩ /- OBS_B -/,
    ⟨40, 8, 1, .plain, 0x0, 0x3, 0x100⟩ /- SUPV -/ ]

/-- R184: the registers of block CMP. -/
def specsCMP : List RegSpec :=
  [ ⟨0, 64, 1, .plain, 0xfffe07fff, 0x0, 0x6000000⟩ /- CFG -/,
    ⟨64, 1, 1, .plain, 0x0, 0x0, 0x0⟩ /- CMD -/,
    ⟨65, 1, 1, .plain, 0x0, 0x20, 0x0⟩ /- OP_STAT -/,
    ⟨66, 1, 1, .plain, 0x0, 0x0, 0x0⟩ /- OUT_LO -/,
    ⟨67, 1, 1, .plain, 0x0, 0x0, 0x0⟩ /- OUT_HI -/,
    ⟨68, 1, 1, .plain, 0x0, 0xffffffff, 0x0⟩ /- EVT_LO -/,
    ⟨69, 1, 1, .plain, 0x0, 0xffffffff, 0x0⟩ /- EVT_HI -/,
    ⟨70, 1, 1, .plain, 0x0, 0x0, 0x0⟩ /- FAILED_LO -/,
    ⟨71, 1, 1, .plain, 0x0, 0x0, 0x0⟩ /- FAILED_HI -/,
    ⟨72, 1, 1, .plain, 0x1fff, 0x0, 0x100a⟩ /- AUDIT_CFG -/,
    ⟨73, 1, 1, .event 16, 0xffff, 0x0, 0x0⟩ /- EVT_COUNT -/,
    ⟨74, 1, 1, .holding 73, 0x0, 0x0, 0x0⟩ /- EVT_COUNT_H -/ ]

/-- R416: the registers of block HAT. -/
def specsHAT : List RegSpec :=
  [ ⟨0, 1, 1, .plain, 0x0, 0xf, 0x0⟩ /- STATUS -/,
    ⟨1, 1, 1, .plain, 0x0, 0x0, 0x0⟩ /- CMD -/,
    ⟨2, 1, 1, .plain, 0x0, 0x0, 0x0⟩ /- OP_STAT -/,
    ⟨8, 8, 1, .plain, 0xffffc00f0, 0x0, 0x0⟩ /- HT_CFG -/,
    ⟨16, 8, 1, .plain, 0x0, 0x0, 0x0⟩ /- HT_TARGET -/,
    ⟨24, 8, 1, .plain, 0x0, 0x0, 0x0⟩ /- HT_COUNT -/,
    ⟨32, 4, 1, .plain, 0x1ffff, 0x0, 0x0⟩ /- CMDA_CFG -/,
    ⟨36, 4, 1, .plain, 0x0, 0x0, 0x0⟩ /- CMDA_VAL -/,
    ⟨40, 1, 1, .event 16, 0xffff, 0x0, 0x0⟩ /- DIR_RACE_COUNT -/,
    ⟨41, 1, 1, .event 16, 0xffff, 0x0, 0x0⟩ /- COLLIDE_COUNT -/,
    ⟨42, 1, 1, .event 16, 0xffff, 0x0, 0x0⟩ /- LOST_COUNT -/,
    ⟨43, 1, 1, .holding 40, 0x0, 0x0, 0x0⟩ /- DIR_RACE_COUNT_H -/,
    ⟨44, 1, 1, .holding 41, 0x0, 0x0, 0x0⟩ /- COLLIDE_COUNT_H -/,
    ⟨45, 1, 1, .holding 42, 0x0, 0x0, 0x0⟩ /- LOST_COUNT_H -/ ]

/-- R288: the registers of block CPO. -/
def specsCPO : List RegSpec :=
  [ ⟨0, 8, 1, .plain, 0xfe000ffff, 0x0, 0x800001f4⟩ /- CFG -/,
    ⟨8, 8, 1, .plain, 0x3fffffff, 0x0, 0x0⟩ /- LIST -/,
    ⟨16, 8, 1, .plain, 0x1fff0000, 0x0, 0x0⟩ /- PTR -/,
    ⟨24, 8, 1, .plain, 0x0, 0x0, 0x0⟩ /- NEXT -/,
    ⟨32, 1, 1, .plain, 0x0, 0x0, 0x0⟩ /- CMD -/,
    ⟨33, 1, 1, .plain, 0x0, 0x1ffff, 0x0⟩ /- STATUS -/,
    ⟨34, 1, 1, .event 16, 0xffff, 0x0, 0x0⟩ /- MISS_COUNT -/,
    ⟨35, 1, 1, .event 16, 0xffff, 0x0, 0x0⟩ /- MERGE_COUNT -/,
    ⟨36, 1, 1, .holding 34, 0x0, 0x0, 0x0⟩ /- MISS_COUNT_H -/,
    ⟨37, 1, 1, .holding 35, 0x0, 0x0, 0x0⟩ /- MERGE_COUNT_H -/ ]

/-- R257: the registers of block AX. -/
def specsAX : List RegSpec :=
  [ ⟨0, 1, 1, .plain, 0x0, 0x0, 0x0⟩ /- CMD -/,
    ⟨1, 1, 1, .plain, 0x0, 0x0, 0x0⟩ /- STATE -/,
    ⟨2, 1, 1, .plain, 0x3ffff, 0x0, 0x51f4⟩ /- CTRL -/,
    ⟨3, 1, 1, .plain, 0x20000, 0x0, 0x0⟩ /- PROF_CTRL -/,
    ⟨4, 1, 1, .plain, 0x7ffffffff, 0x0, 0x0⟩ /- PROF_VMAX -/,
    ⟨5, 1, 1, .plain, 0x7ffffffff, 0x0, 0x0⟩ /- PROF_AMAX -/,
    ⟨6, 1, 1, .plain, 0x7ffffffff, 0x0, 0x0⟩ /- PROF_JMAX -/,
    ⟨7, 1, 1, .plain, 0x7ffffffff, 0x0, 0x0⟩ /- PROF_QDEC -/,
    ⟨8, 1, 1, .plain, 0xfffffffff, 0x0, 0x0⟩ /- TARGET_POS -/,
    ⟨9, 1, 1, .plain, 0xfffffffff, 0x0, 0x0⟩ /- TARGET_VEL -/,
    ⟨10, 1, 1, .plain, 0xfffffffff, 0x0, 0x7fffd0000⟩ /- CUR -/,
    ⟨11, 1, 1, .plain, 0xfffffffff, 0x0, 0x200008000⟩ /- ECON -/,
    ⟨12, 1, 1, .plain, 0xffffc00ff, 0x0, 0x380000008⟩ /- STALL_CFG -/,
    ⟨13, 1, 1, .plain, 0x7ffffffff, 0x0, 0x0⟩ /- FOLLOW_MAX -/,
    ⟨14, 1, 1, .plain, 0xffc03ffff, 0x0, 0x320001440⟩ /- XFER_CFG -/,
    ⟨15, 1, 1, .plain, 0x7ffff, 0x0, 0x0⟩ /- COMM -/,
    ⟨16, 1, 1, .plain, 0x0, 0x0, 0x0⟩ /- SET_POS -/,
    ⟨17, 1, 1, .plain, 0x0, 0x0, 0x0⟩ /- FB_POS -/,
    ⟨18, 1, 1, .plain, 0x0, 0x0, 0x0⟩ /- SET_VEL -/,
    ⟨19, 1, 1, .plain, 0x0, 0x0, 0x0⟩ /- SPEED -/,
    ⟨20, 1, 1, .plain, 0x0, 0x0, 0x0⟩ /- ANGLES -/,
    ⟨21, 1, 1, .plain, 0x0, 0x0, 0x0⟩ /- DRIVE_MON -/,
    ⟨22, 1, 1, .plain, 0x0, 0x0, 0x0⟩ /- I_DQ -/,
    ⟨23, 1, 1, .plain, 0x0, 0x0, 0x0⟩ /- V_DQ -/,
    ⟨24, 1, 1, .plain, 0x0, 0x0, 0x0⟩ /- USER -/,
    ⟨25, 1, 1, .plain, 0x0, 0x0, 0x0⟩ /- OP_STAT -/,
    ⟨26, 1, 1, .plain, 0xfffffffff, 0x0, 0x100000000⟩ /- LEARN_CFG -/,
    ⟨27, 1, 1, .plain, 0x3ffff, 0x0, 0x83⟩ /- LEARN_SPEED -/,
    ⟨28, 1, 1, .plain, 0x0, 0x3ff, 0x0⟩ /- EVENTS -/,
    ⟨29, 1, 1, .event 16, 0xffff, 0x0, 0x0⟩ /- STALL_COUNT -/,
    ⟨30, 1, 1, .event 16, 0xffff, 0x0, 0x0⟩ /- REFUSE_COUNT -/,
    ⟨31, 1, 1, .event 16, 0xffff, 0x0, 0x0⟩ /- XFER_COUNT -/,
    ⟨32, 1, 1, .holding 16, 0x0, 0x0, 0x0⟩ /- SET_POS_H -/,
    ⟨33, 1, 1, .holding 17, 0x0, 0x0, 0x0⟩ /- FB_POS_H -/,
    ⟨34, 1, 1, .holding 18, 0x0, 0x0, 0x0⟩ /- SET_VEL_H -/,
    ⟨35, 1, 1, .holding 29, 0x0, 0x0, 0x0⟩ /- STALL_COUNT_H -/,
    ⟨36, 1, 1, .holding 30, 0x0, 0x0, 0x0⟩ /- REFUSE_COUNT_H -/,
    ⟨37, 1, 1, .holding 31, 0x0, 0x0, 0x0⟩ /- XFER_COUNT_H -/ ]

/-- R286: the registers of block FB. -/
def specsFB : List RegSpec :=
  [ ⟨0, 1, 1, .plain, 0x3ff80, 0x0, 0x1f000⟩ /- CFG -/,
    ⟨1, 1, 1, .plain, 0x0, 0x0, 0x0⟩ /- CMD -/,
    ⟨2, 1, 1, .plain, 0x0, 0x7f, 0x4000⟩ /- STATUS -/,
    ⟨3, 1, 1, .plain, 0x0, 0x0, 0x0⟩ /- COUNT -/,
    ⟨4, 1, 1, .plain, 0x0, 0x0, 0x0⟩ /- POS -/,
    ⟨5, 1, 1, .plain, 0x0, 0x0, 0x0⟩ /- SPEED -/,
    ⟨6, 1, 1, .interval 24, 0xffffff, 0x0, 0x0⟩ /- INTERVAL -/,
    ⟨7, 1, 1, .plain, 0x0, 0x0, 0x0⟩ /- EDGE_TS -/,
    ⟨8, 1, 1, .plain, 0x0, 0x0, 0x0⟩ /- REF_POS -/,
    ⟨9, 1, 1, .plain, 0x0, 0x0, 0x7000⟩ /- INDEX_INFO -/,
    ⟨10, 1, 1, .event 16, 0xffff, 0x0, 0x0⟩ /- IDX_ERR_COUNT -/,
    ⟨11, 1, 1, .event 16, 0xffff, 0x0, 0x0⟩ /- TRANS_ERR_COUNT -/,
    ⟨12, 1, 1, .plain, 0x0, 0x0, 0x0⟩ /- SSI_RAW -/,
    ⟨13, 1, 1, .event 16, 0xffff, 0x0, 0x0⟩ /- SSI_REJECT_COUNT -/,
    ⟨14, 1, 1, .plain, 0xfffffffff, 0x0, 0x0⟩ /- PRESET_VAL -/,
    ⟨16, 1, 1, .holding 4, 0x0, 0x0, 0x0⟩ /- POS_H -/,
    ⟨17, 1, 1, .holding 5, 0x0, 0x0, 0x0⟩ /- SPEED_H -/,
    ⟨18, 1, 1, .holding 7, 0x0, 0x0, 0x0⟩ /- EDGE_TS_H -/,
    ⟨19, 1, 1, .holding 10, 0x0, 0x0, 0x0⟩ /- IDX_ERR_COUNT_H -/,
    ⟨20, 1, 1, .holding 11, 0x0, 0x0, 0x0⟩ /- TRANS_ERR_COUNT_H -/,
    ⟨21, 1, 1, .holding 13, 0x0, 0x0, 0x0⟩ /- SSI_REJECT_COUNT_H -/ ]

/-- R128: the registers of block LG. -/
def specsLG : List RegSpec :=
  [ ⟨0, 8, 1, .plain, 0xfffffffff, 0x0, 0xfa1440000⟩ /- LEG_CFG -/,
    ⟨8, 8, 1, .plain, 0x0, 0x3f, 0x0⟩ /- LEG_STAT -/,
    ⟨16, 8, 1, .plain, 0x0, 0x0, 0x0⟩ /- LEAK_H -/,
    ⟨24, 8, 1, .plain, 0x0, 0x0, 0x0⟩ /- LEAK_L -/,
    ⟨32, 1, 1, .plain, 0x0, 0x0, 0x0⟩ /- CMD -/,
    ⟨33, 1, 1, .plain, 0x0, 0x20, 0x0⟩ /- OP_STAT -/,
    ⟨34, 1, 1, .plain, 0x0, 0x0, 0x0⟩ /- WIRE_RESULT -/,
    ⟨35, 1, 1, .plain, 0xfffffffff, 0x0, 0xfa0064ff⟩ /- LEAK_CFG -/,
    ⟨36, 1, 1, .plain, 0x0, 0x0, 0x0⟩ /- SUPPLY -/,
    ⟨37, 1, 1, .event 16, 0xffff, 0x0, 0x0⟩ /- SC_COUNT -/,
    ⟨38, 1, 1, .event 16, 0xffff, 0x0, 0x0⟩ /- RETRY_COUNT -/,
    ⟨39, 1, 1, .event 16, 0xffff, 0x0, 0x0⟩ /- HS_STRETCH -/,
    ⟨40, 1, 1, .event 16, 0xffff, 0x0, 0x0⟩ /- BOTHON_COUNT -/,
    ⟨41, 1, 1, .holding 37, 0x0, 0x0, 0x0⟩ /- SC_COUNT_H -/,
    ⟨42, 1, 1, .holding 38, 0x0, 0x0, 0x0⟩ /- RETRY_COUNT_H -/,
    ⟨43, 1, 1, .holding 39, 0x0, 0x0, 0x0⟩ /- HS_STRETCH_H -/,
    ⟨44, 1, 1, .holding 40, 0x0, 0x0, 0x0⟩ /- BOTHON_COUNT_H -/ ]

/-- R155: the registers of block PW. -/
def specsPW : List RegSpec :=
  [ ⟨0, 8, 1, .plain, 0x3ff00, 0x0, 0x0⟩ /- OUTCFG -/,
    ⟨8, 8, 1, .plain, 0xffffffff, 0x0, 0x0⟩ /- MASK -/,
    ⟨16, 8, 1, .plain, 0x0, 0x0, 0x0⟩ /- DUTY -/,
    ⟨24, 8, 1, .plain, 0xfffff, 0x0, 0x0⟩ /- TRIP_CFG -/,
    ⟨32, 1, 1, .plain, 0x0, 0x20000, 0x0⟩ /- TRIP_STAT -/,
    ⟨33, 1, 1, .plain, 0x0, 0x0, 0x0⟩ /- CMD -/,
    ⟨34, 1, 1, .plain, 0x0, 0x0, 0x38000⟩ /- CAL_STAT -/,
    ⟨35, 1, 1, .plain, 0xf, 0x0, 0x4⟩ /- HALT_CFG -/,
    ⟨36, 1, 1, .plain, 0x0, 0xf, 0x0⟩ /- STATUS -/,
    ⟨37, 1, 1, .event 16, 0xffff, 0x0, 0x0⟩ /- LATE_COUNT -/,
    ⟨38, 1, 1, .event 16, 0xffff, 0x0, 0x0⟩ /- CAL_FAIL -/,
    ⟨39, 1, 1, .holding 37, 0x0, 0x0, 0x0⟩ /- LATE_COUNT_H -/,
    ⟨40, 1, 1, .holding 38, 0x0, 0x0, 0x0⟩ /- CAL_FAIL_H -/ ]

/-- R183: the registers of block AD. -/
def specsAD : List RegSpec :=
  [ ⟨0, 4, 1, .plain, 0xff0f, 0x0, 0x10c⟩ /- CORE_CFG -/,
    ⟨4, 1, 1, .plain, 0x0, 0x0, 0x0⟩ /- CMD -/,
    ⟨5, 1, 1, .plain, 0x0, 0x0, 0x0⟩ /- OP_STAT -/,
    ⟨6, 1, 1, .plain, 0x0, 0xf0, 0x0⟩ /- STATUS -/,
    ⟨7, 1, 1, .plain, 0x3f, 0x0, 0x0⟩ /- CAL_SEL -/,
    ⟨8, 1, 1, .plain, 0x0, 0x0, 0x0⟩ /- CAL_OFS -/,
    ⟨9, 1, 1, .plain, 0x0, 0x0, 0x0⟩ /- CAL_GAIN -/,
    ⟨10, 1, 1, .event 16, 0xffff, 0x0, 0x0⟩ /- OVR_COUNT -/,
    ⟨11, 1, 1, .event 16, 0xffff, 0x0, 0x0⟩ /- MISS_COUNT -/,
    ⟨12, 1, 1, .event 16, 0xffff, 0x0, 0x0⟩ /- HK_MISS -/,
    ⟨13, 1, 1, .holding 10, 0x0, 0x0, 0x0⟩ /- OVR_COUNT_H -/,
    ⟨14, 1, 1, .holding 11, 0x0, 0x0, 0x0⟩ /- MISS_COUNT_H -/,
    ⟨15, 1, 1, .holding 12, 0x0, 0x0, 0x0⟩ /- HK_MISS_H -/,
    ⟨32, 32, 1, .plain, 0x0, 0x0, 0x0⟩ /- RESULT -/ ]

/-- Table 2.2 (R26): the blocks. -/
def blockTable : List BlockSpec :=
  [ ⟨0x0, 1, 4, specsSYS⟩,
    ⟨0x1, 1, 4, specsCLK⟩,
    ⟨0x2, 1, 4, specsINV⟩,
    ⟨0x3, 1, 4, specsBOX⟩,
    ⟨0x4, 1, 5, specsFLT⟩,
    ⟨0x5, 1, 6, specsPRT⟩,
    ⟨0x6, 1, 5, specsLAD⟩,
    ⟨0x7, 1, 9, specsHST⟩,
    ⟨0x8, 1, 5, specsLDC⟩,
    ⟨0x9, 1, 7, specsPLN⟩,
    ⟨0xa, 1, 6, specsENG⟩,
    ⟨0xb, 1, 7, specsCMP⟩,
    ⟨0xc, 1, 6, specsHAT⟩,
    ⟨0xd, 1, 6, specsCPO⟩,
    ⟨0x10, 8, 6, specsAX⟩,
    ⟨0x18, 8, 5, specsFB⟩,
    ⟨0x20, 4, 6, specsLG⟩,
    ⟨0x24, 4, 6, specsPW⟩,
    ⟨0x28, 2, 6, specsAD⟩ ]

/-! Register keys. -/
namespace R

abbrev SYS_ID : Nat := 0
abbrev SYS_FEATURES : Nat := 1
abbrev SYS_STATUS : Nat := 2
abbrev SYS_SERIAL_LO : Nat := 3
abbrev SYS_SERIAL_HI : Nat := 4
abbrev SYS_TIME : Nat := 5
abbrev SYS_TIME_H : Nat := 6
abbrev SYS_STOCK_AT : Nat := 7
abbrev SYS_STOCKTAKE : Nat := 8
abbrev SYS_STOCK_DONE : Nat := 9
abbrev SYS_REPLACE_WHY : Nat := 10
abbrev SYS_SCRATCH : Nat := 11
abbrev SYS_RESET : Nat := 12
abbrev CLK_PLL_STAT : Nat := 512
abbrev CLK_POWER : Nat := 513
abbrev CLK_TEMP_LD : Nat := 514
abbrev CLK_TEMP_GD0 : Nat := 515
abbrev CLK_TEMP_GD1 : Nat := 516
abbrev CLK_VAUX : Nat := 517
abbrev CLK_PWR_EST : Nat := 518
abbrev CLK_PLL_LOSS : Nat := 519
abbrev CLK_LINK0_ERR : Nat := 520
abbrev CLK_LINK1_ERR : Nat := 521
abbrev INV_CMD : Nat := 1024
abbrev INV_OP_STAT : Nat := 1025
abbrev INV_ERR_AT : Nat := 1026
abbrev INV_SRC_ADDR : Nat := 1027
abbrev INV_ACTIVE : Nat := 1028
abbrev INV_IMAGE_ID : Nat := 1029
abbrev INV_AXIS_MAP : Nat := 1030
abbrev INV_LEG_MAP (m : Fin 4) : Nat := 1031 + m.val
abbrev INV_NEXT_BOOT : Nat := 1035
abbrev INV_PROGRESS : Nat := 1036
abbrev INV_BUDGET : Nat := 1037
abbrev BOX_STATUS : Nat := 1536
abbrev BOX_CMD : Nat := 1537
abbrev BOX_OP_STAT : Nat := 1538
abbrev BOX_KEY_DATA : Nat := 1539
abbrev BOX_KEY_CRC : Nat := 1540
abbrev BOX_RING_SEL : Nat := 1541
abbrev BOX_RING_DATA : Nat := 1542
abbrev BOX_RING_COUNT : Nat := 1543
abbrev BOX_LIFE_SEL : Nat := 1544
abbrev BOX_LIFE_DATA : Nat := 1545
abbrev BOX_DROP_COUNT : Nat := 1546
abbrev BOX_DROP_COUNT_H : Nat := 1547
abbrev FLT_STATUS : Nat := 2048
abbrev FLT_CMD : Nat := 2049
abbrev FLT_REC0 : Nat := 2050
abbrev FLT_REC1 : Nat := 2051
abbrev FLT_Q_LEVEL : Nat := 2052
abbrev FLT_TRAP_STAT : Nat := 2053
abbrev FLT_STOP_CFG : Nat := 2054
abbrev FLT_LATCH_CFG : Nat := 2055
abbrev FLT_SUPPLY : Nat := 2056
abbrev FLT_BRK_HEAT : Nat := 2057
abbrev FLT_OVERFLOW : Nat := 2058
abbrev FLT_TRAP_COUNT : Nat := 2059
abbrev FLT_OVERFLOW_H : Nat := 2060
abbrev FLT_TRAP_COUNT_H : Nat := 2061
abbrev PRT_HP_STAT : Nat := 2560
abbrev PRT_CMD_ERR_COUNT : Nat := 2561
abbrev PRT_DATA_CRC_COUNT : Nat := 2562
abbrev PRT_ABORT_COUNT : Nat := 2563
abbrev PRT_OVERCLOCK_COUNT : Nat := 2564
abbrev PRT_CMD_ERR_COUNT_H : Nat := 2565
abbrev PRT_DATA_CRC_COUNT_H : Nat := 2566
abbrev PRT_ABORT_COUNT_H : Nat := 2567
abbrev PRT_OVERCLOCK_COUNT_H : Nat := 2568
abbrev PRT_BOOT_STAT : Nat := 2569
abbrev PRT_P_CFG (m : Fin 4) : Nat := 2576 + 8 * m.val
abbrev PRT_P_XFER (m : Fin 4) : Nat := 2577 + 8 * m.val
abbrev PRT_P_DATA (m : Fin 4) : Nat := 2578 + 8 * m.val
abbrev PRT_P_STAT (m : Fin 4) : Nat := 2579 + 8 * m.val
abbrev PRT_P_LEN (m : Fin 4) : Nat := 2580 + 8 * m.val
abbrev PRT_P_BUSYPAT (m : Fin 4) : Nat := 2581 + 8 * m.val
abbrev PRT_P_RETRY_COUNT (m : Fin 4) : Nat := 2582 + 8 * m.val
abbrev PRT_P_RETRY_COUNT_H (m : Fin 4) : Nat := 2583 + 8 * m.val
abbrev LAD_STATUS : Nat := 3072
abbrev LAD_CFG : Nat := 3073
abbrev LAD_RATE : Nat := 3074
abbrev LAD_IP_ADDR : Nat := 3075
abbrev LAD_MAC_HI : Nat := 3076
abbrev LAD_MAC_LO : Nat := 3077
abbrev LAD_PORT_STAT : Nat := 3078
abbrev LAD_PTP_STAT : Nat := 3079
abbrev LAD_PTP_SEC : Nat := 3080
abbrev LAD_PTP_NS : Nat := 3081
abbrev LAD_PTP_OFFSET : Nat := 3082
abbrev LAD_SESS_SEL : Nat := 3083
abbrev LAD_SESS_INFO : Nat := 3084
abbrev LAD_SESS_ADDR : Nat := 3085
abbrev LAD_PARTNERS : Nat := 3086
abbrev LAD_CMD : Nat := 3087
abbrev LAD_RX_RATE_DROP : Nat := 3088
abbrev LAD_AUTH_FAIL : Nat := 3089
abbrev LAD_REPLAY : Nat := 3090
abbrev LAD_MALFORMED : Nat := 3091
abbrev LAD_QUAR_DROP : Nat := 3092
abbrev LAD_STREAM_REJECT : Nat := 3093
abbrev LAD_FWD_DROP : Nat := 3094
abbrev LAD_RX_RATE_DROP_H : Nat := 3096
abbrev LAD_AUTH_FAIL_H : Nat := 3097
abbrev LAD_REPLAY_H : Nat := 3098
abbrev LAD_MALFORMED_H : Nat := 3099
abbrev LAD_QUAR_DROP_H : Nat := 3100
abbrev LAD_STREAM_REJECT_H : Nat := 3101
abbrev LAD_FWD_DROP_H : Nat := 3102
abbrev HST_WINDOW (m : Fin 256) : Nat := 3584 + m.val
abbrev HST_PTR_HP : Nat := 3840
abbrev HST_PTR_LAD : Nat := 3841
abbrev HST_CMD : Nat := 3842
abbrev HST_OP_STAT : Nat := 3843
abbrev HST_SRC : Nat := 3844
abbrev HST_DST : Nat := 3845
abbrev HST_LEN : Nat := 3846
abbrev HST_VALUE : Nat := 3847
abbrev HST_STATUS : Nat := 3848
abbrev HST_ERR_ADDR : Nat := 3849
abbrev HST_WORD_COUNT : Nat := 3850
abbrev HST_WORD_COUNT_H : Nat := 3851
abbrev LDC_STATUS : Nat := 4096
abbrev LDC_TEMP : Nat := 4097
abbrev LDC_SCRUB_CFG : Nat := 4098
abbrev LDC_SCRUB_POS : Nat := 4099
abbrev LDC_ECC_CFG : Nat := 4100
abbrev LDC_LAST_ERR : Nat := 4101
abbrev LDC_LAST_INFO : Nat := 4102
abbrev LDC_SPARES : Nat := 4103
abbrev LDC_WSEQ : Nat := 4104
abbrev LDC_CORR_COUNT : Nat := 4105
abbrev LDC_UNCORR_COUNT : Nat := 4106
abbrev LDC_CORR_COUNT_H : Nat := 4107
abbrev LDC_UNCORR_COUNT_H : Nat := 4108
abbrev LDC_LAST_POS : Nat := 4109
abbrev PLN_CMD : Nat := 4608
abbrev PLN_OP_STAT : Nat := 4609
abbrev PLN_EXEC : Nat := 4610
abbrev PLN_EXEC_ADDR : Nat := 4611
abbrev PLN_LA_STAT : Nat := 4612
abbrev PLN_ERR_ADDR : Nat := 4613
abbrev PLN_OVR : Nat := 4614
abbrev PLN_PATH_VEL : Nat := 4615
abbrev PLN_CFG : Nat := 4616
abbrev PLN_TOL : Nat := 4617
abbrev PLN_SYNC_CFG : Nat := 4618
abbrev PLN_STREAM_CFG : Nat := 4619
abbrev PLN_COMP_OFF : Nat := 4620
abbrev PLN_STATUS : Nat := 4621
abbrev PLN_IN_STATE : Nat := 4622
abbrev PLN_OUT_STATE : Nat := 4623
abbrev PLN_PSCALE (m : Fin 8) : Nat := 4624 + m.val
abbrev PLN_COMP_NOW (m : Fin 8) : Nat := 4632 + m.val
abbrev PLN_STARVE_COUNT : Nat := 4640
abbrev PLN_LATE_SP_COUNT : Nat := 4641
abbrev PLN_BLOCK_COUNT : Nat := 4642
abbrev PLN_STARVE_COUNT_H : Nat := 4643
abbrev PLN_LATE_SP_COUNT_H : Nat := 4644
abbrev PLN_BLOCK_COUNT_H : Nat := 4645
abbrev PLN_PROG (m : Fin 64) : Nat := 4672 + m.val
abbrev ENG_STATUS : Nat := 5120
abbrev ENG_LOAD : Nat := 5121
abbrev ENG_OVERRUN : Nat := 5122
abbrev ENG_FETCH_MISS : Nat := 5123
abbrev ENG_STORE_CORR : Nat := 5124
abbrev ENG_OVERRUN_H : Nat := 5125
abbrev ENG_FETCH_MISS_H : Nat := 5126
abbrev ENG_STORE_CORR_H : Nat := 5127
abbrev ENG_WIN_SEL : Nat := 5128
abbrev ENG_WIN_DATA : Nat := 5129
abbrev ENG_CMD : Nat := 5130
abbrev ENG_OP_STAT : Nat := 5131
abbrev ENG_SLOT (m : Fin 8) : Nat := 5136 + m.val
abbrev ENG_OBS_A (m : Fin 8) : Nat := 5144 + m.val
abbrev ENG_OBS_B (m : Fin 8) : Nat := 5152 + m.val
abbrev ENG_SUPV (m : Fin 8) : Nat := 5160 + m.val
abbrev CMP_CFG (m : Fin 64) : Nat := 5632 + m.val
abbrev CMP_CMD : Nat := 5696
abbrev CMP_OP_STAT : Nat := 5697
abbrev CMP_OUT_LO : Nat := 5698
abbrev CMP_OUT_HI : Nat := 5699
abbrev CMP_EVT_LO : Nat := 5700
abbrev CMP_EVT_HI : Nat := 5701
abbrev CMP_FAILED_LO : Nat := 5702
abbrev CMP_FAILED_HI : Nat := 5703
abbrev CMP_AUDIT_CFG : Nat := 5704
abbrev CMP_EVT_COUNT : Nat := 5705
abbrev CMP_EVT_COUNT_H : Nat := 5706
abbrev HAT_STATUS : Nat := 6144
abbrev HAT_CMD : Nat := 6145
abbrev HAT_OP_STAT : Nat := 6146
abbrev HAT_HT_CFG (m : Fin 8) : Nat := 6152 + m.val
abbrev HAT_HT_TARGET (m : Fin 8) : Nat := 6160 + m.val
abbrev HAT_HT_COUNT (m : Fin 8) : Nat := 6168 + m.val
abbrev HAT_CMDA_CFG (m : Fin 4) : Nat := 6176 + m.val
abbrev HAT_CMDA_VAL (m : Fin 4) : Nat := 6180 + m.val
abbrev HAT_DIR_RACE_COUNT : Nat := 6184
abbrev HAT_COLLIDE_COUNT : Nat := 6185
abbrev HAT_LOST_COUNT : Nat := 6186
abbrev HAT_DIR_RACE_COUNT_H : Nat := 6187
abbrev HAT_COLLIDE_COUNT_H : Nat := 6188
abbrev HAT_LOST_COUNT_H : Nat := 6189
abbrev CPO_CFG (m : Fin 8) : Nat := 6656 + m.val
abbrev CPO_LIST (m : Fin 8) : Nat := 6664 + m.val
abbrev CPO_PTR (m : Fin 8) : Nat := 6672 + m.val
abbrev CPO_NEXT (m : Fin 8) : Nat := 6680 + m.val
abbrev CPO_CMD : Nat := 6688
abbrev CPO_STATUS : Nat := 6689
abbrev CPO_MISS_COUNT : Nat := 6690
abbrev CPO_MERGE_COUNT : Nat := 6691
abbrev CPO_MISS_COUNT_H : Nat := 6692
abbrev CPO_MERGE_COUNT_H : Nat := 6693
abbrev AX_CMD (n : Fin 8) : Nat := 8192 + 512 * n.val
abbrev AX_STATE (n : Fin 8) : Nat := 8193 + 512 * n.val
abbrev AX_CTRL (n : Fin 8) : Nat := 8194 + 512 * n.val
abbrev AX_PROF_CTRL (n : Fin 8) : Nat := 8195 + 512 * n.val
abbrev AX_PROF_VMAX (n : Fin 8) : Nat := 8196 + 512 * n.val
abbrev AX_PROF_AMAX (n : Fin 8) : Nat := 8197 + 512 * n.val
abbrev AX_PROF_JMAX (n : Fin 8) : Nat := 8198 + 512 * n.val
abbrev AX_PROF_QDEC (n : Fin 8) : Nat := 8199 + 512 * n.val
abbrev AX_TARGET_POS (n : Fin 8) : Nat := 8200 + 512 * n.val
abbrev AX_TARGET_VEL (n : Fin 8) : Nat := 8201 + 512 * n.val
abbrev AX_CUR (n : Fin 8) : Nat := 8202 + 512 * n.val
abbrev AX_ECON (n : Fin 8) : Nat := 8203 + 512 * n.val
abbrev AX_STALL_CFG (n : Fin 8) : Nat := 8204 + 512 * n.val
abbrev AX_FOLLOW_MAX (n : Fin 8) : Nat := 8205 + 512 * n.val
abbrev AX_XFER_CFG (n : Fin 8) : Nat := 8206 + 512 * n.val
abbrev AX_COMM (n : Fin 8) : Nat := 8207 + 512 * n.val
abbrev AX_SET_POS (n : Fin 8) : Nat := 8208 + 512 * n.val
abbrev AX_FB_POS (n : Fin 8) : Nat := 8209 + 512 * n.val
abbrev AX_SET_VEL (n : Fin 8) : Nat := 8210 + 512 * n.val
abbrev AX_SPEED (n : Fin 8) : Nat := 8211 + 512 * n.val
abbrev AX_ANGLES (n : Fin 8) : Nat := 8212 + 512 * n.val
abbrev AX_DRIVE_MON (n : Fin 8) : Nat := 8213 + 512 * n.val
abbrev AX_I_DQ (n : Fin 8) : Nat := 8214 + 512 * n.val
abbrev AX_V_DQ (n : Fin 8) : Nat := 8215 + 512 * n.val
abbrev AX_USER (n : Fin 8) : Nat := 8216 + 512 * n.val
abbrev AX_OP_STAT (n : Fin 8) : Nat := 8217 + 512 * n.val
abbrev AX_LEARN_CFG (n : Fin 8) : Nat := 8218 + 512 * n.val
abbrev AX_LEARN_SPEED (n : Fin 8) : Nat := 8219 + 512 * n.val
abbrev AX_EVENTS (n : Fin 8) : Nat := 8220 + 512 * n.val
abbrev AX_STALL_COUNT (n : Fin 8) : Nat := 8221 + 512 * n.val
abbrev AX_REFUSE_COUNT (n : Fin 8) : Nat := 8222 + 512 * n.val
abbrev AX_XFER_COUNT (n : Fin 8) : Nat := 8223 + 512 * n.val
abbrev AX_SET_POS_H (n : Fin 8) : Nat := 8224 + 512 * n.val
abbrev AX_FB_POS_H (n : Fin 8) : Nat := 8225 + 512 * n.val
abbrev AX_SET_VEL_H (n : Fin 8) : Nat := 8226 + 512 * n.val
abbrev AX_STALL_COUNT_H (n : Fin 8) : Nat := 8227 + 512 * n.val
abbrev AX_REFUSE_COUNT_H (n : Fin 8) : Nat := 8228 + 512 * n.val
abbrev AX_XFER_COUNT_H (n : Fin 8) : Nat := 8229 + 512 * n.val
abbrev FB_CFG (n : Fin 8) : Nat := 12288 + 512 * n.val
abbrev FB_CMD (n : Fin 8) : Nat := 12289 + 512 * n.val
abbrev FB_STATUS (n : Fin 8) : Nat := 12290 + 512 * n.val
abbrev FB_COUNT (n : Fin 8) : Nat := 12291 + 512 * n.val
abbrev FB_POS (n : Fin 8) : Nat := 12292 + 512 * n.val
abbrev FB_SPEED (n : Fin 8) : Nat := 12293 + 512 * n.val
abbrev FB_INTERVAL (n : Fin 8) : Nat := 12294 + 512 * n.val
abbrev FB_EDGE_TS (n : Fin 8) : Nat := 12295 + 512 * n.val
abbrev FB_REF_POS (n : Fin 8) : Nat := 12296 + 512 * n.val
abbrev FB_INDEX_INFO (n : Fin 8) : Nat := 12297 + 512 * n.val
abbrev FB_IDX_ERR_COUNT (n : Fin 8) : Nat := 12298 + 512 * n.val
abbrev FB_TRANS_ERR_COUNT (n : Fin 8) : Nat := 12299 + 512 * n.val
abbrev FB_SSI_RAW (n : Fin 8) : Nat := 12300 + 512 * n.val
abbrev FB_SSI_REJECT_COUNT (n : Fin 8) : Nat := 12301 + 512 * n.val
abbrev FB_PRESET_VAL (n : Fin 8) : Nat := 12302 + 512 * n.val
abbrev FB_POS_H (n : Fin 8) : Nat := 12304 + 512 * n.val
abbrev FB_SPEED_H (n : Fin 8) : Nat := 12305 + 512 * n.val
abbrev FB_EDGE_TS_H (n : Fin 8) : Nat := 12306 + 512 * n.val
abbrev FB_IDX_ERR_COUNT_H (n : Fin 8) : Nat := 12307 + 512 * n.val
abbrev FB_TRANS_ERR_COUNT_H (n : Fin 8) : Nat := 12308 + 512 * n.val
abbrev FB_SSI_REJECT_COUNT_H (n : Fin 8) : Nat := 12309 + 512 * n.val
abbrev LG_LEG_CFG (n : Fin 4) (m : Fin 8) : Nat := 16384 + 512 * n.val + m.val
abbrev LG_LEG_STAT (n : Fin 4) (m : Fin 8) : Nat := 16392 + 512 * n.val + m.val
abbrev LG_LEAK_H (n : Fin 4) (m : Fin 8) : Nat := 16400 + 512 * n.val + m.val
abbrev LG_LEAK_L (n : Fin 4) (m : Fin 8) : Nat := 16408 + 512 * n.val + m.val
abbrev LG_CMD (n : Fin 4) : Nat := 16416 + 512 * n.val
abbrev LG_OP_STAT (n : Fin 4) : Nat := 16417 + 512 * n.val
abbrev LG_WIRE_RESULT (n : Fin 4) : Nat := 16418 + 512 * n.val
abbrev LG_LEAK_CFG (n : Fin 4) : Nat := 16419 + 512 * n.val
abbrev LG_SUPPLY (n : Fin 4) : Nat := 16420 + 512 * n.val
abbrev LG_SC_COUNT (n : Fin 4) : Nat := 16421 + 512 * n.val
abbrev LG_RETRY_COUNT (n : Fin 4) : Nat := 16422 + 512 * n.val
abbrev LG_HS_STRETCH (n : Fin 4) : Nat := 16423 + 512 * n.val
abbrev LG_BOTHON_COUNT (n : Fin 4) : Nat := 16424 + 512 * n.val
abbrev LG_SC_COUNT_H (n : Fin 4) : Nat := 16425 + 512 * n.val
abbrev LG_RETRY_COUNT_H (n : Fin 4) : Nat := 16426 + 512 * n.val
abbrev LG_HS_STRETCH_H (n : Fin 4) : Nat := 16427 + 512 * n.val
abbrev LG_BOTHON_COUNT_H (n : Fin 4) : Nat := 16428 + 512 * n.val
abbrev PW_OUTCFG (n : Fin 4) (m : Fin 8) : Nat := 18432 + 512 * n.val + m.val
abbrev PW_MASK (n : Fin 4) (m : Fin 8) : Nat := 18440 + 512 * n.val + m.val
abbrev PW_DUTY (n : Fin 4) (m : Fin 8) : Nat := 18448 + 512 * n.val + m.val
abbrev PW_TRIP_CFG (n : Fin 4) (m : Fin 8) : Nat := 18456 + 512 * n.val + m.val
abbrev PW_TRIP_STAT (n : Fin 4) : Nat := 18464 + 512 * n.val
abbrev PW_CMD (n : Fin 4) : Nat := 18465 + 512 * n.val
abbrev PW_CAL_STAT (n : Fin 4) : Nat := 18466 + 512 * n.val
abbrev PW_HALT_CFG (n : Fin 4) : Nat := 18467 + 512 * n.val
abbrev PW_STATUS (n : Fin 4) : Nat := 18468 + 512 * n.val
abbrev PW_LATE_COUNT (n : Fin 4) : Nat := 18469 + 512 * n.val
abbrev PW_CAL_FAIL (n : Fin 4) : Nat := 18470 + 512 * n.val
abbrev PW_LATE_COUNT_H (n : Fin 4) : Nat := 18471 + 512 * n.val
abbrev PW_CAL_FAIL_H (n : Fin 4) : Nat := 18472 + 512 * n.val
abbrev AD_CORE_CFG (n : Fin 2) (m : Fin 4) : Nat := 20480 + 512 * n.val + m.val
abbrev AD_CMD (n : Fin 2) : Nat := 20484 + 512 * n.val
abbrev AD_OP_STAT (n : Fin 2) : Nat := 20485 + 512 * n.val
abbrev AD_STATUS (n : Fin 2) : Nat := 20486 + 512 * n.val
abbrev AD_CAL_SEL (n : Fin 2) : Nat := 20487 + 512 * n.val
abbrev AD_CAL_OFS (n : Fin 2) : Nat := 20488 + 512 * n.val
abbrev AD_CAL_GAIN (n : Fin 2) : Nat := 20489 + 512 * n.val
abbrev AD_OVR_COUNT (n : Fin 2) : Nat := 20490 + 512 * n.val
abbrev AD_MISS_COUNT (n : Fin 2) : Nat := 20491 + 512 * n.val
abbrev AD_HK_MISS (n : Fin 2) : Nat := 20492 + 512 * n.val
abbrev AD_OVR_COUNT_H (n : Fin 2) : Nat := 20493 + 512 * n.val
abbrev AD_MISS_COUNT_H (n : Fin 2) : Nat := 20494 + 512 * n.val
abbrev AD_HK_MISS_H (n : Fin 2) : Nat := 20495 + 512 * n.val
abbrev AD_RESULT (n : Fin 2) (m : Fin 32) : Nat := 20512 + 512 * n.val + m.val

end R

/-! Register fields. -/
namespace F

abbrev SYS_ID_VENDOR : Fld := ⟨R.SYS_ID, 35, 24⟩
abbrev SYS_ID_PART : Fld := ⟨R.SYS_ID, 23, 8⟩
abbrev SYS_ID_LD_STEP : Fld := ⟨R.SYS_ID, 7, 4⟩
abbrev SYS_ID_GD_STEP : Fld := ⟨R.SYS_ID, 3, 0⟩
abbrev SYS_FEATURES_LARDER_LOG2 : Fld := ⟨R.SYS_FEATURES, 10, 6⟩
abbrev SYS_FEATURES_P3_LONG : Fld := ⟨R.SYS_FEATURES, 5, 5⟩
abbrev SYS_FEATURES_GD1 : Fld := ⟨R.SYS_FEATURES, 4, 4⟩
abbrev SYS_FEATURES_LADDER_PORTS : Fld := ⟨R.SYS_FEATURES, 3, 2⟩
abbrev SYS_STATUS_REPLACE : Fld := ⟨R.SYS_STATUS, 11, 11⟩
abbrev SYS_STATUS_FAULT_PENDING : Fld := ⟨R.SYS_STATUS, 10, 10⟩
abbrev SYS_STATUS_BARE : Fld := ⟨R.SYS_STATUS, 9, 9⟩
abbrev SYS_STATUS_INV_OK : Fld := ⟨R.SYS_STATUS, 8, 8⟩
abbrev SYS_STATUS_PLL_LOCK : Fld := ⟨R.SYS_STATUS, 7, 7⟩
abbrev SYS_STATUS_TS_WRAP : Fld := ⟨R.SYS_STATUS, 4, 4⟩
abbrev SYS_STATUS_XD_TIMEOUT : Fld := ⟨R.SYS_STATUS, 3, 3⟩
abbrev SYS_STATUS_STOCK_REFUSED : Fld := ⟨R.SYS_STATUS, 2, 2⟩
abbrev SYS_STATUS_UNMAPPED : Fld := ⟨R.SYS_STATUS, 1, 1⟩
abbrev SYS_SERIAL_LO_SERIAL : Fld := ⟨R.SYS_SERIAL_LO, 35, 0⟩
abbrev SYS_SERIAL_HI_SERIAL : Fld := ⟨R.SYS_SERIAL_HI, 35, 0⟩
abbrev SYS_TIME_TIME : Fld := ⟨R.SYS_TIME, 35, 0⟩
abbrev SYS_TIME_H_TIME : Fld := ⟨R.SYS_TIME_H, 35, 0⟩
abbrev SYS_STOCK_AT_TIME : Fld := ⟨R.SYS_STOCK_AT, 35, 0⟩
abbrev SYS_STOCK_DONE_SOURCE : Fld := ⟨R.SYS_STOCK_DONE, 5, 4⟩
abbrev SYS_STOCK_DONE_MISSING_GD1 : Fld := ⟨R.SYS_STOCK_DONE, 3, 3⟩
abbrev SYS_STOCK_DONE_MISSING_GD0 : Fld := ⟨R.SYS_STOCK_DONE, 2, 2⟩
abbrev SYS_STOCK_DONE_PENDING : Fld := ⟨R.SYS_STOCK_DONE, 1, 1⟩
abbrev SYS_STOCK_DONE_DONE : Fld := ⟨R.SYS_STOCK_DONE, 0, 0⟩
abbrev SYS_REPLACE_WHY_LEG_RETIRED : Fld := ⟨R.SYS_REPLACE_WHY, 6, 6⟩
abbrev SYS_REPLACE_WHY_TEMP_SENSOR_LOST : Fld := ⟨R.SYS_REPLACE_WHY, 5, 5⟩
abbrev SYS_REPLACE_WHY_SLOT_FALLBACK : Fld := ⟨R.SYS_REPLACE_WHY, 4, 4⟩
abbrev SYS_REPLACE_WHY_DELAYLINE_COARSE : Fld := ⟨R.SYS_REPLACE_WHY, 3, 3⟩
abbrev SYS_REPLACE_WHY_GATE_LEAK_DRIFT : Fld := ⟨R.SYS_REPLACE_WHY, 2, 2⟩
abbrev SYS_REPLACE_WHY_ECC_RATE_HIGH : Fld := ⟨R.SYS_REPLACE_WHY, 1, 1⟩
abbrev SYS_REPLACE_WHY_LARDER_SPARES_LOW : Fld := ⟨R.SYS_REPLACE_WHY, 0, 0⟩
abbrev SYS_SCRATCH_SCRATCH : Fld := ⟨R.SYS_SCRATCH, 35, 0⟩
abbrev CLK_PLL_STAT_BACKUP_GD1 : Fld := ⟨R.CLK_PLL_STAT, 5, 5⟩
abbrev CLK_PLL_STAT_BACKUP_GD0 : Fld := ⟨R.CLK_PLL_STAT, 4, 4⟩
abbrev CLK_PLL_STAT_REF_PRESENT : Fld := ⟨R.CLK_PLL_STAT, 3, 3⟩
abbrev CLK_PLL_STAT_LOCK_LOST : Fld := ⟨R.CLK_PLL_STAT, 2, 2⟩
abbrev CLK_PLL_STAT_LOCK : Fld := ⟨R.CLK_PLL_STAT, 0, 0⟩
abbrev CLK_POWER_PORT_EN : Fld := ⟨R.CLK_POWER, 7, 4⟩
abbrev CLK_POWER_HATCH_EN : Fld := ⟨R.CLK_POWER, 3, 3⟩
abbrev CLK_POWER_PHY1_EN : Fld := ⟨R.CLK_POWER, 1, 1⟩
abbrev CLK_POWER_PHY0_EN : Fld := ⟨R.CLK_POWER, 0, 0⟩
abbrev CLK_TEMP_LD_VALUE : Fld := ⟨R.CLK_TEMP_LD, 15, 0⟩
abbrev CLK_TEMP_GD0_VALUE : Fld := ⟨R.CLK_TEMP_GD0, 15, 0⟩
abbrev CLK_TEMP_GD1_VALUE : Fld := ⟨R.CLK_TEMP_GD1, 15, 0⟩
abbrev CLK_VAUX_VALUE : Fld := ⟨R.CLK_VAUX, 15, 0⟩
abbrev CLK_PWR_EST_VALUE : Fld := ⟨R.CLK_PWR_EST, 15, 0⟩
abbrev CLK_PLL_LOSS_SAT : Fld := ⟨R.CLK_PLL_LOSS, 35, 35⟩
abbrev CLK_PLL_LOSS_COUNT : Fld := ⟨R.CLK_PLL_LOSS, 15, 0⟩
abbrev CLK_LINK0_ERR_SAT : Fld := ⟨R.CLK_LINK0_ERR, 35, 35⟩
abbrev CLK_LINK0_ERR_COUNT : Fld := ⟨R.CLK_LINK0_ERR, 15, 0⟩
abbrev CLK_LINK1_ERR_SAT : Fld := ⟨R.CLK_LINK1_ERR, 35, 35⟩
abbrev CLK_LINK1_ERR_COUNT : Fld := ⟨R.CLK_LINK1_ERR, 15, 0⟩
abbrev INV_OP_STAT_ERR_CODE : Fld := ⟨R.INV_OP_STAT, 31, 20⟩
abbrev INV_OP_STAT_LAST_OP : Fld := ⟨R.INV_OP_STAT, 19, 16⟩
abbrev INV_OP_STAT_CMD_REFUSED : Fld := ⟨R.INV_OP_STAT, 5, 5⟩
abbrev INV_OP_STAT_STAT : Fld := ⟨R.INV_OP_STAT, 4, 0⟩
abbrev INV_ERR_AT_SHELF : Fld := ⟨R.INV_ERR_AT, 34, 23⟩
abbrev INV_ERR_AT_WORD : Fld := ⟨R.INV_ERR_AT, 22, 0⟩
abbrev INV_SRC_ADDR_SRC_ADDR : Fld := ⟨R.INV_SRC_ADDR, 29, 3⟩
abbrev INV_ACTIVE_PARTIAL_APPLIED : Fld := ⟨R.INV_ACTIVE, 5, 5⟩
abbrev INV_ACTIVE_KEY_BLANK : Fld := ⟨R.INV_ACTIVE, 4, 4⟩
abbrev INV_ACTIVE_SLOT_B_OK : Fld := ⟨R.INV_ACTIVE, 3, 3⟩
abbrev INV_ACTIVE_SLOT_A_OK : Fld := ⟨R.INV_ACTIVE, 2, 2⟩
abbrev INV_ACTIVE_SOURCE : Fld := ⟨R.INV_ACTIVE, 1, 0⟩
abbrev INV_IMAGE_ID_IMAGE_ID : Fld := ⟨R.INV_IMAGE_ID, 35, 0⟩
abbrev INV_AXIS_MAP_AXES : Fld := ⟨R.INV_AXIS_MAP, 23, 0⟩
abbrev INV_LEG_MAP_LEGS (m : Fin 4) : Fld := ⟨R.INV_LEG_MAP m, 31, 0⟩
abbrev INV_NEXT_BOOT_NEXT_BOOT : Fld := ⟨R.INV_NEXT_BOOT, 1, 0⟩
abbrev INV_PROGRESS_WORD : Fld := ⟨R.INV_PROGRESS, 22, 0⟩
abbrev INV_BUDGET_SCHED_LOAD : Fld := ⟨R.INV_BUDGET, 27, 18⟩
abbrev INV_BUDGET_GATE_GD1 : Fld := ⟨R.INV_BUDGET, 17, 9⟩
abbrev INV_BUDGET_GATE_GD0 : Fld := ⟨R.INV_BUDGET, 8, 0⟩
abbrev BOX_STATUS_KEY_SET : Fld := ⟨R.BOX_STATUS, 4, 4⟩
abbrev BOX_STATUS_WRITE_FAIL : Fld := ⟨R.BOX_STATUS, 3, 3⟩
abbrev BOX_STATUS_CMD_REFUSED : Fld := ⟨R.BOX_STATUS, 2, 2⟩
abbrev BOX_STATUS_READY : Fld := ⟨R.BOX_STATUS, 1, 1⟩
abbrev BOX_OP_STAT_ERR_CODE : Fld := ⟨R.BOX_OP_STAT, 31, 20⟩
abbrev BOX_OP_STAT_LAST_OP : Fld := ⟨R.BOX_OP_STAT, 19, 16⟩
abbrev BOX_OP_STAT_STAT : Fld := ⟨R.BOX_OP_STAT, 4, 0⟩
abbrev BOX_KEY_CRC_CRC : Fld := ⟨R.BOX_KEY_CRC, 31, 0⟩
abbrev BOX_RING_SEL_WORD : Fld := ⟨R.BOX_RING_SEL, 11, 10⟩
abbrev BOX_RING_SEL_AGE : Fld := ⟨R.BOX_RING_SEL, 9, 0⟩
abbrev BOX_RING_DATA_DATA : Fld := ⟨R.BOX_RING_DATA, 35, 0⟩
abbrev BOX_RING_COUNT_SAT : Fld := ⟨R.BOX_RING_COUNT, 35, 35⟩
abbrev BOX_RING_COUNT_COUNT : Fld := ⟨R.BOX_RING_COUNT, 31, 0⟩
abbrev BOX_LIFE_SEL_INDEX : Fld := ⟨R.BOX_LIFE_SEL, 3, 0⟩
abbrev BOX_LIFE_DATA_VALUE : Fld := ⟨R.BOX_LIFE_DATA, 35, 0⟩
abbrev BOX_DROP_COUNT_SAT : Fld := ⟨R.BOX_DROP_COUNT, 35, 35⟩
abbrev BOX_DROP_COUNT_COUNT : Fld := ⟨R.BOX_DROP_COUNT, 15, 0⟩
abbrev FLT_STATUS_FAULT_OUT : Fld := ⟨R.FLT_STATUS, 11, 11⟩
abbrev FLT_STATUS_INLET_ON : Fld := ⟨R.FLT_STATUS, 10, 10⟩
abbrev FLT_STATUS_BRK_ON : Fld := ⟨R.FLT_STATUS, 9, 9⟩
abbrev FLT_STATUS_BRK_INHIBIT : Fld := ⟨R.FLT_STATUS, 8, 8⟩
abbrev FLT_STATUS_VM_REVERSED : Fld := ⟨R.FLT_STATUS, 7, 7⟩
abbrev FLT_STATUS_STOP_A : Fld := ⟨R.FLT_STATUS, 6, 6⟩
abbrev FLT_STATUS_STOP_B : Fld := ⟨R.FLT_STATUS, 5, 5⟩
abbrev FLT_STATUS_STOP_DISC : Fld := ⟨R.FLT_STATUS, 4, 4⟩
abbrev FLT_STATUS_REPLACE : Fld := ⟨R.FLT_STATUS, 3, 3⟩
abbrev FLT_STATUS_OVF : Fld := ⟨R.FLT_STATUS, 2, 2⟩
abbrev FLT_STATUS_RING_FAIL : Fld := ⟨R.FLT_STATUS, 1, 1⟩
abbrev FLT_STATUS_CMD_REFUSED : Fld := ⟨R.FLT_STATUS, 0, 0⟩
abbrev FLT_REC0_CODE : Fld := ⟨R.FLT_REC0, 35, 24⟩
abbrev FLT_REC0_SOURCE : Fld := ⟨R.FLT_REC0, 23, 18⟩
abbrev FLT_REC0_DIE : Fld := ⟨R.FLT_REC0, 17, 16⟩
abbrev FLT_REC0_AXIS_VALID : Fld := ⟨R.FLT_REC0, 15, 15⟩
abbrev FLT_REC0_AXIS : Fld := ⟨R.FLT_REC0, 14, 12⟩
abbrev FLT_REC0_REPEAT : Fld := ⟨R.FLT_REC0, 11, 0⟩
abbrev FLT_REC1_TIME : Fld := ⟨R.FLT_REC1, 35, 0⟩
abbrev FLT_Q_LEVEL_LEVEL : Fld := ⟨R.FLT_Q_LEVEL, 6, 0⟩
abbrev FLT_TRAP_STAT_SHORTED : Fld := ⟨R.FLT_TRAP_STAT, 23, 16⟩
abbrev FLT_TRAP_STAT_ENGAGED : Fld := ⟨R.FLT_TRAP_STAT, 15, 8⟩
abbrev FLT_TRAP_STAT_STALE_USED : Fld := ⟨R.FLT_TRAP_STAT, 7, 0⟩
abbrev FLT_STOP_CFG_MODE : Fld := ⟨R.FLT_STOP_CFG, 17, 17⟩
abbrev FLT_STOP_CFG_STOP_DELAY : Fld := ⟨R.FLT_STOP_CFG, 15, 0⟩
abbrev FLT_LATCH_CFG_REPEAT_MAX : Fld := ⟨R.FLT_LATCH_CFG, 13, 10⟩
abbrev FLT_LATCH_CFG_WINDOW : Fld := ⟨R.FLT_LATCH_CFG, 9, 0⟩
abbrev FLT_SUPPLY_VMIN_MEAS : Fld := ⟨R.FLT_SUPPLY, 29, 18⟩
abbrev FLT_SUPPLY_VM_MEAS : Fld := ⟨R.FLT_SUPPLY, 17, 6⟩
abbrev FLT_SUPPLY_INLET_STATE : Fld := ⟨R.FLT_SUPPLY, 5, 4⟩
abbrev FLT_BRK_HEAT_HEAT : Fld := ⟨R.FLT_BRK_HEAT, 9, 0⟩
abbrev FLT_OVERFLOW_SAT : Fld := ⟨R.FLT_OVERFLOW, 35, 35⟩
abbrev FLT_OVERFLOW_COUNT : Fld := ⟨R.FLT_OVERFLOW, 15, 0⟩
abbrev FLT_TRAP_COUNT_SAT : Fld := ⟨R.FLT_TRAP_COUNT, 35, 35⟩
abbrev FLT_TRAP_COUNT_COUNT : Fld := ⟨R.FLT_TRAP_COUNT, 15, 0⟩
abbrev PRT_HP_STAT_BUSY_CLK : Fld := ⟨R.PRT_HP_STAT, 9, 9⟩
abbrev PRT_HP_STAT_OVERCLOCK : Fld := ⟨R.PRT_HP_STAT, 8, 8⟩
abbrev PRT_HP_STAT_FRAME_ABORT : Fld := ⟨R.PRT_HP_STAT, 7, 7⟩
abbrev PRT_HP_STAT_DATA_CRC : Fld := ⟨R.PRT_HP_STAT, 6, 6⟩
abbrev PRT_HP_STAT_CMD_BAD : Fld := ⟨R.PRT_HP_STAT, 5, 5⟩
abbrev PRT_HP_STAT_CMD_CRC : Fld := ⟨R.PRT_HP_STAT, 4, 4⟩
abbrev PRT_CMD_ERR_COUNT_SAT : Fld := ⟨R.PRT_CMD_ERR_COUNT, 35, 35⟩
abbrev PRT_CMD_ERR_COUNT_COUNT : Fld := ⟨R.PRT_CMD_ERR_COUNT, 15, 0⟩
abbrev PRT_DATA_CRC_COUNT_SAT : Fld := ⟨R.PRT_DATA_CRC_COUNT, 35, 35⟩
abbrev PRT_DATA_CRC_COUNT_COUNT : Fld := ⟨R.PRT_DATA_CRC_COUNT, 15, 0⟩
abbrev PRT_ABORT_COUNT_SAT : Fld := ⟨R.PRT_ABORT_COUNT, 35, 35⟩
abbrev PRT_ABORT_COUNT_COUNT : Fld := ⟨R.PRT_ABORT_COUNT, 15, 0⟩
abbrev PRT_OVERCLOCK_COUNT_SAT : Fld := ⟨R.PRT_OVERCLOCK_COUNT, 35, 35⟩
abbrev PRT_OVERCLOCK_COUNT_COUNT : Fld := ⟨R.PRT_OVERCLOCK_COUNT, 15, 0⟩
abbrev PRT_BOOT_STAT_B_PRESENT : Fld := ⟨R.PRT_BOOT_STAT, 3, 3⟩
abbrev PRT_BOOT_STAT_A_PRESENT : Fld := ⟨R.PRT_BOOT_STAT, 2, 2⟩
abbrev PRT_BOOT_STAT_ACTIVE : Fld := ⟨R.PRT_BOOT_STAT, 1, 0⟩
abbrev PRT_P_CFG_USED (m : Fin 4) : Fld := ⟨R.PRT_P_CFG m, 35, 35⟩
abbrev PRT_P_CFG_CMD_LANES (m : Fin 4) : Fld := ⟨R.PRT_P_CFG m, 34, 33⟩
abbrev PRT_P_CFG_DATA_LANES (m : Fin 4) : Fld := ⟨R.PRT_P_CFG m, 32, 31⟩
abbrev PRT_P_CFG_BUSY_EN (m : Fin 4) : Fld := ⟨R.PRT_P_CFG m, 30, 30⟩
abbrev PRT_P_CFG_MODE (m : Fin 4) : Fld := ⟨R.PRT_P_CFG m, 17, 16⟩
abbrev PRT_P_CFG_RDY_EN (m : Fin 4) : Fld := ⟨R.PRT_P_CFG m, 15, 15⟩
abbrev PRT_P_CFG_RETRY_MAX (m : Fin 4) : Fld := ⟨R.PRT_P_CFG m, 14, 12⟩
abbrev PRT_P_CFG_RETRY_DELAY (m : Fin 4) : Fld := ⟨R.PRT_P_CFG m, 11, 8⟩
abbrev PRT_P_CFG_GAP (m : Fin 4) : Fld := ⟨R.PRT_P_CFG m, 7, 0⟩
abbrev PRT_P_DATA_DATA (m : Fin 4) : Fld := ⟨R.PRT_P_DATA m, 35, 0⟩
abbrev PRT_P_STAT_TX_LEVEL (m : Fin 4) : Fld := ⟨R.PRT_P_STAT m, 35, 28⟩
abbrev PRT_P_STAT_RX_LEVEL (m : Fin 4) : Fld := ⟨R.PRT_P_STAT m, 27, 20⟩
abbrev PRT_P_STAT_RETRIES (m : Fin 4) : Fld := ⟨R.PRT_P_STAT m, 14, 12⟩
abbrev PRT_P_STAT_SSI_OWNED (m : Fin 4) : Fld := ⟨R.PRT_P_STAT m, 11, 11⟩
abbrev PRT_P_STAT_CMD_REFUSED (m : Fin 4) : Fld := ⟨R.PRT_P_STAT m, 10, 10⟩
abbrev PRT_P_STAT_BUSY_GAVEUP (m : Fin 4) : Fld := ⟨R.PRT_P_STAT m, 9, 9⟩
abbrev PRT_P_STAT_RDY_TIMEOUT (m : Fin 4) : Fld := ⟨R.PRT_P_STAT m, 8, 8⟩
abbrev PRT_P_STAT_STAT (m : Fin 4) : Fld := ⟨R.PRT_P_STAT m, 4, 0⟩
abbrev PRT_P_LEN_UNIT_BITS (m : Fin 4) : Fld := ⟨R.PRT_P_LEN m, 29, 18⟩
abbrev PRT_P_LEN_CLOCK_KHZ (m : Fin 4) : Fld := ⟨R.PRT_P_LEN m, 16, 0⟩
abbrev PRT_P_BUSYPAT_PATTERN (m : Fin 4) : Fld := ⟨R.PRT_P_BUSYPAT m, 35, 0⟩
abbrev PRT_P_RETRY_COUNT_SAT (m : Fin 4) : Fld := ⟨R.PRT_P_RETRY_COUNT m, 35, 35⟩
abbrev PRT_P_RETRY_COUNT_COUNT (m : Fin 4) : Fld := ⟨R.PRT_P_RETRY_COUNT m, 15, 0⟩
abbrev LAD_STATUS_KEY_BLANK : Fld := ⟨R.LAD_STATUS, 13, 13⟩
abbrev LAD_STATUS_RECOVERY : Fld := ⟨R.LAD_STATUS, 12, 12⟩
abbrev LAD_STATUS_PTP_LOCKED : Fld := ⟨R.LAD_STATUS, 11, 11⟩
abbrev LAD_STATUS_ADDR_CONFLICT : Fld := ⟨R.LAD_STATUS, 10, 10⟩
abbrev LAD_STATUS_QUARANTINE : Fld := ⟨R.LAD_STATUS, 9, 9⟩
abbrev LAD_STATUS_PARTNER_LOST : Fld := ⟨R.LAD_STATUS, 8, 8⟩
abbrev LAD_STATUS_LOCK_LOST : Fld := ⟨R.LAD_STATUS, 7, 7⟩
abbrev LAD_STATUS_CMD_REFUSED : Fld := ⟨R.LAD_STATUS, 6, 6⟩
abbrev LAD_CFG_PARTNER_TIMEOUT : Fld := ⟨R.LAD_CFG, 17, 10⟩
abbrev LAD_CFG_QUAR_TIME : Fld := ⟨R.LAD_CFG, 9, 0⟩
abbrev LAD_RATE_PARTNER_RATE : Fld := ⟨R.LAD_RATE, 17, 0⟩
abbrev LAD_IP_ADDR_ADDR : Fld := ⟨R.LAD_IP_ADDR, 31, 0⟩
abbrev LAD_MAC_HI_MAC : Fld := ⟨R.LAD_MAC_HI, 23, 0⟩
abbrev LAD_MAC_LO_MAC : Fld := ⟨R.LAD_MAC_LO, 23, 0⟩
abbrev LAD_PORT_STAT_L1_GIG : Fld := ⟨R.LAD_PORT_STAT, 3, 3⟩
abbrev LAD_PORT_STAT_L1_UP : Fld := ⟨R.LAD_PORT_STAT, 2, 2⟩
abbrev LAD_PORT_STAT_L0_GIG : Fld := ⟨R.LAD_PORT_STAT, 1, 1⟩
abbrev LAD_PORT_STAT_L0_UP : Fld := ⟨R.LAD_PORT_STAT, 0, 0⟩
abbrev LAD_PTP_STAT_DOMAIN : Fld := ⟨R.LAD_PTP_STAT, 15, 8⟩
abbrev LAD_PTP_STAT_STATE : Fld := ⟨R.LAD_PTP_STAT, 7, 5⟩
abbrev LAD_PTP_STAT_LOCKED : Fld := ⟨R.LAD_PTP_STAT, 4, 4⟩
abbrev LAD_PTP_SEC_SEC : Fld := ⟨R.LAD_PTP_SEC, 35, 0⟩
abbrev LAD_PTP_NS_NS : Fld := ⟨R.LAD_PTP_NS, 29, 0⟩
abbrev LAD_PTP_OFFSET_OFFSET : Fld := ⟨R.LAD_PTP_OFFSET, 35, 0⟩
abbrev LAD_SESS_SEL_SLOT : Fld := ⟨R.LAD_SESS_SEL, 3, 0⟩
abbrev LAD_SESS_INFO_PORT : Fld := ⟨R.LAD_SESS_INFO, 31, 16⟩
abbrev LAD_SESS_INFO_VALID : Fld := ⟨R.LAD_SESS_INFO, 7, 7⟩
abbrev LAD_SESS_INFO_NAMED : Fld := ⟨R.LAD_SESS_INFO, 6, 6⟩
abbrev LAD_SESS_INFO_PRESENT : Fld := ⟨R.LAD_SESS_INFO, 5, 5⟩
abbrev LAD_SESS_INFO_MODULE : Fld := ⟨R.LAD_SESS_INFO, 4, 4⟩
abbrev LAD_SESS_INFO_MODULE_NO : Fld := ⟨R.LAD_SESS_INFO, 1, 0⟩
abbrev LAD_SESS_ADDR_ADDR : Fld := ⟨R.LAD_SESS_ADDR, 31, 0⟩
abbrev LAD_PARTNERS_PRESENT : Fld := ⟨R.LAD_PARTNERS, 31, 16⟩
abbrev LAD_PARTNERS_VALID : Fld := ⟨R.LAD_PARTNERS, 15, 0⟩
abbrev LAD_RX_RATE_DROP_SAT : Fld := ⟨R.LAD_RX_RATE_DROP, 35, 35⟩
abbrev LAD_RX_RATE_DROP_COUNT : Fld := ⟨R.LAD_RX_RATE_DROP, 15, 0⟩
abbrev LAD_AUTH_FAIL_SAT : Fld := ⟨R.LAD_AUTH_FAIL, 35, 35⟩
abbrev LAD_AUTH_FAIL_COUNT : Fld := ⟨R.LAD_AUTH_FAIL, 15, 0⟩
abbrev LAD_REPLAY_SAT : Fld := ⟨R.LAD_REPLAY, 35, 35⟩
abbrev LAD_REPLAY_COUNT : Fld := ⟨R.LAD_REPLAY, 15, 0⟩
abbrev LAD_MALFORMED_SAT : Fld := ⟨R.LAD_MALFORMED, 35, 35⟩
abbrev LAD_MALFORMED_COUNT : Fld := ⟨R.LAD_MALFORMED, 15, 0⟩
abbrev LAD_QUAR_DROP_SAT : Fld := ⟨R.LAD_QUAR_DROP, 35, 35⟩
abbrev LAD_QUAR_DROP_COUNT : Fld := ⟨R.LAD_QUAR_DROP, 15, 0⟩
abbrev LAD_STREAM_REJECT_SAT : Fld := ⟨R.LAD_STREAM_REJECT, 35, 35⟩
abbrev LAD_STREAM_REJECT_COUNT : Fld := ⟨R.LAD_STREAM_REJECT, 15, 0⟩
abbrev LAD_FWD_DROP_SAT : Fld := ⟨R.LAD_FWD_DROP, 35, 35⟩
abbrev LAD_FWD_DROP_COUNT : Fld := ⟨R.LAD_FWD_DROP, 15, 0⟩
abbrev HST_WINDOW_DATA (m : Fin 256) : Fld := ⟨R.HST_WINDOW m, 35, 0⟩
abbrev HST_PTR_HP_ADDR : Fld := ⟨R.HST_PTR_HP, 29, 0⟩
abbrev HST_PTR_LAD_ADDR : Fld := ⟨R.HST_PTR_LAD, 29, 0⟩
abbrev HST_OP_STAT_ERR_CODE : Fld := ⟨R.HST_OP_STAT, 31, 20⟩
abbrev HST_OP_STAT_LAST_OP : Fld := ⟨R.HST_OP_STAT, 19, 16⟩
abbrev HST_OP_STAT_STAT : Fld := ⟨R.HST_OP_STAT, 4, 0⟩
abbrev HST_SRC_ADDR : Fld := ⟨R.HST_SRC, 29, 0⟩
abbrev HST_DST_ADDR : Fld := ⟨R.HST_DST, 29, 0⟩
abbrev HST_LEN_ADDR : Fld := ⟨R.HST_LEN, 29, 0⟩
abbrev HST_VALUE_VALUE : Fld := ⟨R.HST_VALUE, 35, 0⟩
abbrev HST_STATUS_CMD_REFUSED : Fld := ⟨R.HST_STATUS, 7, 7⟩
abbrev HST_STATUS_PEND_LAD : Fld := ⟨R.HST_STATUS, 6, 6⟩
abbrev HST_STATUS_PEND_HP : Fld := ⟨R.HST_STATUS, 5, 5⟩
abbrev HST_STATUS_UNCORR : Fld := ⟨R.HST_STATUS, 4, 4⟩
abbrev HST_STATUS_RANGE : Fld := ⟨R.HST_STATUS, 3, 3⟩
abbrev HST_ERR_ADDR_ADDR : Fld := ⟨R.HST_ERR_ADDR, 29, 0⟩
abbrev HST_WORD_COUNT_SAT : Fld := ⟨R.HST_WORD_COUNT, 35, 35⟩
abbrev HST_WORD_COUNT_COUNT : Fld := ⟨R.HST_WORD_COUNT, 31, 0⟩
abbrev LDC_STATUS_REFRESH : Fld := ⟨R.LDC_STATUS, 11, 10⟩
abbrev LDC_STATUS_READY : Fld := ⟨R.LDC_STATUS, 9, 9⟩
abbrev LDC_STATUS_INIT_FAIL : Fld := ⟨R.LDC_STATUS, 8, 8⟩
abbrev LDC_STATUS_SPARES_LOW : Fld := ⟨R.LDC_STATUS, 7, 7⟩
abbrev LDC_STATUS_RATE_HIGH : Fld := ⟨R.LDC_STATUS, 6, 6⟩
abbrev LDC_STATUS_SPARES_OUT : Fld := ⟨R.LDC_STATUS, 5, 5⟩
abbrev LDC_STATUS_WSEQ_WRAP : Fld := ⟨R.LDC_STATUS, 4, 4⟩
abbrev LDC_STATUS_ECHO_ERR : Fld := ⟨R.LDC_STATUS, 3, 3⟩
abbrev LDC_STATUS_UNCORR : Fld := ⟨R.LDC_STATUS, 2, 2⟩
abbrev LDC_STATUS_REMAPPED : Fld := ⟨R.LDC_STATUS, 1, 1⟩
abbrev LDC_STATUS_CORR : Fld := ⟨R.LDC_STATUS, 0, 0⟩
abbrev LDC_TEMP_DEVICE : Fld := ⟨R.LDC_TEMP, 17, 16⟩
abbrev LDC_TEMP_VALUE : Fld := ⟨R.LDC_TEMP, 15, 0⟩
abbrev LDC_SCRUB_CFG_EN : Fld := ⟨R.LDC_SCRUB_CFG, 17, 17⟩
abbrev LDC_SCRUB_CFG_PERIOD : Fld := ⟨R.LDC_SCRUB_CFG, 7, 0⟩
abbrev LDC_SCRUB_POS_LINE : Fld := ⟨R.LDC_SCRUB_POS, 26, 0⟩
abbrev LDC_ECC_CFG_RATE_LIMIT : Fld := ⟨R.LDC_ECC_CFG, 15, 0⟩
abbrev LDC_LAST_ERR_KIND : Fld := ⟨R.LDC_LAST_ERR, 35, 34⟩
abbrev LDC_LAST_ERR_CLASS : Fld := ⟨R.LDC_LAST_ERR, 33, 31⟩
abbrev LDC_LAST_ERR_LINE : Fld := ⟨R.LDC_LAST_ERR, 26, 0⟩
abbrev LDC_LAST_INFO_STAMP : Fld := ⟨R.LDC_LAST_INFO, 35, 18⟩
abbrev LDC_LAST_INFO_COUNT : Fld := ⟨R.LDC_LAST_INFO, 17, 16⟩
abbrev LDC_SPARES_TOTAL : Fld := ⟨R.LDC_SPARES, 31, 18⟩
abbrev LDC_SPARES_USED : Fld := ⟨R.LDC_SPARES, 13, 0⟩
abbrev LDC_WSEQ_COUNT : Fld := ⟨R.LDC_WSEQ, 35, 0⟩
abbrev LDC_CORR_COUNT_SAT : Fld := ⟨R.LDC_CORR_COUNT, 35, 35⟩
abbrev LDC_CORR_COUNT_COUNT : Fld := ⟨R.LDC_CORR_COUNT, 31, 0⟩
abbrev LDC_UNCORR_COUNT_SAT : Fld := ⟨R.LDC_UNCORR_COUNT, 35, 35⟩
abbrev LDC_UNCORR_COUNT_COUNT : Fld := ⟨R.LDC_UNCORR_COUNT, 15, 0⟩
abbrev LDC_LAST_POS_POS0 : Fld := ⟨R.LDC_LAST_POS, 17, 12⟩
abbrev LDC_LAST_POS_POS1 : Fld := ⟨R.LDC_LAST_POS, 11, 6⟩
abbrev LDC_LAST_POS_POS2 : Fld := ⟨R.LDC_LAST_POS, 5, 0⟩
abbrev PLN_OP_STAT_ERR_CODE : Fld := ⟨R.PLN_OP_STAT, 31, 20⟩
abbrev PLN_OP_STAT_LAST_OP : Fld := ⟨R.PLN_OP_STAT, 19, 16⟩
abbrev PLN_OP_STAT_PROG : Fld := ⟨R.PLN_OP_STAT, 15, 10⟩
abbrev PLN_OP_STAT_STAT : Fld := ⟨R.PLN_OP_STAT, 4, 0⟩
abbrev PLN_EXEC_LINE_NO : Fld := ⟨R.PLN_EXEC, 35, 18⟩
abbrev PLN_EXEC_STATE : Fld := ⟨R.PLN_EXEC, 17, 15⟩
abbrev PLN_EXEC_CAUSE : Fld := ⟨R.PLN_EXEC, 14, 12⟩
abbrev PLN_EXEC_GROUP : Fld := ⟨R.PLN_EXEC, 11, 8⟩
abbrev PLN_EXEC_DEPTH : Fld := ⟨R.PLN_EXEC, 7, 4⟩
abbrev PLN_EXEC_TIMED : Fld := ⟨R.PLN_EXEC, 3, 3⟩
abbrev PLN_EXEC_BLEND : Fld := ⟨R.PLN_EXEC, 2, 2⟩
abbrev PLN_EXEC_STARVED : Fld := ⟨R.PLN_EXEC, 1, 1⟩
abbrev PLN_EXEC_ADDR_ADDR : Fld := ⟨R.PLN_EXEC_ADDR, 26, 0⟩
abbrev PLN_LA_STAT_AHEAD : Fld := ⟨R.PLN_LA_STAT, 28, 16⟩
abbrev PLN_ERR_ADDR_ADDR : Fld := ⟨R.PLN_ERR_ADDR, 26, 0⟩
abbrev PLN_OVR_OVERRIDE : Fld := ⟨R.PLN_OVR, 11, 0⟩
abbrev PLN_PATH_VEL_VEL : Fld := ⟨R.PLN_PATH_VEL, 35, 0⟩
abbrev PLN_CFG_LOOKAHEAD : Fld := ⟨R.PLN_CFG, 28, 16⟩
abbrev PLN_CFG_HOLD_FRAMES : Fld := ⟨R.PLN_CFG, 9, 0⟩
abbrev PLN_TOL_TOL : Fld := ⟨R.PLN_TOL, 23, 0⟩
abbrev PLN_SYNC_CFG_GO_DELAY : Fld := ⟨R.PLN_SYNC_CFG, 17, 8⟩
abbrev PLN_SYNC_CFG_HOLD_LEAD : Fld := ⟨R.PLN_SYNC_CFG, 7, 0⟩
abbrev PLN_STREAM_CFG_TIMEOUT : Fld := ⟨R.PLN_STREAM_CFG, 7, 0⟩
abbrev PLN_COMP_OFF_OFF : Fld := ⟨R.PLN_COMP_OFF, 7, 0⟩
abbrev PLN_STATUS_CMD_REFUSED : Fld := ⟨R.PLN_STATUS, 6, 6⟩
abbrev PLN_STATUS_GROUP_HOLD : Fld := ⟨R.PLN_STATUS, 5, 5⟩
abbrev PLN_STATUS_SYNC_LATE : Fld := ⟨R.PLN_STATUS, 4, 4⟩
abbrev PLN_STATUS_WAIT_TIMEOUT : Fld := ⟨R.PLN_STATUS, 3, 3⟩
abbrev PLN_STATUS_STREAM_MISS : Fld := ⟨R.PLN_STATUS, 2, 2⟩
abbrev PLN_STATUS_STARVED : Fld := ⟨R.PLN_STATUS, 1, 1⟩
abbrev PLN_STATUS_PARTNER_LOST : Fld := ⟨R.PLN_STATUS, 0, 0⟩
abbrev PLN_IN_STATE_IN : Fld := ⟨R.PLN_IN_STATE, 31, 0⟩
abbrev PLN_OUT_STATE_OUT : Fld := ⟨R.PLN_OUT_STATE, 31, 0⟩
abbrev PLN_PSCALE_PSCALE (m : Fin 8) : Fld := ⟨R.PLN_PSCALE m, 35, 0⟩
abbrev PLN_COMP_NOW_COMP (m : Fin 8) : Fld := ⟨R.PLN_COMP_NOW m, 35, 0⟩
abbrev PLN_STARVE_COUNT_SAT : Fld := ⟨R.PLN_STARVE_COUNT, 35, 35⟩
abbrev PLN_STARVE_COUNT_COUNT : Fld := ⟨R.PLN_STARVE_COUNT, 15, 0⟩
abbrev PLN_LATE_SP_COUNT_SAT : Fld := ⟨R.PLN_LATE_SP_COUNT, 35, 35⟩
abbrev PLN_LATE_SP_COUNT_COUNT : Fld := ⟨R.PLN_LATE_SP_COUNT, 15, 0⟩
abbrev PLN_BLOCK_COUNT_SAT : Fld := ⟨R.PLN_BLOCK_COUNT, 35, 35⟩
abbrev PLN_BLOCK_COUNT_COUNT : Fld := ⟨R.PLN_BLOCK_COUNT, 31, 0⟩
abbrev PLN_PROG_AXES (m : Fin 64) : Fld := ⟨R.PLN_PROG m, 35, 28⟩
abbrev PLN_PROG_VALID (m : Fin 64) : Fld := ⟨R.PLN_PROG m, 27, 27⟩
abbrev PLN_PROG_LINE (m : Fin 64) : Fld := ⟨R.PLN_PROG m, 26, 0⟩
abbrev ENG_STATUS_RUNNING : Fld := ⟨R.ENG_STATUS, 17, 10⟩
abbrev ENG_STATUS_HALTED : Fld := ⟨R.ENG_STATUS, 9, 9⟩
abbrev ENG_STATUS_STORE_ERR : Fld := ⟨R.ENG_STATUS, 7, 7⟩
abbrev ENG_STATUS_OVERRUN : Fld := ⟨R.ENG_STATUS, 6, 6⟩
abbrev ENG_STATUS_FETCH_LATE : Fld := ⟨R.ENG_STATUS, 5, 5⟩
abbrev ENG_STATUS_WIN_REFUSED : Fld := ⟨R.ENG_STATUS, 4, 4⟩
abbrev ENG_STATUS_CMD_REFUSED : Fld := ⟨R.ENG_STATUS, 3, 3⟩
abbrev ENG_LOAD_SCHED_LOAD : Fld := ⟨R.ENG_LOAD, 35, 26⟩
abbrev ENG_LOAD_MAX_END : Fld := ⟨R.ENG_LOAD, 25, 13⟩
abbrev ENG_LOAD_LAST_END : Fld := ⟨R.ENG_LOAD, 12, 0⟩
abbrev ENG_OVERRUN_SAT : Fld := ⟨R.ENG_OVERRUN, 35, 35⟩
abbrev ENG_OVERRUN_COUNT : Fld := ⟨R.ENG_OVERRUN, 15, 0⟩
abbrev ENG_FETCH_MISS_SAT : Fld := ⟨R.ENG_FETCH_MISS, 35, 35⟩
abbrev ENG_FETCH_MISS_COUNT : Fld := ⟨R.ENG_FETCH_MISS, 15, 0⟩
abbrev ENG_STORE_CORR_SAT : Fld := ⟨R.ENG_STORE_CORR, 35, 35⟩
abbrev ENG_STORE_CORR_COUNT : Fld := ⟨R.ENG_STORE_CORR, 15, 0⟩
abbrev ENG_WIN_SEL_AXIS : Fld := ⟨R.ENG_WIN_SEL, 35, 33⟩
abbrev ENG_WIN_SEL_SECTION : Fld := ⟨R.ENG_WIN_SEL, 32, 31⟩
abbrev ENG_WIN_SEL_OFFSET : Fld := ⟨R.ENG_WIN_SEL, 13, 0⟩
abbrev ENG_WIN_DATA_DATA : Fld := ⟨R.ENG_WIN_DATA, 35, 0⟩
abbrev ENG_OP_STAT_ERR_CODE : Fld := ⟨R.ENG_OP_STAT, 31, 20⟩
abbrev ENG_OP_STAT_LAST_OP : Fld := ⟨R.ENG_OP_STAT, 19, 16⟩
abbrev ENG_OP_STAT_STAGED : Fld := ⟨R.ENG_OP_STAT, 9, 5⟩
abbrev ENG_OP_STAT_STAT : Fld := ⟨R.ENG_OP_STAT, 4, 0⟩
abbrev ENG_SLOT_RUN (m : Fin 8) : Fld := ⟨R.ENG_SLOT m, 35, 35⟩
abbrev ENG_SLOT_LOG2L (m : Fin 8) : Fld := ⟨R.ENG_SLOT m, 34, 32⟩
abbrev ENG_SLOT_SLOT_START (m : Fin 8) : Fld := ⟨R.ENG_SLOT m, 25, 13⟩
abbrev ENG_SLOT_D (m : Fin 8) : Fld := ⟨R.ENG_SLOT m, 12, 0⟩
abbrev ENG_OBS_A_THETA (m : Fin 8) : Fld := ⟨R.ENG_OBS_A m, 35, 18⟩
abbrev ENG_OBS_A_OMEGA (m : Fin 8) : Fld := ⟨R.ENG_OBS_A m, 17, 0⟩
abbrev ENG_OBS_B_RESID (m : Fin 8) : Fld := ⟨R.ENG_OBS_B m, 35, 18⟩
abbrev ENG_OBS_B_LOAD_ANGLE (m : Fin 8) : Fld := ⟨R.ENG_OBS_B m, 17, 0⟩
abbrev ENG_SUPV_SPEED_EST (m : Fin 8) : Fld := ⟨R.ENG_SUPV m, 35, 18⟩
abbrev ENG_SUPV_STALE (m : Fin 8) : Fld := ⟨R.ENG_SUPV m, 8, 8⟩
abbrev ENG_SUPV_LOCKED (m : Fin 8) : Fld := ⟨R.ENG_SUPV m, 7, 7⟩
abbrev ENG_SUPV_MODEL_LOST (m : Fin 8) : Fld := ⟨R.ENG_SUPV m, 6, 6⟩
abbrev ENG_SUPV_FB_DISAGREE (m : Fin 8) : Fld := ⟨R.ENG_SUPV m, 5, 5⟩
abbrev ENG_SUPV_HAS_OBS (m : Fin 8) : Fld := ⟨R.ENG_SUPV m, 4, 4⟩
abbrev ENG_SUPV_LOST_SEEN (m : Fin 8) : Fld := ⟨R.ENG_SUPV m, 1, 1⟩
abbrev ENG_SUPV_DISAGREE_SEEN (m : Fin 8) : Fld := ⟨R.ENG_SUPV m, 0, 0⟩
abbrev CMP_CFG_AXIS (m : Fin 64) : Fld := ⟨R.CMP_CFG m, 35, 33⟩
abbrev CMP_CFG_OWNED (m : Fin 64) : Fld := ⟨R.CMP_CFG m, 32, 32⟩
abbrev CMP_CFG_TRIP_N (m : Fin 64) : Fld := ⟨R.CMP_CFG m, 31, 29⟩
abbrev CMP_CFG_ACTION (m : Fin 64) : Fld := ⟨R.CMP_CFG m, 28, 27⟩
abbrev CMP_CFG_MODE (m : Fin 64) : Fld := ⟨R.CMP_CFG m, 26, 25⟩
abbrev CMP_CFG_QUAL (m : Fin 64) : Fld := ⟨R.CMP_CFG m, 24, 22⟩
abbrev CMP_CFG_POL (m : Fin 64) : Fld := ⟨R.CMP_CFG m, 21, 21⟩
abbrev CMP_CFG_HYST (m : Fin 64) : Fld := ⟨R.CMP_CFG m, 14, 12⟩
abbrev CMP_CFG_THRESH (m : Fin 64) : Fld := ⟨R.CMP_CFG m, 11, 0⟩
abbrev CMP_OP_STAT_ERR_CODE : Fld := ⟨R.CMP_OP_STAT, 31, 20⟩
abbrev CMP_OP_STAT_LAST_OP : Fld := ⟨R.CMP_OP_STAT, 19, 16⟩
abbrev CMP_OP_STAT_CMD_REFUSED : Fld := ⟨R.CMP_OP_STAT, 5, 5⟩
abbrev CMP_OP_STAT_STAT : Fld := ⟨R.CMP_OP_STAT, 4, 0⟩
abbrev CMP_OUT_LO_BITS : Fld := ⟨R.CMP_OUT_LO, 31, 0⟩
abbrev CMP_OUT_HI_BITS : Fld := ⟨R.CMP_OUT_HI, 31, 0⟩
abbrev CMP_EVT_LO_BITS : Fld := ⟨R.CMP_EVT_LO, 31, 0⟩
abbrev CMP_EVT_HI_BITS : Fld := ⟨R.CMP_EVT_HI, 31, 0⟩
abbrev CMP_FAILED_LO_BITS : Fld := ⟨R.CMP_FAILED_LO, 31, 0⟩
abbrev CMP_FAILED_HI_BITS : Fld := ⟨R.CMP_FAILED_HI, 31, 0⟩
abbrev CMP_AUDIT_CFG_AUTO : Fld := ⟨R.CMP_AUDIT_CFG, 12, 12⟩
abbrev CMP_AUDIT_CFG_PERIOD : Fld := ⟨R.CMP_AUDIT_CFG, 11, 0⟩
abbrev CMP_EVT_COUNT_SAT : Fld := ⟨R.CMP_EVT_COUNT, 35, 35⟩
abbrev CMP_EVT_COUNT_COUNT : Fld := ⟨R.CMP_EVT_COUNT, 15, 0⟩
abbrev HAT_STATUS_ENA : Fld := ⟨R.HAT_STATUS, 35, 28⟩
abbrev HAT_STATUS_LB : Fld := ⟨R.HAT_STATUS, 23, 16⟩
abbrev HAT_STATUS_READY : Fld := ⟨R.HAT_STATUS, 15, 8⟩
abbrev HAT_STATUS_LOST : Fld := ⟨R.HAT_STATUS, 7, 4⟩
abbrev HAT_STATUS_CMD_REFUSED : Fld := ⟨R.HAT_STATUS, 3, 3⟩
abbrev HAT_STATUS_LAG_SEEN : Fld := ⟨R.HAT_STATUS, 2, 2⟩
abbrev HAT_STATUS_TRANS_SEEN : Fld := ⟨R.HAT_STATUS, 1, 1⟩
abbrev HAT_STATUS_OPEN_SEEN : Fld := ⟨R.HAT_STATUS, 0, 0⟩
abbrev HAT_OP_STAT_ERR_CODE : Fld := ⟨R.HAT_OP_STAT, 31, 20⟩
abbrev HAT_OP_STAT_LAST_OP : Fld := ⟨R.HAT_OP_STAT, 19, 16⟩
abbrev HAT_OP_STAT_STAT : Fld := ⟨R.HAT_OP_STAT, 4, 0⟩
abbrev HAT_HT_CFG_LAG_MAX (m : Fin 8) : Fld := ⟨R.HAT_HT_CFG m, 35, 18⟩
abbrev HAT_HT_CFG_ENA_CLEAR (m : Fin 8) : Fld := ⟨R.HAT_HT_CFG m, 7, 7⟩
abbrev HAT_HT_CFG_ENA_POL (m : Fin 8) : Fld := ⟨R.HAT_HT_CFG m, 6, 6⟩
abbrev HAT_HT_CFG_READY_POL (m : Fin 8) : Fld := ⟨R.HAT_HT_CFG m, 5, 5⟩
abbrev HAT_HT_CFG_DIR_INV (m : Fin 8) : Fld := ⟨R.HAT_HT_CFG m, 4, 4⟩
abbrev HAT_HT_TARGET_VALUE (m : Fin 8) : Fld := ⟨R.HAT_HT_TARGET m, 35, 0⟩
abbrev HAT_HT_COUNT_VALUE (m : Fin 8) : Fld := ⟨R.HAT_HT_COUNT m, 35, 0⟩
abbrev HAT_CMDA_CFG_INVERT (m : Fin 4) : Fld := ⟨R.HAT_CMDA_CFG m, 16, 16⟩
abbrev HAT_CMDA_CFG_OFFSET (m : Fin 4) : Fld := ⟨R.HAT_CMDA_CFG m, 15, 0⟩
abbrev HAT_CMDA_VAL_X (m : Fin 4) : Fld := ⟨R.HAT_CMDA_VAL m, 35, 18⟩
abbrev HAT_CMDA_VAL_LOST (m : Fin 4) : Fld := ⟨R.HAT_CMDA_VAL m, 17, 17⟩
abbrev HAT_CMDA_VAL_RAW (m : Fin 4) : Fld := ⟨R.HAT_CMDA_VAL m, 15, 0⟩
abbrev HAT_DIR_RACE_COUNT_SAT : Fld := ⟨R.HAT_DIR_RACE_COUNT, 35, 35⟩
abbrev HAT_DIR_RACE_COUNT_COUNT : Fld := ⟨R.HAT_DIR_RACE_COUNT, 15, 0⟩
abbrev HAT_COLLIDE_COUNT_SAT : Fld := ⟨R.HAT_COLLIDE_COUNT, 35, 35⟩
abbrev HAT_COLLIDE_COUNT_COUNT : Fld := ⟨R.HAT_COLLIDE_COUNT, 15, 0⟩
abbrev HAT_LOST_COUNT_SAT : Fld := ⟨R.HAT_LOST_COUNT, 35, 35⟩
abbrev HAT_LOST_COUNT_COUNT : Fld := ⟨R.HAT_LOST_COUNT, 15, 0⟩
abbrev CPO_CFG_SRC (m : Fin 8) : Fld := ⟨R.CPO_CFG m, 35, 33⟩
abbrev CPO_CFG_DIR (m : Fin 8) : Fld := ⟨R.CPO_CFG m, 32, 31⟩
abbrev CPO_CFG_CYCLE (m : Fin 8) : Fld := ⟨R.CPO_CFG m, 30, 30⟩
abbrev CPO_CFG_POL (m : Fin 8) : Fld := ⟨R.CPO_CFG m, 29, 29⟩
abbrev CPO_CFG_WIDTH (m : Fin 8) : Fld := ⟨R.CPO_CFG m, 15, 0⟩
abbrev CPO_LIST_ADDR (m : Fin 8) : Fld := ⟨R.CPO_LIST m, 29, 0⟩
abbrev CPO_PTR_LEN (m : Fin 8) : Fld := ⟨R.CPO_PTR m, 28, 16⟩
abbrev CPO_PTR_INDEX (m : Fin 8) : Fld := ⟨R.CPO_PTR m, 12, 0⟩
abbrev CPO_NEXT_POS (m : Fin 8) : Fld := ⟨R.CPO_NEXT m, 35, 0⟩
abbrev CPO_STATUS_ARMED : Fld := ⟨R.CPO_STATUS, 24, 17⟩
abbrev CPO_STATUS_CMD_REFUSED : Fld := ⟨R.CPO_STATUS, 16, 16⟩
abbrev CPO_STATUS_DONE : Fld := ⟨R.CPO_STATUS, 15, 8⟩
abbrev CPO_STATUS_MISS : Fld := ⟨R.CPO_STATUS, 7, 0⟩
abbrev CPO_MISS_COUNT_SAT : Fld := ⟨R.CPO_MISS_COUNT, 35, 35⟩
abbrev CPO_MISS_COUNT_COUNT : Fld := ⟨R.CPO_MISS_COUNT, 15, 0⟩
abbrev CPO_MERGE_COUNT_SAT : Fld := ⟨R.CPO_MERGE_COUNT, 35, 35⟩
abbrev CPO_MERGE_COUNT_COUNT : Fld := ⟨R.CPO_MERGE_COUNT, 15, 0⟩
abbrev AX_STATE_STATE (n : Fin 8) : Fld := ⟨R.AX_STATE n, 17, 15⟩
abbrev AX_STATE_REGIME (n : Fin 8) : Fld := ⟨R.AX_STATE n, 14, 13⟩
abbrev AX_STATE_DRIVE (n : Fin 8) : Fld := ⟨R.AX_STATE n, 12, 11⟩
abbrev AX_STATE_XFER (n : Fin 8) : Fld := ⟨R.AX_STATE n, 10, 10⟩
abbrev AX_STATE_ROTOR (n : Fin 8) : Fld := ⟨R.AX_STATE n, 9, 8⟩
abbrev AX_STATE_FAULT_STOP (n : Fin 8) : Fld := ⟨R.AX_STATE n, 7, 7⟩
abbrev AX_STATE_AT_TARGET (n : Fin 8) : Fld := ⟨R.AX_STATE n, 6, 6⟩
abbrev AX_CTRL_REGIME_REQ (n : Fin 8) : Fld := ⟨R.AX_CTRL n, 17, 16⟩
abbrev AX_CTRL_AUTO_STANDBY (n : Fin 8) : Fld := ⟨R.AX_CTRL n, 15, 15⟩
abbrev AX_CTRL_ARM_HOLD (n : Fin 8) : Fld := ⟨R.AX_CTRL n, 14, 14⟩
abbrev AX_CTRL_STALL_ACT (n : Fin 8) : Fld := ⟨R.AX_CTRL n, 13, 12⟩
abbrev AX_CTRL_STANDBY_DELAY (n : Fin 8) : Fld := ⟨R.AX_CTRL n, 11, 0⟩
abbrev AX_PROF_CTRL_FORCE (n : Fin 8) : Fld := ⟨R.AX_PROF_CTRL n, 17, 17⟩
abbrev AX_PROF_VMAX_LIMIT (n : Fin 8) : Fld := ⟨R.AX_PROF_VMAX n, 34, 0⟩
abbrev AX_PROF_AMAX_LIMIT (n : Fin 8) : Fld := ⟨R.AX_PROF_AMAX n, 34, 0⟩
abbrev AX_PROF_JMAX_LIMIT (n : Fin 8) : Fld := ⟨R.AX_PROF_JMAX n, 34, 0⟩
abbrev AX_PROF_QDEC_LIMIT (n : Fin 8) : Fld := ⟨R.AX_PROF_QDEC n, 34, 0⟩
abbrev AX_TARGET_POS_TARGET (n : Fin 8) : Fld := ⟨R.AX_TARGET_POS n, 35, 0⟩
abbrev AX_TARGET_VEL_TARGET (n : Fin 8) : Fld := ⟨R.AX_TARGET_VEL n, 35, 0⟩
abbrev AX_CUR_CUR_RUN (n : Fin 8) : Fld := ⟨R.AX_CUR n, 35, 18⟩
abbrev AX_CUR_CUR_HOLD (n : Fin 8) : Fld := ⟨R.AX_CUR n, 17, 0⟩
abbrev AX_ECON_ECO_MIN (n : Fin 8) : Fld := ⟨R.AX_ECON n, 35, 18⟩
abbrev AX_ECON_LA_TARGET (n : Fin 8) : Fld := ⟨R.AX_ECON n, 17, 0⟩
abbrev AX_STALL_CFG_STALL_ANGLE (n : Fin 8) : Fld := ⟨R.AX_STALL_CFG n, 35, 18⟩
abbrev AX_STALL_CFG_STALL_FRAMES (n : Fin 8) : Fld := ⟨R.AX_STALL_CFG n, 7, 0⟩
abbrev AX_FOLLOW_MAX_FOLLOW_MAX (n : Fin 8) : Fld := ⟨R.AX_FOLLOW_MAX n, 34, 0⟩
abbrev AX_XFER_CFG_STOP_TIMEOUT (n : Fin 8) : Fld := ⟨R.AX_XFER_CFG n, 35, 26⟩
abbrev AX_XFER_CFG_HOLD_SETTLE (n : Fin 8) : Fld := ⟨R.AX_XFER_CFG n, 17, 8⟩
abbrev AX_XFER_CFG_XFER_STEPS (n : Fin 8) : Fld := ⟨R.AX_XFER_CFG n, 7, 0⟩
abbrev AX_COMM_VALID (n : Fin 8) : Fld := ⟨R.AX_COMM n, 18, 18⟩
abbrev AX_COMM_COMM_OFS (n : Fin 8) : Fld := ⟨R.AX_COMM n, 17, 0⟩
abbrev AX_SET_POS_VALUE (n : Fin 8) : Fld := ⟨R.AX_SET_POS n, 35, 0⟩
abbrev AX_FB_POS_VALUE (n : Fin 8) : Fld := ⟨R.AX_FB_POS n, 35, 0⟩
abbrev AX_SET_VEL_VALUE (n : Fin 8) : Fld := ⟨R.AX_SET_VEL n, 35, 0⟩
abbrev AX_SPEED_FB_SPEED (n : Fin 8) : Fld := ⟨R.AX_SPEED n, 35, 18⟩
abbrev AX_SPEED_SET_VEL (n : Fin 8) : Fld := ⟨R.AX_SPEED n, 17, 0⟩
abbrev AX_ANGLES_ANGLE_SET (n : Fin 8) : Fld := ⟨R.AX_ANGLES n, 35, 18⟩
abbrev AX_ANGLES_ANGLE_FB (n : Fin 8) : Fld := ⟨R.AX_ANGLES n, 17, 0⟩
abbrev AX_DRIVE_MON_LOAD_ANGLE (n : Fin 8) : Fld := ⟨R.AX_DRIVE_MON n, 35, 18⟩
abbrev AX_DRIVE_MON_AMP_NOW (n : Fin 8) : Fld := ⟨R.AX_DRIVE_MON n, 17, 0⟩
abbrev AX_I_DQ_VALUE (n : Fin 8) : Fld := ⟨R.AX_I_DQ n, 35, 0⟩
abbrev AX_V_DQ_VALUE (n : Fin 8) : Fld := ⟨R.AX_V_DQ n, 35, 0⟩
abbrev AX_USER_VALUE (n : Fin 8) : Fld := ⟨R.AX_USER n, 35, 0⟩
abbrev AX_OP_STAT_ERR_CODE (n : Fin 8) : Fld := ⟨R.AX_OP_STAT n, 31, 20⟩
abbrev AX_OP_STAT_LAST_OP (n : Fin 8) : Fld := ⟨R.AX_OP_STAT n, 19, 16⟩
abbrev AX_OP_STAT_STAT (n : Fin 8) : Fld := ⟨R.AX_OP_STAT n, 4, 0⟩
abbrev AX_LEARN_CFG_CYCLES (n : Fin 8) : Fld := ⟨R.AX_LEARN_CFG n, 35, 30⟩
abbrev AX_LEARN_CFG_LEARN_ADDR (n : Fin 8) : Fld := ⟨R.AX_LEARN_CFG n, 29, 0⟩
abbrev AX_LEARN_SPEED_SPEED (n : Fin 8) : Fld := ⟨R.AX_LEARN_SPEED n, 17, 0⟩
abbrev AX_EVENTS_CMD_REFUSED (n : Fin 8) : Fld := ⟨R.AX_EVENTS n, 9, 9⟩
abbrev AX_EVENTS_START_REFUSED (n : Fin 8) : Fld := ⟨R.AX_EVENTS n, 8, 8⟩
abbrev AX_EVENTS_FORCED_START (n : Fin 8) : Fld := ⟨R.AX_EVENTS n, 7, 7⟩
abbrev AX_EVENTS_XFER_DONE (n : Fin 8) : Fld := ⟨R.AX_EVENTS n, 6, 6⟩
abbrev AX_EVENTS_STALL (n : Fin 8) : Fld := ⟨R.AX_EVENTS n, 5, 5⟩
abbrev AX_EVENTS_FOLLOW (n : Fin 8) : Fld := ⟨R.AX_EVENTS n, 4, 4⟩
abbrev AX_EVENTS_ROTOR_LOST (n : Fin 8) : Fld := ⟨R.AX_EVENTS n, 3, 3⟩
abbrev AX_EVENTS_LIMIT_HIT (n : Fin 8) : Fld := ⟨R.AX_EVENTS n, 2, 2⟩
abbrev AX_EVENTS_FB_WRAP (n : Fin 8) : Fld := ⟨R.AX_EVENTS n, 1, 1⟩
abbrev AX_EVENTS_POS_WRAP (n : Fin 8) : Fld := ⟨R.AX_EVENTS n, 0, 0⟩
abbrev AX_STALL_COUNT_SAT (n : Fin 8) : Fld := ⟨R.AX_STALL_COUNT n, 35, 35⟩
abbrev AX_STALL_COUNT_COUNT (n : Fin 8) : Fld := ⟨R.AX_STALL_COUNT n, 15, 0⟩
abbrev AX_REFUSE_COUNT_SAT (n : Fin 8) : Fld := ⟨R.AX_REFUSE_COUNT n, 35, 35⟩
abbrev AX_REFUSE_COUNT_COUNT (n : Fin 8) : Fld := ⟨R.AX_REFUSE_COUNT n, 15, 0⟩
abbrev AX_XFER_COUNT_SAT (n : Fin 8) : Fld := ⟨R.AX_XFER_COUNT n, 35, 35⟩
abbrev AX_XFER_COUNT_COUNT (n : Fin 8) : Fld := ⟨R.AX_XFER_COUNT n, 15, 0⟩
abbrev FB_CFG_FILTER (n : Fin 8) : Fld := ⟨R.FB_CFG n, 17, 15⟩
abbrev FB_CFG_TERM (n : Fin 8) : Fld := ⟨R.FB_CFG n, 14, 14⟩
abbrev FB_CFG_Z_GATE (n : Fin 8) : Fld := ⟨R.FB_CFG n, 13, 12⟩
abbrev FB_CFG_Z_POL (n : Fin 8) : Fld := ⟨R.FB_CFG n, 11, 11⟩
abbrev FB_CFG_SSI_GRAY (n : Fin 8) : Fld := ⟨R.FB_CFG n, 10, 10⟩
abbrev FB_CFG_SSI_EXTRA (n : Fin 8) : Fld := ⟨R.FB_CFG n, 9, 8⟩
abbrev FB_CFG_SSI_ERRBIT (n : Fin 8) : Fld := ⟨R.FB_CFG n, 7, 7⟩
abbrev FB_STATUS_SPEED_VALID (n : Fin 8) : Fld := ⟨R.FB_STATUS n, 16, 16⟩
abbrev FB_STATUS_SPEED_EST (n : Fin 8) : Fld := ⟨R.FB_STATUS n, 15, 15⟩
abbrev FB_STATUS_STANDSTILL (n : Fin 8) : Fld := ⟨R.FB_STATUS n, 14, 14⟩
abbrev FB_STATUS_DIR (n : Fin 8) : Fld := ⟨R.FB_STATUS n, 13, 13⟩
abbrev FB_STATUS_SUSPECT (n : Fin 8) : Fld := ⟨R.FB_STATUS n, 12, 12⟩
abbrev FB_STATUS_REFERENCED (n : Fin 8) : Fld := ⟨R.FB_STATUS n, 11, 11⟩
abbrev FB_STATUS_HALL_BAD (n : Fin 8) : Fld := ⟨R.FB_STATUS n, 10, 10⟩
abbrev FB_STATUS_LB_Z (n : Fin 8) : Fld := ⟨R.FB_STATUS n, 9, 9⟩
abbrev FB_STATUS_LB_B (n : Fin 8) : Fld := ⟨R.FB_STATUS n, 8, 8⟩
abbrev FB_STATUS_LB_A (n : Fin 8) : Fld := ⟨R.FB_STATUS n, 7, 7⟩
abbrev FB_STATUS_CMD_REFUSED (n : Fin 8) : Fld := ⟨R.FB_STATUS n, 6, 6⟩
abbrev FB_STATUS_POS_WRAP (n : Fin 8) : Fld := ⟨R.FB_STATUS n, 5, 5⟩
abbrev FB_STATUS_SSI_REJ (n : Fin 8) : Fld := ⟨R.FB_STATUS n, 4, 4⟩
abbrev FB_STATUS_TRANS_ERR (n : Fin 8) : Fld := ⟨R.FB_STATUS n, 3, 3⟩
abbrev FB_STATUS_LB_SEEN (n : Fin 8) : Fld := ⟨R.FB_STATUS n, 2, 2⟩
abbrev FB_STATUS_IDX_BAD (n : Fin 8) : Fld := ⟨R.FB_STATUS n, 1, 1⟩
abbrev FB_STATUS_IDX_CORR (n : Fin 8) : Fld := ⟨R.FB_STATUS n, 0, 0⟩
abbrev FB_COUNT_VALUE (n : Fin 8) : Fld := ⟨R.FB_COUNT n, 35, 0⟩
abbrev FB_POS_VALUE (n : Fin 8) : Fld := ⟨R.FB_POS n, 35, 0⟩
abbrev FB_SPEED_VALUE (n : Fin 8) : Fld := ⟨R.FB_SPEED n, 35, 0⟩
abbrev FB_INTERVAL_SAT (n : Fin 8) : Fld := ⟨R.FB_INTERVAL n, 35, 35⟩
abbrev FB_INTERVAL_COUNT (n : Fin 8) : Fld := ⟨R.FB_INTERVAL n, 23, 0⟩
abbrev FB_EDGE_TS_VALUE (n : Fin 8) : Fld := ⟨R.FB_EDGE_TS n, 35, 0⟩
abbrev FB_REF_POS_VALUE (n : Fin 8) : Fld := ⟨R.FB_REF_POS n, 35, 0⟩
abbrev FB_INDEX_INFO_LAST_ERR (n : Fin 8) : Fld := ⟨R.FB_INDEX_INFO n, 35, 18⟩
abbrev FB_INDEX_INFO_HALL (n : Fin 8) : Fld := ⟨R.FB_INDEX_INFO n, 17, 15⟩
abbrev FB_INDEX_INFO_SECTOR (n : Fin 8) : Fld := ⟨R.FB_INDEX_INFO n, 14, 12⟩
abbrev FB_IDX_ERR_COUNT_SAT (n : Fin 8) : Fld := ⟨R.FB_IDX_ERR_COUNT n, 35, 35⟩
abbrev FB_IDX_ERR_COUNT_COUNT (n : Fin 8) : Fld := ⟨R.FB_IDX_ERR_COUNT n, 15, 0⟩
abbrev FB_TRANS_ERR_COUNT_SAT (n : Fin 8) : Fld := ⟨R.FB_TRANS_ERR_COUNT n, 35, 35⟩
abbrev FB_TRANS_ERR_COUNT_COUNT (n : Fin 8) : Fld := ⟨R.FB_TRANS_ERR_COUNT n, 15, 0⟩
abbrev FB_SSI_RAW_VALUE (n : Fin 8) : Fld := ⟨R.FB_SSI_RAW n, 35, 0⟩
abbrev FB_SSI_REJECT_COUNT_SAT (n : Fin 8) : Fld := ⟨R.FB_SSI_REJECT_COUNT n, 35, 35⟩
abbrev FB_SSI_REJECT_COUNT_COUNT (n : Fin 8) : Fld := ⟨R.FB_SSI_REJECT_COUNT n, 15, 0⟩
abbrev FB_PRESET_VAL_VALUE (n : Fin 8) : Fld := ⟨R.FB_PRESET_VAL n, 35, 0⟩
abbrev LG_LEG_CFG_DEADTIME (n : Fin 4) (m : Fin 8) : Fld := ⟨R.LG_LEG_CFG n m, 35, 26⟩
abbrev LG_LEG_CFG_SOFT_LEVEL (n : Fin 4) (m : Fin 8) : Fld := ⟨R.LG_LEG_CFG n m, 25, 24⟩
abbrev LG_LEG_CFG_SOFT_HOLD (n : Fin 4) (m : Fin 8) : Fld := ⟨R.LG_LEG_CFG n m, 23, 20⟩
abbrev LG_LEG_CFG_HS_TIMEOUT (n : Fin 4) (m : Fin 8) : Fld := ⟨R.LG_LEG_CFG n m, 19, 18⟩
abbrev LG_LEG_CFG_SC_THRESH_H (n : Fin 4) (m : Fin 8) : Fld := ⟨R.LG_LEG_CFG n m, 17, 9⟩
abbrev LG_LEG_CFG_SC_THRESH_L (n : Fin 4) (m : Fin 8) : Fld := ⟨R.LG_LEG_CFG n m, 8, 0⟩
abbrev LG_LEG_STAT_LEG_STATE (n : Fin 4) (m : Fin 8) : Fld := ⟨R.LG_LEG_STAT n m, 17, 15⟩
abbrev LG_LEG_STAT_RETRIES (n : Fin 4) (m : Fin 8) : Fld := ⟨R.LG_LEG_STAT n m, 14, 12⟩
abbrev LG_LEG_STAT_H_AVAIL (n : Fin 4) (m : Fin 8) : Fld := ⟨R.LG_LEG_STAT n m, 11, 11⟩
abbrev LG_LEG_STAT_L_AVAIL (n : Fin 4) (m : Fin 8) : Fld := ⟨R.LG_LEG_STAT n m, 10, 10⟩
abbrev LG_LEG_STAT_GH_ON (n : Fin 4) (m : Fin 8) : Fld := ⟨R.LG_LEG_STAT n m, 9, 9⟩
abbrev LG_LEG_STAT_GL_ON (n : Fin 4) (m : Fin 8) : Fld := ⟨R.LG_LEG_STAT n m, 8, 8⟩
abbrev LG_LEG_STAT_CF_READY (n : Fin 4) (m : Fin 8) : Fld := ⟨R.LG_LEG_STAT n m, 7, 7⟩
abbrev LG_LEG_STAT_SC_H (n : Fin 4) (m : Fin 8) : Fld := ⟨R.LG_LEG_STAT n m, 5, 5⟩
abbrev LG_LEG_STAT_SC_L (n : Fin 4) (m : Fin 8) : Fld := ⟨R.LG_LEG_STAT n m, 4, 4⟩
abbrev LG_LEG_STAT_BOTH_ON (n : Fin 4) (m : Fin 8) : Fld := ⟨R.LG_LEG_STAT n m, 3, 3⟩
abbrev LG_LEG_STAT_GATE_H_FAIL (n : Fin 4) (m : Fin 8) : Fld := ⟨R.LG_LEG_STAT n m, 2, 2⟩
abbrev LG_LEG_STAT_GATE_L_FAIL (n : Fin 4) (m : Fin 8) : Fld := ⟨R.LG_LEG_STAT n m, 1, 1⟩
abbrev LG_LEG_STAT_CF_LOW (n : Fin 4) (m : Fin 8) : Fld := ⟨R.LG_LEG_STAT n m, 0, 0⟩
abbrev LG_LEAK_H_BASE (n : Fin 4) (m : Fin 8) : Fld := ⟨R.LG_LEAK_H n m, 31, 18⟩
abbrev LG_LEAK_H_BASE_VALID (n : Fin 4) (m : Fin 8) : Fld := ⟨R.LG_LEAK_H n m, 17, 17⟩
abbrev LG_LEAK_H_NOW (n : Fin 4) (m : Fin 8) : Fld := ⟨R.LG_LEAK_H n m, 13, 0⟩
abbrev LG_LEAK_L_BASE (n : Fin 4) (m : Fin 8) : Fld := ⟨R.LG_LEAK_L n m, 31, 18⟩
abbrev LG_LEAK_L_BASE_VALID (n : Fin 4) (m : Fin 8) : Fld := ⟨R.LG_LEAK_L n m, 17, 17⟩
abbrev LG_LEAK_L_NOW (n : Fin 4) (m : Fin 8) : Fld := ⟨R.LG_LEAK_L n m, 13, 0⟩
abbrev LG_OP_STAT_ERR_CODE (n : Fin 4) : Fld := ⟨R.LG_OP_STAT n, 31, 20⟩
abbrev LG_OP_STAT_LAST_OP (n : Fin 4) : Fld := ⟨R.LG_OP_STAT n, 19, 16⟩
abbrev LG_OP_STAT_CMD_REFUSED (n : Fin 4) : Fld := ⟨R.LG_OP_STAT n, 5, 5⟩
abbrev LG_OP_STAT_STAT (n : Fin 4) : Fld := ⟨R.LG_OP_STAT n, 4, 0⟩
abbrev LG_WIRE_RESULT_RESULT (n : Fin 4) : Fld := ⟨R.LG_WIRE_RESULT n, 31, 0⟩
abbrev LG_LEAK_CFG_LEAK_LIMIT (n : Fin 4) : Fld := ⟨R.LG_LEAK_CFG n, 35, 22⟩
abbrev LG_LEAK_CFG_LEAK_WARN (n : Fin 4) : Fld := ⟨R.LG_LEAK_CFG n, 21, 8⟩
abbrev LG_LEAK_CFG_LEAK_EN (n : Fin 4) : Fld := ⟨R.LG_LEAK_CFG n, 7, 0⟩
abbrev LG_SUPPLY_PG_MEAS (n : Fin 4) : Fld := ⟨R.LG_SUPPLY n, 27, 18⟩
abbrev LG_SUPPLY_VG_MEAS (n : Fin 4) : Fld := ⟨R.LG_SUPPLY n, 17, 10⟩
abbrev LG_SUPPLY_VG_LOW (n : Fin 4) : Fld := ⟨R.LG_SUPPLY n, 9, 9⟩
abbrev LG_SUPPLY_VG_SEL (n : Fin 4) : Fld := ⟨R.LG_SUPPLY n, 8, 8⟩
abbrev LG_SUPPLY_CF_READY (n : Fin 4) : Fld := ⟨R.LG_SUPPLY n, 7, 0⟩
abbrev LG_SC_COUNT_SAT (n : Fin 4) : Fld := ⟨R.LG_SC_COUNT n, 35, 35⟩
abbrev LG_SC_COUNT_COUNT (n : Fin 4) : Fld := ⟨R.LG_SC_COUNT n, 15, 0⟩
abbrev LG_RETRY_COUNT_SAT (n : Fin 4) : Fld := ⟨R.LG_RETRY_COUNT n, 35, 35⟩
abbrev LG_RETRY_COUNT_COUNT (n : Fin 4) : Fld := ⟨R.LG_RETRY_COUNT n, 15, 0⟩
abbrev LG_HS_STRETCH_SAT (n : Fin 4) : Fld := ⟨R.LG_HS_STRETCH n, 35, 35⟩
abbrev LG_HS_STRETCH_COUNT (n : Fin 4) : Fld := ⟨R.LG_HS_STRETCH n, 15, 0⟩
abbrev LG_BOTHON_COUNT_SAT (n : Fin 4) : Fld := ⟨R.LG_BOTHON_COUNT n, 35, 35⟩
abbrev LG_BOTHON_COUNT_COUNT (n : Fin 4) : Fld := ⟨R.LG_BOTHON_COUNT n, 15, 0⟩
abbrev PW_OUTCFG_M_MINUS1 (n : Fin 4) (m : Fin 8) : Fld := ⟨R.PW_OUTCFG n m, 17, 14⟩
abbrev PW_OUTCFG_ALIGN (n : Fin 4) (m : Fin 8) : Fld := ⟨R.PW_OUTCFG n m, 13, 13⟩
abbrev PW_OUTCFG_MASK_SRC (n : Fin 4) (m : Fin 8) : Fld := ⟨R.PW_OUTCFG n m, 12, 11⟩
abbrev PW_OUTCFG_HALL_FB (n : Fin 4) (m : Fin 8) : Fld := ⟨R.PW_OUTCFG n m, 10, 8⟩
abbrev PW_OUTCFG_REV (n : Fin 4) (m : Fin 8) : Fld := ⟨R.PW_OUTCFG n m, 7, 7⟩
abbrev PW_OUTCFG_SEL (n : Fin 4) (m : Fin 8) : Fld := ⟨R.PW_OUTCFG n m, 6, 4⟩
abbrev PW_OUTCFG_HALT_CLASS (n : Fin 4) (m : Fin 8) : Fld := ⟨R.PW_OUTCFG n m, 3, 3⟩
abbrev PW_MASK_ENTRIES (n : Fin 4) (m : Fin 8) : Fld := ⟨R.PW_MASK n m, 31, 0⟩
abbrev PW_DUTY_DUTY (n : Fin 4) (m : Fin 8) : Fld := ⟨R.PW_DUTY n m, 21, 0⟩
abbrev PW_TRIP_CFG_LEGS (n : Fin 4) (m : Fin 8) : Fld := ⟨R.PW_TRIP_CFG n m, 19, 12⟩
abbrev PW_TRIP_CFG_ACTION (n : Fin 4) (m : Fin 8) : Fld := ⟨R.PW_TRIP_CFG n m, 11, 11⟩
abbrev PW_TRIP_CFG_BLANK (n : Fin 4) (m : Fin 8) : Fld := ⟨R.PW_TRIP_CFG n m, 10, 0⟩
abbrev PW_TRIP_STAT_TRIP_STILL (n : Fin 4) : Fld := ⟨R.PW_TRIP_STAT n, 17, 17⟩
abbrev PW_TRIP_STAT_LIVE (n : Fin 4) : Fld := ⟨R.PW_TRIP_STAT n, 15, 8⟩
abbrev PW_TRIP_STAT_LATCH (n : Fin 4) : Fld := ⟨R.PW_TRIP_STAT n, 7, 0⟩
abbrev PW_CAL_STAT_TEMP (n : Fin 4) : Fld := ⟨R.PW_CAL_STAT n, 29, 18⟩
abbrev PW_CAL_STAT_COARSE (n : Fin 4) : Fld := ⟨R.PW_CAL_STAT n, 17, 17⟩
abbrev PW_CAL_STAT_CAUSE (n : Fin 4) : Fld := ⟨R.PW_CAL_STAT n, 16, 15⟩
abbrev PW_CAL_STAT_CELLS (n : Fin 4) : Fld := ⟨R.PW_CAL_STAT n, 14, 8⟩
abbrev PW_HALT_CFG_HOLD_LIMIT (n : Fin 4) : Fld := ⟨R.PW_HALT_CFG n, 3, 0⟩
abbrev PW_STATUS_HOLDING (n : Fin 4) : Fld := ⟨R.PW_STATUS n, 5, 5⟩
abbrev PW_STATUS_ON_BACKUP (n : Fin 4) : Fld := ⟨R.PW_STATUS n, 4, 4⟩
abbrev PW_STATUS_DROPPED (n : Fin 4) : Fld := ⟨R.PW_STATUS n, 3, 3⟩
abbrev PW_STATUS_HOLD_EXPIRED (n : Fin 4) : Fld := ⟨R.PW_STATUS n, 2, 2⟩
abbrev PW_STATUS_HALL_BAD (n : Fin 4) : Fld := ⟨R.PW_STATUS n, 1, 1⟩
abbrev PW_STATUS_CMD_REFUSED (n : Fin 4) : Fld := ⟨R.PW_STATUS n, 0, 0⟩
abbrev PW_LATE_COUNT_SAT (n : Fin 4) : Fld := ⟨R.PW_LATE_COUNT n, 35, 35⟩
abbrev PW_LATE_COUNT_COUNT (n : Fin 4) : Fld := ⟨R.PW_LATE_COUNT n, 15, 0⟩
abbrev PW_CAL_FAIL_SAT (n : Fin 4) : Fld := ⟨R.PW_CAL_FAIL n, 35, 35⟩
abbrev PW_CAL_FAIL_COUNT (n : Fin 4) : Fld := ⟨R.PW_CAL_FAIL n, 15, 0⟩
abbrev AD_CORE_CFG_IN7 (n : Fin 2) (m : Fin 4) : Fld := ⟨R.AD_CORE_CFG n m, 17, 17⟩
abbrev AD_CORE_CFG_HK_PERIOD (n : Fin 2) (m : Fin 4) : Fld := ⟨R.AD_CORE_CFG n m, 15, 8⟩
abbrev AD_CORE_CFG_HK_INPUTS (n : Fin 2) (m : Fin 4) : Fld := ⟨R.AD_CORE_CFG n m, 3, 0⟩
abbrev AD_OP_STAT_ERR_CODE (n : Fin 2) : Fld := ⟨R.AD_OP_STAT n, 31, 20⟩
abbrev AD_OP_STAT_LAST_OP (n : Fin 2) : Fld := ⟨R.AD_OP_STAT n, 19, 16⟩
abbrev AD_OP_STAT_STAT (n : Fin 2) : Fld := ⟨R.AD_OP_STAT n, 4, 0⟩
abbrev AD_STATUS_CMD_REFUSED (n : Fin 2) : Fld := ⟨R.AD_STATUS n, 7, 7⟩
abbrev AD_STATUS_TEMP_LOST (n : Fin 2) : Fld := ⟨R.AD_STATUS n, 6, 6⟩
abbrev AD_STATUS_MISSING (n : Fin 2) : Fld := ⟨R.AD_STATUS n, 5, 5⟩
abbrev AD_STATUS_OVR (n : Fin 2) : Fld := ⟨R.AD_STATUS n, 4, 4⟩
abbrev AD_STATUS_UNCAL (n : Fin 2) : Fld := ⟨R.AD_STATUS n, 3, 0⟩
abbrev AD_CAL_SEL_SET (n : Fin 2) : Fld := ⟨R.AD_CAL_SEL n, 5, 5⟩
abbrev AD_CAL_SEL_CORE (n : Fin 2) : Fld := ⟨R.AD_CAL_SEL n, 4, 3⟩
abbrev AD_CAL_SEL_INPUT (n : Fin 2) : Fld := ⟨R.AD_CAL_SEL n, 2, 0⟩
abbrev AD_CAL_OFS_TEMP_Z (n : Fin 2) : Fld := ⟨R.AD_CAL_OFS n, 35, 24⟩
abbrev AD_CAL_OFS_VALID (n : Fin 2) : Fld := ⟨R.AD_CAL_OFS n, 18, 18⟩
abbrev AD_CAL_OFS_OFFSET (n : Fin 2) : Fld := ⟨R.AD_CAL_OFS n, 17, 0⟩
abbrev AD_CAL_GAIN_TEMP (n : Fin 2) : Fld := ⟨R.AD_CAL_GAIN n, 35, 24⟩
abbrev AD_CAL_GAIN_VALID (n : Fin 2) : Fld := ⟨R.AD_CAL_GAIN n, 18, 18⟩
abbrev AD_CAL_GAIN_GAIN (n : Fin 2) : Fld := ⟨R.AD_CAL_GAIN n, 17, 0⟩
abbrev AD_OVR_COUNT_SAT (n : Fin 2) : Fld := ⟨R.AD_OVR_COUNT n, 35, 35⟩
abbrev AD_OVR_COUNT_COUNT (n : Fin 2) : Fld := ⟨R.AD_OVR_COUNT n, 15, 0⟩
abbrev AD_MISS_COUNT_SAT (n : Fin 2) : Fld := ⟨R.AD_MISS_COUNT n, 35, 35⟩
abbrev AD_MISS_COUNT_COUNT (n : Fin 2) : Fld := ⟨R.AD_MISS_COUNT n, 15, 0⟩
abbrev AD_HK_MISS_SAT (n : Fin 2) : Fld := ⟨R.AD_HK_MISS n, 35, 35⟩
abbrev AD_HK_MISS_COUNT (n : Fin 2) : Fld := ⟨R.AD_HK_MISS n, 15, 0⟩
abbrev AD_RESULT_TS (n : Fin 2) (m : Fin 32) : Fld := ⟨R.AD_RESULT n m, 35, 20⟩
abbrev AD_RESULT_VALID (n : Fin 2) (m : Fin 32) : Fld := ⟨R.AD_RESULT n m, 19, 19⟩
abbrev AD_RESULT_OVR (n : Fin 2) (m : Fin 32) : Fld := ⟨R.AD_RESULT n m, 18, 18⟩
abbrev AD_RESULT_RAW (n : Fin 2) (m : Fin 32) : Fld := ⟨R.AD_RESULT n m, 17, 0⟩

end F

end Sys2Proof.Machine
end

