-- ==== Sys2Proof/Machine/State.lean ====
section
/-! DEFINITION. The state of the module (chapters 1 to 16): every register and every piece of state beside the
registers that the manual gives the block, the queue of waiting commands, and the state right after the power-on
reset. -/

namespace Sys2Proof.Machine

open Sys2Proof


/-- R1: the two variants. -/
inductive Variant | lkm8836 | lkm4836
  deriving DecidableEq, Repr

/-- Table 16.3 (R450): the power states. -/
inductive Power | off | start | loading | bare | configured | reset | brownout
  deriving DecidableEq, Repr

/-- Table 8.1 (R224): axis states, with their codes in AXn.STATE.STATE. -/
inductive AxisState | disabled | checking | armed | running | stopping | faulted | latched
  deriving DecidableEq, Repr

/-- Table 4.6 (R118): leg states. -/
inductive LegState | unallocated | idle | testing | active | held | forcedOff | latched | retired
  deriving DecidableEq, Repr

/-! ### The running Inventory (chapter 3), as parsed at acceptance -/

/-- Table 3.4: one axis record of PLAN. -/
structure AxisRec where
  axis : Nat
  motor : Nat
  firstLeg : Nat
  source : Nat
  haltHold : Bool
  phaseRev : Bool
  qg : Nat
  deriving DecidableEq, Repr

/-- Table 3.6: one PINS record. -/
structure PinRec where
  filter : Nat
  invert : Bool
  index : Nat
  func : Nat
  deriving DecidableEq, Repr

/-- Table 3.9: a LOOP body. -/
structure LoopDef where
  axis : Nat
  regime : Nat
  driveMode : Nat
  steps : Nat
  iRated : Nat
  nRated : Nat
  nKnee : Nat
  prog : List Word
  coef : List Word
  init : List Word
  tables : List Word
  deriving DecidableEq, Repr

/-- Table 3.10: one SCHED record. -/
structure SchedRec where
  axis : Nat
  mMinus1 : Nat
  align : Bool
  slotStart : Nat
  adcDelay : Nat
  deriving DecidableEq, Repr

/-- Table 3.12: the axis record of PROT. -/
structure ProtRec where
  axis : Nat
  retryWait : Nat
  retryMax : Nat
  retryWindow : Nat
  trapMode : Bool
  fbLoss : Nat
  deriving DecidableEq, Repr

/-- Table 3.12: the PROT body. -/
structure ProtDef where
  vmHigh : Nat
  vmLow : Nat
  brkOn : Nat
  brkOff : Nat
  brkRes : Nat
  brkPcont : Nat
  brkTau : Nat
  stopDisc : Nat
  recs : List ProtRec
  deriving DecidableEq, Repr

/-- Table 3.13: a FEED body. -/
structure FeedDef where
  axis : Nat
  kind : Nat
  channel : Nat
  dirInv : Bool
  lines : Nat
  indexTol : Nat
  tickNum : Nat
  tickDen : Nat
  speedTimeout : Nat
  refKind : Nat
  refTeeth : Nat
  ssiPort : Nat
  ssiSelect : Nat
  ssiBits : Nat
  deriving DecidableEq, Repr

/-- Table 3.14: an HTn record. -/
structure HtRec where
  axis : Nat
  used : Bool
  mode : Nat
  filter : Nat
  enaUsed : Bool
  readyUsed : Bool
  ticksPerStep : Nat
  deriving DecidableEq, Repr

/-- Table 3.14: a CMDAn record. -/
structure CmdaRec where
  axis : Nat
  used : Bool
  kind : Nat
  deadband : Nat
  velFs : Nat
  deriving DecidableEq, Repr

/-- Table 3.15: a PORTS record. -/
structure PortRec where
  used : Bool
  cmdLanes : Nat
  dataLanes : Nat
  busyEn : Bool
  unitBits : Nat
  clockKhz : Nat
  busyPattern : Nat
  deriving DecidableEq, Repr

/-- Table 3.16: the LADDER body, or the recovery settings of R347. -/
structure LadderDef where
  ip : Nat
  mask : Nat
  ptpRole : Nat
  ptpDomain : Nat
  udpPort : Nat
  moduleNo : Nat
  partners : List (Nat × Nat)
  deriving DecidableEq, Repr

/-- Table 3.17: a COMP body. -/
structure CompDef where
  axis : Nat
  pitchAddr : Nat
  pitchPoints : Nat
  pitchStart : Int
  pitchStep : Nat
  backlash : Nat
  blRamp : Nat
  thermCoef : Int
  tempSrc : Nat
  tempRef : Int
  deriving DecidableEq, Repr

/-- Table 3.18: a CALDEF record. -/
structure CalDef where
  core : Nat
  input : Nat
  unit : Nat
  fullScale : Nat
  calPoint : Nat
  nominalGain : Nat
  deriving DecidableEq, Repr

/-- The running Inventory (R83, R84): every shelf of the accepted full image, with the LOOP and FEED shelves that
partial images have replaced since (R90). -/
structure Inventory where
  imageId : Word
  for8836 : Bool
  vgGd0 : Bool
  vgGd1 : Bool
  axes : List AxisRec
  pins : List PinRec
  inletEn : Bool
  brkEn : Bool
  loops : List LoopDef
  sched : List SchedRec
  prot : ProtDef
  feeds : List FeedDef
  hts : List HtRec
  cmdas : List CmdaRec
  ports : List PortRec
  ladder : Option LadderDef
  comps : List CompDef
  cals : List CalDef
  deriving DecidableEq, Repr


/-! ### Faults and the Strongbox (chapter 15) -/

/-- R13, R15, R21: a fault event on its way to the fault manager. `die` 0 LD, 1 GD0, 2 GD1; `time` is the full
detection instant on the model's clock. -/
structure Event where
  code : Nat
  source : Nat
  die : Nat
  axis : Option Nat
  time : Nat
  /-- R440: the rule that raised the fault has already taken its reaction (raised on LD within a step of its own). -/
  acted : Bool
  deriving DecidableEq, Repr

/-- R435, Table 15.8: a record of the fault queue. -/
structure FaultRec where
  code : Nat
  source : Nat
  die : Nat
  axis : Option Nat
  rep : Nat
  time : Word
  /-- R21: the full detection instant on the model's clock, by which the records stand in order. -/
  at_ : Nat
  deriving DecidableEq, Repr

/-- R436, R437: the fault manager. -/
structure FaultMgr where
  /-- R21: events that have reached the fault manager and wait for it. -/
  inbox : List Event
  /-- R436: the fault queue, oldest first, at most 64. -/
  queue : List FaultRec
  /-- R437: instants of the ring writes of the last second. -/
  ringTimes : List Nat
  deriving DecidableEq, Repr

/-- What the Strongbox keeps across resets and without VAUX. -/
structure Strongbox where
  /-- R60, R443: the 256 key bits. -/
  key : BitVec 256
  /-- R473: the confirmation mark. -/
  mark : Bool
  /-- R444, R473: the key in force is in an unknown state. -/
  keyUnknown : Bool
  /-- Records of the SAVE operations: group number, IMAGE_ID, register words. -/
  saves : List (Nat × Word × List (Nat × Word))
  /-- R120: BASE and BASE_VALID of each switch, by register key of LEAK_Hm or LEAK_Lm. -/
  leak : Cells Word
  /-- R121: retired legs. -/
  retired : List Nat
  /-- R171 to R173: calibration sets: key (core, input, set), words CAL_OFS and CAL_GAIN, FULL_SCALE. -/
  cals : List (Nat × Word × Word × Nat)
  /-- R423: brake heat, nJ. -/
  heat : Nat
  /-- R441: the REPLACE reasons kept. -/
  reasons : Nat
  /-- R437: the ring, newest record first, at most 1024. -/
  ring : List (Word × Word × Word)
  /-- R446: ring records written since manufacture, as BOX.RING_COUNT shows it. -/
  ringCount : Word
  /-- Table 15.14 (R447): lifetime counters 0 to 10. -/
  life : List Nat
  /-- R447: time with VAUX, with the inlet ON and with a die above 125 C not yet a whole hour, PCLK; brake energy not
  yet a whole kJ, nJ. -/
  lifePart : List Nat
  /-- R330, R332: the remap list: the logical line of each spare line in use, in the order of the spare lines. -/
  remap : List Nat
  deriving DecidableEq, Repr

/-- R436: nothing queued. -/
def FaultMgr.reset : FaultMgr := ⟨[], [], []⟩

/-- A factory-new Strongbox (DESIGN CHOICE, log entry 6). -/
def Strongbox.reset : Strongbox :=
  { key := 0, mark := false, keyUnknown := false, saves := [], leak := [], retired := [], cals := [], heat := 0,
    reasons := 0, ring := [], ringCount := 0, life := [0, 0, 0, 0, 0, 0, 0, 0, 0, 0, 0], lifePart := [0, 0, 0, 0],
    remap := [] }

/-- R88 to R93, R85, R86: where the Inventory operation and the boot stand. -/
structure InvOp where
  /-- R85: the boot check is under way: slots still to try after the one being checked (0 A, 1 B). -/
  boot : Option (List Nat)
  /-- R85: the order came from an order that tries slots at all. -/
  bootTried : List Nat
  /-- R85: first failure of the first refused slot: code, shelf, word. -/
  bootFail : Option (Nat × Nat × Nat)
  /-- R88, R90: the running operation takes a partial image. -/
  partialImg : Bool
  /-- R91: axes that the running APPLY affects. -/
  affected : List Nat
  /-- R472: staged range held: first word and number of words. -/
  range : Option (Nat × Nat)
  /-- R472: writes held back until the operation ends, oldest first. -/
  held : List (Nat × Word)
  deriving DecidableEq, Repr

def InvOp.reset : InvOp := ⟨none, [], none, false, [], none, []⟩

/-- Filtered pin levels that no register holds as such. -/
structure Pins where
  /-- Table 3.6: level of XIOi after its filter and before INVERT, bit i. -/
  xio : Nat
  /-- R147, R178: comparators that drive each trip input, as a list of comparator numbers per trip. -/
  tripCmp : List (List Nat)
  /-- R142, R143, R272: filtered hall state of each feedback channel. -/
  hall : List Nat
  deriving DecidableEq, Repr

def Pins.reset : Pins := ⟨0, List.replicate 8 [], List.replicate 8 0⟩

/-- Table 16.7: the JTAG instruction in force. -/
inductive JtagInstr | extest | idcode | sample | highz | clamp | debugHalt | debugRun | bypass
  deriving DecidableEq, Repr

/-- R463: the test access port. -/
structure Jtag where
  instr : JtagInstr
  /-- R151: a debug halt is in force. -/
  halted : Bool
  /-- The word last shifted out of the data register, for IDCODE. -/
  dr : BitVec 32
  deriving DecidableEq, Repr

def Jtag.reset : Jtag := ⟨.idcode, false, 0⟩

/-! ### Legs, PWM and gate-drive dies (chapters 4 and 5) -/

/-- R111: where a soft turn-off stands, with the instant at which the stage began. -/
inductive Soft | none | hold (since : Nat) | discharge (since : Nat)
  deriving DecidableEq, Repr

/-- One switch of a leg: what R103 to R121 give it beside LEG_STAT. Instants in taps are 1/32 PCLK. -/
structure Switch where
  /-- R104: the gate output of the die is on. -/
  on : Bool
  /-- R104: a turn-on is requested and waits; the tap of its commanded edge. -/
  wait : Option Nat
  /-- R104: tap of the last turn-off edge. -/
  offAt : Nat
  /-- R119: instant (PCLK) since which the switch has been held off without interruption. -/
  offSince : Nat
  /-- R104, R108: tap of the last turn-on edge. -/
  onAt : Nat
  /-- R103, R111: held off after a short. -/
  heldShort : Bool
  /-- R116: instant at which RETRY_WAIT ends. -/
  retryAt : Option Nat
  /-- R111: soft turn-off in progress. -/
  soft : Soft
  /-- R108: the timeout of the last gate edge has not been judged yet. -/
  watched : Bool
  /-- R108, Table 4.11: gate-sense found the gate still above 2.0 V when its timeout ended. -/
  stuck : Bool
  /-- R455: the switch was unavailable when a reset began, and the die keeps it off under the SHORT that it holds. -/
  keptOff : Bool
  /-- R119: end of the last leakage check of any kind. -/
  leakAt : Nat
  /-- R120: sum of the results from which BASE is being learnt. -/
  learnSum : Nat
  /-- R120: number of those results. -/
  learnN : Nat
  deriving DecidableEq, Repr

/-- One leg beside its registers. -/
structure Leg where
  hi : Switch
  lo : Switch
  /-- R100: the high side is held off for a low floating supply. -/
  cfLow : Bool
  /-- R116, R117: instants of the retries, newest first. -/
  retries : List Nat
  /-- R107: a both-on request is present now. -/
  bothOn : Bool
  /-- R107: consecutive reloads with the request present. -/
  bothRun : Nat
  /-- R132: commanded state of the high side. -/
  cmdHigh : Bool
  /-- R132: the turn-on and the turn-off edge of the period are still to come. -/
  riseDue : Bool
  fallDue : Bool
  /-- R137, R138: delay-line cell of the last edge. -/
  cell : Nat
  /-- R433: Trapdoor policy the die holds: none released, some false OPEN, some true SHORT. -/
  policy : Option Bool
  deriving DecidableEq, Repr

/-- R119, R123, R130: who runs a leg test. -/
inductive TestOwner | cmd (q : Nat) | axis (n : Nat) | hourly
  deriving DecidableEq, Repr

/-- R124: a running wiring test: the axes under test, the index of the step that runs, its start, the first failures
found by leg, whether an axis of the operation could not run it to its end, and the first fault raised. -/
structure WireTest where
  owner : TestOwner
  axes : List Nat
  step : Nat
  since : Nat
  fails : List (Nat × Nat)
  missed : Bool
  firstFault : Nat
  deriving DecidableEq, Repr

/-- R119: a running gate-leakage check: switches still under check (leg, high side?), whether a leg has retired. -/
structure LeakTest where
  owner : TestOwner
  todo : List (Nat × Bool)
  firstFault : Nat
  deriving DecidableEq, Repr

/-- R134: one group of edge records of an axis, with the reload it was committed for. -/
structure Group where
  axis : Nat
  duties : List Nat
  sel : Nat
  rev : Bool
  target : Nat
  /-- R14: instant of its commit on LD. -/
  at_ : Nat
  /-- R134: its arrival edge, once it has arrived. -/
  came : Nat
  deriving DecidableEq, Repr

/-- R131 to R136: the carrier of an axis. -/
structure Carrier where
  /-- Instant of the next reload, when the carrier runs. -/
  next : Option Nat
  /-- Start of the present period. -/
  start : Nat
  /-- M in force. -/
  m : Nat
  shadow : Option Group
  active : Option Group
  /-- R225: the next group that takes effect releases the Trapdoor. -/
  release : Bool
  /-- R153: the HOLD pattern has expired: both switches off. -/
  holdOff : Bool
  deriving DecidableEq, Repr

/-- R138 to R140: a delay-line region beside PWq.CAL_STAT. -/
structure Region where
  /-- Consecutive valid calibrations. -/
  goodRun : Nat
  /-- The 40 K limit was passed and the difference has not come down to 35 K. -/
  hot : Bool
  /-- Start of the present spell of coarse edges, while edges are coarse. -/
  coarseSince : Nat
  /-- Start of the present spell of fine edges. -/
  fineSince : Nat
  /-- Coarse edges and their cause from the next engine frame boundary. -/
  next : Option (Bool × Nat)
  /-- R138: N of the map in force, and N of the map that the next engine frame boundary brings. -/
  map : Nat
  mapNext : Option Nat
  /-- R138: instant of the last calibration. -/
  calAt : Nat
  /-- Fault 0x342 raised in this spell. -/
  told : Bool
  deriving DecidableEq, Repr

/-- R161 to R166: one conversion and its result. -/
structure Conv where
  core : Nat
  input : Nat
  hk : Bool
  /-- Trigger instant of a frame-sequence conversion; the sampling instant otherwise. -/
  trig : Nat
  /-- Sampling instant. -/
  sampled : Nat
  /-- R14: end of the conversion. -/
  done : Nat
  raw : Int
  deriving DecidableEq, Repr

/-- Table 1.2 (R13): what a link cycle has carried so far beside its event window: its opening instant, ADC records,
legs whose edge records it carried, bits of register data on the down and on the up lane, and the code errors it met. -/
structure LinkUse where
  cycle : Nat
  adc : Nat
  legs : Nat
  down : Nat
  up : Nat
  errs : Nat
  deriving DecidableEq, Repr

/-- A GD die beside its register blocks (R12). -/
structure Die where
  /-- R15: the event buffer, in detection order. -/
  events : List Event
  /-- Table 1.2: ADC records on the up lane that LD has not yet taken up. -/
  adcUp : List Conv
  /-- Table 1.2: edge groups committed on LD whose closing record has not yet arrived. -/
  down : List Group
  /-- Table 1.2: delay-line calibration status words that wait for the up lane, with their quadrants; the words that LD
  has received last. -/
  calUp : List (Nat × Word)
  calLD : List (Nat × Word)
  /-- R13: what the present link cycle has carried. -/
  use : LinkUse
  /-- R13: instant of the last link cycle. -/
  linkAt : Nat
  /-- R439: the gate link is lost. -/
  linkLost : Bool
  /-- R152: the die runs on its backup oscillator. -/
  onBackup : Bool
  /-- R151: the halt line is asserted. -/
  halted : Bool
  /-- R153: start of the HOLD patterns. -/
  holdSince : Option Nat
  /-- R146, R151: the hall states at the start of the HOLD patterns, which a held mask selection repeats. -/
  heldHall : List Nat
  /-- R99: VG lies below its limit. -/
  vgLow : Bool
  /-- R98: gate-drive power of the last second, mW per sample of 1 ms, newest first. -/
  pg : List Nat
  /-- R98: the mean stands above 3 W. -/
  pgHigh : Bool
  /-- R97, R453: VG is up. -/
  vgUp : Bool
  /-- R148: end of the blanking window of each trip input on this die. -/
  blankEnd : List Nat
  /-- R427: the die's copy of STOP_DELAY, ms. -/
  stopDelay : Nat
  /-- R427: since when STOPB has been low as the die sees it. -/
  stopbLowAt : Option Nat
  /-- R427: the backstop holds every leg off. -/
  backstop : Bool
  /-- Last sample instant of R98. -/
  pgAt : Nat
  deriving DecidableEq, Repr

def Switch.reset : Switch := ⟨false, none, 0, 0, 0, false, none, .none, false, false, false, 0, 0, 0⟩
def Leg.reset : Leg := ⟨.reset, .reset, false, [], false, 0, false, false, false, 0, none⟩
def Carrier.reset : Carrier := ⟨none, 0, 1, none, none, false, false⟩
def Region.reset : Region := ⟨0, false, 0, 0, none, 0, none, 0, false⟩
def LinkUse.reset : LinkUse := ⟨0, 0, 0, 0, 0, 0⟩
def Die.reset : Die :=
  { events := [], adcUp := [], down := [], calUp := [], calLD := [], use := .reset, linkAt := 0, linkLost := false,
    onBackup := false, halted := false, holdSince := none, heldHall := List.replicate 8 0, vgLow := false, pg := [], pgHigh := false, vgUp := false,
    blankEnd := List.replicate 8 0, stopDelay := 500, stopbLowAt := none, backstop := false, pgAt := 0 }

/-! ### Sensing and comparators (chapter 6) -/

/-- R162, R192: the frame sequence of an axis: the (core, input) pairs its program reads, the instant of its last
trigger. -/
structure Sequence where
  reads : List (Nat × Nat)
  trigAt : Nat
  deriving DecidableEq, Repr

/-- R161, R163, R171: a conversion waiting or running on a core: input, frame sequence or housekeeping, one of a calibration,
trigger instant, and the SLOT_START by which coinciding ones are ordered. -/
structure ConvReq where
  input : Nat
  hk : Bool
  cal : Bool
  trig : Nat
  slot : Nat
  deriving DecidableEq, Repr

/-- An ADC core beside ADd.RESULT (R161 to R164). -/
structure Core where
  /-- The conversion that runs, with its sampling instant. -/
  busy : Option (ConvReq × Nat)
  /-- R163: frame-sequence conversions that wait, in their order. -/
  queue : List ConvReq
  /-- R164, R165: housekeeping inputs due in this period. -/
  due : List Nat
  /-- R164: start of the housekeeping period. -/
  hkAt : Nat
  /-- R183: HK_INPUTS and HK_PERIOD in force. -/
  hkInputs : Nat
  hkPeriod : Nat
  /-- R170: conversions of the temperature input out of range in a row, and whether the input is lost. -/
  tempBad : Nat
  tempLost : Bool
  /-- R442: since when the temperature input has been valid. -/
  tempGoodSince : Nat
  deriving DecidableEq, Repr

/-- R166, R168: a value on LD: trigger (sampling instant of housekeeping), sampling instant, y, over-range. -/
structure Sample where
  trig : Nat
  at_ : Nat
  y : Int
  isOver : Bool
  deriving DecidableEq, Repr

/-- R166, R162: the values of one core and input on LD, newest first. -/
structure Meas where
  hist : List Sample
  /-- R168: fault 0x411 has been raised in this spell of over-range. -/
  ovr : Bool
  deriving DecidableEq, Repr

/-- R171 to R173: a running calibration: operation, core, input, set, its start, conversions still to make, the sum of those
made. -/
structure CalRun where
  op : Nat
  core : Nat
  input : Nat
  set : Nat
  since : Nat
  left : Nat
  sum : Int
  deriving DecidableEq, Repr

/-- R177: the mode in which a comparator runs. -/
inductive CmpMode | off | continuous | sampled
  deriving DecidableEq, Repr

/-- A comparator beside the CMP registers. -/
structure Cmp where
  mode : CmpMode
  /-- R178: ticks in a row at which the raw output differed from the qualified one. -/
  run : Nat
  /-- R180: end of the last audit. -/
  auditAt : Nat
  /-- R176: a changed threshold takes effect; the output holds until then. -/
  settle : Nat
  deriving DecidableEq, Repr

/-- R180: why an audit is made: start-up, CMP.CMD, AUDIT_CFG. -/
inductive AuditBy | startUp | command | auto
  deriving DecidableEq, Repr

/-- R179 to R181: audits to make, the first of them running: comparator and reason. -/
structure Audit where
  todo : List (Nat × AuditBy)
  /-- Start of the running audit. -/
  startAt : Nat
  /-- First fault of the audits of the running command. -/
  firstFault : Nat
  deriving DecidableEq, Repr

def Sequence.reset : Sequence := ⟨[], 0⟩
def Core.reset : Core := ⟨none, [], [], 0, 0xC, 1, 0, false, 0⟩
def Meas.reset : Meas := ⟨[], false⟩
def Cmp.reset : Cmp := ⟨.off, 0, 0, 0⟩
def Audit.reset : Audit := ⟨[], 0, 0⟩

/-! ### The loop engine (chapter 7) -/

/-- R212: the table entries that one frame needs: the coefficient base of the SINE (0 for a pitch table), the engine frame
of the request, the table's address, the points, and their words once the lines have arrived. -/
structure Fetch where
  base : Nat
  asked : Nat
  addr : Nat
  points : List Nat
  got : Option (List Word)
  deriving DecidableEq, Repr

/-- R216: a program that a debug halt interrupted: where it stands, the engine frame it runs in, the reload that its group
would meet, and the shared inputs other than axis inputs as the step read them (Table 7.4). -/
structure Broken where
  run : Run
  frame : Nat
  reload : Option Nat
  shared : List Word
  deriving DecidableEq, Repr

/-- The program of an axis and what the engine keeps of it beside the ENG registers. -/
structure AxisEng where
  /-- R67, R189: the sections of the LOOP shelf: program, active coefficients, initial image, gain tables. -/
  prog : List Word
  coef : List Word
  init : List Word
  tables : List Word
  /-- R90: where the sections lie in their stores (tables in units of 64 words). -/
  base : List Nat
  /-- R211: the state section. -/
  st : List Word
  /-- R192, Table 7.5: the axis inputs as latched for the executed step. -/
  inputs : List Word
  /-- R208: the 48-bit integrator of ω̂. -/
  omega : Int
  /-- R209: consecutive steps of each supervisor test: model, lock, agreement. -/
  resRun : Nat
  lockRun : Nat
  apartRun : Nat
  /-- R211: the first engine frame boundary from which the program executes. -/
  readyAt : Nat
  /-- R213: the engine frame boundary of the frame in which the program last started. -/
  ranAt : Option Nat
  /-- R218: the engine frame of the last write of SPEED_EST. -/
  speedFrame : Nat
  /-- R215: the engine frames of the last overruns, newest first. -/
  overruns : List Nat
  /-- R216: a program that a debug halt interrupted. -/
  broken : Option Broken
  /-- R212: detent fetches, newest first. -/
  detents : List Fetch
  deriving DecidableEq, Repr

/-- The engine beside the axes. -/
structure Engine where
  /-- R223: staged coefficient words, oldest first: axis, offset, word. -/
  staged : List (Nat × Nat × Word)
  /-- Table 7.12: end of the last program of this engine frame, PCLK after the boundary; 0 if none ran yet. -/
  endNow : Nat
  deriving DecidableEq, Repr

def AxisEng.reset : AxisEng :=
  { prog := [], coef := [], init := [], tables := [], base := [0, 0, 0, 0], st := [], inputs := List.replicate 8 0, omega := 0, resRun := 0,
    lockRun := 0, apartRun := 0, readyAt := 0, ranAt := none, speedFrame := 0, overruns := [], broken := none,
    detents := [] }

def Engine.reset : Engine := ⟨[], 0⟩


/-! ### Axes (chapter 8) -/

/-- R258: the axis settings in force, taken over at a motion frame boundary. -/
structure AxisCfg where
  ctrl : Word
  vmax : Nat
  amax : Nat
  jmax : Nat
  qdec : Nat
  cur : Word
  econ : Word
  stall : Word
  follow : Nat
  xfer : Word
  deriving DecidableEq, Repr

/-- R231, R251: a linear ramp over 8 motion frames: from, to, frames done, in Q1.17 fractions of I_RATED; whether it follows
the level of the regime, or holds or leads to 0. -/
structure Ramp where
  start : Int
  goal : Int
  step : Nat
  on : Bool
  deriving DecidableEq, Repr

/-- No amplitude; an amplitude that stands. -/
def Ramp.off : Ramp := ⟨0, 0, 8, false⟩
def Ramp.at_ (x : Int) : Ramp := ⟨x, x, 8, true⟩

/-- R239: a transfer: the drive it leads to, steps done, K, the angle difference fixed at step 1, and AMP and I_LIM at
its start. -/
structure Xfer where
  drive : Nat
  k : Nat
  steps : Nat
  delta : Int
  amp0 : Int
  ilim0 : Int
  /-- R252: only the ramp of AMP at a start on a coasting rotor: no XFER, TRACK or XFER_DONE. -/
  quiet : Bool
  deriving DecidableEq, Repr

/-- R248: what the next motion frame boundary makes of the profile. -/
inductive MotionReq
  | toPos (target : Int)
  | toVel (v : Int)
  | stop (quick : Bool)
  /-- R244: a way of a learning run, to a place in 2^-40 tick at a velocity of its own. -/
  | learn (goal v : Int)
  deriving DecidableEq, Repr

/-- R226, R244, R243, R255: what CHECKING leads to. -/
inductive Purpose | arm | learn | align | reacquire
  deriving DecidableEq, Repr

/-- R126, R226: a check under way: its purpose, its stage (1 floating supplies, 2 gate leakage, 3 wiring, 4 the checks
of the axis), and the instant CHECKING began. -/
structure Check where
  purpose : Purpose
  stage : Nat
  since : Nat
  deriving DecidableEq, Repr

/-- R243: a running ALIGN: from DISABLED, the first or the second hold or the ramp down (0 to 2), its start, the
mapped angle of the first hold. -/
structure Align where
  fromDisabled : Bool
  phase : Nat
  since : Nat
  theta1 : Nat
  deriving DecidableEq, Repr

/-- R244: a running LEARN: the way back, the end of the way, and the samples of each point: sums and counts of the
forward and the backward error. -/
structure Learn where
  back : Bool
  goal : Int
  points : List (Int × Nat × Int × Nat)
  deriving DecidableEq, Repr

/-- An axis beside its AX registers. -/
structure AxisMot where
  cfg : AxisCfg
  /-- R248: the profile: its path, the engine frames since its start, and the present state. -/
  path : Path
  k : Nat
  mo : Motion
  /-- R248: what the next motion frame boundary plans. -/
  req : Option MotionReq
  /-- R248, R258: what the present plan leads to, if new limits would change it. -/
  goal : Option MotionReq
  /-- R252: the start must first decelerate through standstill. -/
  viaRest : Bool
  /-- R228: the target of the running or last MOVE. -/
  target : Int
  /-- R229: start of STOPPING. -/
  stopAt : Nat
  /-- R228: the stop that runs ends in DISABLED; it is a quick stop. -/
  thenDisable : Bool
  quick : Bool
  /-- R228: motion frames of the ramp of DISARM. -/
  disarm : Option Nat
  /-- R232: since when the axis has been ARMED with its profile at rest. -/
  restSince : Nat
  /-- R251: since when the OPEN amplitude has been applied at ANGLE_SET, and whether HOLD_SETTLE has passed. -/
  holdSince : Option Nat
  settled : Bool
  /-- R231: the regime asked for, and a start that waits for its ramp. -/
  regime : Nat
  waitRamp : Bool
  amp : Ramp
  ilim : Ramp
  /-- R239: the transfer that runs. -/
  xfer : Option Xfer
  /-- R196, R237: this executed step tracks. -/
  track : Bool
  /-- R234: ANGLE_SET and its remainder. -/
  angSet : Nat
  angRem : Nat
  /-- R236: FB_POS in OBS drive: position, remainder, the θ̂ it was last advanced by. -/
  obsPos : Word
  obsRem : Nat
  obsTheta : Nat
  /-- R246: consecutive executed steps beyond STALL_ANGLE. -/
  stallRun : Nat
  /-- R247: the following error exceeds FOLLOW_MAX. -/
  astray : Bool
  check : Option Check
  align : Option Align
  learn : Option Learn
  /-- R255: the observer must lock within 100 ms of the release of the Trapdoor: REACQUIRE under way, instant of release. -/
  reacquire : Option (Option Nat)
  /-- R228: the fault that caused FAULTED. -/
  cause : Nat
  /-- R434: instants of the entries into FAULTED, newest first. -/
  faulted : List Nat
  /-- R243: no hall edge yet since entry to ARMED (KIND 5). -/
  hallFirst : Bool
  /-- R250: the target that a Hatch channel or STREAM last set, in ticks. -/
  follow : Option Int
  /-- R431: the sign last seen of the watched current, and the instant of its last change. -/
  sign : Int
  signAt : Nat
  deriving DecidableEq, Repr

def AxisCfg.reset : AxisCfg :=
  { ctrl := 0x51f4#36, vmax := 0, amax := 0, jmax := 0, qdec := 0, cur := 0x7fffd0000#36, econ := 0x200008000#36,
    stall := 0x380000008#36, follow := 0, xfer := 0x320001440#36 }

def AxisMot.reset : AxisMot :=
  { cfg := .reset, path := .rest 0, k := 0, mo := ⟨0, 0, 0⟩, req := none, goal := none, viaRest := false, target := 0, stopAt := 0,
    thenDisable := false, quick := false, disarm := none, restSince := 0, holdSince := none, settled := false, regime := 0,
    waitRamp := false, amp := .off, ilim := .off, xfer := none, track := false, angSet := 0, angRem := 0,
    obsPos := 0, obsRem := 0, obsTheta := 0, stallRun := 0, astray := false, check := none, align := none, learn := none,
    reacquire := none, cause := 0, faulted := [], hallFirst := false, follow := none, sign := 0, signAt := 0 }


/-! ### Feedback and position compare (chapter 9) -/

/-- R192: what a channel presents for an executed step: the trigger instant, FB_POS, speed, FB_FLAGS, mapped angle. -/
structure FbLatch where
  at_ : Nat
  pos : Word
  speed : Int
  flags : Nat
  angle : Nat
  deriving DecidableEq, Repr

/-- A feedback channel beside its FB registers. -/
structure FbChan where
  /-- R261: filtered levels of A, B and Z. -/
  a : Bool
  b : Bool
  z : Bool
  /-- R263: remainder of the tick conversion; the mapped angle and its remainder (R234). -/
  rem : Nat
  ang : Nat
  angRem : Nat
  /-- R268: reference count of the previous recognition, none since REFERENCED was last cleared. -/
  refLast : Option Word
  /-- R265: a reference check since the previous latch. -/
  indexNew : Bool
  /-- R279: the run: instants and counts of its edges, newest first, and its direction. -/
  run : List (Nat × Word)
  runDir : Int
  /-- R280: the speed shown before a second edge: one count per SPEED_TIMEOUT, signed. -/
  first : Int
  /-- R269, R270: instant of the last tooth edge, interval before it, edges since standstill, extra teeth still to come,
  direction kept. -/
  toothAt : Option Nat
  toothIvl : Option Nat
  toothEdges : Nat
  extra : Nat
  toothBack : Bool
  /-- R275 to R277: last SSI value, last two good readings (instant, position), rejections in a row. -/
  ssiLast : Option Nat
  ssiGood : List (Nat × Word)
  ssiBad : Nat
  /-- R267: the index has been recognised in this activation of Z; R270: a group of extra teeth is under way. -/
  zDone : Bool
  extraGroup : Bool
  /-- R279, R42: the instant at which FBn.INTERVAL was 0, and SAT kept by a masked write. -/
  ivlAt : Int
  ivlSat : Bool
  /-- R192: the last latches, newest first. -/
  latches : List FbLatch
  /-- R276, R287: since when the channel has stood under its FEED shelf. -/
  since : Nat
  deriving DecidableEq, Repr

/-- A compare output beside its CPO registers. -/
structure Compare where
  /-- R284: entries held, from the armed one on. -/
  held : List Word
  /-- R284: a line of entries is on its way. -/
  asked : Bool
  /-- R283: end of the pulse. -/
  pulseEnd : Option Nat
  /-- R284: P at the last crossing. -/
  crossAt : Word
  deriving DecidableEq, Repr

def FbChan.reset : FbChan :=
  { a := false, b := false, z := false, rem := 0, ang := 0, angRem := 0, refLast := none, indexNew := false, run := [],
    runDir := 0, first := 0, toothAt := none, toothIvl := none, toothEdges := 0, extra := 0, toothBack := false,
    ssiLast := none, ssiGood := [], ssiBad := 0, zDone := false, extraGroup := false,
    ivlAt := 0, ivlSat := false, latches := [], since := 0 }

def Compare.reset : Compare := ⟨[], false, none, 0⟩



/-! ### The planner (chapter 10) -/

/-- R297, R303: a curve in axis coordinates (2^-40 tick): a straight line; an arc about a centre in two axes with a
linear third one (places of I, J and K in the axis list, centre offsets and radii in path units, start angle and sweep
in 2^-48 turn); a uniform Catmull-Rom segment and a quartic Bezier curve by their control points, from parameter
u0/64 to u1/64. -/
inductive Curve
  | line (p0 p1 : List Int)
  | arc (p0 p1 : List Int) (ci cj : Int) (r0 r1 : Int) (a0 : Int) (sweep : Int)
  | spline (a b c d : List Int)
  | bezier (c : List (List Int)) (u0 u1 : Nat)
  deriving DecidableEq, Repr

/-- R299: a stretch of path: its length (2^-40 path unit) and its limits of speed, tangential acceleration and jerk, in
2^-40 path unit per power of a motion frame. -/
structure Stretch where
  len : Int
  v : Int
  a : Int
  j : Int
  deriving DecidableEq, Repr

/-- A piece of path: the axes it moves, their PSCALE, its curve, the lengths along it at its chord points, the part of it
that is run, its length (2^-40 path unit), its stretches, the speed limit at its start (R302), its programmed feed (none for
RAPID), its timed duration, whether it ends at rest, and whether it is the last piece of its block. -/
structure Piece where
  axes : List Nat
  scales : List Nat
  curve : Curve
  chords : List Int
  lo : Int
  hi : Int
  len : Int
  stretches : List Stretch
  entry : Option Int
  feed : Option Nat
  timed : Option Nat
  stop : Bool
  last : Bool
  deriving DecidableEq, Repr

/-- What stands in look-ahead (R305). -/
inductive PlanOp
  | move (p : Piece)
  | setIo (mask value : Nat)
  | vel (axis : Nat) (v : Int)
  | dwell (frames : Nat)
  | waitIo (mask value timeout : Nat) (toLine : Option Nat)
  | jump (ifMatch : Bool) (mask value target : Nat)
  | sync (modules id timeout : Nat)
  | fin
  | pass
  deriving DecidableEq, Repr

/-- A block, or a part of one, in look-ahead: its line, line number, call depth. -/
structure PlanItem where
  addr : Nat
  lineNo : Nat
  depth : Nat
  op : PlanOp
  deriving DecidableEq, Repr

/-- R297: a SPLINE block that waits for its successor: its end point and the two before it, ticks by axis. -/
structure OpenSpline where
  addr : Nat
  lineNo : Nat
  depth : Nat
  axes : List Nat
  feed : Nat
  exact : Bool
  a : List Int
  b : List Int
  c : List Int
  deriving DecidableEq, Repr

/-- R305, R315: what the program waits for: nothing, DWELL frames left, inputs (frames waited), a SYNC. -/
inductive PlanWait
  | none
  | dwell (left : Nat)
  | io (waited : Nat)
  | sync
  deriving DecidableEq, Repr

/-- R315, R369: a SYNC_ARM held from a module: module, SYNC_ID, MODULES, HELD, arrival instant (ns). -/
structure ArmHeld where
  module : Nat
  id : Nat
  modules : Nat
  held : Nat
  at_ : Nat
  deriving DecidableEq, Repr

/-- The planner beside the PLN registers. -/
structure Planner where
  /-- R289: the axes of the program, those in velocity mode, and those whose velocity as read is not 0. -/
  axes : List Nat
  velAxes : List Nat
  velRead : List Nat
  /-- Look-ahead, the block in execution first. -/
  queue : List PlanItem
  /-- Distance run on the head piece, path speed and acceleration; trajectory time of a timed block (2^-20 frame). -/
  s : Int
  v : Int
  a : Int
  time : Nat
  wait : PlanWait
  /-- R291: the line to read next, whether it is on its way, whether reading halts at a block. -/
  line : Nat
  asked : Bool
  halted : Bool
  /-- R305: a block that has been read (line, words) and moves an axis that still leaves velocity mode: it takes its place
  once the axis is at rest. -/
  deferred : Option (Nat × List Word)
  /-- R295: reading has stopped: fault and line. -/
  err : Option (Nat × Nat)
  /-- The axes of the program have come to rest after START, and the path has its start point. -/
  primed : Bool
  /-- End point of the path read so far, ticks, by axis. -/
  pos : List Int
  /-- R305: modal feed and tolerance. -/
  feed : Nat
  tol : Nat
  /-- R306: return addresses, pass counts (line, depth, count). -/
  stack : List Nat
  loops : List (Nat × Nat × Nat)
  /-- R297: the last block of a SPLINE run. -/
  open_ : Option OpenSpline
  /-- R308: a HOLD command or a group hold is in force; the ramp of a timed block, frames from running. -/
  hold : Bool
  groupHold : Bool
  ramp : Nat
  /-- R317: an override of 0 holds the path, and the group has been told. -/
  overrideHeld : Bool
  /-- R309: aborted, coming to rest. -/
  aborting : Bool
  /-- R315 to R318: own arrival (ns), its instant, arrivals held, T_go (ns), the time base of the segment (ns), SYNC late,
  next SYNC_ARM repeat. -/
  ta : Nat
  arrived : Nat
  held : List ArmHeld
  tgo : Option Nat
  lastNs : Nat
  late : Bool
  repeatAt : Nat
  /-- R317: pending group instants: (ns, resume?). -/
  groupAt : Option (Nat × Bool)
  /-- R319: STREAM set-points waiting: axis, instant (clock), position, velocity; frames since the last applied. -/
  points : List (Nat × Nat × Int × Int)
  missed : List Nat
  deriving DecidableEq, Repr

def Planner.reset : Planner :=
  { axes := [], velAxes := [], velRead := [], queue := [], s := 0, v := 0, a := 0, time := 0, wait := .none, line := 0,
    asked := false, halted := false, deferred := none, err := none, primed := false, pos := List.replicate 8 0, feed := 0, tol := 0, stack := [],
    loops := [], open_ := none, hold := false, groupHold := false, ramp := 0, overrideHeld := false, aborting := false,
    ta := 0, arrived := 0, held := [], tgo := none, lastNs := 0, late := false, repeatAt := 0,
    groupAt := none, points := [], missed := List.replicate 8 0 }

/-- R312, R313: compensation of an axis: direction of the last movement, the value at its change, distance since, the
last position, the value now, the temperature held; R212: pitch fetches, newest first. -/
structure Comp where
  dir : Int
  b0 : Int
  travel : Nat
  lastP : Int
  moved : Bool
  b : Int
  temp : Int
  pitch : List Fetch
  deriving DecidableEq, Repr

def Comp.reset : Comp := ⟨0, 0, 0, 0, false, 0, 0, []⟩


/-! ### The Larder and the Hoist (chapter 11) -/

/-- R212, R211, R291, R284, R340: for whom a line is read: a SINE's detent entries (by axis and coefficient base), the
pitch entries of an axis, a state image, the planner's look-ahead, a compare list, a pointer's window. -/
inductive LineUser | detent (n base : Nat) | pitch (n : Nat) | image (n : Nat) | planner | compare (n : Nat) | window (hp : Bool)
  deriving DecidableEq, Repr

/-- R336, R337: a request that waits for its lines: class of Table 11.5, user, lines still to read, lines read. -/
structure LineReq where
  cls : Nat
  user : LineUser
  lines : List Nat
  got : List (Nat × List Word)
  deriving DecidableEq, Repr

/-- A request whose lines have arrived; none where a line was uncorrectable. -/
structure Delivered where
  user : LineUser
  lines : Option (List (Nat × List Word))
  deriving DecidableEq, Repr

/-- R339, R340: a Hoist pointer beside PTR_HP or PTR_LAD. -/
structure Pointer where
  /-- The line being gathered: its address and its words by place, newest first. -/
  gather : Option (Nat × List (Nat × Word))
  lastWrite : Nat
  /-- Gathered lines the pointer has left, oldest first, which wait for their commit. -/
  closing : List (Nat × List (Nat × Word))
  /-- Lines fetched; none for an uncorrectable one. -/
  present : List (Nat × Option (List Word))
  deriving DecidableEq, Repr

/-- R341: the Hoist operation that runs. -/
structure HoistOp where
  op : Nat
  src : Nat
  dst : Nat
  len : Nat
  value : Word
  deriving DecidableEq, Repr

/-- The Larder and the Hoist beside the LDC and HST registers. -/
structure Larder where
  /-- R325: the bytes of the DRAM: byte b of physical line p under key 48 x p + b. -/
  mem : Cells Byte
  /-- R331: logical lines marked POISONED. -/
  poisoned : List Nat
  /-- R336: requests that wait, oldest first. -/
  reqs : List LineReq
  arrived : List Delivered
  /-- R336: grants in a row to classes 1 to 4; which pointer class 5 served last. -/
  runs : Nat
  lastHp : Bool
  hp : Pointer
  lad : Pointer
  op : Option HoistOp
  /-- R333: the hour of operation: its start, its corrected reads, whether it or the one before raised 0x821. -/
  hourAt : Nat
  hourCount : Nat
  hourTold : Bool
  lastTold : Bool
  /-- R442: hours in a row at or below RATE_LIMIT. -/
  goodHours : Nat
  /-- R334, R335: instants of the last scrub read, refresh and temperature reading. -/
  scrubAt : Nat
  refreshAt : Nat
  tempAt : Nat
  deriving DecidableEq, Repr

def Pointer.reset : Pointer := ⟨none, 0, [], []⟩
def Larder.reset : Larder :=
  { mem := [], poisoned := [], reqs := [], arrived := [], runs := 0, lastHp := false, hp := .reset, lad := .reset,
    op := none, hourAt := 0, hourCount := 0, hourTold := false, lastTold := false, goodHours := 0, scrubAt := 0, refreshAt := 0,
    tempAt := 0 }


/-! ### The Ladder (chapter 12) -/

/-- R359 to R363: a session, pending or in its slot. -/
structure Session where
  ip : BitVec 32
  port : BitVec 16
  /-- R359: the key of the frames it sends and of those the module sends. -/
  keyIn : BitVec 256
  keyOut : BitVec 256
  /-- Instant of the DISCOVER, or of the session's start. -/
  since : Nat
  /-- R371: instant of the last authenticated frame; whether it is present. -/
  heard : Nat
  present : Bool
  /-- R362: H, the window of the 64 sequence numbers up to H (bit i: H - i), the last SEQ originated. -/
  high : Nat
  seen : Nat
  sent : Nat
  /-- R363: tokens in units of 1/second frame, and when they were last counted. -/
  tokens : Nat
  tokenAt : Nat
  /-- Table 12.10: it answered DISCOVER as a module; MODULE_NO. -/
  isModule : Bool
  moduleNo : Nat
  deriving DecidableEq, Repr

/-- R23, R34 to R37, R366, R382, R383: why a register transaction does not go on: the register bus (since when it has
requested its next access), the gate link (since when the access has been on its way), a holding register under a pending
Stocktake, the Hoist window. -/
inductive Stall
  | none
  | bus (since : Nat)
  | link (since : Nat)
  | held
  | window
  deriving DecidableEq, Repr

/-- R23: a register transaction of a requester: direction, block, MSK, the offset of its next word, whether that word lies
at a wrapped offset, words still to run, words to write, words read, what the trailer or the response reports of it, and
why it stalls. `win` marks one that starts in the Hoist window (R35), `silent` one whose select was released: it ends with
what it has under way; `envs` says what its next accesses meet. -/
structure Txn where
  read : Bool
  blk : Nat
  msk : Bool
  off : Nat
  past : Bool
  left : Nat
  data : List Word
  out : List Word
  wrap : Bool
  xd : Bool
  unmapped : Bool
  range : Bool
  uncorr : Bool
  wait : Stall
  win : Bool
  silent : Bool
  envs : List AccessEnv
  deriving DecidableEq, Repr

/-- R23, R36: the register bus: single accesses under way, oldest first, with their requesters; the words that the last
one completed has read; the instant, in thirds of a PCLK, from which the bus may grant again; and the accesses that the
fault manager (true) and the planner (false) have requested, with the instants of their requests. -/
structure Access where
  open_ : List (Req × Txn)
  read : List Word
  freeAt : Nat
  inner : List (Bool × Nat)
  deriving DecidableEq, Repr

def Access.reset : Access := ⟨[], [], 0, []⟩

/-- R355: a verified Ladder frame that waits for its type to be handled. -/
structure Msg where
  /-- Source address and port, and the slot of its session (DISCOVER has none). -/
  ip : BitVec 32
  port : BitVec 16
  slot : Option Nat
  typ : Nat
  resp : Bool
  seq : Nat
  arg : Nat
  words : Nat
  body : List Nat
  status : Nat
  at_ : Nat
  deriving DecidableEq, Repr

/-- R349: what the module hands to a port: its transmit queue (0 to 3), the ports, and what it carries. -/
inductive SentBody
  | ladder (ip : BitVec 32) (port : BitVec 16) (bytes : List Nat)
  | arp (request : Bool) (targetMac : BitVec 48) (targetIp : BitVec 32)
  | icmpReply (ip : BitVec 32) (data : List Byte)
  | ptp (m : PtpMsg)
  | forward (f : Frame)
  deriving DecidableEq, Repr

structure Sent where
  queue : Nat
  ports : List Nat
  body : SentBody
  deriving DecidableEq, Repr

/-- R370: an EVENT that is still to be resent: kind, id, MODULES, instant (ns), times left, instant of the next. -/
structure EventOut where
  kind : Nat
  id : Nat
  modules : Nat
  instant : Nat
  left : Nat
  next : Nat
  deriving DecidableEq, Repr

/-- R353: the map from PTP time to the module's clock: PTP ns at a clock instant, and PTP ns per PCLK as a fraction. -/
structure PtpMap where
  ns : Int
  at_ : Nat
  num : Nat
  den : Nat
  deriving DecidableEq, Repr

/-- R351 to R353: the PTP clock. -/
structure Ptp where
  map : PtpMap
  /-- R353: consecutive good offsets; consecutive offsets beyond 1 us. -/
  good : Nat
  bad : Nat
  lastSync : Nat
  /-- Sync interval of the master, PCLK. -/
  interval : Nat
  /-- Mean path delay, ns; the Delay_Req whose answer is awaited: sequence number, instant; the last Sync: PTP and clock. -/
  delay : Int
  reqSeq : Nat
  reqAt : Option Nat
  /-- The grandmaster followed. -/
  master : Option (Nat × ClockRank)
  lastAnnounce : Nat
  /-- R351: next Sync and Announce as master; sequence number. -/
  nextSync : Nat
  nextAnnounce : Nat
  seq : Nat
  /-- R352: residence times: source, sequence number, kind is Sync, ns. -/
  resid : List (Nat × Nat × Bool × Nat)
  deriving DecidableEq, Repr

/-- The Ladder beside the LAD registers. -/
structure Ladder where
  /-- R346, R348: frames taken in, oldest first, with port and instant. -/
  rx : List (Nat × Nat × Frame)
  /-- R357: frames that passed step 5. -/
  msgs : List Msg
  /-- R365: the transaction queue, oldest first. -/
  txns : List Msg
  /-- R366: the register transaction that runs for the oldest of them. -/
  run : Option Txn
  /-- Everything the module has sent, oldest first (the MODEL's own record, log entry 7). -/
  sent : List Sent
  slots : List (Option Session)
  pendings : List Session
  /-- R361: DISCOVERs that await an answer: slot, Ni. -/
  asked : List (Nat × Nat)
  askedAt : Nat
  /-- R363: the shared bucket and that of ARP: tokens and instant. -/
  shared : Nat × Nat
  arpTokens : Nat × Nat
  /-- R364: bad frames of the last 10 s: address, instant; quarantined addresses: address, end. -/
  bad : List (BitVec 32 × Nat)
  quar : List (BitVec 32 × Nat)
  /-- R346: ARP cache: address, MAC, instant; R348: learnt addresses: MAC, port, instant. -/
  arp : List (BitVec 32 × BitVec 48 × Nat)
  fdb : List (BitVec 48 × Nat × Nat)
  /-- R349: forwarded frames queued at each port: the instants at which they go onto the wire. -/
  fwd : List (List Nat)
  /-- R370: EVENT_ID last used; events to resend; events acted on: address, id. -/
  eventId : Nat
  events : List EventOut
  acted : List (BitVec 32 × Nat)
  heartAt : Nat
  /-- R368: owner of each STREAM axis: address and port. -/
  owners : List (Option (BitVec 32 × BitVec 16))
  /-- R359: nonces drawn. -/
  drawn : Nat
  /-- An END_SESSION that waits for the end of its own frame's response. -/
  ending : Option Nat
  ptp : Ptp
  deriving DecidableEq, Repr

def Ptp.reset : Ptp :=
  { map := ⟨0, 0, 2, 1⟩, good := 0, bad := 0, lastSync := 0, interval := 500000000, delay := 0, reqSeq := 0,
    reqAt := none, master := none, lastAnnounce := 0, nextSync := 0, nextAnnounce := 0, seq := 0, resid := [] }

def Ladder.reset : Ladder :=
  { rx := [], msgs := [], txns := [], run := none, sent := [], slots := List.replicate 16 none, pendings := [], asked := [],
    askedAt := 0, shared := (64 * 500000000, 0), arpTokens := (200 * 500000000, 0), bad := [], quar := [], arp := [],
    fdb := [], fwd := [[], []], eventId := 0, events := [], acted := [], heartAt := 0,
    owners := List.replicate 8 none, drawn := 0, ending := none, ptp := .reset }


/-! ### Protection and power (chapters 15 and 16) -/

/-- The protection beside the FLT and BOX registers. -/
structure Protect where
  /-- R419: start of the precharge; no attempt before VMIN has fallen below 5 V. -/
  inletAt : Nat
  inletWait : Bool
  /-- R422: CMP58 has become active since CMP59 last did; R424: since when BRK has been high, and fault 0x112 raised. -/
  brkWant : Bool
  brkSince : Option Nat
  brkTold : Bool
  /-- R423: instant up to which the high time of this motion frame is counted, that time (PCLK), and the heat, nJ. -/
  brkMark : Nat
  brkTime : Nat
  heat : Nat
  heatAt : Nat
  /-- R426: the stop edge whose STOP_DELAY runs. -/
  stopAt : Option Nat
  /-- R428: since when the stop inputs have differed; both have been low together since STOP_DISC was set. -/
  differAt : Option Nat
  discLow : Bool
  /-- R438: a die above 140 C, above 150 C; ARM refused until all lie below 130 C. -/
  over140 : Bool
  over150 : Bool
  armBar : Bool
  /-- R443: words written to KEY_DATA since the last command, newest first; the key to program;
  start of KEY_PROGRAM. -/
  keyWords : List Nat
  keyNew : BitVec 256
  keyAt : Nat
  deriving DecidableEq, Repr

/-- R452 to R459: where start-up, reset and clock loss stand. -/
structure PowerSeq where
  /-- R455: start of the reset. -/
  resetAt : Nat
  /-- R455: axes in SHORT through the reset: axis, FIRST_LEG, MOTOR. -/
  shorts : List (Nat × Nat × Nat)
  /-- R443: the rest of the reset waits for KEY_PROGRAM. -/
  waitKey : Bool
  /-- R459: the instant of the loss of lock. -/
  lossAt : Option Nat
  /-- Table 15.14: this power-up has been counted. -/
  counted : Bool
  /-- Table 3.25: the NEXT_BOOT that the reset under way keeps. -/
  order : Nat
  deriving DecidableEq, Repr

def Protect.reset : Protect :=
  { inletAt := 0, inletWait := false, brkWant := false, brkSince := none, brkTold := false, brkMark := 0, brkTime := 0,
    heat := 0, heatAt := 0, stopAt := none, differAt := none, discLow := false, over140 := false, over150 := false,
    armBar := false, keyWords := [], keyNew := 0, keyAt := 0 }

def PowerSeq.reset : PowerSeq := ⟨0, [], false, none, false, 0⟩


/-! ### The host port and the peripheral ports (chapter 13) -/

/-- R379 to R387: where an HP transaction stands: none since the last select, rejected, under way, past its trailer. -/
inductive HpPhase | idle | rejected | running | ended
  deriving DecidableEq, Repr

/-- The host port beside the PRT registers. -/
structure HostPort where
  phase : HpPhase
  /-- R380: direction, lanes L and words W of the transaction; a PING has no word. -/
  write : Bool
  lanes : Nat
  words : Nat
  /-- R376: the advancing edges that the host gives this transaction; whether it clocks while HP_READY is low. -/
  edges : Nat
  clocks : Bool
  /-- R382: the data CRC that the host sends with a WRITE is right. -/
  crcOk : Bool
  /-- R384: an edge has come while HP_READY was low. -/
  busy : Bool
  /-- The register transaction it makes. -/
  run : Option Txn
  /-- R385: the transaction before this one was released early, was overclocked; the same of this one. -/
  prevAbort : Bool
  prevOver : Bool
  abort : Bool
  isOver : Bool
  /-- R378, R383, R385: what the module has sent in the last transaction: words, their CRC-16, the trailer status word. -/
  sent : List Word
  sentCrc : Option Nat
  trailer : Option Word
  /-- R388: the last instants of faults 0xA01 to 0xA05. -/
  told : List (Option Nat)
  deriving DecidableEq, Repr

/-- R392: a transfer of a peripheral port: its select, direction, command and data units, the words it sends from (kept for
its retries), its start, the retries made, and the end of the delay before the next. -/
structure PortXfer where
  sel : Nat
  dir : Bool
  cmdUnits : Nat
  dataUnits : Nat
  kept : List Word
  since : Nat
  retries : Nat
  retryAt : Option Nat
  deriving DecidableEq, Repr

/-- A peripheral port beside its PRT registers. -/
structure Port where
  /-- R391: the FIFOs, first word first. -/
  tx : List Word
  rx : List Word
  /-- R392, R396: the transfer that runs, and one that waits behind an SSI reading. -/
  run : Option PortXfer
  deferred : Option PortXfer
  /-- R275, R395: the SSI reading that runs: its channel and its start; the starts of the last readings, by channel. -/
  ssi : Option (Nat × Nat)
  read : List (Nat × Nat)
  /-- R390, R395: the end of the pause after a transfer or a reading. -/
  freeAt : Nat
  deriving DecidableEq, Repr

def HostPort.reset : HostPort :=
  { phase := .idle, write := false, lanes := 2, words := 0, edges := 0, clocks := false, crcOk := true, busy := false,
    run := none, prevAbort := false, prevOver := false, abort := false, isOver := false, sent := [], sentCrc := none,
    trailer := none, told := List.replicate 5 none }

def Port.reset : Port := ⟨[], [], none, none, none, [], 0⟩

/-! ### The Hatch (chapter 14) -/

/-- A step channel beside its HAT registers: filtered levels of STEP and DIR, the debounced level of ENA, HTn_TARGET at the
last motion frame boundaries (newest first, at most 9). -/
structure StepChan where
  a : Bool
  b : Bool
  ena : Bool
  hist : List Word
  deriving DecidableEq, Repr

/-- R412, R413: a speed-command input: since when it is in use, its last rising edge, the high time and the length of the last complete period, motion
frames in a row out of range and in range, a period outside its limits since the last motion frame. -/
structure SpeedCmd where
  since : Nat
  riseAt : Option Nat
  period : Option (Nat × Nat)
  badRun : Nat
  goodRun : Nat
  badPeriod : Bool
  deriving DecidableEq, Repr

/-- The Hatch beside the HAT registers, and the input that CAL_ZERO calibrates, with its start. -/
structure Hatch where
  steps : Vector StepChan 8
  cmds : Vector SpeedCmd 4
  cal : Option (Nat × Nat)
  deriving DecidableEq, Repr

def StepChan.reset : StepChan := ⟨false, false, false, []⟩
def SpeedCmd.reset : SpeedCmd := ⟨0, none, none, 0, 0, false⟩
def Hatch.reset : Hatch := ⟨Vector.replicate 8 .reset, Vector.replicate 4 .reset, none⟩

/-! ### Stocktake and the timestamp (chapter 2) -/

/-- R38 to R40, R42: the instant T of the pending capture on the model's clock, the GD dies that captured (none before T),
and the instant of the last timestamp wrap. -/
structure Stock where
  due : Nat
  caught : Option (Bool × Bool)
  wrapAt : Nat
  deriving DecidableEq, Repr

def Stock.reset : Stock := ⟨0, none, 0⟩

/-! ### The module -/

/-- Everything the manual gives the module, and the commands that wait for it, first in, first out. -/
structure State where
  /-- R1: the variant (a fixed property of the part; DESIGN CHOICE: State.reset is an LKM-8836, log entry 4). -/
  variant : Variant
  /-- R450: the module power state. -/
  power : Power
  /-- Elapsed time in PCLK (2 ns units); the model's own clock, never reset (log entry 2). -/
  clock : Nat
  /-- R18: the instant at which the module timestamp was 0. -/
  tsBase : Nat
  /-- R191: engine frames since the time base. -/
  frame : Nat
  /-- R19: instant of the last engine frame boundary. -/
  lastEngine : Nat
  /-- R19: instant of the last motion frame boundary. -/
  lastMotion : Nat
  /-- The MODEL's own counter of free values (log entry 3). -/
  free : Nat
  /-- R24: every register, sparse: an unlisted register holds its reset word. -/
  regs : Cells Word
  /-- The fault manager (R21, R435 to R437). -/
  fm : FaultMgr
  /-- The Strongbox (R12): what is kept across resets and power. -/
  box : Strongbox
  /-- R12: GD0 and GD1. -/
  dies : Vector Die 2
  /-- R95: LEG0 to LEG31. -/
  legs : Vector Leg 32
  /-- R138: delay-line regions, one per quadrant. -/
  regions : Vector Region 4
  /-- R131: carriers of the axes. -/
  carriers : Vector Carrier 8
  /-- R123: running wiring tests. -/
  wireTests : List WireTest
  /-- R119: running leakage checks. -/
  leakTests : List LeakTest
  /-- R162: frame sequences of the axes. -/
  seqs : Vector Sequence 8
  /-- R158: ADC cores. -/
  cores : Vector Core 8
  /-- R166: values of each core and input (8 x core + input). -/
  meas : Vector Meas 64
  /-- R173: running calibration of each die. -/
  calRuns : Vector (Option CalRun) 2
  /-- R175: CMP0 to CMP63. -/
  cmps : Vector Cmp 64
  /-- R179: comparator audits. -/
  audit : Audit
  /-- R84: the running Inventory. -/
  inv : Option Inventory
  /-- R88 to R93: the Inventory operation and the boot. -/
  invOp : InvOp
  /-- Table 3.8: filtered levels of the XIO pins, and the trip inputs that comparators drive. -/
  pins : Pins
  /-- R463: the JTAG instruction in force. -/
  jtag : Jtag
  /-- R189: the programs of the axes. -/
  engs : Vector AxisEng 8
  /-- R221: the loop engine. -/
  engine : Engine
  /-- R224: AX0 to AX7. -/
  axes : Vector AxisMot 8
  /-- R260: FB0 to FB7. -/
  chans : Vector FbChan 8
  /-- R282: CPO0 to CPO7. -/
  compares : Vector Compare 8
  /-- R323 to R344: the Larder and the Hoist. -/
  larder : Larder
  /-- R345 to R374: the Ladder. -/
  ladder : Ladder
  /-- R289 to R322: the planner. -/
  planner : Planner
  /-- R311 to R314: compensation of the axes. -/
  comps : Vector Comp 8
  /-- R417 to R447: protection. -/
  guard : Protect
  /-- R450 to R459: start-up, reset and clock loss. -/
  seq : PowerSeq
  /-- R49, R50: flash slots A and B, sparse: an unlisted byte is erased (0xFF). -/
  flash : Vector (Cells Byte) 2
  /-- R375 to R388: the host port. -/
  hp : HostPort
  /-- R389 to R396: peripheral ports P0 to P3. -/
  prt : Vector Port 4
  /-- R401 to R416: the Hatch. -/
  hatch : Hatch
  /-- R38, R42: the Stocktake and the wraps of the timestamp. -/
  stock : Stock
  /-- R23, R36: register accesses under way beside the transactions of HP and the Ladder. -/
  access : Access
  /-- The commands that wait, first in, first out. -/
  pending : List Instr
  deriving DecidableEq, Repr

/-- Why a command cannot go on. No command of this model faults: every effect the manual gives is a next state
(log entry 1). The one constructor is kept for a command whose effect the manual calls undefined. -/
inductive Fault
  /-- Raised by no command. Safe: a stop where the module goes on. -/
  | undefinedEffect (rule : String)
  deriving DecidableEq, Repr

/-- Why the model refuses a command. -/
inductive Refusal
  /-- A command without a meaning in this model. Safe: a stop where the module goes on. -/
  | notModelled (mnemonic : String)
  deriving DecidableEq, Repr

/-- The module right after the power-on reset is released with VAUX present (R450, R452: START), before the
reference oscillates: every register at its reset value, no Inventory, the Strongbox and the flash slots as the log
names them, no command waiting. -/
def State.reset : State :=
  { variant := .lkm8836,
    power := .start,
    clock := 0,
    tsBase := 0,
    frame := 0,
    lastEngine := 0,
    lastMotion := 0,
    free := 0,
    regs := [],
    fm := .reset,
    box := .reset,
    dies := Vector.replicate 2 .reset,
    legs := Vector.replicate 32 .reset,
    regions := Vector.replicate 4 .reset,
    carriers := Vector.replicate 8 .reset,
    wireTests := [],
    leakTests := [],
    seqs := Vector.replicate 8 .reset,
    cores := Vector.replicate 8 .reset,
    meas := Vector.replicate 64 .reset,
    calRuns := Vector.replicate 2 none,
    cmps := Vector.replicate 64 .reset,
    audit := .reset,
    inv := none,
    invOp := .reset,
    pins := .reset,
    jtag := .reset,
    engs := Vector.replicate 8 .reset,
    engine := .reset,
    axes := Vector.replicate 8 .reset,
    chans := Vector.replicate 8 .reset,
    compares := Vector.replicate 8 .reset,
    larder := .reset,
    ladder := .reset,
    planner := .reset,
    comps := Vector.replicate 8 .reset,
    guard := .reset,
    seq := .reset,
    flash := Vector.replicate 2 [],
    hp := .reset,
    prt := Vector.replicate 4 .reset,
    hatch := .reset,
    stock := .reset,
    access := .reset,
    pending := [] }

end Sys2Proof.Machine
end

