-- ==== Sys2Proof/Machine/Geometry.lean ====
section
/-! DEFINITION. Geometry of motion programs (R296 to R304): curves, lengths, directions, limits and blends. Axis
coordinates are in 2^-40 tick, lengths in 2^-40 path unit, both listed for AX0 to AX7. -/

namespace Sys2Proof.Machine

open Sys2Proof

/-! ### Roots and trigonometry -/

/-- The largest integer whose square does not exceed `n`, for n below 2^190. -/
def isqrtBig (n : Nat) : Nat := isqrtFrom 95 n 0

/-- Integer cube root by bits. -/
def icbrtFrom : Nat → Nat → Nat → Nat
  | 0, _, r => r
  | b + 1, n, r =>
    let c := r + 2 ^ b
    icbrtFrom b n (if c * c * c ≤ n then c else r)

/-- The largest integer whose cube does not exceed `n`, for n below 2^240. -/
def icbrt (n : Nat) : Nat := icbrtFrom 80 n 0

/-- One turn of an angle of this file. -/
abbrev turn48 : Nat := 2 ^ 48

/-- Sine and cosine, in 2^-48, of an angle up to an eighth of a turn, in 2^-48 turn. -/
def sinEighth (u : Nat) : Int := let x := 2 * refPi * u / turn48; sinSeries 11 x x (x * x / refOne) 1
def cosEighth (u : Nat) : Int := let x := 2 * refPi * u / turn48; sinSeries 11 refOne refOne (x * x / refOne) 0

/-- Sine of an angle in 2^-48 turn. -/
def sinTurn (a : Int) : Int :=
  let a := (a % turn48).toNat
  let q := a / 2 ^ 46
  let r := a % 2 ^ 46
  let s := if r ≤ 2 ^ 45 then sinEighth r else cosEighth (2 ^ 46 - r)
  let c := if r ≤ 2 ^ 45 then cosEighth r else sinEighth (2 ^ 46 - r)
  match q with
  | 0 => s
  | 1 => c
  | 2 => -s
  | _ => -c

def cosTurn (a : Int) : Int := sinTurn (a + 2 ^ 46)

/-- Angle of a vector of the upper half plane, by bisection. -/
def atanTurnBits : Nat → Int → Int → Nat → Nat
  | 0, _, _, r => r
  | b + 1, x, y, r =>
    let c := r + 2 ^ b
    atanTurnBits b x y (if 0 ≤ y * cosTurn c - x * sinTurn c then c else r)

/-- Angle of a vector, in 2^-48 turn. -/
def atanTurn (x y : Int) : Int :=
  if x = 0 ∧ y = 0 then 0
  else if 0 < y ∨ (y = 0 ∧ 0 ≤ x) then atanTurnBits 47 x y 0
  else 2 ^ 47 + (atanTurnBits 47 (-x) (-y) 0 : Nat)

/-! ### Vectors -/

/-- Sums and differences by axis. -/
def vecAdd (a b : List Int) : List Int := List.zipWith (· + ·) a b
def vecSub (a b : List Int) : List Int := List.zipWith (· - ·) a b

/-- a x m / d by axis. -/
def vecScale (a : List Int) (m d : Int) : List Int := a.map (fun x => x * m / d)

/-- R296: ticks to path units by axis. -/
def toUnits (scales : List Nat) (v : List Int) : List Int := List.zipWith (fun (p : Nat) x => x * p / 2 ^ 32) scales v

/-- R296: length, over some axes, of a vector of axis coordinates. -/
def pathLen (scales : List Nat) (axes : List Nat) (v : List Int) : Int :=
  let u := toUnits scales v
  isqrtBig ((axes.map (fun n => u.getD n 0)).foldl (fun a x => a + x * x) 0).toNat

/-- Where a quartic Bezier curve stands at U / 2^30. -/
def bezierAt : Nat → List (List Int) → Int → List Int
  | 0, l, _ => l.headD []
  | n + 1, l, u =>
    bezierAt n (List.zipWith (fun a b => vecAdd a (vecScale (vecSub b a) u (2 ^ 30))) l (l.drop 1)) u

/-- R297: where a Catmull-Rom segment from b to c stands at U / 2^30, and twice its rate of change there. -/
def splineAt (a b c d : Int) (u : Int) : Int :=
  let k1 := c - a
  let k2 := 2 * a - 5 * b + 4 * c - d
  let k3 := 3 * b - a - 3 * c + d
  b + (k1 * u / 2 ^ 30 + k2 * u * u / 2 ^ 60 + k3 * u * u * u / 2 ^ 90) / 2

def splineRate (a b c d : Int) (u : Int) : Int :=
  (c - a) + 2 * (2 * a - 5 * b + 4 * c - d) * u / 2 ^ 30 + 3 * (3 * b - a - 3 * c + d) * u * u / 2 ^ 60

/-- A curve at parameter U / 2^30 of its whole. -/
def Curve.param (c : Curve) (axes : List Nat) (scales : List Nat) (u : Int) : List Int :=
  match c with
  | .line p0 p1 => vecAdd p0 (vecScale (vecSub p1 p0) u (2 ^ 30))
  | .arc p0 p1 ci cj r0 r1 a0 sweep =>
    if u = 2 ^ 30 then p1
    else
      let base := vecAdd p0 (vecScale (vecSub p1 p0) u (2 ^ 30))
      let ang := a0 + sweep * u / 2 ^ 30
      let r := r0 + (r1 - r0) * u / 2 ^ 30
      let i := axes.getD 0 0
      let j := axes.getD 1 0
      let back (n : Nat) (x : Int) : Int := x * 2 ^ 32 / (max 1 (scales.getD n 1) : Nat)
      (base.set i (ci + back i (r * cosTurn ang / 2 ^ 48))).set j (cj + back j (r * sinTurn ang / 2 ^ 48))
  | .spline a b c d =>
    (List.range 8).map (fun n => splineAt (a.getD n 0) (b.getD n 0) (c.getD n 0) (d.getD n 0) u)
  | .bezier c u0 u1 => bezierAt 4 c ((u0 * 2 ^ 24 : Nat) + ((u1 : Int) - u0) * u / 64)

/-- A vector along a curve at parameter U / 2^30 of its whole, in its direction of travel. -/
def Curve.tangent (c : Curve) (axes : List Nat) (scales : List Nat) (u : Int) : List Int :=
  match c with
  | .line p0 p1 => vecSub p1 p0
  | .arc p0 p1 _ _ r0 r1 a0 sweep =>
    let base := vecSub p1 p0
    let ang := a0 + sweep * u / 2 ^ 30
    let r := r0 + (r1 - r0) * u / 2 ^ 30
    let i := axes.getD 0 0
    let j := axes.getD 1 0
    let turn := r * sweep * (2 * refPi) / 2 ^ 96
    let back (n : Nat) (x : Int) : Int := x * 2 ^ 32 / (max 1 (scales.getD n 1) : Nat)
    (base.set i (back i (((r1 - r0) * cosTurn ang - turn * sinTurn ang) / 2 ^ 48))).set j
      (back j (((r1 - r0) * sinTurn ang + turn * cosTurn ang) / 2 ^ 48))
  | .spline a b c d =>
    (List.range 8).map (fun n => splineRate (a.getD n 0) (b.getD n 0) (c.getD n 0) (d.getD n 0) u)
  | .bezier c u0 u1 =>
    bezierAt 3 (List.zipWith (fun a b => vecSub b a) c (c.drop 1)) ((u0 * 2 ^ 24 : Nat) + ((u1 : Int) - u0) * u / 64)

/-- Number of chords that measure a curve; lines and arcs run evenly. -/
def Curve.chordCount : Curve → Nat
  | .spline .. => 64
  | .bezier .. => 32
  | _ => 0

/-- R297: lengths along a curve at its chord points. -/
def chordTable (c : Curve) (axes : List Nat) (scales : List Nat) : List Int :=
  let n := c.chordCount
  let pts := (List.range (n + 1)).map (fun (k : Nat) => c.param axes scales ((k : Int) * 2 ^ 30 / (max 1 n : Nat)))
  let ls := List.zipWith (fun a b => pathLen scales axes (vecSub b a)) pts (pts.drop 1)
  (ls.foldl (fun acc x => (acc.headD 0 + x) :: acc) [0]).reverse

/-- The parameter, in 2^-30, at distance `x` along a piece. -/
def Piece.paramAt (p : Piece) (x : Int) : Int :=
  if p.len ≤ 0 then 2 ^ 30
  else
    let x := clampInt 0 p.len x
    if p.chords.length ≤ 1 then x * 2 ^ 30 / p.len
    else
      let n := p.chords.length - 1
      let k := min (n - 1) ((p.chords.drop 1).findIdx (fun c => decide (x ≤ c)))
      let c0 := p.chords.getD k 0
      let c1 := p.chords.getD (k + 1) 0
      ((k : Int) * 2 ^ 30 + (if c1 ≤ c0 then 0 else (x - c0) * 2 ^ 30 / (c1 - c0))) / n

/-- Axis coordinates at distance `x` along a piece. -/
def Piece.at_ (p : Piece) (x : Int) : List Int := p.curve.param p.axes p.scales (p.paramAt x)

/-- Axis velocities at distance `x` for a path speed `v`. -/
def Piece.velAt (p : Piece) (x v : Int) : List Int :=
  let d := p.curve.tangent p.axes p.scales (p.paramAt x)
  vecScale d v (max 1 (pathLen p.scales p.axes d))

/-- The unit direction, in 2^-40, at the start or the end of a piece, in path-unit space; axes not moved are 0. -/
def Piece.dir (p : Piece) (atEnd : Bool) : List Int :=
  let u := toUnits p.scales (p.velAt (if atEnd then p.len else 0) (2 ^ 40))
  (List.range 8).map (fun n => if n ∈ p.axes then u.getD n 0 else 0)

/-! ### Limits (R299) -/

/-- Limits of an axis in path units: velocity, acceleration, jerk. -/
structure AxisLim where
  v : Int
  a : Int
  j : Int
  deriving DecidableEq, Repr

/-- R299: the least, over the axes that move, of a limit divided by the share of the axis in a length `l`. -/
def leastShare (axes : List Nat) (u : List Int) (l : Int) (f : Nat → Int) : Int :=
  ((axes.filter (fun n => u.getD n 0 ≠ 0)).map (fun n => f n * l / (u.getD n 0).natAbs)).min?.getD 0

/-- R299: a straight stretch. -/
def straightLimits (scales axes : List Nat) (lim : List AxisLim) (d : List Int) : Stretch :=
  let u := toUnits scales d
  let l := pathLen scales axes d
  let get (n : Nat) : AxisLim := lim.getD n ⟨0, 0, 0⟩
  ⟨l, leastShare axes u l (fun n => (get n).v), leastShare axes u l (fun n => (get n).a),
    leastShare axes u l (fun n => (get n).j)⟩

/-- R299: a stretch of length `len` on a circle of radius `r` in the plane of `axes`. -/
def curvedLimits (axes : List Nat) (lim : List AxisLim) (len r : Int) : Stretch :=
  let get (n : Nat) : AxisLim := lim.getD n ⟨0, 0, 0⟩
  let v := (axes.map (fun n => (get n).v)).min?.getD 0
  let a := (axes.map (fun n => (get n).a)).min?.getD 0
  let j := (axes.map (fun n => (get n).j)).min?.getD 0
  let va : Int := isqrtBig (a * r / 2).toNat
  let vj : Int := icbrt (j * r * r / 2).toNat
  ⟨len, min v (min va vj), a / 2, j / 2⟩

/-- The length of the first stretch under the limits of both. -/
def Stretch.under (x y : Stretch) : Stretch := ⟨x.len, min x.v y.v, min x.a y.a, min x.j y.j⟩

/-- The radius of the circle through three points, 2^-40 path unit; 0 is returned for points on a line. -/
def circleRadius (scales axes : List Nat) (a b c : List Int) : Int :=
  let x := pathLen scales axes (vecSub b a)
  let y := pathLen scales axes (vecSub c b)
  let z := pathLen scales axes (vecSub c a)
  let s2 := x + y + z
  let q := s2 * (s2 - 2 * x) * (s2 - 2 * y) / 2 ^ 40 * (s2 - 2 * z)
  let area4 : Int := isqrtBig (q * 2 ^ 40).toNat
  if area4 ≤ 0 then 0 else x * y / area4 * z + x * y % area4 * z / area4

/-- R299: the stretches of a spline are its chords, each under the limits of its own direction and of the circles through
three neighbouring chord points that it is part of. -/
def splineLimits (c : Curve) (scales axes : List Nat) (lim : List AxisLim) : List Stretch :=
  let pt (k : Nat) : List Int := c.param axes scales ((k : Int) * 2 ^ 24)
  let curb (k : Nat) (x : Stretch) : Stretch :=
    let r := if k = 0 ∨ k = 64 then 0 else circleRadius scales axes (pt (k - 1)) (pt k) (pt (k + 1))
    if r = 0 then x else x.under (curvedLimits axes lim x.len r)
  (List.range 64).map (fun k => curb k (curb (k + 1) (straightLimits scales axes lim (vecSub (pt (k + 1)) (pt k)))))

/-! ### Corners (R302, R303) -/

/-- The chord |e1 - e2| = 2 sin(α / 2), in 2^-40. -/
def cornerChord (a b : Piece) : Int :=
  isqrtBig ((vecSub (a.dir true) (b.dir false)).foldl (fun s x => s + x * x) 0).toNat

/-- 2 sin(0.25 degree), in 2^-40: the chord of a turning angle of 0.5 degree. -/
abbrev smallChord : Int := 9595031424

/-- The angle of a small chord, radians in 2^-40. -/
def smallAngle (h : Int) : Int := h + h * h / 2 ^ 40 * h / 2 ^ 40 / 24

/-- R303: the distance d from the corner, for a tolerance and a chord. -/
def blendDist (tol h la lb : Int) : Int :=
  if h ≤ 0 then 0 else min (16 * tol * 2 ^ 40 / (3 * h)) (min (la / 2) (lb / 2))

/-- R303: the radius of curvature at the blend's midpoint. -/
def blendRadius (d h : Int) : Int := if h ≤ 0 then 0 else 4 * d * (2 ^ 80 - h * h / 4) / (3 * h * 2 ^ 40)

/-! ### Timed blocks (R304) -/

/-- R304: 10 τ³ - 15 τ⁴ + 6 τ⁵ of a distance, τ = t / d. -/
def timedAt (x : Int) (t d : Nat) : Int :=
  if d ≤ t then x else x * (t * t * t * (10 * d * d + 6 * t * t - 15 * t * d) : Nat) / (d * d * d * d * d : Nat)

/-- R304: its rate per motion frame, d in 2^-20 frame. -/
def timedVel (x : Int) (t d : Nat) : Int :=
  if d ≤ t then 0 else x * (30 * t * t * (d - t) * (d - t) : Nat) * 2 ^ 20 / (d * d * d * d * d : Nat)

/-- R304: a block's distance (ticks) and duration keep within an axis's registers. -/
def timedOk (dist : Nat) (n vmax amax jmax : Nat) : Bool :=
  decide (1875 * dist * 2 ^ 12 ≤ vmax * n * 1000) && decide (57735 * dist * 2 ^ 20 ≤ amax * n * n * 10000) &&
    decide (60 * dist * 2 ^ 28 ≤ jmax * n * n * n)

/-! ### Speed along the path (R300, R301) -/

/-- The part of a list of stretches that begins after `skip` and is `keep` long. -/
def cutStretches : List Stretch → Int → Int → List Stretch
  | [], _, _ => []
  | g :: l, skip, keep =>
    if keep ≤ 0 then []
    else if g.len ≤ skip then cutStretches l (skip - g.len) keep
    else
      let n := min keep (g.len - skip)
      { g with len := n } :: cutStretches l 0 (keep - n)

/-- What a piece still lays before the path from `x` on, its speed capped at `cap`; at its start its entry limit counts. -/
def Piece.ahead (p : Piece) (x : Int) (cap : Option Int) : List Stretch :=
  let l := (cutStretches p.stretches x (p.hi - x)).map (fun g => { g with v := cap.elim g.v (min g.v) })
  match p.entry, l with
  | some e, g :: _ => if x = p.lo then ⟨0, e, g.a, g.j⟩ :: l else l
  | _, _ => l

/-- The change of speed of a path within a stretch's limits. -/
def Stretch.change (g : Stretch) (v a v1 : Int) : List Seg := changeVel v a v1 (max 1 g.a) (max 1 g.j)

/-- R301: the highest speed, between `lo` and `hi`, from which a stretch lets the path slow to `out`. -/
def Stretch.entryMax (g : Stretch) (out : Int) : Nat → Int → Int → Int
  | 0, lo, _ => lo
  | k + 1, lo, hi =>
    let m := (lo + hi) / 2
    if segsDist (g.change m 0 out) ≤ g.len then g.entryMax out k m hi else g.entryMax out k lo m

/-- R301: the speed at which the path may enter stretches with no acceleration; at their end the speed is `e`. -/
def entrySpeed (e : Int) : List Stretch → Int
  | [] => e
  | g :: l =>
    let out := min g.v (entrySpeed e l)
    if segsDist (g.change g.v 0 out) ≤ g.len then g.v else g.entryMax out 64 out g.v

/-- The limits ahead: at the end of every stretch the speed of the next one, or `e` after the last; the length is the
distance to it, and acceleration and jerk are the least on the way. -/
def limitsAhead (e : Int) : Stretch → List Stretch → List Stretch
  | x, [] => [{ x with v := e }]
  | x, g :: l =>
    let y : Stretch := ⟨x.len, g.v, min x.a g.a, min x.j g.j⟩
    y :: limitsAhead e { y with len := x.len + g.len } l

/-- The speed at which an acceleration `a` at speed `v` has returned to 0 under a jerk limit. -/
def settleSpeed (v a j : Int) : Int := v + (if 0 ≤ a then 1 else -1) * a * a / (2 * max 1 j)

/-- From a state of motion (its position the distance gone) a limit ahead can be kept: the acceleration comes back within it
in time, and the speed either settles below it or can be brought to it in time. -/
def Stretch.keeps (x : Stretch) (m : Motion) : Bool :=
  let excess : Int := max 0 (m.a.natAbs - x.a)
  let ease : Seg := ⟨durOf excess (max 1 x.j), m.v, m.a, if 0 < m.a then -x.j else x.j⟩
  (decide (excess = 0) || decide (ease.pos ease.dur ≤ x.len - m.p)) &&
    ((decide (m.v ≤ x.v) && decide (settleSpeed m.v m.a x.j ≤ x.v)) ||
      decide (segsDist (x.change m.v m.a x.v) ≤ x.len - m.p))

/-- R301: what bounds the path in a stretch: its limits, the speed allowed at its end with no acceleration, the limits
ahead. -/
structure Bound where
  here : Stretch
  out : Int
  ahead : List Stretch
  deriving DecidableEq, Repr

def boundOf (e : Int) (x : Stretch) (l : List Stretch) : Bound := ⟨x, entrySpeed e l, limitsAhead e x l⟩

/-- The speed at which the path settles at or below the one allowed at the end of the stretch. -/
def Bound.calm (b : Bound) (m : Motion) : Int := min b.out (max 0 (settleSpeed m.v m.a b.here.j))

/-- It settles so within the stretch. -/
def Bound.settles (b : Bound) (m : Motion) : Bool :=
  decide (segsDist (b.here.change m.v m.a (b.calm m)) ≤ b.here.len - m.p)

/-- R301: every limit ahead can still be kept. -/
def Bound.ok (b : Bound) (m : Motion) : Bool := b.settles m || b.ahead.all (fun x => x.keeps m)

/-- Bisection for the last of the instants from `lo` to `hi` at which a condition that holds at `lo` still holds. -/
def lastWhile (f : Nat → Bool) : Nat → Nat → Nat → Nat
  | 0, lo, _ => lo
  | n + 1, lo, hi =>
    let m := (lo + hi) / 2
    if f m then lastWhile f n m hi else lastWhile f n lo m

/-- R301: the slowing that the binding limit asks for, from the last instant at which it can be kept, for a time `t`;
`m1` is the state one step later, `vt` the speed aimed at. Of several that bind, the one that leaves the least speed. -/
def Bound.slow (b : Bound) (vt : Int) (m m1 : Motion) (t : Nat) : Motion :=
  let run (g : Stretch) (v1 : Int) : Motion := segsAt m.p none v1 (g.change m.v m.a v1) t
  if b.settles m then run b.here (b.calm m)
  else
    match (b.ahead.filter (fun x => !x.keeps m1)).map (fun x => run x (min x.v vt)) with
    | [] => run b.here 0
    | r :: l => l.foldl (fun best y => if y.v < best.v then y else best) r

/-- R300, R301: the fastest jerk-limited course of the path for a time `t` (2^-32 motion frame) from speed `v` and
acceleration `a`: toward the speed of the stretch, or toward rest when held, up to the last instant at which every limit
ahead can be kept, and slowing from there. Distance, speed, acceleration. -/
def pathStep (e : Int) (held : Bool) : List Stretch → Int → Int → Nat → Motion
  | [], _, _, _ => ⟨0, 0, 0⟩
  | x :: l, v, a, t =>
    let b := boundOf e x l
    let vt := if held then 0 else x.v
    let go := x.change v a vt
    let at_ (u : Nat) : Motion := segsAt 0 none vt go u
    let whole := decide ((at_ t).p ≤ x.len)
    let leave := if whole then t else lastWhile (fun u => decide ((at_ u).p ≤ x.len)) (Nat.log2 t + 1) 0 t
    let m := at_ leave
    if b.ok m then
      if whole then m
      else
        let r := pathStep e held l m.v m.a (t - leave)
        if l = [] then ⟨x.len, m.v, m.a⟩ else { r with p := x.len + r.p }
    else
      let u := lastWhile (fun u => b.ok (at_ u)) (Nat.log2 leave + 1) 0 leave
      b.slow vt (at_ u) (at_ (u + 1)) (t - u)

end Sys2Proof.Machine
end

