-- ==== Sys2Proof/Machine/Codes.lean ====
section
/-! DEFINITION. Check codes of the module: CRC-32 (R52), CRC-16 (R380), HMAC-SHA-256 (R59, R359), the packing of words
into bytes (R49, R51) and the Reed-Solomon code of a Larder line (R325 to R328). Bytes are numbers below 256. -/

namespace Sys2Proof.Machine

open Sys2Proof

/-! ### Words and bytes -/

/-- The `n` bytes of a number, most significant first. -/
def beBytes : Nat → Nat → List Nat
  | 0, _ => []
  | n + 1, v => beBytes n (v / 256) ++ [v % 256]

/-- The number of a byte string, most significant first. -/
def beNat (l : List Nat) : Nat := l.foldl (fun a b => a * 256 + b % 256) 0

/-- R51: the five-byte form of a word. -/
def fiveBytes (w : Word) : List Nat := beBytes 5 w.toNat

/-- R49: words packed in pairs into 9 bytes; an odd last word is packed with a zero word. -/
def packWords : List Word → List Nat
  | [] => []
  | [a] => beBytes 9 (a.toNat * 2 ^ 36)
  | a :: b :: t => beBytes 9 (a.toNat * 2 ^ 36 + b.toNat) ++ packWords t

/-- The pair of words in a 72-bit group. -/
def groupWords (g : Nat) : List Word := [BitVec.ofNat 36 (g / 2 ^ 36), BitVec.ofNat 36 g]

/-- R49: the words packed in `9 x n` bytes. -/
def unpackWords : Nat → List Nat → List Word
  | 0, _ => []
  | n + 1, l => groupWords (beNat (l.take 9)) ++ unpackWords n (l.drop 9)

/-! ### CRCs -/

/-- Eight steps of the reflected IEEE 802.3 CRC. -/
def crc32Bits : Nat → Nat → Nat
  | 0, c => c
  | n + 1, c => crc32Bits n (if c % 2 = 1 then (c / 2) ^^^ 0xEDB88320 else c / 2)

/-- R52: the CRC-32 register after bytes. -/
def crc32Run (c : Nat) (l : List Nat) : Nat := l.foldl (fun c b => crc32Bits 8 (c ^^^ (b % 256))) c

/-- R52: CRC-32 of bytes. -/
def crc32 (l : List Nat) : Nat := crc32Run 0xFFFFFFFF l ^^^ 0xFFFFFFFF

/-- R51, R52: CRC-32 of words over their five-byte form. -/
def crc32Words (l : List Word) : Nat := crc32 (l.flatMap fiveBytes)

/-- Steps of the CRC-16/CCITT-FALSE register: polynomial 0x1021, most significant bit first. -/
def crc16Bits : Nat → Nat → Nat
  | 0, c => c
  | n + 1, c => crc16Bits n (if 32768 ≤ c then (c * 2 % 65536) ^^^ 0x1021 else c * 2)

/-- `n` message bits of `v`, most significant first. -/
def crc16Num : Nat → Nat → Nat → Nat
  | 0, _, c => c
  | n + 1, v, c => crc16Num n v (crc16Bits 1 (c ^^^ (v / 2 ^ n % 2 * 32768)))

/-- R378: CRC-16 of words over their five-byte form. -/
def crc16Words (l : List Word) : Nat := l.foldl (fun c w => crc16Num 40 w.toNat c) 0xFFFF

/-! ### SHA-256 (FIPS 180-4) and HMAC (FIPS 198-1) -/

/-- The greatest `r + m` with `m` below 2^n whose `k`-th power is at most `x`, found bit by bit. -/
def rootDown (k x : Nat) : Nat → Nat → Nat
  | 0, r => r
  | n + 1, r => rootDown k x n (if (r + 2 ^ n) ^ k ≤ x then r + 2 ^ n else r)

/-- FIPS 180-4: the first 32 bits of the fractional part of the `k`-th root of a number below 324. -/
def rootBits (k p : Nat) : BitVec 32 := BitVec.ofNat 32 (rootDown k (p * 2 ^ (32 * k)) 37 0)

/-- The 64 primes below 312. -/
def digestPrimes : List Nat :=
  (List.range 312).filter (fun p => decide (2 ≤ p) && (List.range 18).all (fun d => d ≤ 1 || d = p || p % d ≠ 0))

/-- The running digest: the newest four values of each of the two chains that a round extends, newest first. -/
structure Digest where
  front : List (BitVec 32)
  back : List (BitVec 32)
  deriving DecidableEq, Repr

/-- FIPS 180-4, 5.3.3: the digest before the first block: roots of the first eight primes. -/
def Digest.start : Digest :=
  ⟨(digestPrimes.take 4).map (rootBits 2), ((digestPrimes.drop 4).take 4).map (rootBits 2)⟩

/-- Three turns of a word to the right, added bit by bit. -/
def turns (x : BitVec 32) (i j k : Nat) : BitVec 32 := x.rotateRight i ^^^ x.rotateRight j ^^^ x.rotateRight k

/-- Two turns and a shift of a word to the right, added bit by bit. -/
def turnsShift (x : BitVec 32) (i j k : Nat) : BitVec 32 := x.rotateRight i ^^^ x.rotateRight j ^^^ (x >>> k)

/-- One round: both chains grow by a value and drop their oldest. -/
def Digest.round (v : Digest) (word : BitVec 32) : Digest :=
  let at_ := fun (l : List (BitVec 32)) n => l.getD n 0
  let p := at_ v.front 0
  let q := at_ v.back 0
  let common := at_ v.back 3 + turns q 6 11 25 + (at_ v.back 2 ^^^ (q &&& (at_ v.back 1 ^^^ at_ v.back 2))) + word
  let most := (p &&& (at_ v.front 1 ||| at_ v.front 2)) ||| (at_ v.front 1 &&& at_ v.front 2)
  { front := (common + turns p 2 13 22 + most) :: v.front.take 3
    back := (at_ v.front 3 + common) :: v.back.take 3 }

/-- The rounds over the words of a block: the last sixteen words, oldest first, yield the next one. -/
def Digest.rounds (v : Digest) : List Nat → List (BitVec 32) → Digest
  | [], _ => v
  | p :: rest, win =>
    let w := win.headD 0
    let next := w + turnsShift (win.getD 1 0) 7 18 3 + win.getD 9 0 + turnsShift (win.getD 14 0) 17 19 10
    (v.round (rootBits 3 p + w)).rounds rest (win.drop 1 ++ [next])

/-- The digest after a block of 64 bytes. -/
def Digest.block (v : Digest) (bytes : List Nat) : Digest :=
  let win := (List.range 16).map (fun i => BitVec.ofNat 32 (beNat ((bytes.drop (4 * i)).take 4)))
  let u := v.rounds digestPrimes win
  { front := List.zipWith (· + ·) v.front u.front
    back := List.zipWith (· + ·) v.back u.back }

/-- The digest after `n` blocks. -/
def Digest.blocks (v : Digest) : Nat → List Nat → Digest
  | 0, _ => v
  | n + 1, bytes => (v.block (bytes.take 64)).blocks n (bytes.drop 64)

/-- FIPS 180-4, 5.1.1: a message with its end mark, zeros and its length in bits, to whole blocks of 64 bytes. -/
def padded (msg : List Nat) : List Nat :=
  msg ++ 0x80 :: (List.replicate ((119 - msg.length % 64) % 64) 0 ++ beBytes 8 (8 * msg.length))

/-- SHA-256 of bytes. -/
def sha256 (msg : List Nat) : List Nat :=
  let d := Digest.start.blocks ((padded msg).length / 64) (padded msg)
  (d.front ++ d.back).flatMap (fun w => beBytes 4 w.toNat)

/-- HMAC-SHA-256 under a key of 32 bytes. -/
def hmac (key : List Nat) (msg : List Nat) : List Nat :=
  let k := key ++ List.replicate (64 - key.length) 0
  sha256 (k.map (· ^^^ 0x5c) ++ sha256 (k.map (· ^^^ 0x36) ++ msg))

/-! ### RS(48,42) over GF(2^8), polynomial 0x11D (R327) -/

/-- A factor times the low `n` bits of the other, from the most significant down. -/
def gfMulFrom (a : Nat) : Nat → Nat → Nat → Nat
  | 0, _, r => r
  | n + 1, b, r =>
    let r2 := if 128 ≤ r then (r * 2) ^^^ 0x11D else r * 2
    gfMulFrom a n b (if b / 2 ^ n % 2 = 1 then r2 ^^^ a else r2)

/-- The product in the field. -/
def gfMul (a b : Nat) : Nat := if a = 0 ∨ b = 0 then 0 else gfMulFrom a 8 b 0

/-- The `n`-th power. -/
def gfPow (a : Nat) : Nat → Nat
  | 0 => 1
  | n + 1 => gfMul a (gfPow a n)

/-- The inverse of a nonzero element: its 254th power, by squares. -/
def gfInvFrom : Nat → Nat → Nat → Nat
  | 0, _, r => r
  | n + 1, a, r => let a2 := gfMul a a; gfInvFrom n a2 (gfMul r a2)

def gfInv (a : Nat) : Nat := gfInvFrom 7 a 1

/-- R327: α to the power k. -/
def gfExp (k : Nat) : Nat := gfPow 2 k

/-- R327: the coefficients of g(x) below x^6, highest first. -/
def rsGen : List Nat := [0x3f, 0x01, 0xda, 0x20, 0xe3, 0x26]

/-- R327: one byte through the division by g(x). -/
def rsShift (r : List Nat) (b : Nat) : List Nat :=
  let fb := r.headD 0 ^^^ b
  if fb = 0 then r.drop 1 ++ [0] else List.zipWith (fun x g => x ^^^ gfMul fb g) (r.drop 1 ++ [0]) rsGen

/-- R327: the check bytes of the 42 bytes before them. -/
def rsCheck (l : List Nat) : List Nat := l.foldl rsShift [0, 0, 0, 0, 0, 0]

/-- R327: the value of the codeword polynomial at `x`. -/
def rsEval (x : Nat) (l : List Nat) : Nat := l.foldl (fun a b => gfMul a x ^^^ b) 0

/-- R327: the syndromes S_0 to S_5. -/
def rsSyndromes (l : List Nat) : List Nat := (List.range 6).map (fun j => rsEval (gfExp j) l)

/-- The determinant of a 3 x 3 matrix by columns. -/
def gfDet3 (a b c : Nat × Nat × Nat) : Nat :=
  gfMul a.1 (gfMul b.2.1 c.2.2 ^^^ gfMul b.2.2 c.2.1) ^^^ gfMul b.1 (gfMul a.2.1 c.2.2 ^^^ gfMul a.2.2 c.2.1) ^^^
    gfMul c.1 (gfMul a.2.1 b.2.2 ^^^ gfMul a.2.2 b.2.1)

/-- The solution of three linear equations by columns, if unique. -/
def gfSolve3 (a b c r : Nat × Nat × Nat) : Option (Nat × Nat × Nat) :=
  let d := gfDet3 a b c
  if d = 0 then none
  else
    let i := gfInv d
    some (gfMul i (gfDet3 r b c), gfMul i (gfDet3 a r c), gfMul i (gfDet3 a b r))

/-- The locator's coefficients Λ_1 to Λ_3 and its degree, for the largest number of errors the syndromes allow. -/
def rsLocator (s : List Nat) : Nat × Nat × Nat × Nat :=
  let g := fun i => s.getD i 0
  match gfSolve3 (g 2, g 3, g 4) (g 1, g 2, g 3) (g 0, g 1, g 2) (g 3, g 4, g 5) with
  | some (a, b, c) => (3, a, b, c)
  | none =>
    match gfSolve3 (g 1, g 2, 0) (g 0, g 1, 0) (0, 0, 1) (g 2, g 3, 0) with
    | some (a, b, _) => (2, a, b, 0)
    | none => if g 0 = 0 then (0, 0, 0, 0) else (1, gfMul (g 1) (gfInv (g 0)), 0, 0)

/-- The positions whose power of α is a root of the reversed locator. -/
def rsPositions (deg a b c : Nat) : List Nat :=
  (List.range 48).filter (fun p =>
    let x := gfExp (47 - p)
    let v := if deg = 3 then gfMul x (gfMul x (x ^^^ a) ^^^ b) ^^^ c
      else if deg = 2 then gfMul x (x ^^^ a) ^^^ b
      else x ^^^ a
    v = 0)

/-- The error values at up to three positions, from S_0 to S_2. -/
def rsValues (s : List Nat) (pos : List Nat) : List Nat :=
  let g := fun i => s.getD i 0
  let col := fun p => let x := gfExp (47 - p); (1, x, gfMul x x)
  match pos with
  | [p] => let _ := p; [g 0]
  | [p, q] =>
    match gfSolve3 (col p) (col q) (0, 0, 1) (g 0, g 1, g 2) with
    | some (x, y, _) => [x, y]
    | none => []
  | [p, q, r] =>
    match gfSolve3 (col p) (col q) (col r) (g 0, g 1, g 2) with
    | some (x, y, z) => [x, y, z]
    | none => []
  | _ => []

/-- R328: a decoder's answer: the corrected bytes and the positions corrected; none when uncorrectable. -/
def rsDecode (l : List Nat) : Option (List Nat × List Nat) :=
  let s := rsSyndromes l
  if s.all (· = 0) then some (l, [])
  else
    let (deg, a, b, c) := rsLocator s
    let pos := rsPositions deg a b c
    if deg = 0 ∨ pos.length ≠ deg then none
    else
      let e := List.zip pos (rsValues s pos)
      let l' := e.foldl (fun l pv => l.modify pv.1 (· ^^^ pv.2)) l
      if (rsSyndromes l').all (· = 0) then some (l', pos) else none

/-! ### A Larder line (R325) -/

/-- R325: the codeword of 8 words, an echo and a stamp. -/
def lineCode (ws : List Word) (echo stamp : Nat) : List Nat :=
  let b := packWords ws ++ beBytes 6 (echo % 2 ^ 30 * 2 ^ 18 + stamp % 2 ^ 18)
  b ++ rsCheck b

/-- R325: words, echo and stamp of a codeword. -/
def lineWords (l : List Nat) : List Word := unpackWords 4 l
def lineEcho (l : List Nat) : Nat := beNat ((l.drop 36).take 6) / 2 ^ 18
def lineStamp (l : List Nat) : Nat := beNat ((l.drop 36).take 6) % 2 ^ 18

end Sys2Proof.Machine
end

