-- ==== Sys2Proof/Machine/Members.lean ====
section
/-! DEFINITION. Updates of a member of the state, or of one entry of the state's tables of legs,
carriers, regions, axes, channels and dies. -/

namespace Sys2Proof.Machine

open Sys2Proof

/-- One entry of `dies` changes. -/
def State.modDie (s : State) (i : Fin 2) (f : Die → Die) : State :=
  { s with dies := s.dies.set i.val (f s.dies[i.val]) i.isLt }

/-- One entry of `legs` changes. -/
def State.modLeg (s : State) (i : Fin 32) (f : Leg → Leg) : State :=
  { s with legs := s.legs.set i.val (f s.legs[i.val]) i.isLt }

/-- One entry of `regions` changes. -/
def State.modRegion (s : State) (i : Fin 4) (f : Region → Region) : State :=
  { s with regions := s.regions.set i.val (f s.regions[i.val]) i.isLt }

/-- One entry of `carriers` changes. -/
def State.modCarrier (s : State) (i : Fin 8) (f : Carrier → Carrier) : State :=
  { s with carriers := s.carriers.set i.val (f s.carriers[i.val]) i.isLt }

/-- One entry of `seqs` changes. -/
def State.modSeq (s : State) (i : Fin 8) (f : Sequence → Sequence) : State :=
  { s with seqs := s.seqs.set i.val (f s.seqs[i.val]) i.isLt }

/-- One entry of `cores` changes. -/
def State.modCore (s : State) (i : Fin 8) (f : Core → Core) : State :=
  { s with cores := s.cores.set i.val (f s.cores[i.val]) i.isLt }

/-- One entry of `meas` changes. -/
def State.modMeas (s : State) (i : Fin 64) (f : Meas → Meas) : State :=
  { s with meas := s.meas.set i.val (f s.meas[i.val]) i.isLt }

/-- One entry of `calRuns` changes. -/
def State.modCalRun (s : State) (i : Fin 2) (f : Option CalRun → Option CalRun) : State :=
  { s with calRuns := s.calRuns.set i.val (f s.calRuns[i.val]) i.isLt }

/-- One entry of `cmps` changes. -/
def State.modCmp (s : State) (i : Fin 64) (f : Cmp → Cmp) : State :=
  { s with cmps := s.cmps.set i.val (f s.cmps[i.val]) i.isLt }

/-- One entry of `engs` changes. -/
def State.modEng (s : State) (i : Fin 8) (f : AxisEng → AxisEng) : State :=
  { s with engs := s.engs.set i.val (f s.engs[i.val]) i.isLt }

/-- One entry of `axes` changes. -/
def State.modAxis (s : State) (i : Fin 8) (f : AxisMot → AxisMot) : State :=
  { s with axes := s.axes.set i.val (f s.axes[i.val]) i.isLt }

/-- One entry of `chans` changes. -/
def State.modChan (s : State) (i : Fin 8) (f : FbChan → FbChan) : State :=
  { s with chans := s.chans.set i.val (f s.chans[i.val]) i.isLt }

/-- One entry of `compares` changes. -/
def State.modCompare (s : State) (i : Fin 8) (f : Compare → Compare) : State :=
  { s with compares := s.compares.set i.val (f s.compares[i.val]) i.isLt }

/-- One entry of `comps` changes. -/
def State.modComp (s : State) (i : Fin 8) (f : Comp → Comp) : State :=
  { s with comps := s.comps.set i.val (f s.comps[i.val]) i.isLt }

/-- One entry of `prt` changes. -/
def State.modPort (s : State) (i : Fin 4) (f : Port → Port) : State :=
  { s with prt := s.prt.set i.val (f s.prt[i.val]) i.isLt }

/-- The whole of `fm` changes. -/
def State.modFm (s : State) (f : FaultMgr → FaultMgr) : State := { s with fm := f s.fm }

/-- The whole of `box` changes. -/
def State.modBox (s : State) (f : Strongbox → Strongbox) : State := { s with box := f s.box }

/-- The whole of `pins` changes. -/
def State.modPins (s : State) (f : Pins → Pins) : State := { s with pins := f s.pins }

/-- The whole of `jtag` changes. -/
def State.modJtag (s : State) (f : Jtag → Jtag) : State := { s with jtag := f s.jtag }

/-- The whole of `engine` changes. -/
def State.modEngine (s : State) (f : Engine → Engine) : State := { s with engine := f s.engine }

/-- The whole of `audit` changes. -/
def State.modAudit (s : State) (f : Audit → Audit) : State := { s with audit := f s.audit }

/-- The whole of `wireTests` changes. -/
def State.modWires (s : State) (f : List WireTest → List WireTest) : State := { s with wireTests := f s.wireTests }

/-- The whole of `leakTests` changes. -/
def State.modLeaks (s : State) (f : List LeakTest → List LeakTest) : State := { s with leakTests := f s.leakTests }

/-- The whole of `planner` changes. -/
def State.modPlan (s : State) (f : Planner → Planner) : State := { s with planner := f s.planner }

/-- The whole of `hatch` changes. -/
def State.modHatch (s : State) (f : Hatch → Hatch) : State := { s with hatch := f s.hatch }

/-- The whole of `ladder` changes. -/
def State.modLadder (s : State) (f : Ladder → Ladder) : State := { s with ladder := f s.ladder }

/-- The whole of `seq` changes. -/
def State.modPower (s : State) (f : PowerSeq → PowerSeq) : State := { s with seq := f s.seq }

/-- The whole of `guard` changes. -/
def State.modGuard (s : State) (f : Protect → Protect) : State := { s with guard := f s.guard }

/-- The whole of `stock` changes. -/
def State.modStock (s : State) (f : Stock → Stock) : State := { s with stock := f s.stock }

/-- The whole of `invOp` changes. -/
def State.modInv (s : State) (f : InvOp → InvOp) : State := { s with invOp := f s.invOp }

/-- The whole of `hp` changes. -/
def State.modHp (s : State) (f : HostPort → HostPort) : State := { s with hp := f s.hp }

/-- The whole of `access` changes. -/
def State.modAccess (s : State) (f : Access → Access) : State := { s with access := f s.access }

end Sys2Proof.Machine
end

