-- ==== Sys2Proof/Machine/Ops.lean ====
section
/-! DEFINITION. The named operations on State that every family shares: time, registers and their fields, event
counters, operation status, the raising of faults, and updates of one leg, axis, channel or die. -/

namespace Sys2Proof.Machine

open Sys2Proof

/-! ### Bit fields -/

/-- `n` with bits [hi:lo] replaced by the low bits of `v`. -/
def bitsPut (n hi lo v : Nat) : Nat :=
  n % 2 ^ lo + (v % 2 ^ (hi + 1 - lo)) * 2 ^ lo + n / 2 ^ (hi + 1) * 2 ^ (hi + 1)

/-- Bit `i` of `n`. -/
def bitOf (n i : Nat) : Bool := n / 2 ^ i % 2 = 1

/-- A Boolean as a bit. -/
def bit (b : Bool) : Nat := if b then 1 else 0

/-- The bits of a list, element 0 least significant. -/
def packBits : List Bool → Nat
  | [] => 0
  | b :: t => bit b + 2 * packBits t

/-! ### Registers -/

/-- The reset word of a register as its table gives it (R8); holes and unimplemented blocks read 0. -/
def tableReset (k : Nat) : Nat :=
  match blockTable.find? (fun b => decide (b.num ≤ k / 512) && decide (k / 512 < b.num + b.inst)) with
  | none => 0
  | some b =>
    match b.regs.find? (fun r => (List.range r.cnt).any (fun i => r.off + i * r.stride == k % 512)) with
    | none => 0
    | some r => r.reset

/-- What an unwritten register reads as (R8, Tables 2.8 to 2.20): the table's word, with the identity words of the
variant, the factory serial number and the fixed settings of CMP60 to CMP63 (Table 6.4, R176). -/
def resetWord (v : Variant) (k : Nat) : Word :=
  if k = R.SYS_SERIAL_LO then Config.serial.extractLsb' 0 36
  else if k = R.SYS_SERIAL_HI then Config.serial.extractLsb' 36 36
  else if k = R.LAD_MAC_LO then (Config.serial.extractLsb' 0 24).setWidth 36
  else if k = R.CMP_CFG 60 then 0x2604666#36
  else if k = R.CMP_CFG 61 then 0x2404e66#36
  else if k = R.CMP_CFG 62 then 0x24047d6#36
  else if k = R.CMP_CFG 63 then 0x2604787#36
  else match v with
  | .lkm8836 => BitVec.ofNat 36 (tableReset k)
  | .lkm4836 =>
    if k = R.SYS_ID then 0x50d483611#36
    else if k = R.SYS_FEATURES then 0x744#36
    else if k = R.CLK_POWER then 0xf9#36
    else BitVec.ofNat 36 (tableReset k)

/-- A register's stored word (R24); an unlisted register holds its reset word (R8). -/
def State.reg (s : State) (k : Nat) : Word := Cells.read (resetWord s.variant) s.regs k

/-- A register takes a word. -/
def State.setReg (s : State) (k : Nat) (w : Word) : State :=
  { s with regs := Cells.write (resetWord s.variant) s.regs k w }

/-- The value of a field. -/
def State.fld (s : State) (f : Fld) : Nat := bitsOf (s.reg f.key).toNat f.hi f.lo

/-- A field as a two's complement number (R7). -/
def State.sfld (s : State) (f : Fld) : Int := signed (f.hi + 1 - f.lo) (s.fld f)

/-- A one-bit field. -/
def State.flag (s : State) (f : Fld) : Bool := s.fld f = 1

/-- A field takes a value, modulo its width; the other bits of the register stand. -/
def State.setFld (s : State) (f : Fld) (v : Nat) : State :=
  s.setReg f.key (BitVec.ofNat 36 (bitsPut (s.reg f.key).toNat f.hi f.lo v))

/-- A field takes an integer, modulo its width. -/
def State.setSFld (s : State) (f : Fld) (v : Int) : State := s.setFld f (unsigned (f.hi + 1 - f.lo) v)

/-- A one-bit field takes a Boolean. -/
def State.setFlag (s : State) (f : Fld) (b : Bool) : State := s.setFld f (bit b)

/-- Bit `i` of register `k`. -/
def State.regBit (s : State) (k i : Nat) : Bool := s.flag ⟨k, i, i⟩

/-- Bit `i` of register `k` takes a Boolean. -/
def State.setRegBit (s : State) (k i : Nat) (b : Bool) : State := s.setFlag ⟨k, i, i⟩ b

/-- The registers from key `lo` to `hi - 1` take their reset words again. -/
def State.clearRegs (s : State) (lo hi : Nat) : State := { s with regs := Cells.clear s.regs lo hi }

/-! ### Time -/

/-- `dt` PCLK pass. -/
def State.pass (s : State) (dt : Nat) : State := { s with clock := s.clock + dt }

/-- Time stands no earlier than `t`. -/
def State.atLeast (s : State) (t : Nat) : State := { s with clock := max s.clock t }

/-- R18: the module timestamp of an instant. -/
def State.stamp (s : State) (t : Nat) : Word := BitVec.ofNat 36 (t - s.tsBase)

/-- R18: the module timestamp now. -/
def State.now (s : State) : Word := s.stamp s.clock

/-- The first instant not before now that lies a multiple of `period` after the time base and after `last`. -/
def State.nextBoundary (s : State) (period last : Nat) : Nat :=
  let now := max s.clock (last + 1)
  s.tsBase + ceilDiv (now - s.tsBase) period * period

/-- PCLK per microsecond, millisecond and second (Table 1.4). -/
abbrev usec : Nat := 500
abbrev msec : Nat := 500000
abbrev second : Nat := 500000000

/-! ### What every command answers with -/

/-- R104, R106: gate-sense holds a switch off while the gate of the other switch of its leg is high; the high side gives
way. -/
def Leg.interlock (g : Leg) : Leg := if g.hi.on && g.lo.on then { g with hi := { g.hi with on := false } } else g

/-- The state in which a command leaves the module: time does not run backward, the interlock of R104 stands over every
leg, and the commands that wait stay as they are. `s` is the state before, `t` what the command has made
of it. -/
def State.after (s t : State) : State :=
  { t with clock := max s.clock t.clock, legs := t.legs.map Leg.interlock, pending := s.pending }

/-- Every command of the module answers with a next state. -/
def State.answer (s t : State) : Host.Outcome State Fault Refusal := .next (s.after t)

/-! ### Counters and operation status -/

/-- R42, R43: one increment of an event or interval counter of width `w`. -/
def State.countOne (s : State) (k w : Nat) : State :=
  if s.fld ⟨k, w - 1, 0⟩ = 2 ^ w - 1 then s.setFld ⟨k, 35, 35⟩ 1
  else s.setFld ⟨k, w - 1, 0⟩ (s.fld ⟨k, w - 1, 0⟩ + 1)

/-- `n` increments of an event counter of width `w`. -/
def State.countN (s : State) (k w n : Nat) : State :=
  let c := s.fld ⟨k, w - 1, 0⟩
  if c + n ≤ 2 ^ w - 1 then s.setFld ⟨k, w - 1, 0⟩ (c + n)
  else (s.setFld ⟨k, w - 1, 0⟩ (2 ^ w - 1)).setFld ⟨k, 35, 35⟩ 1

/-- One increment of a 16-bit event counter. -/
def State.count (s : State) (k : Nat) : State := s.countOne k 16

/-- Free values (the MODEL's own counter): the number of the next one. -/
def State.freeNext (s : State) : State := { s with free := s.free + 1 }

/-! ### Dies and variant -/

/-- Table 0.1 (R1): how many axes, channels, cores the variant has. -/
def State.axisCount (s : State) : Nat := match s.variant with | .lkm8836 => 8 | .lkm4836 => 4

/-- Table 0.1: axis, feedback channel, compare output, ADC core, Hatch channel `n` exists. -/
def State.hasAxis (s : State) (n : Nat) : Bool := decide (n < s.axisCount)

/-- R12: die GD0 or GD1 is present. -/
def State.hasDie (s : State) (d : Nat) : Bool := decide (d = 0) || decide (s.variant = .lkm8836)

/-! ### Faults on their way (R13, R15, R21) -/

/-- A fault detected on LD goes straight to the fault manager. -/
def State.raiseLD (s : State) (code source : Nat) (axis : Option Nat) : State :=
  s.modFm (fun x => { x with inbox := s.fm.inbox ++ [⟨code, source, 0, axis, s.clock, false⟩] })

/-- A fault whose rule takes the reaction in the step that raises it (R440, OWN and the rows with a rule of their own). -/
def State.raiseActed (s : State) (code source : Nat) (axis : Option Nat) : State :=
  s.modFm (fun x => { x with inbox := s.fm.inbox ++ [⟨code, source, 0, axis, s.clock, true⟩] })

/-- R15: a fault detected on GD die `d` takes an entry of the die's event buffer, unless the same source's entry
for the same code is still pending. -/
def State.raiseGD (s : State) (d : DieId) (code source : Nat) (axis : Option Nat) : State :=
  let b := (s.dies.get d).events
  if b.any (fun e => e.code == code && e.source == source) then s
  else s.modDie d (fun x => { x with events := b ++ [⟨code, source, d.val + 1, axis, s.clock, false⟩] })

/-- The same for a fault whose rule takes the reaction in the step that raises it. -/
def State.raiseGDActed (s : State) (d : DieId) (code source : Nat) (axis : Option Nat) : State :=
  let b := (s.dies.get d).events
  if b.any (fun e => e.code == code && e.source == source) then s
  else s.modDie d (fun x => { x with events := b ++ [⟨code, source, d.val + 1, axis, s.clock, true⟩] })

/-! ### Reach -/

/-- R450, R459: clocks run and the module serves its buses: LOADING, BARE or CONFIGURED with the PLL locked. -/
def State.live (s : State) : Bool :=
  (decide (s.power = .loading) || decide (s.power = .bare) || decide (s.power = .configured)) &&
    s.flag F.CLK_PLL_STAT_LOCK

/-- Table 2.2, R2: the block is implemented on this variant. -/
def State.implemented (s : State) (blk : Nat) : Bool :=
  blockTable.any (fun b => decide (b.num ≤ blk) && decide (blk < b.num + b.inst)) &&
    match s.variant with
    | .lkm8836 => true
    | .lkm4836 => !(blk ∈ [0x14, 0x15, 0x16, 0x17, 0x1c, 0x1d, 0x1e, 0x1f, 0x22, 0x23, 0x26, 0x27, 0x29])

/-- Table 2.2: blocks 0x20 to 0x29 lie on the GD dies; the die of such a block (R12, R95). -/
def blockDie (blk : Nat) : Option DieId :=
  if blk < 0x20 then none
  else if blk = 0x20 || blk = 0x21 || blk = 0x24 || blk = 0x25 || blk = 0x28 then some 0
  else some 1

/-- R36, R37: the gate link to the die of the block works. -/
def State.linked (s : State) (blk : Nat) : Bool :=
  match blockDie blk with
  | none => true
  | some d => !(s.dies.get d).linkLost

/-- R87: software reaches the block: in bare mode only SYS, CLK, INV, BOX, FLT, PRT, LAD, HST and LDC work. -/
def State.reach (s : State) (blk : Nat) : Bool :=
  s.live && s.implemented blk && s.linked blk && (decide (s.power ≠ .bare) || decide (blk ≤ 8))

/-! ### The register bus (R23) -/

/-- R23: the fault manager (`fm`) or the planner requests an access of the register bus. The manual names them as requesters
and no access that they make; each makes one with every step that it takes, which holds the bus for its turn and changes
nothing else (DESIGN CHOICE, log entry 103). -/
def State.busInner (s : State) (fm : Bool) : State := s.modAccess (fun a => { a with inner := a.inner ++ [(fm, s.clock)] })

/-! ### The Strongbox -/

/-- R447: one more on lifetime counter `i`, saturating at 2^36 - 1. -/
def State.lifeAdd (s : State) (i n : Nat) : State :=
  s.modBox (fun x => { x with life := s.box.life.modify i (fun v => min (v + n) (2 ^ 36 - 1)) })

/-- A SAVE (R130, R157, R185 and the like): the registers `keys` go into the Strongbox as record `id` with
INV.IMAGE_ID. -/
def State.saveGroup (s : State) (id : Nat) (keys : List Nat) : State :=
  s.modBox (fun x => { x with
      saves := (id, s.reg R.INV_IMAGE_ID, keys.map (fun k => (k, s.reg k))) ::
        s.box.saves.filter (fun e => e.1 ≠ id) })

/-- Registers take the words of a record. -/
def State.setAll (s : State) : List (Nat × Word) → State
  | [] => s
  | (k, w) :: t => (s.setReg k w).setAll t

/-- On acceptance of a full Inventory the registers `keys` load from record `id` if it carries the accepted IMAGE_ID;
otherwise they take their reset values (R129, R157, R185 and the like). -/
def State.loadGroup (s : State) (id : Nat) (keys : List Nat) : State :=
  match s.box.saves.find? (fun e => e.1 == id && e.2.1 == s.reg R.INV_IMAGE_ID) with
  | some e => s.setAll (e.2.2.filter (fun p => decide (p.1 ∈ keys)))
  | none => s.setAll (keys.map (fun k => (k, resetWord s.variant k)))

/-- A Strongbox write that fails (R437, Table 15.11): BOX.STATUS.WRITE_FAIL and fault 0xC12. -/
def State.boxWriteFail (s : State) : State := (s.setFlag F.BOX_STATUS_WRITE_FAIL true).raiseLD 0xC12 0 none

/-- A SAVE whose write succeeds or fails. -/
def State.saveOr (s : State) (ok : Bool) (id : Nat) (keys : List Nat) : State :=
  if ok then s.saveGroup id keys else s.boxWriteFail

/-! ### The Larder's requests -/

/-- The Larder changes. -/
def State.modLarder (s : State) (f : Larder → Larder) : State := { s with larder := f s.larder }

/-- R336: a request for lines. -/
def State.ask (s : State) (cls : Nat) (user : LineUser) (lines : List Nat) : State :=
  s.modLarder (fun l => { l with reqs := l.reqs ++ [⟨cls, user, lines, []⟩] })

/-- What is still on its way for a user is no longer wanted. -/
def State.unask (s : State) (user : LineUser) : State :=
  s.modLarder (fun l => { l with
    reqs := l.reqs.filter (fun r => r.user ≠ user), arrived := l.arrived.filter (fun d => d.user ≠ user) })

/-! ### Structure from the Inventory -/

/-- R61: the axis record of a planned axis. -/
def State.axisRec (s : State) (n : Nat) : Option AxisRec :=
  match s.inv with
  | none => none
  | some v => v.axes.find? (fun r => r.axis == n)

/-- R70: the schedule record of a planned axis. -/
def State.schedRec (s : State) (n : Nat) : Option SchedRec :=
  match s.inv with
  | none => none
  | some v => v.sched.find? (fun r => r.axis == n)

/-- R72: the protection record of a planned axis. -/
def State.protRec (s : State) (n : Nat) : Option ProtRec :=
  match s.inv with
  | none => none
  | some v => v.prot.recs.find? (fun r => r.axis == n)

/-- R73: the feedback definition of an axis. -/
def State.feedOf (s : State) (n : Nat) : Option FeedDef :=
  match s.inv with
  | none => none
  | some v => v.feeds.find? (fun r => r.axis == n)

/-- R73: the feedback definition that uses a channel. -/
def State.feedOfChan (s : State) (c : Nat) : Option FeedDef :=
  match s.inv with
  | none => none
  | some v => v.feeds.find? (fun r => r.channel == c)

/-- R67: the drive definition of an axis. -/
def State.loopOf (s : State) (n : Nat) : Option LoopDef :=
  match s.inv with
  | none => none
  | some v => v.loops.find? (fun r => r.axis == n)

/-- R61: the axis is planned. -/
def State.planned (s : State) (n : Nat) : Bool := (s.axisRec n).isSome

/-- R62: how many legs a motor type takes. -/
def motorLegs (motor : Nat) : Nat := if motor = 0 then 4 else if motor = 1 then 3 else 5

/-- Axis states of Table 8.1, as AXn.STATE.STATE codes them. -/
abbrev stDisabled : Nat := 0
abbrev stChecking : Nat := 1
abbrev stArmed : Nat := 2
abbrev stRunning : Nat := 3
abbrev stStopping : Nat := 4
abbrev stFaulted : Nat := 5
abbrev stLatched : Nat := 6

/-- R224: the state of an axis. -/
def State.axisSt (s : State) (n : AxisId) : Nat := s.fld (F.AX_STATE_STATE n)

/-- ARMED, RUNNING or STOPPING: the axis switches and its program runs (Table 8.1). -/
def State.axisOn (s : State) (n : AxisId) : Bool :=
  decide (s.axisSt n = stArmed) || decide (s.axisSt n = stRunning) || decide (s.axisSt n = stStopping)

/-- All axis numbers. -/
def axisIds : List AxisId := [0, 1, 2, 3, 4, 5, 6, 7]

/-- A list of operations one after the other. -/
def State.forEach {α : Type} (s : State) (l : List α) (f : α → State → State) : State := l.foldl (fun t a => f a t) s

end Sys2Proof.Machine
end

