-- ==== Sys2Proof/Machine/Flags.lean ====
section
/-! DEFINITION. Operation status (Table 2.6, R44) of every OP_STAT register, and the SAT flag's neighbours: the
status bits that several blocks compute in the same way. An OP_STAT register holds ERR_CODE in [31:20], LAST_OP in
[19:16] and STAT in [4:0]. -/

namespace Sys2Proof.Machine

open Sys2Proof

/-- Bits of Table 2.6. -/
abbrev statBusy : Nat := 1
abbrev statDone : Nat := 2
abbrev statAborted : Nat := 4
abbrev statAbortLate : Nat := 8
abbrev statErr : Nat := 16

/-- STAT of an OP_STAT register. -/
def State.opStat (s : State) (k : Nat) : Nat := s.fld ⟨k, 4, 0⟩

/-- R44: the operation runs. -/
def State.opBusy (s : State) (k : Nat) : Bool := bitOf (s.opStat k) 0

/-- LAST_OP of an OP_STAT register. -/
def State.lastOp (s : State) (k : Nat) : Nat := s.fld ⟨k, 19, 16⟩

/-- STAT takes a value. -/
def State.setStat (s : State) (k v : Nat) : State := s.setFld ⟨k, 4, 0⟩ v

/-- R44: a start clears DONE, ABORTED, ABORT_LATE and ERR, sets BUSY and names the operation. -/
def State.opStart (s : State) (k op : Nat) : State :=
  ((s.setStat k statBusy).setFld ⟨k, 19, 16⟩ op).setFld ⟨k, 31, 20⟩ 0

/-- R44: the operation completes. -/
def State.opDone (s : State) (k : Nat) : State := s.setStat k statDone

/-- R44: the operation ends on an error. -/
def State.opErr (s : State) (k code : Nat) : State := (s.setStat k statErr).setFld ⟨k, 31, 20⟩ code

/-- R44: the operation is aborted. -/
def State.opAborted (s : State) (k : Nat) : State := s.setStat k statAborted

/-- R44: an abort that finds no operation running: ABORT_LATE beside DONE, nothing otherwise. -/
def State.abortIdle (s : State) (k : Nat) : State :=
  if bitOf (s.opStat k) 1 then s.setFld ⟨k, 3, 3⟩ 1 else s

/-- An operation that starts and completes within the access. -/
def State.opWhole (s : State) (k op : Nat) : State := (s.opStart k op).opDone k

end Sys2Proof.Machine
end

