-- ==== Sys2Proof/Machine/Legs.lean ====
section
/-! DEFINITION. Legs and gate drive (chapter 4): which state each switch is asked for, when it turns, and what the die
does on its own after a short, a gate failure or a low supply. -/

namespace Sys2Proof.Machine

open Sys2Proof

/-- R95, R128: quadrant, index in the quadrant and die of a leg. -/
def legQ (l : LegId) : Quad := ⟨l.val / 8, by omega⟩
def legM (l : LegId) : Fin 8 := ⟨l.val % 8, by omega⟩
def legDie (l : LegId) : DieId := ⟨l.val / 16, by omega⟩

/-- R128: the die of a quadrant. -/
def quadDie (q : Quad) : DieId := ⟨q.val / 2, by omega⟩

/-- All legs. -/
def legIds : List LegId :=
  [0, 1, 2, 3, 4, 5, 6, 7, 8, 9, 10, 11, 12, 13, 14, 15, 16, 17, 18, 19, 20, 21, 22, 23, 24, 25, 26, 27, 28, 29, 30, 31]

/-- All quadrants. -/
def quadIds : List Quad := [0, 1, 2, 3]

/-- Table 4.6: codes of the leg states. -/
abbrev lgUnallocated : Nat := 0
abbrev lgIdle : Nat := 1
abbrev lgTesting : Nat := 2
abbrev lgActive : Nat := 3
abbrev lgHeld : Nat := 4
abbrev lgForcedOff : Nat := 5
abbrev lgLatched : Nat := 6
abbrev lgRetired : Nat := 7

/-- R118: LEG_STATE. -/
def State.legState (s : State) (l : LegId) : Nat := s.fld (F.LG_LEG_STAT_LEG_STATE (legQ l) (legM l))

def State.setLegState (s : State) (l : LegId) (v : Nat) : State :=
  s.setFld (F.LG_LEG_STAT_LEG_STATE (legQ l) (legM l)) v

/-- Table 3.27: INV.LEG_MAPj names the axis of a leg; 0xF for none. -/
def legMapFld (l : LegId) : Fld := ⟨R.INV_LEG_MAP (legQ l), 4 * (legM l).val + 3, 4 * (legM l).val⟩

/-- R62: the axis a leg belongs to. -/
def State.legAxis (s : State) (l : LegId) : Option AxisId :=
  let v := s.fld (legMapFld l)
  if h : v < 8 then some ⟨v, h⟩ else none

/-- R62: the legs of an axis, lowest first. -/
def State.axisLegs (s : State) (n : AxisId) : List LegId := legIds.filter (fun l => s.legAxis l == some n)

/-- The lowest leg of an axis. -/
def State.firstLeg (s : State) (n : AxisId) : Option LegId := (s.axisLegs n).head?

/-- One switch of a leg: the high side or the low side. -/
def Leg.sw (g : Leg) (hi : Bool) : Switch := if hi then g.hi else g.lo

def Leg.setSw (g : Leg) (hi : Bool) (w : Switch) : Leg := if hi then { g with hi := w } else { g with lo := w }

/-- One switch changes. -/
def State.modSw (s : State) (l : LegId) (hi : Bool) (f : Switch → Switch) : State :=
  s.modLeg l (fun g => g.setSw hi (f (g.sw hi)))

/-- R103: the switch is available. A SHORT that the die holds through a reset keeps its legs (R455). -/
def State.available (s : State) (l : LegId) (hi : Bool) : Bool :=
  let g := s.legs[l]
  let d := s.dies[legDie l]
  !(g.sw hi).heldShort && !(hi && g.cfLow) && !d.vgLow && !d.backstop &&
    ((s.legAxis l).isSome || g.policy = some true) &&
    !(s.legState l ∈ [lgForcedOff, lgLatched, lgRetired])

/-! ### Requests (R141, R142, R146) -/

/-- R146 rows 1 and up: what trips, halt and mask ask of a switch: off, on, or to follow its commanded state. -/
inductive Ask | off | on | follow
  deriving DecidableEq, Repr

/-- R151 to R153, R439: a halt class acts on the legs of a die. -/
def Die.haltActs (d : Die) : Bool := d.halted || d.onBackup || d.linkLost

/-- R142: the hall state that indexes the mask of a leg; a HOLD pattern repeats the selection of the last period, so that
hall edges do not move it (Table 5.5 row 4, R151). -/
def State.hallIndex (s : State) (l : LegId) : Nat :=
  let c : AxisId := ⟨s.fld (F.PW_OUTCFG_HALL_FB (legQ l) (legM l)) % 8, Nat.mod_lt _ (by decide)⟩
  let d := s.dies[legDie l]
  let h := (if d.haltActs && (s.legAxis l).isSome then d.heldHall else s.pins.hall).getD c.val 0
  if s.flag (F.PW_OUTCFG_REV (legQ l) (legM l)) then 7 - h else h

/-- R142: index of the mask entry that applies, none while the mask is inactive. -/
def State.maskIndex (s : State) (l : LegId) : Option Nat :=
  match s.fld (F.PW_OUTCFG_MASK_SRC (legQ l) (legM l)) with
  | 1 => some (s.hallIndex l)
  | 2 => some (s.fld (F.PW_OUTCFG_SEL (legQ l) (legM l)))
  | _ => none

/-- R141: the code of a switch in the mask entry. -/
def State.maskAsk (s : State) (l : LegId) (hi : Bool) : Ask :=
  match s.maskIndex l with
  | none => .follow
  | some h =>
    match s.fld ⟨R.PW_MASK (legQ l) (legM l), 4 * h + (if hi then 3 else 1), 4 * h + (if hi then 2 else 0)⟩ with
    | 0 => .follow
    | 2 => .on
    | _ => .off

/-- R147: trips latched in the leg's quadrant that map the leg. -/
def State.legTrips (s : State) (l : LegId) : List (Fin 8) :=
  ([0, 1, 2, 3, 4, 5, 6, 7] : List (Fin 8)).filter (fun n =>
    bitOf (s.fld (F.PW_TRIP_STAT_LATCH (legQ l))) n.val &&
      bitOf (s.fld (F.PW_TRIP_CFG_LEGS (legQ l) n)) (legM l).val)

/-- R151 to R153, R439: the halt class of the leg's axis acts and asks for off: DROP, or a HOLD that expired. -/
def State.haltOff (s : State) (l : LegId) : Bool :=
  match s.legAxis l with
  | none => false
  | some n =>
    (s.dies[legDie l]).haltActs && (!s.flag (F.PW_OUTCFG_HALT_CLASS (legQ l) (legM l)) || (s.carriers[n]).holdOff)

/-- R463: EXTEST, HIGHZ or CLAMP holds every gate off. -/
def Jtag.holdsOff (j : Jtag) : Bool := decide (j.instr = .extest) || decide (j.instr = .highz) || decide (j.instr = .clamp)

/-- Table 8.1: the axis of a leg is in CHECKING, with all its switches off. -/
def State.legChecking (s : State) (l : LegId) : Bool := (s.legAxis l).any (fun n => decide (s.axisSt n = stChecking))

/-- R146, Table 5.5: the requested state of a switch, rows 1 to 6. A test on a DISABLED axis leaves a low side that a
Trapdoor SHORT holds on as it is (R123, R130). -/
def State.requested (s : State) (l : LegId) (hi : Bool) : Bool :=
  let g := s.legs[l]
  if s.jtag.holdsOff || !s.available l hi || s.legChecking l then false
  else match g.policy with
    | some short => short && !hi && !(g.sw hi).keptOff
    | none =>
      if s.legState l = lgTesting then false else
      let trips := s.legTrips l
      if !trips.isEmpty then
        !hi && trips.all (fun n => s.flag (F.PW_TRIP_CFG_ACTION (legQ l) n))
      else if s.haltOff l then false
      else match s.maskAsk l hi with
        | .off => false
        | .on => true
        | .follow => if s.legAxis l |>.any (fun n => (s.carriers[n]).active.isSome) then g.cmdHigh == hi else false

/-! ### Gate edges -/

/-- R148: the blanking window that a gate edge of leg `l` at PCLK `t` opens for every trip that maps the leg. -/
def State.openBlank (s : State) (l : LegId) (t : Nat) : State :=
  s.modDie (legDie l) (fun d => { d with
    blankEnd := d.blankEnd.mapIdx (fun i e =>
      if h : i < 8 then
        if bitOf (s.fld (F.PW_TRIP_CFG_LEGS (legQ l) ⟨i, h⟩)) (legM l).val then
          max e (t + min 2000 (s.fld (F.PW_TRIP_CFG_BLANK (legQ l) ⟨i, h⟩)))
        else e
      else e) })

/-- R104: a turn-off edge, which nothing delays. -/
def State.turnOff (s : State) (l : LegId) (hi : Bool) (tap : Nat) : State :=
  (s.modSw l hi (fun w => { w with
    on := false, wait := none, offAt := tap, offSince := tap / 32, watched := true, stuck := false })).openBlank l (tap / 32)

/-- R104: a turn-on edge, with its delay-line fraction. -/
def State.turnOn (s : State) (l : LegId) (hi : Bool) (tap : Nat) : State :=
  (s.modSw l hi (fun w => { w with
    on := true, wait := none, onAt := tap, watched := true, stuck := false })).openBlank l (tap / 32)

/-- One switch follows its request: off at once, on by waiting (R104). -/
def State.follow (s : State) (l : LegId) (hi : Bool) (tap : Nat) : State :=
  let w := (s.legs[l]).sw hi
  if s.requested l hi then
    if w.on || w.wait.isSome then s else s.modSw l hi (fun w => { w with wait := some tap })
  else if w.on then s.turnOff l hi tap
  else s.modSw l hi (fun w => { w with wait := none })

/-- R107: the source number of a leg in its die (R127). -/
def legSource (l : LegId) : Nat := l.val % 16

/-- R107: a both-on request appears or ends. -/
def State.bothOnCheck (s : State) (l : LegId) : State :=
  let both := s.requested l true && s.requested l false
  let t := s.modLeg l (fun g => { g with bothOn := both })
  if both && !(s.legs[l]).bothOn then
    (t.raiseGD (legDie l) 0x211 (legSource l) ((s.legAxis l).map (·.val))).setFlag
      (F.LG_LEG_STAT_BOTH_ON (legQ l) (legM l)) true
  else t

/-- R146: the requested states of a leg, taken up at tap `tap`. -/
def State.settleAt (s : State) (l : LegId) (tap : Nat) : State :=
  ((s.follow l true tap).follow l false tap).bothOnCheck l

/-- The same on the PCLK edge of now. -/
def State.settle (s : State) (l : LegId) : State := s.settleAt l (s.clock * 32)

/-- Every leg of an axis takes up its requests. -/
def State.settleAxis (s : State) (n : AxisId) : State := s.forEach (s.axisLegs n) (fun l t => t.settle l)

/-- Every leg of a die takes up its requests. -/
def State.settleDie (s : State) (d : DieId) : State :=
  s.forEach (legIds.filter (fun l => legDie l == d)) (fun l t => t.settle l)

/-- Every leg takes up its requests. -/
def State.settleAll (s : State) : State := s.forEach legIds (fun l t => t.settle l)

/-- R105: the dead time in force, PCLK; on the backup oscillator it rounds up to whole cycles of 50 ns (R152). -/
def State.deadTime (s : State) (l : LegId) : Nat :=
  let d := min 1000 (max 10 (s.fld (F.LG_LEG_CFG_DEADTIME (legQ l) (legM l))))
  if (s.dies[legDie l]).onBackup then ceilDiv d 25 * 25 else d

/-- R108, Table 4.10: the gate timeout of a leg, PCLK. -/
def State.hsTimeout (s : State) (l : LegId) : Nat := 250 * 2 ^ s.fld (F.LG_LEG_CFG_HS_TIMEOUT (legQ l) (legM l))

/-- R111, Table 4.10: SOFT_HOLD, PCLK. -/
def State.softHold (s : State) (l : LegId) : Nat := (s.fld (F.LG_LEG_CFG_SOFT_HOLD (legQ l) (legM l)) + 1) * 50

/-- R104, R106, R109: a waiting switch turns on at the latest of its commanded edge, the dead time and the
handshake; `sensed` is the tap at which gate-sense recognised the other gate below 2.0 V. -/
def switchTurnOn (l : LegId) (hi : Bool) (sensed : Nat) (s : State) : State :=
  let g := s.legs[l]
  let other := g.sw (!hi)
  match (g.sw hi).wait with
  | none => s
  | some cmd =>
    if !s.requested l hi || other.on || (hi && s.requested l false && decide (other.wait = some cmd)) then s
    else
      let dead := other.offAt + 32 * s.deadTime l
      let plain := max cmd dead
      let edge := ceilDiv (sensed + 1) 32 * 32
      let byHandshake := decide (plain < edge)
      let t := s.atLeast ((if byHandshake then edge else plain) / 32)
      let t := (t.turnOn l hi (if byHandshake then edge else plain)).modSw l (!hi) (fun w => { w with stuck := false })
      if byHandshake && decide (dead < edge) then t.count (R.LG_HS_STRETCH (legQ l)) else t

/-- R104, R106, R109 (SWITCH_TURN_ON). -/
def execSwitchTurnOn (l : LegId) (hi : Bool) (sensed : Nat) (s : State) : Host.Outcome State Fault Refusal :=
  s.answer ((switchTurnOn l hi sensed s).settle l)

/-! ### Latching, shorts and retries -/

/-- Both switches of a leg off and the leg in a state that holds them so (R107, R108, R116, R121). -/
def State.legOff (s : State) (l : LegId) (st : Nat) : State :=
  let t := s.setLegState l st
  let t := if st = lgLatched then t.modLeg l (fun g => { g with
      hi := { g.hi with retryAt := none, heldShort := false }, lo := { g.lo with retryAt := none, heldShort := false } })
    else t
  t.settle l

/-- R108: a gate that fails to fall (`rising` false) or to rise within HS_TIMEOUT latches the leg; each gate edge has one
timeout, also that of a leg which is LATCHED or RETIRED already and keeps its state. -/
def gateTimeout (l : LegId) (hi rising : Bool) (s : State) : State :=
  let w := (s.legs[l]).sw hi
  let due := if rising then w.onAt / 32 + s.hsTimeout l
    else match w.soft with
      | .discharge t => t + 2000
      | _ => w.offAt / 32 + s.hsTimeout l
  let armed := (s.legAxis l).isSome && (if rising then w.on else !w.on) && w.watched &&
    (match w.soft with | .hold _ => false | _ => true)
  if !armed then s
  else
    let t := (s.atLeast due).modSw l hi (fun w => { w with watched := false, stuck := !rising })
    let t := t.raiseGD (legDie l) (if rising then 0x214 else 0x213) (legSource l) ((s.legAxis l).map (·.val))
    let t := t.setFlag (if hi then F.LG_LEG_STAT_GATE_H_FAIL (legQ l) (legM l) else F.LG_LEG_STAT_GATE_L_FAIL (legQ l) (legM l)) true
    if s.legState l ∈ [lgLatched, lgRetired] then t.settle l else t.legOff l lgLatched

/-- R108 (GATE_TIMEOUT). -/
def execGateTimeout (l : LegId) (hi rising : Bool) (s : State) : Host.Outcome State Fault Refusal :=
  s.answer (gateTimeout l hi rising s)

/-- R116: RETRY_WAIT in PCLK, RETRY_MAX and RETRY_WINDOW in PCLK of the leg's axis. -/
def State.retryRules (s : State) (l : LegId) : Nat × Nat × Nat :=
  match (s.legAxis l).bind (fun n => s.protRec n.val) with
  | none => (0, 0, 0)
  | some p => (p.retryWait * msec, p.retryMax, p.retryWindow * second)

/-- R116: retries of the leg within the last RETRY_WINDOW. -/
def State.retriesNow (s : State) (l : LegId) : Nat :=
  ((s.legs[l]).retries.filter (fun t => decide (s.clock < t + (s.retryRules l).2.2))).length

/-- R110: the sense-cell comparator of a switch is active: it is commanded on, or its gate stands above 2.0 V. -/
def State.senseActive (s : State) (l : LegId) (hi : Bool) (gate : GateLevel) : Bool :=
  ((s.legs[l]).sw hi).on || decide (gate ≠ .low)

/-- R111, R112: the soft sequence takes the turn-off of a switch that is still commanded on, or whose gate still stands
above SOFT_LEVEL. -/
def Switch.softStart (w : Switch) (gate : GateLevel) (now : Nat) : Soft :=
  if w.on || decide (gate = .high) then .hold now else w.soft

/-- R110 to R112, R116: a short confirmed on a switch whose gate stands at `gate`. On a leg that is LATCHED or RETIRED
already it is confirmed, counted and told as any other, but schedules no retry and raises no second 0x203 (log entry
409). -/
def shortConfirm (l : LegId) (hi : Bool) (gate : GateLevel) (s : State) : State :=
  if !s.senseActive l hi gate || (s.legAxis l).isNone then s
  else
    let ax := (s.legAxis l).map (·.val)
    let (wait, maxR, _) := s.retryRules l
    let gone := decide (s.legState l ∈ [lgLatched, lgRetired])
    let latch := decide (maxR ≤ s.retriesNow l)
    let t := s.setFlag (if hi then F.LG_LEG_STAT_SC_H (legQ l) (legM l) else F.LG_LEG_STAT_SC_L (legQ l) (legM l)) true
    let t := (t.count (R.LG_SC_COUNT (legQ l))).lifeAdd 3 1
    let t := t.raiseGD (legDie l) (if hi then 0x201 else 0x202) (legSource l) ax
    let t := t.modSw l hi (fun w => { w with
      heldShort := !gone, soft := w.softStart gate s.clock,
      retryAt := if latch || gone then none else some (s.clock + wait) })
    if gone then t.settle l
    else if latch then (t.raiseGD (legDie l) 0x203 (legSource l) ax).legOff l lgLatched
    else (if s.legState l = lgForcedOff then t else t.setLegState l lgHeld).settle l

/-- R110 to R116 (SHORT_CONFIRM). -/
def execShortConfirm (dt : Nat) (l : LegId) (hi : Bool) (gate : GateLevel) (s : State) : Host.Outcome State Fault Refusal :=
  s.answer (shortConfirm l hi gate (s.pass dt))

/-- R111: exactly SOFT_HOLD after the confirmation the gate starts its 0.5 A discharge. -/
def softHoldEnd (l : LegId) (hi : Bool) (s : State) : State :=
  match ((s.legs[l]).sw hi).soft with
  | .hold t0 =>
    (s.atLeast (t0 + s.softHold l)).modSw l hi (fun w => { w with soft := .discharge (t0 + s.softHold l) })
  | _ => s

/-- R111 (SOFT_HOLD_END). -/
def execSoftHoldEnd (l : LegId) (hi : Bool) (s : State) : Host.Outcome State Fault Refusal := s.answer (softHoldEnd l hi s)

/-- R118: the state of a leg that no test or latch holds. -/
def State.restState (s : State) (l : LegId) : Nat :=
  match s.legAxis l with
  | none => lgUnallocated
  | some n =>
    if (s.legs[l]).hi.heldShort || (s.legs[l]).lo.heldShort then lgHeld
    else if s.axisOn n then lgActive else lgIdle

/-- R116: RETRY_WAIT ends: the switch is available again and the retry is recorded. -/
def retryWaitEnd (l : LegId) (hi : Bool) (s : State) : State :=
  match ((s.legs[l]).sw hi).retryAt with
  | none => s
  | some t0 =>
    let t := s.atLeast t0
    let t := t.modSw l hi (fun w => { w with heldShort := false, retryAt := none, soft := .none })
    let t := t.modLeg l (fun g => { g with retries := t.clock :: g.retries })
    let t := t.count (R.LG_RETRY_COUNT (legQ l))
    let t := if ((t.legs[l]).sw (!hi)).heldShort || t.legState l != lgHeld then t else t.setLegState l (t.restState l)
    t.settle l

/-- R116 (RETRY_WAIT_END). -/
def execRetryWaitEnd (l : LegId) (hi : Bool) (s : State) : Host.Outcome State Fault Refusal :=
  s.answer (retryWaitEnd l hi s)

/-! ### Supplies -/

/-- R97: the selected VG of a die, 0.1 V. -/
def State.vgSel (s : State) (d : DieId) : Nat :=
  let q : Quad := if d.val = 0 then 0 else 2
  if s.flag (F.LG_SUPPLY_VG_SEL q) then 150 else 120

/-- The quadrants of a die. -/
def dieQuads (d : DieId) : List Quad := if d.val = 0 then [0, 1] else [2, 3]

/-- A field of LGq.SUPPLY reads the same in both quadrants of a die (Table 4.17). -/
def State.setSupply (s : State) (d : DieId) (f : Quad → Fld) (v : Nat) : State :=
  s.forEach (dieQuads d) (fun q t => t.setFld (f q) v)

/-- R99: VG falls below its selected value minus 2.5 V; `vg` is VG in 0.1 V. -/
def vgLow (d : DieId) (vg : Nat) (s : State) : State :=
  if !(s.dies[d]).vgUp || (s.dies[d]).vgLow || !decide (vg + 25 < s.vgSel d) then s
  else
    let t := (s.setSupply d F.LG_SUPPLY_VG_MEAS vg).setSupply d F.LG_SUPPLY_VG_LOW 1
    let t := t.raiseGD d 0x223 18 none
    (t.modDie d (fun x => { x with vgLow := true })).settleDie d

/-- R99 (VG_LOW). -/
def execVgLow (dt : Nat) (d : DieId) (vg : Nat) (s : State) : Host.Outcome State Fault Refusal :=
  s.answer (vgLow d vg (s.pass dt))

/-- R99: VG rises above its selected value minus 1.5 V. -/
def vgRecover (d : DieId) (vg : Nat) (s : State) : State :=
  if !(s.dies[d]).vgLow || !decide (s.vgSel d < vg + 15) then s
  else
    let t := (s.setSupply d F.LG_SUPPLY_VG_MEAS vg).setSupply d F.LG_SUPPLY_VG_LOW 0
    (t.modDie d (fun x => { x with vgLow := false })).settleDie d

/-- R99 (VG_RECOVER). -/
def execVgRecover (dt : Nat) (d : DieId) (vg : Nat) (s : State) : Host.Outcome State Fault Refusal :=
  s.answer (vgRecover d vg (s.pass dt))

/-- R100, Table 4.17: CF_READY of a leg and its mirror in LGq.SUPPLY. -/
def State.setCfReady (s : State) (l : LegId) (b : Bool) : State :=
  (s.setFlag (F.LG_LEG_STAT_CF_READY (legQ l) (legM l)) b).setRegBit (R.LG_SUPPLY (legQ l)) (legM l).val b

/-- R100: CFn - SHn falls below VG - 1.0 V and is no longer ready, or (`deep`) below VG - 2.5 V. -/
def floatingSupplyLow (l : LegId) (deep : Bool) (s : State) : State :=
  if (s.legAxis l).isNone || (s.legs[l]).cfLow then s
  else if !deep then s.setCfReady l false
  else
    let t := s.modLeg l (fun g => { g with cfLow := true })
    let t := t.raiseGD (legDie l) 0x221 (legSource l) ((s.legAxis l).map (·.val))
    let t := t.setFlag (F.LG_LEG_STAT_CF_LOW (legQ l) (legM l)) true
    (t.setCfReady l false).settle l

/-- R100 (FLOATING_SUPPLY_LOW). -/
def execFloatingSupplyLow (dt : Nat) (l : LegId) (deep : Bool) (s : State) : Host.Outcome State Fault Refusal :=
  s.answer (floatingSupplyLow l deep (s.pass dt))

/-- R98: every 1 ms the die takes its gate-drive power into the mean of the last 1 s. DESIGN CHOICE (log entry 408): while
fewer than 1000 samples exist, the mean is that of the samples so far. -/
def gatePowerUpdate (d : DieId) (mw vg : Nat) (s : State) : State :=
  if !s.live || !s.hasDie d.val then s
  else
    let x := s.dies[d]
    let t := s.atLeast (x.pgAt + msec)
    let pg := (mw :: x.pg).take 1000
    let sum := pg.foldl (· + ·) 0
    let high := decide (3000 * pg.length < sum)
    let t := t.setSupply d F.LG_SUPPLY_PG_MEAS (sum / pg.length / 10)
    let t := t.setSupply d F.LG_SUPPLY_VG_MEAS vg
    let t := t.modDie d (fun x => { x with pg := pg, pgHigh := high, pgAt := t.clock })
    if high && !x.pgHigh then t.raiseGD d 0x224 18 none else t

/-- R98 (GATE_POWER_UPDATE). -/
def execGatePowerUpdate (d : DieId) (mw vg : Nat) (s : State) : Host.Outcome State Fault Refusal :=
  s.answer (gatePowerUpdate d mw vg s)

/-! ### Configuration -/

/-- R129, R130: the leg is UNALLOCATED or its axis is DISABLED. -/
def State.legFree (s : State) (l : LegId) : Bool :=
  match s.legAxis l with
  | none => true
  | some n => decide (s.axisSt n = stDisabled)

/-- R32: what a masked write makes of a register: bits [17:0] where the mask bit is 1. -/
def maskedWord (old data : Word) : Word :=
  let m := data.toNat / 2 ^ 18
  let v := data.toNat % 2 ^ 18
  let o := old.toNat
  BitVec.ofNat 36 (o / 2 ^ 18 * 2 ^ 18 + ((v &&& m) ||| (o % 2 ^ 18 &&& (2 ^ 18 - 1 - m))))

/-- The written word of an ordinary or masked write (R30, R32). -/
def writtenWord (msk : Bool) (old data : Word) : Word := if msk then maskedWord old data else data

/-- R129: a write to LGq.LEG_CFGm takes effect only while the leg is UNALLOCATED or its axis is DISABLED. -/
def legCfgWrite (l : LegId) (msk : Bool) (data : Word) (s : State) : State :=
  if !s.reach (0x20 + (legQ l).val) then s
  else if s.legFree l then
    s.setReg (R.LG_LEG_CFG (legQ l) (legM l)) (writtenWord msk (s.reg (R.LG_LEG_CFG (legQ l) (legM l))) data)
  else s.setFlag (F.LG_OP_STAT_CMD_REFUSED (legQ l)) true

/-- R129 (LEG_CFG_WRITE). -/
def execLegCfgWrite (dt : Nat) (l : LegId) (msk : Bool) (data : Word) (s : State) : Host.Outcome State Fault Refusal :=
  s.answer (legCfgWrite l msk data (s.pass dt))

end Sys2Proof.Machine
end

