-- ==== Sys2Proof/Machine/Pwm.lean ====
section
/-! DEFINITION. PWM timing and edge generation (chapter 5): carriers and edge groups, delay lines, trips, halt classes
and the writes of PWq. -/

namespace Sys2Proof.Machine

open Sys2Proof

/-! ### Carriers and edges -/

/-- R131: PCLK of an engine frame. -/
abbrev framePclk : Nat := 6250

/-- R132: taps of the turn-on and the turn-off edge from the reload, for period `p` PCLK and duty `d` taps. -/
def pwmEdges (align : Bool) (p d : Nat) : Nat × Nat :=
  let full := 32 * p
  let d := min d full
  if align then (0, d) else ((full - d) / 2, (full - d) / 2 + d)

/-- R132: the duty in force of a leg, taps. -/
def State.dutyOf (s : State) (l : LegId) : Nat := s.fld (F.PW_DUTY_DUTY (legQ l) (legM l))

/-- R138: the delay-line cell of fine code `f` on a map of `n` cells, halves up. -/
def cellOf (n f : Nat) : Nat := (2 * f * n + 32) / 64

/-- R137, R140, R152: the tap at which an edge `e` taps after the reload falls: fine, on a PCLK edge while the region is
coarse, on the nearest backup cycle of 50 ns while the die runs on its backup oscillator. DESIGN CHOICE (log entry 505): an edge
half way between two backup cycles moves to the later one. -/
def placeEdge (coarse backup : Bool) (e : Nat) : Nat :=
  if backup then (e + 400) / 800 * 800
  else if coarse then (if e % 32 < 16 then e / 32 * 32 else e / 32 * 32 + 32)
  else e

/-- R230: the regime in force. -/
def State.regime (s : State) (n : AxisId) : Nat := s.fld (F.AX_STATE_REGIME n)

/-- Table 8.3: M - 1 of the carrier of a regime. -/
def State.regimeM (s : State) (n : AxisId) (r : Nat) : Nat :=
  if r = 0 then (s.schedRec n.val).elim 0 (·.mMinus1) else if r = 1 then 4 else 15

/-- R131, R231: the M of the next carrier period: that of the regime in force. -/
def State.wantedM (s : State) (n : AxisId) : Nat := s.regimeM n (s.regime n) + 1

/-- R231: every leg of the axis shows the carrier in force. -/
def State.showCarrier (s : State) (n : AxisId) (m : Nat) : State :=
  s.forEach (s.axisLegs n) (fun l t => t.setFld (F.PW_OUTCFG_M_MINUS1 (legQ l) (legM l)) (m - 1))

/-- R132 (COMMANDED_EDGE): the leg's turn-on edge (`rise`) or turn-off edge of the present period. -/
def commandedEdge (l : LegId) (rise : Bool) (s : State) : State :=
  let g := s.legs[l]
  match s.legAxis l with
  | none => s
  | some n =>
    let c := s.carriers[n]
    if c.active.isNone || c.next.isNone || !(if rise then g.riseDue else g.fallDue && !g.riseDue) then s
    else
      let es := pwmEdges (s.flag (F.PW_OUTCFG_ALIGN (legQ l) (legM l))) (framePclk * c.m) (s.dutyOf l)
      let e := if rise then es.1 else es.2
      let tap := c.start * 32 + placeEdge (s.flag (F.PW_CAL_STAT_COARSE (legQ l))) (s.dies[legDie l]).onBackup e
      let t := s.atLeast (tap / 32)
      let t := t.modLeg l (fun g => { g with
        cmdHigh := rise, riseDue := if rise then false else g.riseDue, fallDue := if rise then g.fallDue else false,
        cell := cellOf (s.regions[legQ l]).map (e % 32) })
      t.settleAt l tap

def execCommandedEdge (l : LegId) (rise : Bool) (s : State) : Host.Outcome State Fault Refusal :=
  s.answer (commandedEdge l rise s)

/-- R225, R255: the Trapdoor of an axis is released on LD and on its die, from which REACQUIRE counts. -/
def State.releaseTrap (s : State) (n : AxisId) : State :=
  let t := (s.setRegBit R.FLT_TRAP_STAT (8 + n.val) false).setRegBit R.FLT_TRAP_STAT (16 + n.val) false
  let t := t.modAxis n (fun a => { a with reacquire := a.reacquire.map (fun _ => some s.clock) })
  t.forEach (s.axisLegs n) (fun l t => t.modLeg l (fun g => { g with policy := none }))

/-- R134: the active registers of the legs of an axis take a group; the edges of the new period are planned. -/
def State.takeGroup (s : State) (n : AxisId) (g : Group) (m : Nat) : State :=
  s.forEach ((s.axisLegs n).zip g.duties) (fun (l, d) t =>
    let d := min d (32 * framePclk * m)
    let t := t.setFld (F.PW_DUTY_DUTY (legQ l) (legM l)) d
    let t := t.setFlag (F.PW_OUTCFG_REV (legQ l) (legM l)) g.rev
    t.setFld (F.PW_OUTCFG_SEL (legQ l) (legM l)) g.sel)

/-- R132: at a reload the commanded state of each leg of the axis is that of tap 0, and its edges are still to come. -/
def State.openPeriod (s : State) (n : AxisId) (m : Nat) : State :=
  s.forEach (s.axisLegs n) (fun l t =>
    let d := t.dutyOf l
    let es := pwmEdges (t.flag (F.PW_OUTCFG_ALIGN (legQ l) (legM l))) (framePclk * m) d
    t.modLeg l (fun g => { g with
      cmdHigh := decide (0 < d) && decide (es.1 = 0),
      riseDue := decide (0 < d) && decide (0 < es.1),
      fallDue := decide (0 < d) && decide (es.2 < 32 * framePclk * m) }))

/-- R107: what a reload counts of a both-on request, and the fifth one in a row. -/
def State.countBothOn (s : State) (l : LegId) : State :=
  if !(s.legs[l]).bothOn then s.modLeg l (fun g => { g with bothRun := 0 })
  else
    let run := (s.legs[l]).bothRun + 1
    let t := (s.count (R.LG_BOTHON_COUNT (legQ l))).modLeg l (fun g => { g with bothRun := run })
    if run = 5 then
      (t.raiseGD (legDie l) 0x212 (legSource l) ((s.legAxis l).map (·.val))).legOff l lgForcedOff
    else t

/-- The die of an axis's legs (R62: all on one). -/
def State.axisDie (s : State) (n : AxisId) : DieId :=
  match s.firstLeg n with
  | none => 0
  | some l => legDie l

/-- R151, R152, R439: the die of the axis runs without LD, so the active values repeat. -/
def State.withoutLD (s : State) (n : AxisId) : Bool :=
  (s.dies[s.axisDie n]).haltActs

/-- R134, R135: the group that a reload at `t0` applies: one whose arrival edge fell before the reload edge, while the die
has LD. -/
def State.groupFor (s : State) (n : AxisId) (t0 : Nat) : Option Group :=
  if s.withoutLD n then none
  else match (s.carriers[n]).shadow with
  | some g => if g.came < t0 then some g else none
  | none => none

/-- R131, R134, R107, R225 (CARRIER_RELOAD): a period boundary of the axis. DESIGN CHOICE (log entry 506): a group that waits
in the shadow registers when a halt begins waits through it, and the first reload after the halt applies it unless another has
replaced it. -/
def carrierReload (n : AxisId) (s : State) : State :=
  let c := s.carriers[n]
  match c.next with
  | none => s
  | some t0 =>
    let m := s.wantedM n
    let t := s.atLeast t0
    let take := s.groupFor n t0
    let t := t.modCarrier n (fun c => { c with
      next := some (t0 + framePclk * m), start := t0, m := m,
      shadow := if take.isSome then none else c.shadow,
      active := match take with | some g => some g | none => c.active,
      release := if take.isSome then false else c.release })
    let t := match take with
      | none => t
      | some g => let t := t.takeGroup n g m; if c.release then t.releaseTrap n else t
    let t := ((t.showCarrier n m).openPeriod n m).settleAxis n
    t.forEach (t.axisLegs n) (fun l t => t.countBothOn l)

def execCarrierReload (n : AxisId) (s : State) : Host.Outcome State Fault Refusal := s.answer (carrierReload n s)

/-- R131: the carrier of an axis starts at the first engine frame boundary after entry to ARMED. -/
def State.startCarrier (s : State) (n : AxisId) : State :=
  (s.showCarrier n (s.wantedM n)).modCarrier n (fun c => { c with
    next := some (s.nextBoundary framePclk s.clock), start := s.nextBoundary framePclk s.clock, m := s.wantedM n,
    shadow := none, active := none, release := true, holdOff := false })

/-- The carrier of an axis that no longer switches. -/
def State.stopCarrier (s : State) (n : AxisId) : State :=
  s.modCarrier n (fun c => { c with next := none, shadow := none, active := none, release := false, holdOff := false })

/-- R134: the engine commits a group, for the first reload after now. -/
def State.commitGroup (s : State) (n : AxisId) (duties : List Nat) (sel : Nat) (rev : Bool) : State :=
  match (s.carriers[n]).next with
  | none => s
  | some t0 =>
    s.modDie (s.axisDie n) (fun d => { d with down := d.down ++ [⟨n.val, duties, sel, rev, t0, s.clock, 0⟩] })

/-! ### The lanes of a gate link (R13, R14) -/

/-- R13: the opening instant of the link cycle that runs at `t`. -/
def State.cycleAt (s : State) (t : Nat) : Nat := t - (t - s.tsBase) % usec

/-- R13: what the link cycle that runs at `t` has carried so far. -/
def State.linkUse (s : State) (d : DieId) (t : Nat) : LinkUse :=
  let u := (s.dies[d]).use
  if u.cycle = s.cycleAt t then u else { LinkUse.reset with cycle := s.cycleAt t }

/-- R13: what waits for a lane crosses at `t` if the link cycle that runs there has room for it, else when the next one
opens; `add` is what it takes of the cycle. -/
def State.cross (s : State) (d : DieId) (t : Nat) (room : LinkUse → Bool) (add : LinkUse → LinkUse) : State :=
  let u := s.linkUse d t
  let at_ := if room u then t else u.cycle + usec
  (s.atLeast at_).modDie d (fun x => { x with use := add (s.linkUse d at_) })

/-- R14, R36: what was sent at `since` is there `dt` after now, and within `bound` PCLK of its sending unless the link cycle
meets code errors, whose words are sent again (a cause of late groups that R135's text names). -/
def State.lands (s : State) (d : DieId) (since bound dt : Nat) : Nat :=
  if (s.linkUse d s.clock).errs = 0 then max s.clock (min (s.clock + dt) (since + bound)) else s.clock + dt

/-- Table 1.2: the edge records of a cycle take at most 512 bits; with 32 bits a record those of 16 legs, which is all legs
of a die (DEDUCED, log entry 102). -/
abbrev cycleLegs : Nat := 16

/-- R134 to R136 (GROUP_ARRIVAL): the closing record of the axis's oldest group on the lane arrives. -/
def groupArrival (dt : Nat) (n : AxisId) (s : State) : State :=
  let d := s.axisDie n
  match (s.dies[d]).down.find? (fun g => g.axis == n.val) with
  | none => s.pass dt
  | some g =>
    if (s.dies[d]).linkLost || !s.live then s.pass dt else
    let s := s.cross d (s.lands d g.at_ 250 dt) (fun u => decide (u.legs + g.duties.length ≤ cycleLegs))
      (fun u => { u with legs := u.legs + g.duties.length })
    let t := s.modDie d (fun x => { x with down := x.down.erase g })
    let t := t.modCarrier n (fun c => { c with shadow := some { g with came := s.clock } })
    if g.target ≤ s.clock then
      match s.firstLeg n with
      | none => t
      | some l =>
        (t.count (R.PW_LATE_COUNT (legQ l))).raiseGD d 0x311 (16 + (legQ l).val % 2) (some n.val)
    else t

def execGroupArrival (dt : Nat) (n : AxisId) (s : State) : Host.Outcome State Fault Refusal :=
  s.answer (groupArrival dt n s)

/-! ### Delay lines (R138 to R140) -/

/-- R140: |difference| of the die temperatures that CAL_STAT.TEMP reports, 0.125 K. -/
def State.dieTempGap (s : State) : Nat :=
  if s.hasDie 1 then (s.sfld (F.PW_CAL_STAT_TEMP 0) - s.sfld (F.PW_CAL_STAT_TEMP 2)).natAbs else 0

/-- R140: this die is hotter than the other by more than `lim` (0.125 K). -/
def State.hotterBy (s : State) (q : Quad) (lim : Int) : Bool :=
  s.hasDie 1 &&
    (if q.val / 2 = 0 then decide (lim < s.sfld (F.PW_CAL_STAT_TEMP 0) - s.sfld (F.PW_CAL_STAT_TEMP 2))
     else decide (lim < s.sfld (F.PW_CAL_STAT_TEMP 2) - s.sfld (F.PW_CAL_STAT_TEMP 0)))

/-- R138, R140 (DELAY_CALIBRATION): every 100 us the region measures N on its reference line; `temp` is the die's own
sensor, 0.125 K. Its map waits for the next engine frame boundary, and its status word for the up lane (Table 1.2).
DESIGN CHOICE (log entry 508): the 16 valid calibrations in a row that R140 asks for count from wherever the row of valid ones
began, be it before a fall by die temperature or while the die was still too hot. -/
def delayCalibration (q : Quad) (cells : Nat) (temp : Int) (s : State) : State :=
  if !s.flag F.CLK_PLL_STAT_LOCK || !s.hasDie (quadDie q).val || (s.dies[quadDie q]).onBackup then s
  else
    let r := s.regions[q]
    let t := s.forEach (dieQuads (quadDie q)) (fun q t => t.setSFld (F.PW_CAL_STAT_TEMP q) temp)
    let t := t.setFld (F.PW_CAL_STAT_CELLS q) cells
    let t := t.modDie (quadDie q) (fun x => { x with calUp := x.calUp ++ [(q.val, t.reg (R.PW_CAL_STAT q))] })
    let valid := decide (32 ≤ cells) && decide (cells ≤ 64)
    let good := if valid then r.goodRun + 1 else 0
    let hot := t.hotterBy q (if r.hot then 35 * 8 else 40 * 8)
    let coarse := t.flag (F.PW_CAL_STAT_COARSE q)
    let first := decide (t.fld (F.PW_CAL_STAT_CAUSE q) = 3)
    let want : Option (Bool × Nat) :=
      if !valid then some (true, 1)
      else if hot then some (true, 2)
      else if coarse then (if first || decide (16 ≤ good) then some (false, 0) else none)
      else none
    t.modRegion q (fun r => { r with
      goodRun := good, hot := hot, mapNext := if valid then some cells else r.mapNext, calAt := s.clock,
      next := match want with | some w => some w | none => if valid then (match r.next with | some (true, _) => none | x => x) else r.next })

def execDelayCalibration (q : Quad) (cells : Nat) (temp : Int) (s : State) : Host.Outcome State Fault Refusal :=
  s.answer (delayCalibration q cells temp (s.atLeast (s.nextBoundary 50000 (s.regions[q]).calAt)))

/-- R138, R140: at an engine frame boundary the waiting map and the waiting edge mode of a region takes effect; a change from fine to coarse
raises 0x341 and counts. -/
def State.applyRegion (s : State) (q : Quad) : State :=
  let s := s.modRegion q (fun r => { r with map := r.mapNext.getD r.map, mapNext := none })
  match (s.regions[q]).next with
  | none => s
  | some (coarse, cause) =>
    let was := s.flag (F.PW_CAL_STAT_COARSE q)
    let t := (s.setFlag (F.PW_CAL_STAT_COARSE q) coarse).setFld (F.PW_CAL_STAT_CAUSE q) cause
    let t := t.modRegion q (fun r => { r with next := none })
    if coarse && !was then
      let t := t.modRegion q (fun r => { r with coarseSince := t.clock, told := false })
      (t.count (R.PW_CAL_FAIL q)).raiseGD (quadDie q) 0x341 (16 + q.val % 2) none
    else if !coarse && was then t.modRegion q (fun r => { r with fineSince := t.clock })
    else t

/-- R140 (COARSE_TIMEOUT): a region coarse for 10 minutes without interruption. -/
def coarseTimeout (q : Quad) (s : State) : State :=
  let r := s.regions[q]
  if !s.live || !s.hasDie (quadDie q).val || !s.flag (F.PW_CAL_STAT_COARSE q) || r.told then s
  else
    let t := s.atLeast (r.coarseSince + 600 * second)
    (t.modRegion q (fun r => { r with told := true })).raiseGD (quadDie q) 0x342 (16 + q.val % 2) none

def execCoarseTimeout (q : Quad) (s : State) : Host.Outcome State Fault Refusal := s.answer (coarseTimeout q s)

/-! ### Trips (R147 to R150) -/

/-- Table 3.8: the pin that carries a function and index. -/
def State.pinOf (s : State) (func index : Nat) : Option Nat :=
  match s.inv with
  | none => none
  | some v => v.pins.findIdx? (fun p => p.func == func && p.index == index)

/-- Table 3.6: the pin's INVERT bit. -/
def State.pinInvert (s : State) (i : Nat) : Bool := s.inv.any (fun v => (v.pins[i]?).any (·.invert))

/-- The level, after filter and INVERT, of the pin that carries a function and index; low when no pin does. -/
def State.pinLevel (s : State) (func index : Nat) : Bool :=
  match s.pinOf func index with
  | none => false
  | some i => bitOf s.pins.xio i != s.pinInvert i

/-- A pin level changes after its filter, before INVERT. -/
def State.setPin (s : State) (func index : Nat) (b : Bool) : State :=
  match s.pinOf func index with
  | none => s
  | some i => s.modPins (fun x => { x with xio := bitsPut s.pins.xio i i (bit b) })

/-- R147: TRIPn is active: its pin is high, or a comparator drives it. -/
def State.tripActive (s : State) (n : Fin 8) : Bool :=
  s.pinLevel 3 n.val || !((s.pins.tripCmp[n.val]?).getD []).isEmpty

/-- R147, R148: the quadrant latches TRIPn: it is active, not blanked on the die, maps a leg and is not latched yet. -/
def State.tripLatches (s : State) (q : Quad) (n : Fin 8) : Bool :=
  s.hasDie (quadDie q).val && s.tripActive n && decide (((s.dies[quadDie q]).blankEnd[n.val]?).getD 0 ≤ s.clock) &&
    decide (s.fld (F.PW_TRIP_CFG_LEGS q n) ≠ 0) && !bitOf (s.fld (F.PW_TRIP_STAT_LATCH q)) n.val

/-- R147: the quadrant latches TRIPn: its fault, and the mapped legs take the trip's ACTION. -/
def State.latchTrip (s : State) (q : Quad) (n : Fin 8) : State :=
  let t := s.setRegBit (R.PW_TRIP_STAT q) n.val true
  let t := t.raiseGD (quadDie q) (if q.val % 2 = 0 then 0x321 else 0x322) (24 + n.val) none
  t.forEach (legIds.filter (fun l => legQ l == q && bitOf (s.fld (F.PW_TRIP_CFG_LEGS q n)) (legM l).val))
    (fun l t => t.settle l)

/-- R147, R148: on one PCLK edge each of the quadrants latches or not, before any gate edge that a latch causes. -/
def State.latchTrips (s : State) (qs : List Quad) (n : Fin 8) : State :=
  s.forEach (qs.filter (fun q => s.tripLatches q n)) (fun q t => t.latchTrip q n)

/-- R143, Table 5.13: LIVE shows TRIPn in every quadrant, and each quadrant may latch it. -/
def State.tripChanged (s : State) (n : Fin 8) : State :=
  let t := s.forEach quadIds (fun q t => if s.hasDie (quadDie q).val then t.setRegBit (R.PW_TRIP_STAT q) (8 + n.val) (s.tripActive n) else t)
  t.latchTrips quadIds n

/-- R147 (TRIP_LATCH): the filtered level of the pin of TRIPn becomes `level`. -/
def tripLatch (n : Fin 8) (level : Bool) (s : State) : State := (s.setPin 3 n.val level).tripChanged n

def execTripLatch (dt : Nat) (n : Fin 8) (level : Bool) (s : State) : Host.Outcome State Fault Refusal :=
  s.answer (tripLatch n level (s.pass dt))

/-- R148 (BLANK_END): the blanking window of TRIPn on a die ends; an active level that persists latches. -/
def blankEnd (d : DieId) (n : Fin 8) (s : State) : State :=
  let t := s.atLeast (((s.dies[d]).blankEnd[n.val]?).getD 0)
  t.latchTrips (dieQuads d) n

def execBlankEnd (d : DieId) (n : Fin 8) (s : State) : Host.Outcome State Fault Refusal := s.answer (blankEnd d n s)

/-- R150: one latch is cleared if its input is inactive. -/
def State.clearTripOne (s : State) (q : Quad) (n : Fin 8) : State :=
  if !bitOf (s.fld (F.PW_TRIP_STAT_LATCH q)) n.val then s
  else if s.tripActive n then s.setFlag (F.PW_TRIP_STAT_TRIP_STILL q) true
  else
    (s.setRegBit (R.PW_TRIP_STAT q) n.val false).forEach (legIds.filter (fun l => legQ l == q)) (fun l t => t.settle l)

/-- R157: the registers of the quadrant's SAVE record. -/
def pwSaveKeys (q : Quad) : List Nat :=
  (([0, 1, 2, 3, 4, 5, 6, 7] : List (Fin 8)).map (fun n => R.PW_TRIP_CFG q n)) ++ [R.PW_HALT_CFG q]

/-- Table 5.14: a write of PWq.CMD. -/
def pwCommand (q : Quad) (op : Nat) (arg : Nat) (ok : Bool) (s : State) : State :=
  if !s.reach (0x24 + q.val) then s
  else match op with
    | 1 => s.forEach (([0, 1, 2, 3, 4, 5, 6, 7] : List (Fin 8)).filter (fun n => bitOf arg n.val)) (fun n t => t.clearTripOne q n)
    | 2 => s.saveOr ok (0x24 + q.val) (pwSaveKeys q)
    | _ => s.setFlag (F.PW_STATUS_CMD_REFUSED q) true

/-- R150 (CLEAR_TRIP). -/
def execClearTrip (dt : Nat) (q : Quad) (trips : BitVec 8) (s : State) : Host.Outcome State Fault Refusal :=
  s.answer (pwCommand q 1 trips.toNat true (s.pass dt))

/-- R157 (PW_SAVE). -/
def execPwSave (dt : Nat) (q : Quad) (ok : Bool) (s : State) : Host.Outcome State Fault Refusal :=
  s.answer (pwCommand q 2 0 ok (s.pass dt))

/-- R156: fields M_MINUS1, ALIGN, MASK_SRC and HALL_FB that a write of OUTCFGm copies to the legs of the same axis. -/
def copyOutcfg (src dst : Word) : Word :=
  BitVec.ofNat 36 (bitsPut dst.toNat 17 8 (bitsOf src.toNat 17 8))

/-- R156 (OUTCFG_WRITE): a write to PWq.OUTCFGm. -/
def outcfgWrite (l : LegId) (msk : Bool) (data : Word) (s : State) : State :=
  let k := R.PW_OUTCFG (legQ l) (legM l)
  if !s.reach (0x24 + (legQ l).val) then s
  else if !s.legFree l then s.setFlag (F.PW_STATUS_CMD_REFUSED (legQ l)) true
  else
    let w := copyOutcfg (writtenWord msk (s.reg k) data) (s.reg k)
    let t := s.setReg k w
    match s.legAxis l with
    | none => t
    | some n => t.forEach (s.axisLegs n) (fun l' t =>
        let k' := R.PW_OUTCFG (legQ l') (legM l')
        t.setReg k' (copyOutcfg w (t.reg k')))

def execOutcfgWrite (dt : Nat) (l : LegId) (msk : Bool) (data : Word) (s : State) : Host.Outcome State Fault Refusal :=
  s.answer (outcfgWrite l msk data (s.pass dt))

/-- R156: a write to PWq.MASKm. -/
def pwMaskWrite (l : LegId) (w : Word) (s : State) : State :=
  if s.legFree l then s.setFld ⟨R.PW_MASK (legQ l) (legM l), 31, 0⟩ w.toNat
  else s.setFlag (F.PW_STATUS_CMD_REFUSED (legQ l)) true

/-- R156: a write to PWq.TRIP_CFGn; an input that is active already latches for the legs it now acts on (R147). -/
def tripCfgWrite (q : Quad) (n : Fin 8) (w : Word) (s : State) : State :=
  if bitOf (s.fld (F.PW_TRIP_STAT_LATCH q)) n.val then s.setFlag (F.PW_STATUS_CMD_REFUSED q) true
  else (s.setFld ⟨R.PW_TRIP_CFG q n, 19, 0⟩ w.toNat).latchTrips [q] n

/-! ### Halt classes (R151 to R153) -/

/-- Axes whose legs lie on a die. -/
def State.dieAxes (s : State) (d : DieId) : List AxisId :=
  axisIds.filter (fun n => s.planned n.val && s.axisDie n == d)

/-- R61: the axis has halt class HOLD. -/
def State.holdClass (s : State) (n : AxisId) : Bool :=
  match s.axisRec n.val with
  | none => false
  | some r => r.haltHold

/-- Table 5.16: a HOLD pattern repeats on the die: an axis of class HOLD is on and its limit has not expired. -/
def State.dieHolding (s : State) (d : DieId) : Bool :=
  (s.dies[d]).haltActs &&
    (s.dieAxes d).any (fun n => s.holdClass n && s.axisOn n && !(s.carriers[n]).holdOff)

/-- Table 5.16: HOLDING reads the same in both quadrants of a die. -/
def State.showHolding (s : State) (d : DieId) : State :=
  s.forEach (dieQuads d) (fun q t => t.setFlag (F.PW_STATUS_HOLDING q) (s.dieHolding d))

/-- R151, R152, R439: the legs of a die act by halt class from now on. -/
def State.actByHalt (s : State) (d : DieId) : State :=
  let t := s.modDie d (fun x => { x with
    holdSince := match x.holdSince with | some h => some h | none => some s.clock,
    heldHall := if x.holdSince.isSome then x.heldHall else s.pins.hall })
  let t := t.forEach (dieQuads d) (fun q t =>
    let drop := (s.dieAxes d).any (fun n => !s.holdClass n && s.axisOn n && (s.axisLegs n).any (fun l => legQ l == q))
    if drop then t.setFlag (F.PW_STATUS_DROPPED q) true else t)
  (t.showHolding d).settleDie d

/-- R151, R152, R439: the halt classes no longer act on a die once nothing halts it any more. -/
def State.endHalt (s : State) (d : DieId) : State :=
  if (s.dies[d]).haltActs then s else
  let t := s.modDie d (fun x => { x with holdSince := none })
  let t := t.forEach (dieQuads d) (fun q t => t.setFlag (F.PW_STATUS_HOLDING q) false)
  (t.forEach (s.dieAxes d) (fun n t => t.modCarrier n (fun c => { c with holdOff := false }))).settleDie d

/-- R152: the backup bit of a die in CLK.PLL_STAT and in PWq.STATUS. -/
def State.setBackup (s : State) (d : DieId) (b : Bool) : State :=
  let t := s.modDie d (fun x => { x with onBackup := b })
  let t := t.setFlag (if d.val = 0 then F.CLK_PLL_STAT_BACKUP_GD0 else F.CLK_PLL_STAT_BACKUP_GD1) b
  t.forEach (dieQuads d) (fun q t => t.setFlag (F.PW_STATUS_ON_BACKUP q) b)

/-- R152 (PCLK_LOSS): a GD die sees no PCLK edge for 20 ns. DESIGN CHOICE (log entry 507): the fault concerns the whole die,
and its source names the even quadrant, 16. -/
def pclkLoss (d : DieId) (s : State) : State :=
  if !s.hasDie d.val || (s.dies[d]).onBackup || decide (s.power = .off) then s
  else
    let t := s.setBackup d true
    let t := t.raiseGD d 0x351 16 none
    t.actByHalt d

def execPclkLoss (dt : Nat) (d : DieId) (s : State) : Host.Outcome State Fault Refusal := s.answer (pclkLoss d (s.pass dt))

/-- R153, Table 5.16: HOLD_LIMIT of the quadrant of the axis's lowest leg, PCLK. -/
def State.holdLimit (s : State) (n : AxisId) : Nat :=
  match s.firstLeg n with
  | none => 0
  | some l => 2 ^ min 13 (s.fld (F.PW_HALT_CFG_HOLD_LIMIT (legQ l))) * msec

/-- R153 (HOLD_LIMIT_EXPIRY): the HOLD pattern of an axis reaches HOLD_LIMIT. -/
def holdLimitExpiry (n : AxisId) (s : State) : State :=
  match (s.dies[s.axisDie n]).holdSince, s.firstLeg n with
  | some t0, some l =>
    if !s.holdClass n || !s.axisOn n || (s.carriers[n]).holdOff || !(s.dies[s.axisDie n]).haltActs then s
    else
      let t := s.atLeast (t0 + s.holdLimit n)
      let t := t.modCarrier n (fun c => { c with holdOff := true })
      let t := t.setFlag (F.PW_STATUS_HOLD_EXPIRED (legQ l)) true
      let t := t.showHolding (s.axisDie n)
      (t.raiseGD (s.axisDie n) 0x353 (16 + (legQ l).val % 2) (some n.val)).settleAxis n
  | _, _ => s

def execHoldLimitExpiry (n : AxisId) (s : State) : Host.Outcome State Fault Refusal := s.answer (holdLimitExpiry n s)

end Sys2Proof.Machine
end

