-- ==== Sys2Proof/Machine/Sensing.lean ====
section
/-! DEFINITION. Conversion and calibration (chapter 6): when a core converts, what value reaches the loop engine, and
the calibration sets. -/

namespace Sys2Proof.Machine

open Sys2Proof

/-- R158: the die of a core and its number on the die. -/
def coreDie (c : CoreId) : DieId := ⟨c.val / 4, by omega⟩
def coreLocal (c : CoreId) : Fin 4 := ⟨c.val % 4, by omega⟩

/-- Index of a core and input in `meas`. -/
def measIx (core input : Nat) : Fin 64 := ⟨(core * 8 + input) % 64, Nat.mod_lt _ (by decide)⟩

/-- R161: a conversion lasts 200 PCLK. -/
abbrev convPclk : Nat := 200

/-- All cores. -/
def coreIds : List CoreId := [0, 1, 2, 3, 4, 5, 6, 7]

/-- R182: a fault that LD finds in the values of a GD die; the record names the die. -/
def State.raiseFor (s : State) (d : DieId) (code source : Nat) (axis : Option Nat) : State :=
  s.modFm (fun x => { x with inbox := s.fm.inbox ++ [⟨code, source, d.val + 1, axis, s.clock, false⟩] })

/-! ### When a core converts (R161 to R165) -/

/-- R70: ADC_DELAY and SLOT_START of an axis. -/
def State.adcDelay (s : State) (n : Nat) : Nat := (s.schedRec n).elim 0 (·.adcDelay)
def State.slotStart (s : State) (n : Nat) : Nat := (s.schedRec n).elim 0 (·.slotStart)

/-- R163: the place of a conversion among those that wait: by trigger, then SLOT_START, then input. -/
def ConvReq.before (a b : ConvReq) : Bool :=
  decide (a.trig < b.trig) || (decide (a.trig = b.trig) &&
    (decide (a.slot < b.slot) || (decide (a.slot = b.slot) && decide (a.input ≤ b.input))))

/-- R163: a conversion takes its place in a sorted queue. -/
def placeConv (r : ConvReq) : List ConvReq → List ConvReq
  | [] => [r]
  | q :: t => if r.before q then r :: q :: t else q :: placeConv r t

/-- R162, R163: one conversion joins the queue of a core; an input that two axes read at one trigger is converted once, at the
earlier SLOT_START of the two. -/
def insertConv (r : ConvReq) (l : List ConvReq) : List ConvReq :=
  let same (q : ConvReq) : Bool := q.input == r.input && q.trig == r.trig
  placeConv { r with slot := (l.filter same).foldl (fun a q => min a q.slot) r.slot } (l.filter (fun q => !same q))

/-- R163: an idle core starts its next waiting conversion, at the later of its trigger and now. -/
def State.startNext (s : State) (c : CoreId) : State :=
  let k := s.cores[c]
  match k.busy, k.queue with
  | none, r :: t => s.modCore c (fun k => { k with busy := some (r, max s.clock r.trig), queue := t })
  | _, _ => s

/-- R162: the axes whose trigger is that of axis `n`: the same phase. -/
def State.sameTrigger (s : State) (n : AxisId) : List AxisId :=
  axisIds.filter (fun m => s.planned m.val && decide (s.adcDelay m.val % framePclk = s.adcDelay n.val % framePclk))

/-- R162: the first instant of the trigger of axis `n` after its last one, not before now. -/
def State.trigInstant (s : State) (n : AxisId) : Nat :=
  let r := s.adcDelay n.val % framePclk
  let lo := max s.clock ((s.seqs[n]).trigAt + 1)
  s.tsBase + ceilDiv (lo - s.tsBase + framePclk - r) framePclk * framePclk + r - framePclk

/-- R162, R163: the trigger of axis `n` (and of every axis of the same phase) fires; its conversions queue. -/
def State.fireTrigger (s : State) (n : AxisId) : State :=
  let t0 := s.trigInstant n
  let t := s.atLeast t0
  let t := t.forEach (s.sameTrigger n) (fun m t =>
    (t.forEach (t.seqs[m]).reads (fun (c, i) t =>
      if h : c < 8 then
        t.modCore ⟨c, h⟩ (fun k => { k with queue := insertConv ⟨i, false, false, t0, t.slotStart m.val⟩ k.queue })
      else t)).modSeq m (fun q => { q with trigAt := t0 }))
  t.forEach coreIds (fun c t => t.startNext c)

/-- R168: codes that are over-range. -/
def overRange (raw : BitVec 18) : Bool := raw == 0x1ffff#18 || raw == 0x20000#18

/-- R171: a conversion of the running calibration is added up. -/
def CalRun.take (x : CalRun) (c : Nat) (r : ConvReq) (at0 : Nat) (raw : Int) : CalRun :=
  if r.cal && decide (x.core = c) && decide (x.since ≤ at0) then { x with left := x.left - 1, sum := x.sum + raw } else x

/-- R161, Table 6.14: the conversion of a core ends; RESULT shows it, the record waits for the link, and the next
conversion starts. -/
def conversionEnd (c : CoreId) (raw : BitVec 18) (s : State) : State :=
  match (s.cores[c]).busy with
  | none => s
  | some (r, at0) =>
    let t := s.atLeast (at0 + convPclk)
    let d := coreDie c
    let k := R.AD_RESULT d ⟨(coreLocal c).val * 8 + r.input % 8, by omega⟩
    let t := t.setReg k (BitVec.ofNat 36
      (((t.stamp at0).toNat % 2 ^ 16) * 2 ^ 20 + 2 ^ 19 + bit (overRange raw) * 2 ^ 18 + raw.toNat))
    let t := t.modDie d (fun x => { x with
      adcUp := x.adcUp ++ [⟨c.val, r.input, r.hk, if r.hk then at0 else r.trig, at0, at0 + convPclk, raw.toInt⟩] })
    let t := t.modCalRun d (fun x => x.map (fun x => x.take c.val r at0 raw.toInt))
    (t.modCore c (fun k => { k with busy := none })).startNext c

/-- R161 (CONVERSION_END). -/
def execConversionEnd (c : CoreId) (raw : BitVec 18) (s : State) : Host.Outcome State Fault Refusal :=
  s.answer (conversionEnd c raw s)

/-- R164: the next trigger that uses core `c` after now. -/
def State.nextTrigger (s : State) (c : CoreId) : Option Nat :=
  ((axisIds.filter (fun n => (s.seqs[n]).reads.any (fun p => p.1 == c.val))).map
    (fun n => s.trigInstant n)).min?

/-- R171, R172: the input of which a running calibration still needs conversions of this core. -/
def State.calInput (s : State) (c : CoreId) : Option Nat :=
  match s.calRuns[coreDie c] with
  | some x => if x.core = c.val ∧ 0 < x.left then some x.input else none
  | none => none

/-- R164, R171: a due housekeeping conversion, else one of the running calibration, starts if the core is idle and it ends at
or before the next trigger. -/
def housekeeping (c : CoreId) (s : State) : State :=
  let k := s.cores[c]
  let fits := match s.nextTrigger c with
    | none => true
    | some t => decide (s.clock + convPclk ≤ t)
  if !s.live || k.busy.isSome || !k.queue.isEmpty || !fits then s
  else
    match k.due, s.calInput c with
    | i :: rest, _ => s.modCore c (fun k => { k with busy := some (⟨i, true, false, s.clock, 0⟩, s.clock), due := rest })
    | [], some i => s.modCore c (fun k => { k with busy := some (⟨i, true, true, s.clock, 0⟩, s.clock) })
    | [], none => s

/-- R164 (HOUSEKEEPING_CONVERSION). -/
def execHousekeepingConversion (dt : Nat) (c : CoreId) (s : State) : Host.Outcome State Fault Refusal :=
  s.answer (housekeeping c (s.pass dt))

/-- R164: the inputs that housekeeping selects, lowest first. -/
def hkList (mask : Nat) : List Nat := [4, 5, 6, 7].filter (fun i => bitOf mask (i - 4))

/-- PCLK of a motion frame (R19). -/
abbrev motionPclk : Nat := 50000

/-- R164: the housekeeping period of a core ends: conversions not made are dropped and counted, the next period begins. -/
def hkPeriodEnd (c : CoreId) (s : State) : State :=
  let k := s.cores[c]
  if !s.live || !s.hasDie (coreDie c).val || k.hkPeriod = 0 then s
  else
    let t := s.atLeast (s.nextBoundary motionPclk (k.hkAt + k.hkPeriod * motionPclk - 1))
    let own := (coreLocal c).val = 0
    let left := k.due.filter (fun i => !(own && i == 7))
    let t := t.countN (R.AD_HK_MISS (coreDie c)) 16 left.length
    t.modCore c (fun k => { k with
      due := if own then (hkList k.hkInputs).filter (· ≠ 7) ++ k.due.filter (· == 7) else hkList k.hkInputs,
      hkAt := t.clock })

/-- R164 (HK_PERIOD_END). -/
def execHkPeriodEnd (c : CoreId) (s : State) : Host.Outcome State Fault Refusal := s.answer (hkPeriodEnd c s)

/-- R164, R183: CORE_CFG of a core takes effect: HK_PERIOD 0 ends the running period with what is still due dropped and
counted, and a period begins where housekeeping comes on (DESIGN CHOICE, log entry 606). -/
def State.takeCoreCfg (s : State) (c : CoreId) : State :=
  let d := coreDie c
  let k := s.cores[c]
  let own := (coreLocal c).val = 0
  let inputs := s.fld (F.AD_CORE_CFG_HK_INPUTS d (coreLocal c))
  let period := s.fld (F.AD_CORE_CFG_HK_PERIOD d (coreLocal c))
  let die := k.due.filter (fun i => own && i == 7)
  let rest := k.due.filter (fun i => !(own && i == 7))
  let t := s.modCore c (fun k => { k with hkInputs := inputs, hkPeriod := period })
  if period = 0 then (t.countN (R.AD_HK_MISS d) 16 rest.length).modCore c (fun k => { k with due := die })
  else if k.hkPeriod = 0 then
    t.modCore c (fun k => { k with due := (hkList inputs).filter (fun i => !(own && i == 7)) ++ die, hkAt := s.clock })
  else t

/-- R165, R183: what a motion frame boundary does to the cores: CORE_CFG takes effect, and the first core of a die has
its die sensor due, a conversion left over being dropped. -/
def State.coresAtMotionFrame (s : State) : State :=
  s.forEach coreIds (fun c t =>
    let d := coreDie c
    let t := t.takeCoreCfg c
    if (coreLocal c).val = 0 && t.hasDie d.val then
      let t := if 7 ∈ (t.cores[c]).due then t.count (R.AD_HK_MISS d) else t
      t.modCore c (fun k => { k with due := k.due.filter (· ≠ 7) ++ [7] })
    else t)

/-! ### From raw code to value (R166 to R170) -/

/-- R80: the CALDEF record of an input. -/
def State.calDef (s : State) (core input : Nat) : Option CalDef :=
  match s.inv with
  | none => none
  | some v => v.cals.find? (fun r => r.core == core && r.input == input)

/-- Key of a calibration set in the Strongbox. -/
def calKey (core input set : Nat) : Nat := core * 16 + input * 2 + set

/-- R174: the stored set of an input, while CALDEF holds the same core, input and FULL_SCALE: CAL_OFS and CAL_GAIN. -/
def State.calSet (s : State) (core input set : Nat) : Option (Word × Word) :=
  match s.calDef core input with
  | none => none
  | some r =>
    (s.box.cals.find? (fun e => e.1 == calKey core input set && e.2.2.2 == r.fullScale)).map (fun e => (e.2.1, e.2.2.1))

/-- A valid set: offset and gain both valid: OFFSET, GAIN, T (0.125 K). -/
def State.validSet (s : State) (core input set : Nat) : Option (Int × Int × Int) :=
  match s.calSet core input set with
  | none => none
  | some (o, g) =>
    if bitOf o.toNat 18 && bitOf g.toNat 18 then
      some (signed 18 o.toNat, (bitsOf g.toNat 17 0 : Nat), signed 12 (bitsOf g.toNat 35 24))
    else none

/-- R171, R172, R167: the die temperature, 0.125 K, as CLK.TEMP_GDd holds it. -/
def State.dieTemp (s : State) (d : DieId) : Int :=
  signed 16 (s.fld (if d.val = 0 then F.CLK_TEMP_GD0_VALUE else F.CLK_TEMP_GD1_VALUE))

/-- R167: a straight line through two points, rounded as in R166. -/
def lineAt (t0 t1 v0 v1 t : Int) : Int :=
  let dt := t1 - t0
  if dt = 0 then v0
  else if 0 < dt then roundDiv (v0 * dt + (v1 - v0) * (t - t0)) dt.toNat
  else roundDiv (-(v0 * dt + (v1 - v0) * (t - t0))) (-dt).toNat

/-- R166, R167: OFFSET and GAIN of an input now. -/
def State.calNow (s : State) (core input : Nat) : Int × Int :=
  match s.calDef core input with
  | none => (0, 65536)
  | some r =>
    match s.validSet core input 0, s.validSet core input 1 with
    | none, none => (0, r.nominalGain)
    | some (o, g, _), none => (o, g)
    | none, some (o, g, _) => (o, g)
    | some (o0, g0, t0), some (o1, g1, t1) =>
      let t := s.dieTemp ⟨core / 4 % 2, Nat.mod_lt _ (by decide)⟩
      (lineAt t0 t1 o0 o1 t, lineAt t0 t1 g0 g1 t)

/-- R166: y of a raw code. -/
def calibrate (ofs gain raw : Int) : Int := clampInt (-131072) 131071 (roundDiv ((raw - ofs) * gain) 65536)

/-- R158, R165: input 7 of a core reads its THk pin. -/
def State.thermistor (s : State) (c : CoreId) : Bool := s.flag (F.AD_CORE_CFG_IN7 (coreDie c) (coreLocal c))

/-- The temperature that a value of input 7 stands for, 0.125 K: 64 codes a step from the die sensor (R159, R165), by
FULL_SCALE from a thermistor with a CALDEF record. -/
def State.tempOf (s : State) (c : CoreId) (y : Int) : Int :=
  if s.thermistor c then
    match s.calDef c.val 7 with
    | some r => roundDiv (y * r.fullScale) 131072
    | none => roundDiv y 64
  else roundDiv y 64

/-- R170: a temperature in range: -70 to +170 °C. -/
def tempInRange (t : Int) : Bool := decide (-560 ≤ t) && decide (t ≤ 1360)

/-- R168: axes that switch and read an input. -/
def State.readers (s : State) (core input : Nat) : List AxisId :=
  axisIds.filter (fun n => s.axisOn n && (s.seqs[n]).reads.contains (core, input))

/-- R168: over-range of a result. -/
def State.overRangeCheck (s : State) (c : CoreId) (input : Nat) (isOver : Bool) : State :=
  let d := coreDie c
  let m := s.meas[measIx c.val input]
  let rd := s.readers c.val input
  let t := if isOver then (s.count (R.AD_OVR_COUNT d)).setFlag (F.AD_STATUS_OVR d) true else s
  let t := if isOver && !m.ovr && !rd.isEmpty then
      t.raiseFor d 0x411 (20 + (coreLocal c).val) (rd.head?.map (·.val)) else t
  t.modMeas (measIx c.val input) (fun m => { m with ovr := isOver && (m.ovr || !rd.isEmpty) })

/-- R165, R170: what a value of input 7 does: TEMP_GDd of the first core, and the loss of a temperature input at the
eighth conversion out of range. -/
def State.tempResult (s : State) (c : CoreId) (y : Int) : State :=
  let d := coreDie c
  let temp := s.tempOf c y
  let k := s.cores[c]
  if tempInRange temp then
    let t := s.modCore c (fun k => { k with
      tempBad := 0, tempLost := false, tempGoodSince := if k.tempLost || k.tempBad ≠ 0 then s.clock else k.tempGoodSince })
    if (coreLocal c).val = 0 then t.setFld (if d.val = 0 then F.CLK_TEMP_GD0_VALUE else F.CLK_TEMP_GD1_VALUE) (unsigned 16 temp)
    else t
  else
    let t := s.modCore c (fun k => { k with tempBad := k.tempBad + 1, tempLost := k.tempLost || decide (8 ≤ k.tempBad + 1) })
    if !k.tempLost && decide (8 ≤ k.tempBad + 1) then
      (t.setFlag (F.AD_STATUS_TEMP_LOST d) true).raiseFor d 0x441 (20 + (coreLocal c).val) none
    else t

/-- R162: samples kept of an input: all that a core can make (200 PCLK each) from the trigger in the frame before a program's own
to the end of its own frame. -/
abbrev keptSamples : Nat := 64

/-- R166 to R170: a raw result arrives on LD. -/
def State.takeResult (s : State) (v : Conv) : State :=
  if h : v.core < 8 then
    let c : CoreId := ⟨v.core, h⟩
    let (o, g) := s.calNow v.core v.input
    let y := calibrate o g v.raw
    let isOver := overRange (BitVec.ofInt 18 v.raw)
    let t := s.modMeas (measIx v.core v.input) (fun m => { m with
      hist := (⟨v.trig, v.sampled, y, isOver⟩ :: m.hist).take keptSamples })
    let t := t.overRangeCheck c v.input isOver
    if v.input = 7 then t.tempResult c y else t
  else s

/-- The last value of a core and input; 0 before the first. -/
def State.lastY (s : State) (core input : Nat) : Int := ((s.meas[measIx core input]).hist.head?).elim 0 (·.y)

/-! ### System calibration (R171 to R174) -/

/-- ADd.CMD fields: SET, CORE, INPUT. -/
def calSel (d : DieId) (arg : Nat) : Nat × Nat × Nat := (d.val * 4 + bitsOf arg 4 3, bitsOf arg 2 0, bitsOf arg 5 5)

/-- R173: the input is a shunt of a leg whose axis is not DISABLED. -/
def State.inputInUse (s : State) (core input : Nat) : Bool :=
  if h : input < 4 ∧ core < 8 then !s.legFree ⟨4 * core + input, by omega⟩ else false

/-- R173: a calibration set is stored anew. -/
def State.storeCal (s : State) (core input set : Nat) (o g : Word) (fs : Nat) : State :=
  s.modBox (fun x => { x with
      cals := (calKey core input set, o, g, fs) :: s.box.cals.filter (fun e => e.1 ≠ calKey core input set) })

/-- R171, R173: CAL_OFS or CAL_GAIN with VALID clear. -/
def notValid (w : Word) : Word := BitVec.ofNat 36 (bitsPut w.toNat 18 18 0)

/-- R173: the set as the Strongbox holds it, for whatever FULL_SCALE: CAL_OFS, CAL_GAIN, FULL_SCALE. -/
def State.keptCal (s : State) (core input set : Nat) : Option (Word × Word × Nat) :=
  (s.box.cals.find? (fun e => e.1 == calKey core input set)).map (·.2)

/-- R173: CAL_CLEAR clears both VALID bits of the selected set. -/
def State.calClear (s : State) (core input set : Nat) : State :=
  match s.keptCal core input set with
  | some (o, g, fs) => s.storeCal core input set (notValid o) (notValid g) fs
  | none => s

/-- R171 to R173: a write of ADd.CMD. -/
def adCommand (d : DieId) (op arg : Nat) (s : State) : State :=
  let k := R.AD_OP_STAT d
  if !s.reach (0x28 + d.val) then s
  else if op = 0xF then
    if s.opBusy k then (s.opAborted k).modCalRun d (fun _ => none) else s.abortIdle k
  else
    let (core, input, set) := calSel d arg
    if !(op ∈ [1, 2, 3]) || s.opBusy k || (s.calDef core input).isNone || s.inputInUse core input then
      s.setFlag (F.AD_STATUS_CMD_REFUSED d) true
    else if op = 3 then (s.calClear core input set).opWhole k op
    else (s.opStart k op).modCalRun d (fun _ => some ⟨op, core, input, set, s.clock, 1024, 0⟩)

/-- R171 (CAL_ZERO). -/
def execCalZero (dt : Nat) (d : DieId) (sel : BitVec 6) (s : State) : Host.Outcome State Fault Refusal :=
  s.answer (adCommand d 1 sel.toNat (s.pass dt))

/-- R172 (CAL_FULL). -/
def execCalFull (dt : Nat) (d : DieId) (sel : BitVec 6) (s : State) : Host.Outcome State Fault Refusal :=
  s.answer (adCommand d 2 sel.toNat (s.pass dt))

/-- R173 (CAL_CLEAR). -/
def execCalClear (dt : Nat) (d : DieId) (sel : BitVec 6) (s : State) : Host.Outcome State Fault Refusal :=
  s.answer (adCommand d 3 sel.toNat (s.pass dt))

/-- R173, R44 (ADC_ABORT). -/
def execAdcAbort (dt : Nat) (d : DieId) (s : State) : Host.Outcome State Fault Refusal :=
  s.answer (adCommand d 0xF 0 (s.pass dt))

/-- CAL_OFS or CAL_GAIN of a set with a value, a temperature and VALID (Table 6.11). -/
def calWord (temp value : Int) (valid : Bool) : Word :=
  BitVec.ofNat 36 (unsigned 12 temp * 2 ^ 24 + bit valid * 2 ^ 18 + unsigned 18 value)

/-- R172: the GAIN that CAL_FULL computes from the sum of 1024 codes, or none where the result is refused. -/
def State.fullGain (s : State) (r : CalRun) (cd : CalDef) (sum : Int) : Option Int :=
  match s.calSet r.core r.input r.set with
  | none => none
  | some (o, _) =>
    let t := s.dieTemp ⟨r.core / 4 % 2, Nat.mod_lt _ (by decide)⟩
    let den := sum - 1024 * signed 18 o.toNat
    if !bitOf o.toNat 18 || decide (16 < (t - signed 12 (bitsOf o.toNat 35 24)).natAbs) || decide (den ≤ 0) then none
    else
      let g := roundDiv ((cd.calPoint : Int) * 65536 * 1024) den.toNat
      let far := decide (g < 1) || decide (262143 < g) ||
        decide (4 * g < 3 * (cd.nominalGain : Int)) || decide (5 * (cd.nominalGain : Int) < 4 * g)
      let sets := r.set = 1 && (match s.validSet r.core r.input 0 with
        | none => true
        | some (_, _, t0) => decide ((t - t0).natAbs < 160))
      if far || sets then none else some g

/-- R171 to R173: the calibration of a die ends, its 1024 conversions made. -/
def State.calEnd (s : State) (d : DieId) (r : CalRun) : State :=
    let k := R.AD_OP_STAT d
    let t := s.modCalRun d (fun _ => none)
    match s.calDef r.core r.input with
    | none => t.opErr k 0x401
    | some cd =>
      let temp := s.dieTemp d
      if r.op = 1 then
        let g := ((s.calSet r.core r.input r.set).map (·.2)).getD 0
        (t.storeCal r.core r.input r.set (calWord temp (clampInt (-131072) 131071 (roundDiv r.sum 1024)) true)
          (notValid g) cd.fullScale).opDone k
      else
        match s.fullGain r cd r.sum, s.calSet r.core r.input r.set with
        | some g, some (o, _) => (t.storeCal r.core r.input r.set o (calWord temp g true) cd.fullScale).opDone k
        | _, _ => (t.opErr k 0x401).raiseFor d 0x401 (20 + r.core % 4) none

/-- CAL_COMPLETE (R171 to R173). -/
def calComplete (d : DieId) (s : State) : State :=
  match s.calRuns[d] with
  | some r => if r.left = 0 then s.calEnd d r else s
  | none => s

def execCalComplete (dt : Nat) (d : DieId) (s : State) : Host.Outcome State Fault Refusal :=
  s.answer (calComplete d (s.pass dt))

/-- R174: the core of a current input of the axis with a CALDEF record and no valid set. -/
def State.uncalibrated (s : State) (n : AxisId) : Option Nat :=
  ((s.seqs[n]).reads.find? (fun (c, i) =>
    decide (i < 4) && (s.calDef c i).isSome && (s.validSet c i 0).isNone && (s.validSet c i 1).isNone)).map (·.1)

/-- Table 6.10: UNCAL of a die. -/
def State.uncalBits (s : State) (d : DieId) : Nat :=
  packBits (([0, 1, 2, 3] : List Nat).map (fun c => ([0, 1, 2, 3] : List Nat).any (fun i =>
    (s.calDef (4 * d.val + c) i).isSome && (s.validSet (4 * d.val + c) i 0).isNone && (s.validSet (4 * d.val + c) i 1).isNone)))

end Sys2Proof.Machine
end

