-- ==== Sys2Proof/Machine/Comparators.lean ====
section
/-! DEFINITION. Comparators (chapter 6): modes, qualification, actions and audits. The system comparators' functions
stand in Protection. -/

namespace Sys2Proof.Machine

open Sys2Proof

/-- All comparators. -/
def cmpIds : List (Fin 64) := List.ofFn (fun i : Fin 64 => i)

/-- All trip inputs. -/
def tripIds : List (Fin 8) := List.ofFn (fun i : Fin 8 => i)

/-- R175: CMP56 to CMP63 are system comparators. -/
def isSystem (j : Fin 64) : Bool := decide (56 ≤ j.val)

/-- R185: the axis that owns a comparator; OWNED with an AXIS that is not planned acts as unowned. -/
def State.cmpOwner (s : State) (j : Fin 64) : Option AxisId :=
  if s.flag (F.CMP_CFG_OWNED j) then
    let n : AxisId := ⟨s.fld (F.CMP_CFG_AXIS j) % 8, Nat.mod_lt _ (by decide)⟩
    if s.planned n.val then some n else none
  else none

/-- R177: the mode that MODE asks for. -/
def State.cmpWanted (s : State) (j : Fin 64) : CmpMode :=
  if isSystem j then .continuous
  else match s.fld (F.CMP_CFG_MODE j) with
    | 0 => match s.cmpOwner j with
      | none => .continuous
      | some n => if s.fld (F.AX_STATE_REGIME n) = 0 then .continuous else .sampled
    | 1 => .continuous
    | 2 => .sampled
    | _ => .off

/-- OUT_LO and OUT_HI: a comparator is active. -/
def State.cmpOut (s : State) (j : Fin 64) : Bool :=
  if j.val < 32 then s.regBit R.CMP_OUT_LO j.val else s.regBit R.CMP_OUT_HI (j.val - 32)

def State.setCmpOut (s : State) (j : Fin 64) (b : Bool) : State :=
  if j.val < 32 then s.setRegBit R.CMP_OUT_LO j.val b else s.setRegBit R.CMP_OUT_HI (j.val - 32) b

def State.setCmpEvt (s : State) (j : Fin 64) : State :=
  if j.val < 32 then s.setRegBit R.CMP_EVT_LO j.val true else s.setRegBit R.CMP_EVT_HI (j.val - 32) true

def State.cmpFailed (s : State) (j : Fin 64) : Bool :=
  if j.val < 32 then s.regBit R.CMP_FAILED_LO j.val else s.regBit R.CMP_FAILED_HI (j.val - 32)

def State.setCmpFailed (s : State) (j : Fin 64) (b : Bool) : State :=
  if j.val < 32 then s.setRegBit R.CMP_FAILED_LO j.val b else s.setRegBit R.CMP_FAILED_HI (j.val - 32) b

/-- R179: the comparator is under audit; its output holds. -/
def State.underAudit (s : State) (j : Fin 64) : Bool := s.audit.todo.head?.any (fun e => e.1 == j.val)

/-- R178: the trip line a comparator drives changes. -/
def State.driveTrip (s : State) (j : Fin 64) (drive : Bool) : State :=
  let n : Fin 8 := ⟨s.fld (F.CMP_CFG_TRIP_N j) % 8, Nat.mod_lt _ (by decide)⟩
  let t := s.modPins (fun x => { x with tripCmp := s.pins.tripCmp.modify n.val (fun l =>
    if drive then j.val :: l.filter (· ≠ j.val) else l.filter (· ≠ j.val)) })
  t.tripChanged n

/-- R178: the trip inputs that active comparators drive under their settings. -/
def State.drivenTrips (s : State) : List (List Nat) :=
  (List.range 8).map (fun n => ((cmpIds.filter (fun j => !isSystem j && s.cmpOut j &&
    decide (s.fld (F.CMP_CFG_ACTION j) = 2) && decide (s.fld (F.CMP_CFG_TRIP_N j) = n))).map (·.val)))

/-- Table 6.15: HYST in codes. -/
def State.cmpHyst (s : State) (j : Fin 64) : Nat :=
  let h := s.fld (F.CMP_CFG_HYST j)
  if h = 0 then 0 else 2 ^ h

/-- R175, R176: the raw output of a comparator for its input, in codes of the threshold DAC: above or below the threshold by
POL; while it is active the hysteresis moves the threshold away. -/
def State.cmpRaw (s : State) (j : Fin 64) (level : Nat) : Bool :=
  let h := if s.cmpOut j then s.cmpHyst j else 0
  if s.flag (F.CMP_CFG_POL j) then decide (level < s.fld (F.CMP_CFG_THRESH j) + h)
  else decide (s.fld (F.CMP_CFG_THRESH j) < level + h)

/-- R176: the comparator holds its output while a changed threshold settles. -/
def State.cmpSettles (s : State) (j : Fin 64) : Bool := decide (s.clock < (s.cmps[j]).settle)

/-- R176: thresholds that differ from those of `old` take effect 1 us from now (DESIGN CHOICE, log entry 604). -/
def State.settleCmps (s old : State) : State :=
  s.forEach cmpIds (fun j t =>
    if s.fld (F.CMP_CFG_THRESH j) = old.fld (F.CMP_CFG_THRESH j) then t
    else t.modCmp j (fun c => { c with settle := s.clock + usec }))

/-- R178: a comparator that qualifies active: OUT, EVT, EVT_COUNT and its ACTION. -/
def State.cmpRise (s : State) (j : Fin 64) : State :=
  let t := ((s.setCmpOut j true).setCmpEvt j).count R.CMP_EVT_COUNT
  if isSystem j then t
  else match t.fld (F.CMP_CFG_ACTION j) with
    | 1 => t.raiseLD 0x421 j.val ((t.cmpOwner j).map (·.val))
    | 2 => t.driveTrip j true
    | _ => t

/-- R178: a comparator that qualifies inactive releases. -/
def State.cmpFall (s : State) (j : Fin 64) : State :=
  let t := s.setCmpOut j false
  if !isSystem j && t.fld (F.CMP_CFG_ACTION j) = 2 then t.driveTrip j false else t

/-- R177, R178: one SAMPLED comparator decides at a tick on its raw output; QUAL + 1 ticks in a row change it. -/
def State.sampleCmp (s : State) (j : Fin 64) (raw : Bool) : State :=
  if s.underAudit j || s.cmpSettles j then s
  else if raw == s.cmpOut j then s.modCmp j (fun c => { c with run := 0 })
  else
    let run := (s.cmps[j]).run + 1
    if s.fld (F.CMP_CFG_QUAL j) < run then
      (if raw then s.cmpRise j else s.cmpFall j).modCmp j (fun c => { c with run := 0 })
    else s.modCmp j (fun c => { c with run := run })

/-- R177, R179: a mode change takes effect; a comparator that is OFF is no longer active, but for an audit that holds its
output. -/
def State.applyCmpMode (s : State) (j : Fin 64) : State :=
  let m := s.cmpWanted j
  let t := if (s.cmps[j]).mode = m then s else s.modCmp j (fun c => { c with mode := m, run := 0 })
  if m = .off && t.cmpOut j && !t.underAudit j then t.cmpFall j else t

/-- R177: the window of a SAMPLED comparator, 200 ns. -/
abbrev windowPclk : Nat := 100

/-- R177 (COMPARATOR_TICK): at a comparator tick mode changes take effect; at the end of the window that it opens every SAMPLED
comparator decides on its input (`levels`, by comparator, in codes of the threshold DAC). -/
def comparatorTick (levels : List Nat) (s : State) : State :=
  if !s.live then s
  else
    let t := s.atLeast (s.nextBoundary usec s.clock)
    let t := t.forEach cmpIds (fun j t => t.applyCmpMode j)
    let l := cmpIds.filter (fun j => (t.cmps[j]).mode = .sampled)
    let t := if l.isEmpty then t else t.atLeast (t.clock + windowPclk)
    t.forEach l (fun j t => t.sampleCmp j (t.cmpRaw j (levels.getD j.val 0)))

def execComparatorTick (levels : List Nat) (s : State) : Host.Outcome State Fault Refusal := s.answer (comparatorTick levels s)

/-! ### Audits (R179 to R181) -/

/-- Table 6.5: the expected outputs of the six steps, step 1 in bit 0: high, low, low, high, low, low. -/
abbrev auditExpected : BitVec 6 := 0b001001#6

/-- R179: an audit lasts 3 us. -/
abbrev auditPclk : Nat := 1500

/-- Every axis is DISABLED. -/
def State.allDisabled (s : State) : Bool := axisIds.all (fun n => s.axisSt n = stDisabled)

/-- R180: an AUDIT command may name the comparator. -/
def State.auditAllowed (s : State) (j : Fin 64) : Bool :=
  if isSystem j then s.allDisabled
  else !(s.fld (F.CMP_CFG_ACTION j) = 2 &&
    (match s.cmpOwner j with | none => false | some n => s.axisSt n ≠ stDisabled))

/-- R180: automatic audits may take the comparator. -/
def State.autoAuditable (s : State) (j : Fin 64) : Bool :=
  !isSystem j && s.auditAllowed j && (decide (s.cmpWanted j = .off) || (s.cmpOwner j).isNone ||
    !(s.fld (F.CMP_CFG_ACTION j) = 2) || (match s.cmpOwner j with | none => true | some n => s.axisSt n = stDisabled))

/-- R179: audits join those that wait. -/
def State.queueAudits (s : State) (js : List Nat) (by_ : AuditBy) : State :=
  s.modAudit (fun x => { x with
      todo := x.todo ++ js.map (fun j => (j, by_)), startAt := if x.todo.isEmpty then s.clock else x.startAt,
      firstFault := if by_ = .command then 0 else x.firstFault })

/-- R180: the start-up audits are not over; no axis arms before them. -/
def State.startUpAudits (s : State) : Bool := s.audit.todo.any (fun e => e.2 == .startUp)

/-- R180: audits of CMP.CMD that are still to make. -/
def State.cmdAudits (s : State) : Bool := s.audit.todo.any (fun e => e.2 == .command)

/-- R180: an audit whose turn comes is made if R180 allows it then. -/
def State.nextAudits (s : State) : List (Nat × AuditBy) → List (Nat × AuditBy)
  | [] => []
  | e :: t => if s.auditAllowed ⟨e.1 % 64, Nat.mod_lt _ (by decide)⟩ then e :: t else s.nextAudits t

/-- R179: the audits that `l` names are left to make, the first of them from now on; AUDIT ends with the last of its own. -/
def State.goOnAudits (s : State) (l : List (Nat × AuditBy)) : State :=
  let was := s.cmdAudits
  let t := s.modAudit (fun x => { x with todo := s.nextAudits l, startAt := s.clock })
  if was && !t.cmdAudits then
    ((t.opDone R.CMP_OP_STAT).setFld ⟨R.CMP_OP_STAT, 31, 20⟩ t.audit.firstFault).modAudit (fun x => { x with firstFault := 0 })
  else t

/-- R185: the registers of the SAVE record. -/
def cmpSaveKeys : List Nat := (List.range 56).map (fun j => 0xb * 512 + j) ++ [R.CMP_AUDIT_CFG]

/-- R180, R185, Table 6.16: a write of CMP.CMD. -/
def cmpCommand (op : Nat) (all : Bool) (num : Fin 64) (ok : Bool) (s : State) : State :=
  let k := R.CMP_OP_STAT
  let refuse := s.setFlag F.CMP_OP_STAT_CMD_REFUSED true
  if !s.reach 0xb then s
  else match op with
    | 1 =>
      if s.opBusy k || (!all && !s.auditAllowed num) then refuse
      else
        let l := if all then (cmpIds.filter (fun j => s.auditAllowed j)).map (·.val) else [num.val]
        if l.isEmpty then s.opWhole k 1 else (s.opStart k 1).queueAudits l .command
    | 2 => if s.opBusy k then refuse else (s.opWhole k 2).saveOr ok 0xb cmpSaveKeys
    | 0xF =>
      if s.opBusy k then
        (s.opAborted k).modAudit (fun x => { x with
          todo := x.todo.filter (fun e => e.2 ≠ .command),
          startAt := if x.todo.head?.any (fun e => e.2 == .command) then s.clock else x.startAt })
      else s.abortIdle k
    | _ => refuse

/-- R179 (AUDIT). -/
def execAudit (dt : Nat) (all : Bool) (num : Fin 64) (s : State) : Host.Outcome State Fault Refusal :=
  s.answer (cmpCommand 1 all num true (s.pass dt))

/-- R185 (CMP_SAVE). -/
def execCmpSave (dt : Nat) (ok : Bool) (s : State) : Host.Outcome State Fault Refusal :=
  s.answer (cmpCommand 2 false 0 ok (s.pass dt))

/-- R185, R44 (CMP_ABORT). -/
def execCmpAbort (dt : Nat) (s : State) : Host.Outcome State Fault Refusal :=
  s.answer (cmpCommand 0xF false 0 true (s.pass dt))

/-- R180, Table 6.18: PERIOD in PCLK. -/
def State.auditPeriod (s : State) : Nat := min 3600 (max 1 (s.fld F.CMP_AUDIT_CFG_PERIOD)) * second

/-- R180 (AUTO_AUDIT): PERIOD after its last audit an eligible general comparator is audited. -/
def autoAudit (j : Fin 64) (s : State) : State :=
  if !s.reach 0xb || !s.flag F.CMP_AUDIT_CFG_AUTO || !s.autoAuditable j || s.audit.todo.any (fun e => e.1 == j.val) then s
  else (s.atLeast ((s.cmps[j]).auditAt + s.auditPeriod)).queueAudits [j.val] .auto

def execAutoAudit (j : Fin 64) (s : State) : Host.Outcome State Fault Refusal := s.answer (autoAudit j s)

/-- R179 to R181 (AUDIT_END): the running audit ends 3 us after its start; `outs` holds the outputs of its six steps. -/
def auditEnd (outs : BitVec 6) (s : State) : State :=
  match s.audit.todo with
  | [] => s
  | (i, by_) :: rest =>
    let j : Fin 64 := ⟨i % 64, Nat.mod_lt _ (by decide)⟩
    let pass := decide (outs = auditExpected)
    let t := s.atLeast (s.audit.startAt + auditPclk)
    let t := (t.setCmpFailed j (!pass)).modCmp j (fun c => { c with auditAt := t.clock })
    let t := if pass then t else t.raiseLD 0x431 j.val ((t.cmpOwner j).map (·.val))
    let t := t.modAudit (fun x => { x with firstFault := if !pass && by_ = .command && x.firstFault = 0 then 0x431 else x.firstFault })
    t.goOnAudits rest

def execAuditEnd (outs : BitVec 6) (s : State) : Host.Outcome State Fault Refusal := s.answer (auditEnd outs s)

/-- R185, R178 (CMP_CFG_WRITE): a write to CMP.CFGj; an active comparator drives the trip line that its settings now name. -/
def cmpCfgWrite (j : Fin 64) (msk : Bool) (data : Word) (s : State) : State :=
  if !s.reach 0xb || isSystem j then s
  else
    let free := match s.cmpOwner j with | none => true | some n => s.axisSt n = stDisabled
    if !msk && !free then s.setFlag F.CMP_OP_STAT_CMD_REFUSED true
    else
      let k := R.CMP_CFG j
      let w := (writtenWord msk (s.reg k) data).toNat
      let t := (s.setReg k (BitVec.ofNat 36 (bitsPut w 20 15 0))).settleCmps s
      let t := t.modPins (fun p => { p with tripCmp := t.drivenTrips })
      t.forEach (tripIds.filter (fun n => s.pins.tripCmp[n.val]? ≠ t.pins.tripCmp[n.val]?)) (fun n t => t.tripChanged n)

def execCmpCfgWrite (dt : Nat) (j : Fin 64) (msk : Bool) (data : Word) (s : State) : Host.Outcome State Fault Refusal :=
  s.answer (cmpCfgWrite j msk data (s.pass dt))

end Sys2Proof.Machine
end

