-- ==== Sys2Proof/Machine/Axis.lean ====
section
/-! DEFINITION. The axis as the other families use it (chapters 8 and 15): geometry and scales, the settings in force,
the Trapdoor, entries into the states of Table 8.1, stops, starts and drive transfers. -/

namespace Sys2Proof.Machine

open Sys2Proof

/-! ### Geometry and scales (R234, R235) -/

/-- R61: motor type of an axis: 0 BIP2, 1 TRI3, 2 PEN5. -/
def State.motor (s : State) (n : AxisId) : Nat := (s.axisRec n.val).elim 0 (·.motor)

/-- R236: DRIVE_MODE of an axis. -/
def State.driveMode (s : State) (n : AxisId) : Nat := (s.loopOf n.val).elim 0 (·.driveMode)

/-- R234: the ratio of ticks to angle units: numerator and denominator. -/
def State.angRatio (s : State) (n : AxisId) : Nat × Nat :=
  match s.motor n with
  | 0 => (1, 1)
  | 1 => (2, 3)
  | _ => (2, 5)

/-- R235: ticks in one mechanical revolution. -/
def State.tRev (s : State) (n : AxisId) : Nat :=
  let st := (s.loopOf n.val).elim 0 (·.steps)
  if s.motor n = 1 then 6 * st * 65536 else st * 65536

/-- R235: electrical revolutions per mechanical revolution. -/
def State.elecRevs (s : State) (n : AxisId) : Nat :=
  let st := (s.loopOf n.val).elim 0 (·.steps)
  match s.motor n with
  | 0 => st / 4
  | 1 => st
  | _ => st / 10

/-- N_RATED of an axis, rev/min. -/
def State.nRated (s : State) (n : AxisId) : Nat := (s.loopOf n.val).elim 1 (·.nRated)

/-- R234: a mapped angle and its remainder after a change of position. -/
def mapAngle (num den : Nat) (a r : Nat) (d : Int) : Nat × Nat :=
  let x := num * d + r
  (toAngle (a + x / den), (x % den).toNat)

/-- R235: a velocity of `v` in 2^-12 tick per motion frame as a fraction of 4 x N_RATED. -/
def State.speedCode (s : State) (n : AxisId) (v : Int) : Int :=
  satQ (roundDiv (v * 131072 * 600000) (max 1 (4 * s.nRated n * s.tRev n * 4096)))

/-- R235: a fraction of 4 x N_RATED as a velocity in 2^-12 tick per motion frame. -/
def State.codeSpeed (s : State) (n : AxisId) (c : Int) : Int :=
  roundDiv (c * 4 * s.nRated n * s.tRev n * 4096) (131072 * 600000)

/-- R242: the observer minimum in codes of ω̂. -/
def State.obsMin (s : State) (n : AxisId) : Nat := ceilDiv (s.nRated n * s.elecRevs n * 262144) 240000000

/-- R236: ω̂ (angle units per engine frame) as a velocity in 2^-12 tick per motion frame. -/
def State.omegaSpeed (s : State) (n : AxisId) (w : Int) : Int :=
  let (num, den) := s.angRatio n
  roundDiv (w * 8 * den * 4096) num

/-- R226: the current inputs that the program of an axis reads. -/
def State.currentInputs (s : State) (n : AxisId) : List (Nat × Nat) := (s.seqs[n]).reads.filter (fun p => decide (p.2 < 4))

/-- R226: I_FS: the FULL_SCALE of the current inputs. -/
def State.iFs (s : State) (n : AxisId) : Nat :=
  match (s.currentInputs n).head? with
  | none => 1
  | some (c, i) => (s.calDef c i).elim 1 (fun r => max 1 r.fullScale)

/-- R235: a fraction of I_RATED on the scale of I_FS. -/
def State.ofRated (s : State) (n : AxisId) (f : Int) : Int :=
  satQ (roundDiv (f * (s.loopOf n.val).elim 0 (·.iRated)) (s.iFs n))

/-- R73: the feedback channel that an axis owns. -/
def State.axisChan (s : State) (n : AxisId) : Option AxisId :=
  match s.feedOf n.val with
  | none => none
  | some f => if h : f.channel < 8 then some ⟨f.channel, h⟩ else none

/-- KIND of the axis's feedback; 15 without a FEED shelf. -/
def State.feedKind (s : State) (n : AxisId) : Nat := (s.feedOf n.val).elim 15 (·.kind)

/-- The axis that owns a feedback channel. -/
def State.chanAxis (s : State) (c : AxisId) : Option AxisId :=
  match s.feedOfChan c.val with
  | none => none
  | some f => if h : f.axis < 8 then some ⟨f.axis, h⟩ else none

/-- R278: the axis's channel is marked SUSPECT. -/
def State.axisSuspect (s : State) (n : AxisId) : Bool :=
  match s.axisChan n with
  | none => false
  | some c => s.flag (F.FB_STATUS_SUSPECT c)

/-! ### Settings in force (R258) and regimes (R230) -/

/-- The settings that the registers hold. -/
def State.cfgRegs (s : State) (n : AxisId) : AxisCfg :=
  { ctrl := s.reg (R.AX_CTRL n), vmax := s.fld (F.AX_PROF_VMAX_LIMIT n), amax := s.fld (F.AX_PROF_AMAX_LIMIT n),
    jmax := s.fld (F.AX_PROF_JMAX_LIMIT n), qdec := s.fld (F.AX_PROF_QDEC_LIMIT n), cur := s.reg (R.AX_CUR n),
    econ := s.reg (R.AX_ECON n), stall := s.reg (R.AX_STALL_CFG n), follow := s.fld (F.AX_FOLLOW_MAX_FOLLOW_MAX n),
    xfer := s.reg (R.AX_XFER_CFG n) }

def AxisCfg.regimeReq (c : AxisCfg) : Nat := bitsOf c.ctrl.toNat 17 16
def AxisCfg.autoStandby (c : AxisCfg) : Bool := bitsOf c.ctrl.toNat 15 15 = 1
def AxisCfg.armHold (c : AxisCfg) : Bool := bitsOf c.ctrl.toNat 14 14 = 1
def AxisCfg.stallAct (c : AxisCfg) : Nat := bitsOf c.ctrl.toNat 13 12
def AxisCfg.standbyDelay (c : AxisCfg) : Nat := max 1 (bitsOf c.ctrl.toNat 11 0) * msec
def AxisCfg.curRun (c : AxisCfg) : Int := hiU c.cur
def AxisCfg.curHold (c : AxisCfg) : Int := loU c.cur
def AxisCfg.ecoMin (c : AxisCfg) : Int := hiU c.econ
def AxisCfg.laTarget (c : AxisCfg) : Nat := loU c.econ
def AxisCfg.stopTimeout (c : AxisCfg) : Nat := max 1 (bitsOf c.xfer.toNat 35 26) * 10 * msec
def AxisCfg.holdSettle (c : AxisCfg) : Nat := max 1 (bitsOf c.xfer.toNat 17 8) * msec
def AxisCfg.xferSteps (c : AxisCfg) : Nat := max 1 (bitsOf c.xfer.toNat 7 0)

/-- R214, Table 8.3: log2 L of a regime. -/
def regimeLog2L (r : Nat) : Nat := if r = 0 then 0 else if r = 1 then 2 else 4

/-- R231: a regime takes effect: STATE and L; the carrier follows at the reload that ends the running period. -/
def State.setRegime (s : State) (n : AxisId) (r : Nat) : State :=
  (s.setFld (F.AX_STATE_REGIME n) r).setFld (F.ENG_SLOT_LOG2L n) (regimeLog2L r)

/-- R231, R251: the value a ramp stands at. -/
def Ramp.now (r : Ramp) : Int := r.start + (r.goal - r.start) * (min r.step 8 : Nat) / 8

/-- A ramp from where it stands to a new value. -/
def Ramp.toward (r : Ramp) (g : Int) : Ramp := ⟨r.now, g, 0, true⟩

/-- A ramp from where it stands to 0, where it ends. -/
def Ramp.down (r : Ramp) : Ramp := ⟨r.now, 0, 0, false⟩

/-- Table 8.3: the amplitude of OPEN drive in a regime. -/
def State.ampLevel (s : State) (n : AxisId) (r : Nat) : Int :=
  let c := (s.axes[n]).cfg
  if r = 2 then c.curHold else c.curRun

/-- Table 8.3: I_LIM of FB and OBS drive in a regime. -/
def State.limLevel (s : State) (n : AxisId) (r : Nat) : Int := s.ampLevel n r

/-! ### Operation status of an axis -/

/-- A running operation of the axis ends on a fault. -/
def State.axisOpErr (s : State) (n : AxisId) (code : Nat) : State :=
  if s.opBusy (R.AX_OP_STAT n) then s.opErr (R.AX_OP_STAT n) code else s

/-- A running operation of the axis is cut short (R228). -/
def State.axisOpAbort (s : State) (n : AxisId) : State :=
  if s.opBusy (R.AX_OP_STAT n) then s.opAborted (R.AX_OP_STAT n) else s

/-- A running operation of the axis completes. -/
def State.axisOpDone (s : State) (n : AxisId) : State :=
  if s.opBusy (R.AX_OP_STAT n) then s.opDone (R.AX_OP_STAT n) else s

/-! ### The Trapdoor (R429 to R433) -/

/-- R429: the Trapdoor is engaged on an axis. -/
def State.trapped (s : State) (n : AxisId) : Bool := s.regBit R.FLT_TRAP_STAT (8 + n.val)

/-- The axis stands in SHORT. -/
def State.shorted (s : State) (n : AxisId) : Bool := s.regBit R.FLT_TRAP_STAT (16 + n.val)

/-- R430: the knee code K. -/
def State.kneeCode (s : State) (n : AxisId) : Int :=
  roundDiv (((s.loopOf n.val).elim 0 (·.nKnee) : Nat) * 131072) (4 * max 1 (s.nRated n))

/-- R430: the speed at engagement and whether it is a stale estimate. -/
def State.trapSpeed (s : State) (n : AxisId) : Int × Bool :=
  let est : Int := (s.sfld (F.ENG_SUPV_SPEED_EST n)).natAbs
  if !s.flag (F.ENG_SUPV_STALE n) then (est, false)
  else match s.axisChan n with
    | some c =>
      if s.axisSuspect n then (est, true)
      else ((s.speedCode n (s.sfld ⟨R.FB_SPEED c, 35, 0⟩)).natAbs, false)
    | none => (est, true)

/-- R72, R431: TRAP_MODE as it acts: an axis whose program reads no current input acts as TRAP_MODE 1. -/
def State.openOnly (s : State) (n : AxisId) : Bool :=
  (s.protRec n.val).elim true (·.trapMode) || (s.currentInputs n).isEmpty

/-- R433: the legs of an axis take the policy that LD carries to the die. -/
def State.sendPolicy (s : State) (n : AxisId) (short : Bool) : State :=
  let t := s.forEach (s.axisLegs n) (fun l t => t.modLeg l (fun g => { g with policy := some short }))
  t.settleAxis n

/-- R432: a change to SHORT counts; R431 watches the current from now on. -/
def State.toShort (s : State) (n : AxisId) : State :=
  let t := ((s.setRegBit R.FLT_TRAP_STAT (16 + n.val) true).count R.FLT_TRAP_COUNT).lifeAdd 4 1
  (t.modAxis n (fun a => { a with sign := 0, signAt := s.clock })).sendPolicy n true

/-- R431: the axis leaves SHORT for OPEN. -/
def State.toOpen (s : State) (n : AxisId) : State :=
  (s.setRegBit R.FLT_TRAP_STAT (16 + n.val) false).sendPolicy n false

/-- R429, R430: the Trapdoor engages; one that is engaged keeps its policy. -/
def State.engage (s : State) (n : AxisId) : State :=
  if s.trapped n then s
  else
    let (sp, stale) := s.trapSpeed n
    let short := !s.openOnly n && decide (s.kneeCode n ≤ sp)
    let t := (s.setRegBit R.FLT_TRAP_STAT (8 + n.val) true).setRegBit R.FLT_TRAP_STAT n.val stale
    if short then t.toShort n else t.sendPolicy n false

/-- R431: t_K, PCLK. -/
def State.shortLimit (s : State) (n : AxisId) : Nat :=
  ceilDiv (30000000 * usec) (max 1 ((s.loopOf n.val).elim 1 (·.nKnee) * s.elecRevs n))

/-! ### States of an axis -/

/-- FLT.STATUS.FAULT_OUT: an axis is FAULTED or LATCHED. -/
def State.faultOut (s : State) : State :=
  s.setFlag F.FLT_STATUS_FAULT_OUT
    (axisIds.any (fun n => decide (s.axisSt n = stFaulted) || decide (s.axisSt n = stLatched)))

/-! ### What the Hatch makes of an axis (R75, R406, R410) -/

/-- R75: the HTn record of a step channel. -/
def State.htRec (s : State) (c : AxisId) : Option HtRec :=
  match s.inv with
  | none => none
  | some v => v.hts[c.val]?

/-- R76: the CMDAn record of a speed-command input. -/
def State.cmdaRec (s : State) (i : Fin 4) : Option CmdaRec :=
  match s.inv with
  | none => none
  | some v => v.cmdas[i.val]?

/-- All speed-command inputs. -/
def cmdaIds : List (Fin 4) := [0, 1, 2, 3]

/-- The step channels and the speed-command inputs that command an axis. -/
def State.htChans (s : State) (n : AxisId) : List AxisId :=
  axisIds.filter (fun c => (s.htRec c).any (fun r => r.used && decide (r.axis = n.val)))

def State.cmdaChans (s : State) (n : AxisId) : List (Fin 4) :=
  cmdaIds.filter (fun i => (s.cmdaRec i).any (fun r => r.used && decide (r.axis = n.val)))

/-- R410: what READYn reports of an axis. -/
def State.readyOk (s : State) (n : AxisId) : Bool :=
  s.axisOn n && !(decide (s.axisSt n = stStopping) && s.flag (F.AX_STATE_FAULT_STOP n)) &&
    (s.htChans n).all (fun c => !s.regBit R.HAT_STATUS (16 + c.val)) &&
    (s.cmdaChans n).all (fun i => !s.regBit R.HAT_STATUS (4 + i.val))

/-- R410: READYn of an axis falls as soon as its condition fails. -/
def State.dropReady (s : State) (n : AxisId) : State :=
  if s.readyOk n then s
  else s.forEach (axisIds.filter (fun c => (s.htRec c).any (fun r => r.readyUsed && decide (r.axis = n.val))))
    (fun c t => t.setRegBit R.HAT_STATUS (8 + c.val) false)

/-- R406: on entry to ARMED HTn_TARGET takes SET_POS less the compensation of the axis. -/
def State.rebaseHatch (s : State) (n : AxisId) : State :=
  s.forEach (s.htChans n) (fun c t =>
    let t := t.setReg (R.HAT_HT_TARGET c) (posWord (tickOf (t.axes[n]).mo.p))
    t.modHatch (fun h => { h with steps := h.steps.set c.val { h.steps[c.val] with hist := [] } }))

/-- R119, R124: a test still concerns a leg. -/
def State.underTest (s : State) (l : LegId) : Bool :=
  s.leakTests.any (fun w => w.todo.any (fun e => decide (e.1 = l.val))) ||
    (s.legAxis l).any (fun n => s.wireTests.any (fun w => decide (n.val ∈ w.axes)))

/-- R251: the hold counts from now, where the axis applies its OPEN amplitude and the observer is not LOCKED. -/
def State.holdAnew (s : State) (n : AxisId) : State :=
  s.modAxis n (fun a => { a with
    settled := false,
    holdSince := if s.fld (F.AX_STATE_DRIVE n) = 0 ∧ a.amp.on ∧ s.flag (F.ENG_SUPV_LOCKED n) = false then some s.clock else none })

/-- R224: the axis is in state `st`; its legs, its carrier and the engine follow (Tables 8.1, 4.6, R211). -/
def State.axisTo (s : State) (n : AxisId) (st : Nat) : State :=
  let t := s.setFld (F.AX_STATE_STATE n) st
  let on := t.axisOn n
  let t := (t.setRegBit R.ENG_STATUS (10 + n.val) on).setFlag (F.ENG_SLOT_RUN n) on
  let t := if on then t else (t.stopCarrier n).modLadder (fun l => { l with owners := l.owners.set n.val none })
  let t := t.forEach (t.axisLegs n) (fun l t =>
    if t.legState l ∈ [lgIdle, lgActive] || (decide (st ≠ stChecking) && decide (t.legState l = lgTesting) && !t.underTest l) || (decide (st = stDisabled) && decide (t.legState l = lgForcedOff)) then
      t.setLegState l (t.restState l)
    else t)
  let t := if st = stArmed ∧ s.axisSt n ≠ stArmed then (t.rebaseHatch n).holdAnew n else t
  (t.dropReady n).faultOut

/-- The profile stands still where it is. -/
def State.standStill (s : State) (n : AxisId) : State :=
  s.modAxis n (fun a => { a with
    path := .rest a.mo.p, k := 0, mo := ⟨a.mo.p, 0, 0⟩, req := none, goal := none, viaRest := false, waitRamp := false })

/-- R118: a leg in TESTING that no test concerns any more, and whose axis is not in CHECKING, goes back. -/
def State.endLegTest (s : State) (l : LegId) : State :=
  if s.legState l = lgTesting && !s.underTest l && !s.legChecking l then (s.setLegState l (s.restState l)).settle l else s

/-- The tests that an axis in CHECKING runs end, and its legs go back. -/
def State.endTests (s : State) (n : AxisId) : State :=
  let t := (s.modWires (fun l => l.filter (fun w => w.owner ≠ TestOwner.axis n.val))).modLeaks
    (fun l => l.filter (fun w => w.owner ≠ TestOwner.axis n.val))
  t.forEach (t.axisLegs n) (fun l t => t.endLegTest l)

/-- R225: entry to DISABLED, FAULTED or LATCHED: everything that runs on the axis ends and the Trapdoor engages. -/
def State.enterOff (s : State) (n : AxisId) (st cause : Nat) : State :=
  let t := s.axisOpErr n cause
  let t := (t.standStill n).modAxis n (fun a => { a with
    disarm := none, xfer := none, track := false, check := none, align := none, learn := none, reacquire := none,
    thenDisable := false, holdSince := none, settled := false, amp := .off, ilim := .off, cause := cause })
  let t := t.setFlag (F.AX_STATE_XFER n) false
  let t := (t.axisTo n st).endTests n
  (t.engage n).settleAxis n

/-- R434: entries into FAULTED that count, with this one. -/
def State.faultedTimes (s : State) (n : AxisId) : List Nat :=
  let w := max 1 (s.fld F.FLT_LATCH_CFG_WINDOW) * second
  s.clock :: (s.axes[n]).faulted.filter (fun t => decide (s.clock < t + w))

/-- R434, R440 class TRAP: the axis takes its Trapdoor policy and enters FAULTED, or LATCHED at its REPEAT_MAX-th entry.
An axis that is DISABLED, FAULTED or LATCHED stays so (Table 8.1, R434). -/
def State.trap (s : State) (n : AxisId) (cause : Nat) : State :=
  if !s.planned n.val || s.axisSt n = stDisabled || s.axisSt n = stFaulted || s.axisSt n = stLatched then s
  else
    let l := s.faultedTimes n
    let m := s.fld F.FLT_LATCH_CFG_REPEAT_MAX
    let t := s.modAxis n (fun a => { a with faulted := l })
    t.enterOff n (if m ≠ 0 ∧ m ≤ l.length then stLatched else stFaulted) cause

/-- R440 class ALL_LATCH, for one axis. -/
def State.latchAxis (s : State) (n : AxisId) (cause : Nat) : State :=
  if !s.planned n.val || s.axisSt n = stLatched then s else s.enterOff n stLatched cause

/-- R228: the axis enters DISABLED. -/
def State.disable (s : State) (n : AxisId) : State := s.enterOff n stDisabled 0

/-! ### Stops (R229) -/

/-- R229: a fault stop runs. -/
def State.faultStopping (s : State) (n : AxisId) : Bool :=
  decide (s.axisSt n = stStopping) && s.flag (F.AX_STATE_FAULT_STOP n)

/-- R229: a controlled or a quick stop begins; one that cuts a learning run short ends in DISABLED (R244). A fault stop goes
on. -/
def State.stopAxis (s : State) (n : AxisId) (quick disable : Bool) : State :=
  if s.faultStopping n then s else
  let t := s.axisOpAbort n
  let t := t.setFlag (F.AX_STATE_FAULT_STOP n) false
  let t := if s.axisSt n = stStopping then t else t.axisTo n stStopping
  t.modAxis n (fun a => { a with
    req := some (.stop quick), viaRest := false, waitRamp := false,
    stopAt := if s.axisSt n = stStopping then a.stopAt else s.clock, learn := none, quick := quick,
    thenDisable := (if s.axisSt n = stStopping then a.thenDisable || disable else disable) || a.learn.isSome })

/-- R229, R440 class FSTOP: the axis makes a fault stop and ends in FAULTED; in CHECKING it enters FAULTED. -/
def State.faultStop (s : State) (n : AxisId) (cause : Nat) : State :=
  if s.axisSt n = stChecking then s.trap n cause
  else if !s.axisOn n || s.faultStopping n then s
  else
    let t := s.axisOpErr n cause
    let t := ((t.axisTo n stStopping).setFlag (F.AX_STATE_FAULT_STOP n) true).dropReady n
    t.modAxis n (fun a => { a with
      path := planFaultStop a.mo (a.cfg.qdec * uAcc), k := 0, req := none, goal := none, viaRest := false, waitRamp := false,
      stopAt := s.clock, thenDisable := false, disarm := none, align := none, learn := none, cause := cause })

/-! ### Transfers (R239) -/

/-- R236: the drive of an axis: 0 OPEN, 1 FB, 2 OBS. -/
def State.drive (s : State) (n : AxisId) : Nat := s.fld (F.AX_STATE_DRIVE n)

/-- R209: the observer of an axis is LOCKED. -/
def State.locked (s : State) (n : AxisId) : Bool := s.flag (F.ENG_SUPV_LOCKED n)

/-- R239: a transfer to another drive begins; one that runs completes first (R240). -/
def State.startXfer (s : State) (n : AxisId) (drive : Nat) : State :=
  let a := s.axes[n]
  if a.xfer.isSome then s
  else
    (s.setFlag (F.AX_STATE_XFER n) true).modAxis n (fun a => { a with
      xfer := some ⟨drive, 0, a.cfg.xferSteps, 0, a.amp.now, a.ilim.now, false⟩ })

/-- R241: the program of an axis reads its own AMP. -/
def State.progReadsAmp (s : State) (n : AxisId) : Bool := readsAmp n.val (progOf (s.engs[n]).prog)

/-- R241: the axis can transfer to OBS. -/
def State.canObs (s : State) (n : AxisId) : Bool := progHasObs (progOf (s.engs[n]).prog) && s.locked n

/-- R241: the feedback of a DRIVE_MODE 1 axis is lost. -/
def State.feedbackLoss (s : State) (n : AxisId) (cause : Nat) : State :=
  if s.driveMode n ≠ 1 || !s.axisOn n then s
  else
    let policy := (s.protRec n.val).elim 2 (·.fbLoss)
    if policy = 0 ∧ s.canObs n then s.startXfer n 2
    else if policy = 1 ∧ s.canObs n then (s.startXfer n 2).stopAxis n false false
    else if (policy = 0 ∨ policy = 1) ∧ s.progReadsAmp n then (s.startXfer n 0).stopAxis n false false
    else s.trap n cause

/-- R278: a channel is marked SUSPECT; its axis acts by R241. -/
def State.suspect (s : State) (c : AxisId) (cause : Nat) : State :=
  let was := s.flag (F.FB_STATUS_SUSPECT c)
  let t := s.setFlag (F.FB_STATUS_SUSPECT c) true
  match s.chanAxis c with
  | none => t
  | some n => if was then t else t.feedbackLoss n cause

/-! ### Starts (R251 to R253) -/

/-- R243: the axis needs a commutation offset from ALIGN. -/
def State.needsAlign (s : State) (n : AxisId) : Bool :=
  decide (s.driveMode n = 1) && decide (s.feedKind n ∈ [0, 1, 2, 4]) && !s.flag (F.AX_COMM_VALID n)

/-- R251: the rotor state: 0 UNKNOWN, 1 HELD, 2 FB, 3 OBS. -/
def State.rotor (s : State) (n : AxisId) : Nat :=
  match s.axisChan n with
  | some c =>
    if s.driveMode n = 1 && !s.axisSuspect n && s.flag (F.AX_COMM_VALID n) &&
        (s.flag (F.FB_STATUS_SPEED_VALID c) || s.flag (F.FB_STATUS_STANDSTILL c)) then 2
    else if s.locked n then 3 else if (s.axes[n]).settled then 1 else 0
  | none => if s.locked n then 3 else if (s.axes[n]).settled then 1 else 0

/-- R253, R243: a start is refused with fault 0x531. -/
def State.refuseStart (s : State) (n : AxisId) : State :=
  let t := s.raiseLD 0x531 n.val (some n.val)
  (t.setFlag (F.AX_EVENTS_START_REFUSED n) true).count (R.AX_REFUSE_COUNT n)

/-- R252: the profile's position for a measured position: the one nearest the profile whose compensated set-point reads so,
since no set-point step occurs at a start (log entry 813). -/
def State.profileAt (s : State) (n : AxisId) (pos : Word) : Int :=
  let p := tickOf (s.axes[n]).mo.p
  (p + posDiff (pos - s.reg (R.PLN_COMP_NOW n)) (posWord p)) * uTick

/-- R252: position and velocity of the rotor, in 2^-40 tick and per motion frame. -/
def State.rotorMotion (s : State) (n : AxisId) (rotor : Nat) : Motion :=
  if rotor = 2 then
    match s.axisChan n with
    | some c => ⟨s.profileAt n (s.reg (R.FB_POS c)), s.sfld ⟨R.FB_SPEED c, 35, 0⟩ * uVel, 0⟩
    | none => ⟨(s.axes[n]).mo.p, 0, 0⟩
  else if rotor = 3 then
    ⟨s.profileAt n (s.reg (R.AX_FB_POS n)), s.omegaSpeed n (s.sfld (F.ENG_OBS_A_OMEGA n)) * uVel, 0⟩
  else ⟨(s.axes[n]).mo.p, 0, 0⟩

/-- R252: on a coasting rotor in OPEN drive ANGLE_SET goes to θ̂ plus LA_TARGET in the direction of v, and AMP ramps
from 0 over XFER_STEPS. -/
def State.catchRotor (s : State) (n : AxisId) (v : Int) : State :=
  let la : Int := (s.axes[n]).cfg.laTarget
  s.modAxis n (fun a => { a with
    angSet := toAngle ((s.fld (F.ENG_OBS_A_THETA n) : Nat) + (if v < 0 then -la else la)),
    amp := .at_ (s.ampLevel n (s.regime n)),
    xfer := if a.xfer.isSome then a.xfer else some ⟨0, 0, a.cfg.xferSteps, 0, 0, 0, true⟩ })

/-- R252, R232: an accepted start: RUNNING from the rotor's state. -/
def State.runAxis (s : State) (n : AxisId) (rotor : Nat) : State :=
  let m := s.rotorMotion n rotor
  let standby := decide (s.regime n = 2)
  let t := (s.axisTo n stRunning).setFlag (F.AX_STATE_AT_TARGET n) false
  let t := t.modAxis n (fun a => { a with
    path := (if m.v = 0 then .rest m.p else .segs m.p [] none m.v), k := 0, mo := m, goal := none, viaRest := decide (m.v ≠ 0),
    waitRamp := standby, disarm := none,
    regime := if standby then (if a.cfg.regimeReq < 2 then a.cfg.regimeReq else 0) else a.regime,
    amp := if s.drive n = 0 ∧ a.amp.on = false then a.amp.toward (s.ampLevel n (s.regime n)) else a.amp,
    ilim := if s.drive n ≠ 0 ∧ a.ilim.on = false then a.ilim.toward (s.limLevel n (s.regime n)) else a.ilim })
  if rotor = 3 && decide (s.drive n = 0) then t.catchRotor n m.v else t

/-- R251 to R253: a start of an ARMED axis: the state after it, and whether it was accepted. -/
def State.startAxis (s : State) (n : AxisId) : State × Bool :=
  if (s.axes[n]).align.isSome || s.needsAlign n then (s.refuseStart n, false)
  else
    let r := s.rotor n
    let t := s.setFld (F.AX_STATE_ROTOR n) r
    if r ≠ 0 then (t.runAxis n r, true)
    else if s.flag (F.AX_PROF_CTRL_FORCE n) then
      let t := (t.raiseLD 0x532 n.val (some n.val)).setFlag (F.AX_EVENTS_FORCED_START n) true
      ((t.setFlag (F.AX_PROF_CTRL_FORCE n) false).runAxis n 1, true)
    else (t.refuseStart n, false)

/-! ### Entry to ARMED (R211, R225, R231, R243, R251) -/

/-- R272: sector of a hall state, 7 when invalid. -/
def hallSector (h : Nat) : Nat :=
  match h with
  | 5 => 0
  | 1 => 1
  | 3 => 2
  | 2 => 3
  | 6 => 4
  | 4 => 5
  | _ => 7

/-- R272: edge angle of a sector and centre angle. -/
def sectorEdge (k : Nat) : Nat := (k * 262144 * 2 + 6) / 12
def sectorCentre (k : Nat) : Nat := toAngle (sectorEdge k + 21845)

/-- R243, KIND 5: the hall state sets COMM_OFS so that ANGLE_FB is the sector centre. -/
def State.commFromHall (s : State) (n : AxisId) : State :=
  match s.axisChan n with
  | none => s
  | some c =>
    let k := hallSector (s.fld (F.FB_INDEX_INFO_HALL c))
    if s.feedKind n ≠ 5 || k = 7 then s
    else s.setSFld (F.AX_COMM_COMM_OFS n) (angDiff (sectorCentre k) (s.chans[c]).ang)

/-- R243: ALIGN begins its first hold, at angle 0 in OPEN drive. -/
def State.beginAlign (s : State) (n : AxisId) (fromDisabled : Bool) : State :=
  ((s.setFld (F.AX_STATE_DRIVE n) 0).opStart (R.AX_OP_STAT n) 0xC).modAxis n (fun a => { a with
    align := some ⟨fromDisabled, 0, s.clock, 0⟩, angSet := 0, angRem := 0, amp := .off, ilim := .off,
    holdSince := none, settled := false })

/-- R211: the second engine frame boundary after now. -/
def State.secondFrame (s : State) : Nat := s.nextBoundary framePclk s.clock + framePclk

/-- Entry to ARMED from CHECKING: the program is loaded anew, the carrier starts, the drive, the regime and the
amplitude take their places. REACQUIRE has AMP and I_LIM at 0, and ALIGN runs of itself only for ARM (R226). -/
def State.enterArmed (s : State) (n : AxisId) (p : Purpose) : State :=
  let idle := decide (p = .reacquire)
  let c := s.cfgRegs n
  let mode := s.driveMode n
  let drive := if mode = 1 then 1 else 0
  let t := s.modAxis n (fun a => { a with cfg := c, regime := if c.regimeReq < 3 then c.regimeReq else a.regime })
  let r := (t.axes[n]).regime
  let amp := t.ampLevel n r
  let hold := decide (drive = 0) && c.armHold && !s.locked n && !idle
  let t := (t.setRegime n r).setFld (F.AX_STATE_DRIVE n) drive
  let t := t.modEng n (fun e => { e with
    st := e.init, omega := 0, resRun := 0, lockRun := 0, apartRun := 0,
    readyAt := s.secondFrame, ranAt := none, broken := none })
  let t := (t.setFlag (F.ENG_SUPV_MODEL_LOST n) false).setFlag (F.ENG_SUPV_FB_DISAGREE n) false
  let t := (t.axisTo n stArmed).startCarrier n
  let t := t.modComp n (fun c => { c with dir := 0, b0 := 0, travel := 0, moved := false, b := 0 })
  let t := t.modAxis n (fun a => { a with
    path := .rest a.mo.p, k := 0, mo := ⟨a.mo.p, 0, 0⟩,
    req := none, goal := none, viaRest := false, waitRamp := false, check := none, restSince := s.clock, stallRun := 0,
    astray := false, amp := if hold then ⟨0, amp, 0, true⟩ else .off, ilim := if drive = 0 ∨ idle then .off else .at_ (t.limLevel n r),
    holdSince := if hold then some s.clock else none, settled := false, hallFirst := decide (s.feedKind n = 5),
    follow := none, xfer := none, obsPos := s.reg (R.AX_SET_POS n), obsRem := 0, obsTheta := 0 })
  let t := t.commFromHall n
  let t := if t.needsAlign n && decide (p = .arm) then t.beginAlign n false else t
  t.settleAxis n

end Sys2Proof.Machine
end

