-- ==== Sys2Proof/Machine/Feedback.lean ====
section
/-! DEFINITION. Position and speed feedback (chapter 9): counting, reference marks, toothed wheels, halls, speed, the
SUSPECT mark, the latch of R192 and the crossings of position compare. -/

namespace Sys2Proof.Machine

open Sys2Proof

/-! ### Position compare: crossings (R283, R284) -/

/-- CPOn is armed. -/
def State.cpoArmed (s : State) (n : AxisId) : Bool := s.regBit R.CPO_STATUS (17 + n.val)

/-- R283: the move from p to p' crosses x forward (1), backward (2) or not (0). -/
def crossing (x p p' : Word) : Nat :=
  if 0 < posDiff x p ∧ posDiff x p' ≤ 0 then 1
  else if posDiff x p < 0 ∧ 0 ≤ posDiff x p' then 2
  else 0

/-- R283: pulse width, PCLK. -/
def State.cpoWidth (s : State) (n : AxisId) : Nat := max 1 (s.fld (F.CPO_CFG_WIDTH n))

/-- NEXT shows the armed entry. -/
def State.showNext (s : State) (n : AxisId) : State :=
  match (s.compares[n]).held.head? with
  | some x => s.setReg (R.CPO_NEXT n) x
  | none => s

/-- R283: the pointer moves past the armed entry; after the last it starts again or the list is done. -/
def State.cpoNext (s : State) (n : AxisId) : State :=
  let i := s.fld (F.CPO_PTR_INDEX n) + 1
  let len := s.fld (F.CPO_PTR_LEN n)
  let t := s.modCompare n (fun c => { c with held := c.held.drop 1 })
  if i < len then (t.setFld (F.CPO_PTR_INDEX n) i).showNext n
  else if s.flag (F.CPO_CFG_CYCLE n) then (t.setFld (F.CPO_PTR_INDEX n) 0).showNext n
  else
    let t := (t.setFld (F.CPO_PTR_INDEX n) len).setRegBit R.CPO_STATUS (8 + n.val) true
    (t.setRegBit R.CPO_STATUS (17 + n.val) false).modCompare n (fun c => { c with held := [], asked := false })

/-- R283: a pulse of CPOn is under way. -/
def State.cpoPulsing (s : State) (n : AxisId) : Bool := (s.compares[n]).pulseEnd.any (fun e => decide (s.clock < e))

/-- R282, Table 9.13: the level of CPOn: inactive but during pulses, as POL gives it. -/
def State.cpoLevel (s : State) (n : AxisId) : Bool := s.cpoPulsing n != s.flag (F.CPO_CFG_POL n)

/-- R283, R284: the entries held that a move from p to p' crosses, in their order. -/
def State.crossHeld (s : State) (n : AxisId) (p p' : Word) : List Word → State
  | [] => s
  | x :: rest =>
    let d := crossing x p p'
    if d = 0 ∨ !s.cpoArmed n ∨ !bitOf (s.fld (F.CPO_CFG_DIR n)) (d - 1) then s
    else
      let merged := s.cpoPulsing n
      let t := s.modCompare n (fun c => { c with pulseEnd := some (s.clock + s.cpoWidth n), crossAt := x })
      let t := if merged then t.count R.CPO_MERGE_COUNT else t
      (t.cpoNext n).crossHeld n p p' rest

/-- R284: when fewer than 8 entries are held, the following line is requested. -/
def State.askEntries (s : State) (n : AxisId) : State :=
  let c := s.compares[n]
  let len := s.fld (F.CPO_PTR_LEN n)
  let j := s.fld (F.CPO_PTR_INDEX n) + c.held.length
  let more := s.flag (F.CPO_CFG_CYCLE n) || decide (j < len)
  if s.cpoArmed n && decide (c.held.length < 8) && more && !c.asked && decide (0 < len) then
    (s.modCompare n (fun c => { c with asked := true })).ask 3 (.compare n.val) [s.fld (F.CPO_LIST_ADDR n) / 8 + j % len / 8]
  else s

/-- R283: an edge or an index correction moved P of a channel from p to p'. -/
def State.crossAll (s : State) (ch : AxisId) (p p' : Word) : State :=
  s.forEach axisIds (fun n t =>
    if t.hasAxis n.val && t.cpoArmed n && decide (t.fld (F.CPO_CFG_SRC n) = ch.val) then
      (t.crossHeld n p p' (t.compares[n]).held).askEntries n
    else t)

/-! ### Counting (R263) -/

/-- The channel serves an axis. -/
def State.chanUsed (s : State) (c : AxisId) : Bool := (s.feedOfChan c.val).isSome

/-- KIND of a channel. -/
def State.chanKind (s : State) (c : AxisId) : Nat := (s.feedOfChan c.val).elim 15 (·.kind)

/-- R262: a pair of the channel is broken. -/
def State.chanBroken (s : State) (c : AxisId) : Bool := s.fld ⟨R.FB_STATUS c, 9, 7⟩ ≠ 0

/-- R42: whether a signed 36-bit value wraps when `d` is added. -/
def wraps36 (w : Word) (d : Int) : Bool := decide (2 ^ 35 ≤ w.toInt + d) || decide (w.toInt + d < -(2 ^ 35))

/-- R263, R234: P moves by `d` ticks; the mapped angle follows, and compare lists see the move. -/
def State.moveP (s : State) (c : AxisId) (d : Int) : State :=
  let p := s.reg (R.FB_POS c)
  let p' := p + posWord d
  let t := s.setReg (R.FB_POS c) p'
  let t := if wraps36 p d then t.setFlag (F.FB_STATUS_POS_WRAP c) true else t
  let t := match s.chanAxis c with
    | none => t
    | some n =>
      let (num, den) := s.angRatio n
      let (a, r) := mapAngle num den (s.chans[c]).ang (s.chans[c]).angRem d
      t.modChan c (fun x => { x with ang := a, angRem := r })
  t.crossAll c p p'

/-- R263: the count changes by `d`. -/
def State.countBy (s : State) (c : AxisId) (d : Int) : State :=
  match s.feedOfChan c.val with
  | none => s
  | some f =>
    let w := s.reg (R.FB_COUNT c)
    let t := s.setReg (R.FB_COUNT c) (w + posWord d)
    let t := if wraps36 w d then t.setFlag (F.FB_STATUS_POS_WRAP c) true else t
    let x := f.tickNum * (if f.dirInv then -d else d) + (s.chans[c]).rem
    let den := max 1 f.tickDen
    let t := t.modChan c (fun x' => { x' with rem := (x % den).toNat })
    t.moveP c (x / den)

/-! ### Speed (R279 to R281) -/

/-- Unit span of a kind. -/
def unitSpan (kind : Nat) : Nat := if kind = 2 then 1 else if kind = 3 then 6 else 4

/-- Largest multiple of `u` up to `k` edges back that lies within 100 us of the newest, for a run newest first. -/
def spanOf (u : Nat) (run : List (Nat × Word)) : Nat :=
  match run with
  | [] => 0
  | (t0, _) :: rest =>
    let ok := (rest.zipIdx.filter (fun e => decide ((e.2 + 1) % u = 0) && decide (t0 - e.1.1 ≤ 50000))).map (·.2 + 1)
    match ok.max? with
    | some k => k
    | none => min u rest.length

/-- R279: edges that later latches may need: those of the last 100 us and one unit span. -/
def trimRun (u : Nat) (run : List (Nat × Word)) : List (Nat × Word) :=
  match run with
  | [] => []
  | (t0, c0) :: rest => (t0, c0) :: ((rest.zipIdx.filter (fun e => decide (e.2 < u) || decide (t0 - e.1.1 ≤ 50000))).map (·.1))

/-- R42, R43: FBn.INTERVAL now: COUNT and SAT. -/
def State.fbInterval (s : State) (c : AxisId) : Nat × Bool :=
  let x := s.chans[c]
  let el := (s.clock - x.ivlAt).toNat
  (min el (2 ^ 24 - 1), x.ivlSat || decide (2 ^ 24 - 1 < el))

/-- R279: the speed of a channel at instant `now`, 2^-12 tick per motion frame. -/
def State.speedAt (s : State) (c : AxisId) (now : Nat) : Int :=
  match s.feedOfChan c.val with
  | none => 0
  | some f =>
    let x := s.chans[c]
    if (s.fbInterval c).2 then 0
    else match x.run with
      | [] => 0
      | (tk, ck) :: _ =>
        let k := spanOf (unitSpan f.kind) x.run
        match x.run[k]? with
        | none => 0
        | some (ts, cs) =>
          if k = 0 then x.first
          else
            let sg : Int := if f.dirInv then -1 else 1
            let n := posDiff ck cs
            let den := max 1 (f.tickDen * (tk - ts))
            let v := roundDiv (sg * n * f.tickNum * 50000 * 4096) den
            if (now - tk) * n.natAbs ≤ tk - ts then v
            else
              let lim := roundDiv (f.tickNum * 50000 * 4096 : Nat) (max 1 (f.tickDen * (now - tk)))
              clampInt (-lim) lim v

/-- R281: the speed is 0 and no longer valid. -/
def State.speedZero (s : State) (c : AxisId) : State :=
  ((s.setReg (R.FB_SPEED c) 0).setFlag (F.FB_STATUS_SPEED_VALID c) false).setFlag (F.FB_STATUS_SPEED_EST c) false

/-- R279 to R281: an edge counted `d` at now takes its place in the run. -/
def State.runEdge (s : State) (c : AxisId) (d : Int) : State :=
  match s.feedOfChan c.val with
  | none => s
  | some f =>
    let x := s.chans[c]
    let e := (s.clock, s.reg (R.FB_COUNT c))
    let sg : Int := if d < 0 then -1 else 1
    let t := s.setFlag (F.FB_STATUS_DIR c) (decide (d < 0))
    let t := t.setReg (R.FB_EDGE_TS c) t.now
    let t := t.modChan c (fun x => { x with ivlAt := s.clock, ivlSat := false })
    match x.run with
    | [] =>
      let v := roundDiv ((if f.dirInv then -sg else sg) * f.tickNum * 50000 * 4096) (max 1 (f.tickDen * f.speedTimeout * usec))
      ((t.modChan c (fun x => { x with run := [e], runDir := sg, first := v })).setReg (R.FB_SPEED c) (posWord v)).setFlag
        (F.FB_STATUS_SPEED_EST c) true
    | r =>
      if x.runDir = sg then
        let t := t.modChan c (fun x => { x with run := trimRun (unitSpan f.kind) (e :: r) })
        let t := (t.setFlag (F.FB_STATUS_SPEED_VALID c) true).setFlag (F.FB_STATUS_STANDSTILL c) false
        t.setFlag (F.FB_STATUS_SPEED_EST c) false
      else
        (t.modChan c (fun x => { x with run := [e], runDir := sg, first := 0, toothEdges := 1 })).speedZero c

/-- R280 (SPEED_TIMEOUT): no edge for SPEED_TIMEOUT. -/
def speedTimeout (c : AxisId) (s : State) : State :=
  match s.feedOfChan c.val, (s.chans[c]).run.head? with
  | some f, some (t0, _) =>
    let t := s.atLeast (t0 + f.speedTimeout * usec)
    let t := t.modChan c (fun x => { x with run := [], first := 0, toothEdges := 0, toothAt := none, toothIvl := none })
    (t.speedZero c).setFlag (F.FB_STATUS_STANDSTILL c) true
  | _, _ => s

def execSpeedTimeout (c : AxisId) (s : State) : Host.Outcome State Fault Refusal := s.answer (speedTimeout c s)

/-! ### Reference marks (R267, R268) -/

/-- R268: the one of -N, 0, +N nearest to `d`. -/
def nearestTurn (n : Nat) (d : Int) : Int := if (n : Int) < 2 * d then n else if 2 * d < -(n : Int) then -(n : Int) else 0

/-- R268: 18-bit LAST_ERR. -/
def satE (e : Int) : Int := clampInt (-131072) 131071 e

/-- R267, R268: a reference mark at count `cref`. -/
def State.reference (s : State) (c : AxisId) : State :=
  match s.feedOfChan c.val with
  | none => s
  | some f =>
    let n := if f.kind = 2 then f.lines else 4 * f.lines
    let cref := s.reg (R.FB_COUNT c)
    let t := (s.setReg (R.FB_REF_POS c) (s.reg (R.FB_POS c))).setFlag (F.FB_STATUS_REFERENCED c) true
    let t := t.modChan c (fun x => { x with indexNew := true, refLast := some cref })
    match (s.chans[c]).refLast with
    | none => t
    | some last =>
      let d := posDiff cref last
      let e := d - nearestTurn n d
      if e = 0 then t
      else
        let t := (t.setSFld (F.FB_INDEX_INFO_LAST_ERR c) (satE e)).count (R.FB_IDX_ERR_COUNT c)
        if e.natAbs ≤ f.indexTol then
          let t := t.countBy c (-e)
          let t := t.modChan c (fun x => { x with
            refLast := some (cref - posWord e), run := x.run.map (fun r => (r.1, r.2 - posWord e)) })
          (t.setFlag (F.FB_STATUS_IDX_CORR c) true).raiseLD 0x611 c.val ((s.chanAxis c).map (·.val))
        else
          let t := t.setFlag (F.FB_STATUS_IDX_BAD c) true
          (t.raiseLD 0x612 c.val ((s.chanAxis c).map (·.val))).suspect c 0x612

/-! ### Quadrature (R266) -/

/-- R266: place of a quadrature state in the forward sequence 0, 1, 3, 2. -/
def quadPlace (a b : Bool) : Nat :=
  match a, b with
  | false, false => 0
  | false, true => 1
  | true, true => 2
  | true, false => 3

/-- R261: the filter of the channel accepts levels that have held for `held` PCLK. -/
def State.filterPasses (s : State) (c : AxisId) (held : Nat) : Bool := decide (2 ^ s.fld (F.FB_CFG_FILTER c) ≤ held)

/-- R266, R267: the filtered levels of A, B and Z become `a`, `b`, `z` on a PCLK. -/
def quadratureEdge (c : AxisId) (a b z : Bool) (s : State) : State :=
  let x := s.chans[c]
  let k := s.chanKind c
  let active := z ≠ s.flag (F.FB_CFG_Z_POL c)
  let t := s.modChan c (fun x => { x with a := a, b := b, z := z, zDone := x.zDone && active })
  if !(k ∈ [0, 1, 5]) || !s.live || s.chanBroken c then t
  else if a ≠ x.a && b ≠ x.b then
    let t := ((t.count (R.FB_TRANS_ERR_COUNT c)).setFlag (F.FB_STATUS_TRANS_ERR c) true).raiseLD 0x602 c.val
      ((s.chanAxis c).map (·.val))
    t.suspect c 0x602
  else
    if a = x.a && b = x.b then t
    else
      let d : Int := if (quadPlace a b + 4 - quadPlace x.a x.b) % 4 = 1 then 1 else -1
      let t := (t.countBy c d).runEdge c d
      if (k = 0 ∨ k = 5) ∧ active ∧ !(t.chans[c]).zDone ∧ 2 * bit a + bit b = s.fld (F.FB_CFG_Z_GATE c) then
        (t.modChan c (fun x => { x with zDone := true })).reference c
      else t

/-- R261, R266 (QUADRATURE_EDGE): the levels at the inputs have been `a`, `b`, `z` for `held` PCLK; the filter lets them through
or not (DESIGN CHOICE, log entry 902). -/
def execQuadratureEdge (dt : Nat) (c : AxisId) (a b z : Bool) (held : Nat) (s : State) : Host.Outcome State Fault Refusal :=
  let t := s.pass dt
  s.answer (if t.filterPasses c held then quadratureEdge c a b z t else t)

/-! ### Toothed wheels (R269, R270) -/

/-- R269: the direction of a wheel: the sign of the axis's SET_VEL, kept while it is 0. -/
def State.wheelBack (s : State) (c : AxisId) : Bool :=
  match s.chanAxis c with
  | none => (s.chans[c]).toothBack
  | some n =>
    let v := s.sfld (F.AX_SET_VEL_VALUE n)
    if v < 0 then true else if 0 < v then false else (s.chans[c]).toothBack

/-- R269, R270: one counted edge of `teeth` teeth, a reference mark or not. -/
def State.countTeeth (s : State) (c : AxisId) (teeth : Nat) (mark : Bool) (ivl : Option Nat) : State :=
  let back := s.wheelBack c
  let d : Int := if back then -(teeth : Int) else teeth
  let same := decide (back = (s.chans[c]).toothBack)
  let t := s.modChan c (fun x => { x with
    toothBack := back, toothAt := some s.clock, toothIvl := ivl, extraGroup := false,
    toothEdges := if same then x.toothEdges + 1 else 1 })
  let t := (t.countBy c d).runEdge c d
  if mark then t.reference c else t

/-- R269, R270: a filtered rising edge of A. -/
def toothEdge (c : AxisId) (s : State) : State :=
  match s.feedOfChan c.val with
  | none => s
  | some f =>
    let x := s.chans[c]
    if f.kind ≠ 2 || !s.live || s.chanBroken c then s
    else if 0 < x.extra then s.modChan c (fun x => { x with extra := x.extra - 1 })
    else if x.extraGroup then s.countTeeth c 1 true (x.toothAt.map (fun t0 => s.clock - t0))
    else
      let ivl := x.toothAt.map (fun t0 => s.clock - t0)
      match ivl, x.toothIvl with
      | some i, some j =>
        if x.toothEdges < 2 ∨ s.wheelBack c ≠ x.toothBack then s.countTeeth c 1 false ivl
        else if f.refKind = 0 then
          if 3 * (f.refTeeth + 1) * j < 4 * i then s.countTeeth c (f.refTeeth + 1) true ivl else s.countTeeth c 1 false ivl
        else if 3 * (f.refTeeth + 1) * i < 4 * j then
          s.modChan c (fun x => { x with extra := f.refTeeth - 1, extraGroup := true })
        else s.countTeeth c 1 false ivl
      | _, _ => s.countTeeth c 1 false ivl

/-- R261, R269 (TOOTH_EDGE): input A has been high for `held` PCLK. -/
def execToothEdge (dt : Nat) (c : AxisId) (held : Nat) (s : State) : Host.Outcome State Fault Refusal :=
  let t := s.pass dt
  s.answer (if t.filterPasses c held then toothEdge c t else t)

/-- R269, R281: SET_VEL of an axis has a new value; a change of its sign is a reversal of a toothed wheel. The interval under way
is discarded with it: the next edge starts a new run. -/
def State.wheelTurn (s : State) (n : AxisId) : State :=
  match s.axisChan n with
  | none => s
  | some c =>
    let back := s.wheelBack c
    if s.chanKind c ≠ 2 || back == (s.chans[c]).toothBack then s
    else
      let t := s.modChan c (fun x => { x with toothBack := back, toothEdges := 0 })
      if (s.chans[c]).run.isEmpty then t
      else
        ((t.modChan c (fun x => { x with run := x.run.take 1, runDir := 0, first := 0 })).speedZero c).setFlag
          (F.FB_STATUS_DIR c) back

/-! ### Line breaks (R262) -/

/-- R262: the module watches pair `p` (0 A, 1 B, 2 Z) of a channel of a kind. -/
def watched (kind p : Nat) : Bool :=
  match p with
  | 0 => kind ∈ [0, 1, 2, 5]
  | 1 => kind ∈ [0, 1, 5]
  | _ => kind ∈ [0, 5]

/-- The live bit of a pair. -/
def lbFld (c : AxisId) (p : Fin 3) : Fld := ⟨R.FB_STATUS c, 7 + p.val, 7 + p.val⟩

/-- R262 (LINE_BREAK). -/
def lineBreak (c : AxisId) (p : Fin 3) (s : State) : State :=
  if !watched (s.chanKind c) p.val || !s.live || s.flag (lbFld c p) then s
  else
    let t := (s.setFlag (lbFld c p) true).setFlag (F.FB_STATUS_LB_SEEN c) true
    (t.raiseLD 0x601 c.val ((s.chanAxis c).map (·.val))).suspect c 0x601

def execLineBreak (dt : Nat) (c : AxisId) (p : Fin 3) (s : State) : Host.Outcome State Fault Refusal :=
  s.answer (lineBreak c p (s.pass dt))

/-- R262 (LINE_BREAK_CLEAR): the pair has been valid for 1 ms. -/
def execLineBreakClear (dt : Nat) (c : AxisId) (p : Fin 3) (s : State) : Host.Outcome State Fault Refusal :=
  s.answer ((s.pass dt).setFlag (lbFld c p) false)

/-! ### Halls (R143, R144, R272 to R274) -/

/-- R144: the axes whose mask follows the hall state of a channel; all legs of an axis carry the same MASK_SRC and HALL_FB
(R142), and a HOLD pattern does not move its selection. -/
def State.hallMaskAxes (s : State) (c : AxisId) : List AxisId :=
  axisIds.filter (fun n => (s.firstLeg n).any (fun l =>
    decide (s.fld (F.PW_OUTCFG_MASK_SRC (legQ l) (legM l)) = 1) &&
      decide (s.fld (F.PW_OUTCFG_HALL_FB (legQ l) (legM l)) = c.val) && !(s.dies[legDie l]).haltActs))

/-- R144: an invalid hall state under MASK_SRC 1: HALL_BAD in every quadrant with a leg of the axis, and one fault, whose source
names the quadrant of its lowest leg (log entry 504). -/
def State.maskInvalid (s : State) (c : AxisId) : State :=
  s.forEach (s.hallMaskAxes c) (fun n t =>
    let t := t.forEach (s.axisLegs n) (fun l t => t.setFlag (F.PW_STATUS_HALL_BAD (legQ l)) true)
    match s.firstLeg n with
    | none => t
    | some l => t.raiseGD (legDie l) 0x331 (16 + (legQ l).val % 2) (some n.val))

/-- R272: sectors from one to another by the shorter way: -2 to 3. -/
def sectorStep (a b : Nat) : Int :=
  let d := (b + 6 - a) % 6
  if d ≤ 3 then d else (d : Int) - 6

/-- R273, R274: a sector skipped, or an invalid state, of a channel: KIND 3 marks it SUSPECT. -/
def State.hallFault (s : State) (c : AxisId) (code : Nat) : State :=
  let t := s.raiseLD code c.val ((s.chanAxis c).map (·.val))
  if s.chanKind c = 3 then t.suspect c code else t

/-- R274, R243: a valid hall edge into sector `k` on KIND 5: the first after entry to ARMED refines COMM_OFS, later ones
check ANGLE_FB. -/
def State.hallCheck (s : State) (c : AxisId) (old k : Nat) : State :=
  match s.chanAxis c with
  | none => s
  | some n =>
    let fwd := decide (0 ≤ sectorStep old k)
    let edge := if fwd then sectorEdge k else sectorEdge ((k + 1) % 6)
    let ang := (s.chans[c]).ang
    if (s.axes[n]).hallFirst && s.axisOn n then
      let t := (s.setSFld (F.AX_COMM_COMM_OFS n) (angDiff edge ang)).setFlag (F.AX_COMM_VALID n) true
      t.modAxis n (fun a => { a with hallFirst := false })
    else if s.flag (F.AX_COMM_VALID n) then
      let fb := toAngle (ang + s.fld (F.AX_COMM_COMM_OFS n) : Nat)
      if 21845 < (angDiff edge fb).natAbs then (s.raiseLD 0x633 c.val (some n.val)).suspect c 0x633 else s
    else s

/-- Table 3.8: hall inputs are assigned to the channel. -/
def State.hallsFitted (s : State) (c : AxisId) : Bool := (s.pinOf 4 c.val).isSome

/-- R265, Tables 9.8, 9.11: a channel with halls shows its hall state. -/
def State.showHall (s : State) (c : AxisId) : State :=
  if !s.chanUsed c || !s.hallsFitted c then s
  else
    let v := s.pins.hall.getD c.val 0
    let k := hallSector v
    ((s.setFld (F.FB_INDEX_INFO_HALL c) v).setFld (F.FB_INDEX_INFO_SECTOR c) k).setFlag (F.FB_STATUS_HALL_BAD c) (decide (k = 7))

/-- R143, R272 to R274 (HALL_EDGE): the filtered hall state of a channel becomes `h`. -/
def hallEdge (c : AxisId) (h : BitVec 3) (s : State) : State :=
  let old := s.pins.hall.getD c.val 0
  let v := h.toNat
  if old = v || !s.hallsFitted c then s
  else
    let k0 := hallSector old
    let k := hallSector v
    let kind := s.chanKind c
    let t := ((s.modPins (fun x => { x with hall := s.pins.hall.set c.val v })).showHall c).settleAll
    let t := if k = 7 then t.maskInvalid c else t
    if !(kind ∈ [3, 5]) || !s.live then t
    else if k = 7 then t.hallFault c 0x631
    else if k0 = 7 then t
    else
      let d := sectorStep k0 k
      let skipped := decide (2 ≤ d.natAbs)
      let t := if kind = 3 && decide (d.natAbs ≤ 2) then (t.countBy c d).runEdge c d else t
      let t := if skipped then
          ((t.count (R.FB_TRANS_ERR_COUNT c)).setFlag (F.FB_STATUS_TRANS_ERR c) true).hallFault c 0x632
        else t
      if kind = 5 && !skipped then t.hallCheck c k0 k else t

def execHallEdge (dt : Nat) (c : AxisId) (h : BitVec 3) (s : State) : Host.Outcome State Fault Refusal :=
  s.answer (hallEdge c h (s.pass dt))

/-! ### The latch of R192 (R265) -/

/-- R277: FB_POS of an SSI channel at an instant: the last good reading extrapolated over at most two motion frames. -/
def State.ssiPos (s : State) (c : AxisId) (now : Nat) : Word :=
  match (s.chans[c]).ssiGood with
  | (t1, p1) :: (t0, p0) :: _ =>
    p1 + posWord (roundDiv (posDiff p1 p0 * (min (now - t1) 100000 : Nat)) (max 1 (t1 - t0)))
  | (_, p1) :: _ => p1
  | [] => s.reg (R.FB_POS c)

/-- R277: the speed of an SSI channel, 2^-12 tick per motion frame. -/
def State.ssiSpeed (s : State) (c : AxisId) : Int :=
  match (s.chans[c]).ssiGood with
  | (t1, p1) :: (t0, p0) :: _ => roundDiv (posDiff p1 p0 * 50000 * 4096) (max 1 (t1 - t0))
  | _ => 0

/-- Table 9.2: REFERENCED; always 1 for SSI. -/
def State.chanReferenced (s : State) (c : AxisId) : Bool := s.flag (F.FB_STATUS_REFERENCED c) || decide (s.chanKind c = 4)

/-- Table 9.2. -/
def State.fbFlags (s : State) (c : AxisId) : Nat :=
  let st := s.reg (R.FB_STATUS c) |>.toNat
  let f (i : Nat) : Bool := bitOf st i
  packBits [f 16, f 15, f 14, f 13, f 12, s.chanReferenced c, s.chanBroken c, f 10, (s.chans[c]).indexNew] +
    s.fld (F.FB_INDEX_INFO_HALL c) * 2 ^ 9

/-- R192, R265, R236: a channel latches what it presents, at the trigger of its axis. -/
def State.latchChan (s : State) (c : AxisId) (now : Nat) : State :=
  if !s.chanUsed c then s
  else
    let ssi := decide (s.chanKind c = 4)
    let v := if ssi then s.ssiSpeed c else s.speedAt c now
    let pos := if ssi then s.ssiPos c now else s.reg (R.FB_POS c)
    let ang := if s.chanKind c = 3 then
        let k := hallSector (s.fld (F.FB_INDEX_INFO_HALL c))
        if k = 7 then (match (s.chans[c]).latches.head? with | some l => l.angle | none => 0) else sectorCentre k
      else if ssi then
        match s.chanAxis c with
        | none => 0
        | some n =>
          let (num, den) := s.angRatio n
          (mapAngle num den (s.chans[c]).ang (s.chans[c]).angRem (posDiff pos (s.reg (R.FB_POS c)))).1
      else (s.chans[c]).ang
    let l : FbLatch := ⟨now, pos, v, s.fbFlags c, ang⟩
    (s.setReg (R.FB_SPEED c) (posWord v)).modChan c (fun x => { x with latches := (l :: x.latches).take 3, indexNew := false })

/-! ### FBn commands and writes (R278, R287) -/

/-- R287: the channel is unused or its owning axis is DISABLED. -/
def State.chanFree (s : State) (c : AxisId) : Bool :=
  match s.chanAxis c with
  | none => true
  | some n => decide (s.axisSt n = stDisabled)

/-- R278: CLEAR_SUSPECT. -/
def State.clearSuspect (s : State) (c : AxisId) : State :=
  let ok := (s.chanFree c || (s.chanAxis c).any (fun n => decide (s.axisSt n = stFaulted))) && !s.chanBroken c
  if !ok then s.setFlag (F.FB_STATUS_CMD_REFUSED c) true
  else
    let t := (s.setFlag (F.FB_STATUS_SUSPECT c) false).setFlag (F.FB_STATUS_REFERENCED c) false
    let t := t.modChan c (fun x => { x with
      refLast := none, run := [], first := 0, toothEdges := 0, toothAt := none, toothIvl := none, ssiLast := none,
      ssiGood := [], ssiBad := 0 })
    let t := (t.setReg (R.FB_SPEED c) 0).setFlag (F.FB_STATUS_SPEED_VALID c) false
    let t := (t.setFlag (F.FB_STATUS_SPEED_EST c) false).setFlag (F.FB_STATUS_STANDSTILL c) true
    match s.chanAxis c with
    | some n => if s.chanKind c = 4 then t else t.setFlag (F.AX_COMM_VALID n) false
    | none => t

/-- R264: PRESET: P takes the value; the readings of an SSI channel are re-labelled with it, so that nothing moves. -/
def State.presetChan (s : State) (c : AxisId) : State :=
  let p := s.reg (R.FB_PRESET_VAL c)
  let d := p - s.reg (R.FB_POS c)
  ((s.setReg (R.FB_POS c) p).setFlag (F.FB_STATUS_REFERENCED c) false).modChan c
    (fun x => { x with refLast := none, ssiGood := x.ssiGood.map (fun r => (r.1, r.2 + d)) })

/-- Table 9.7: a write of FBn.CMD. -/
def fbCommand (c : AxisId) (op : Nat) (ok : Bool) (s : State) : State :=
  if !s.reach (0x18 + c.val) then s
  else match op with
    | 1 => s.clearSuspect c
    | 2 =>
      if s.chanFree c then s.presetChan c else s.setFlag (F.FB_STATUS_CMD_REFUSED c) true
    | 3 => s.saveOr ok (0x18 + c.val) [R.FB_CFG c]
    | 4 => (s.setFlag (F.FB_STATUS_REFERENCED c) false).modChan c (fun x => { x with refLast := none })
    | _ => s.setFlag (F.FB_STATUS_CMD_REFUSED c) true

/-- R278 (CLEAR_SUSPECT). -/
def execClearSuspect (dt : Nat) (c : AxisId) (s : State) : Host.Outcome State Fault Refusal :=
  s.answer (fbCommand c 1 true (s.pass dt))

/-- R264 (FB_PRESET). -/
def execFbPreset (dt : Nat) (c : AxisId) (s : State) : Host.Outcome State Fault Refusal :=
  s.answer (fbCommand c 2 true (s.pass dt))

/-- R287 (FB_SAVE). -/
def execFbSave (dt : Nat) (c : AxisId) (ok : Bool) (s : State) : Host.Outcome State Fault Refusal :=
  s.answer (fbCommand c 3 ok (s.pass dt))

/-- R265 (UNREF). -/
def execUnref (dt : Nat) (c : AxisId) (s : State) : Host.Outcome State Fault Refusal :=
  s.answer (fbCommand c 4 true (s.pass dt))

/-- R275, R287: a write of FBn.CFG; on P0 to P2, and on P3 of the LKM-4836, SSI_BITS + SSI_EXTRA above 36 is refused. -/
def fbCfgWrite (c : AxisId) (w : Word) (s : State) : State :=
  let long := match s.feedOfChan c.val with
    | none => false
    | some f => decide (f.kind = 4) && decide (36 < f.ssiBits + bitsOf w.toNat 9 8) &&
        (decide (f.ssiPort < 3) || decide (s.variant = .lkm4836))
  if !s.chanFree c || long then s.setFlag (F.FB_STATUS_CMD_REFUSED c) true
  else s.setReg (R.FB_CFG c) (BitVec.ofNat 36 (bitsPut (s.reg (R.FB_CFG c)).toNat 17 7 (bitsOf w.toNat 17 7)))

/-- R43: a write of FBn.INTERVAL. -/
def intervalWrite (c : AxisId) (msk : Bool) (w : Word) (s : State) : State :=
  let (n, sat) := s.fbInterval c
  let v := if msk then bitsOf (maskedWord (BitVec.ofNat 36 n) w).toNat 23 0 else bitsOf w.toNat 23 0
  s.modChan c (fun x => { x with ivlAt := s.clock - v, ivlSat := msk && sat })

end Sys2Proof.Machine
end

