-- ==== Sys2Proof/Machine/Larder.lean ====
section
/-! DEFINITION. The Larder and the Hoist (chapter 11): the address map, line reads and writes with their code, wear and
spare lines, scrub, refresh, arbitration, the two pointers and the Hoist operations. -/

namespace Sys2Proof.Machine

open Sys2Proof

/-! ### Address map (R323) and the DRAM -/

/-- Table 11.1: RBASE. -/
def Variant.rbase : Variant → Nat
  | .lkm8836 => 0x3F000000
  | .lkm4836 => 0x1F800000

/-- R334: lines of the DRAM. -/
def Variant.dramLines : Variant → Nat
  | .lkm8836 => 134217728
  | .lkm4836 => 67108864

/-- R332: spare lines. -/
abbrev spareLines : Nat := 8192

/-- R324: what a byte of the DRAM reads as that nothing has been written to since Larder ready: the line of zero data
with its own address as ECHO and STAMP 0. -/
def larderByte (k : Nat) : Byte := BitVec.ofNat 8 ((lineCode (List.replicate 8 0) (k / 48 * 8) 0).getD (k % 48) 0)

/-- The canonical form of the DRAM's bytes. -/
def Memory.wf (m : Cells Byte) : Bool := Cells.wf larderByte m

/-- One byte of the DRAM. -/
def Memory.read (m : Cells Byte) (k : Nat) : Byte := Cells.read larderByte m k

/-- One byte of the DRAM takes a value. -/
def Memory.write (m : Cells Byte) (k : Nat) (b : Byte) : Cells Byte := Cells.write larderByte m k b

/-- A codeword goes to physical line `p`, from byte `i` on. -/
def Memory.writeFrom (m : Cells Byte) (p : Nat) : Nat → List Nat → Cells Byte
  | _, [] => m
  | i, b :: t => Memory.writeFrom (Memory.write m (48 * p + i) (BitVec.ofNat 8 b)) p (i + 1) t

/-- The codeword that physical line `p` holds. -/
def Memory.line (m : Cells Byte) (p : Nat) : List Nat := (List.range 48).map (fun b => (Memory.read m (48 * p + b)).toNat)

/-- The DRAM changes. -/
def State.setMem (s : State) (m : Cells Byte) : State := s.modLarder (fun l => { l with mem := m })

/-- R331, R332: the spare line in force of a logical line. -/
def State.spareOf (s : State) (line : Nat) : Option Nat :=
  ((s.box.remap.zipIdx.filter (fun e => e.1 = line)).getLast?).map (·.2)

/-- R332: the physical line of a logical line. -/
def State.physLine (s : State) (line : Nat) : Nat :=
  match s.spareOf line with
  | some k => s.variant.rbase / 8 + k
  | none => line

/-- LDC.STATUS.READY (R324). -/
def State.larderReady (s : State) : Bool := s.flag F.LDC_STATUS_READY

/-! ### Writing a line (R326, R331, R337, R340) -/

/-- R42, R326: WSEQ advances by one. -/
def State.wseqNext (s : State) : State :=
  let w := s.reg R.LDC_WSEQ + 1
  let t := s.setReg R.LDC_WSEQ w
  if w = 0 then t.setFlag F.LDC_STATUS_WSEQ_WRAP true else t

/-- A fetched line is no longer what the DRAM holds. -/
def Pointer.stale (p : Pointer) (line : Nat) : Pointer := { p with present := p.present.filter (fun e => e.1 ≠ line) }

/-- R326, R331, R340: a line write: STAMP from WSEQ, a POISONED mark cleared, fetched copies stale. -/
def State.writeLine (s : State) (line : Nat) (ws : List Word) : State :=
  let stamp := (s.reg R.LDC_WSEQ).toNat % 2 ^ 18
  let t := s.setMem (Memory.writeFrom s.larder.mem (s.physLine line) 0 (lineCode ws (line * 8) stamp))
  (t.modLarder (fun l => { l with
    poisoned := l.poisoned.filter (· ≠ line), hp := l.hp.stale line, lad := l.lad.stale line })).wseqNext

/-! ### Reading a line (R328 to R333) -/

/-- R333: one corrected read. -/
def State.countCorrected (s : State) : State :=
  let t := s.modLarder (fun l => { l with hourCount := l.hourCount + 1 })
  if max 1 (s.fld F.LDC_ECC_CFG_RATE_LIMIT) < t.larder.hourCount ∧ !t.larder.hourTold then
    (((t.modLarder (fun l => { l with hourTold := true })).setFlag F.LDC_STATUS_RATE_HIGH true).raiseLD 0x821 0 none)
  else t

/-- R330 to R332: the codeword of a line moves to a free spare line; none free leaves it in place. -/
def State.toSpare (s : State) (cls line : Nat) (code : List Nat) : State × Bool :=
  let used := s.box.remap.length
  if spareLines ≤ used then
    if s.flag F.LDC_STATUS_SPARES_OUT then (s, false)
    else ((s.setFlag F.LDC_STATUS_SPARES_OUT true).raiseLD 0x803 cls none, false)
  else
    let t := s.modBox (fun x => { x with remap := s.box.remap ++ [line] })
    let t := t.setMem (Memory.writeFrom t.larder.mem (s.variant.rbase / 8 + used) 0 code)
    let t := t.setFld F.LDC_SPARES_USED (used + 1)
    let t := if 6144 < used + 1 then t.setFlag F.LDC_STATUS_SPARES_LOW true else t
    (if used = 6144 then t.raiseLD 0x802 cls none else t, true)

/-- Table 11.10: the last error. -/
def State.lastErr (s : State) (kind cls line stamp : Nat) (pos : List Nat) : State :=
  let t := s.setReg R.LDC_LAST_ERR (BitVec.ofNat 36 (kind * 2 ^ 34 + cls * 2 ^ 31 + line % 2 ^ 27))
  let t := t.setReg R.LDC_LAST_INFO (BitVec.ofNat 36 (stamp * 2 ^ 18 + pos.length * 2 ^ 16))
  t.setReg R.LDC_LAST_POS (BitVec.ofNat 36 (pos.getD 0 0 * 2 ^ 12 + pos.getD 1 0 * 2 ^ 6 + pos.getD 2 0))

/-- R328, R331: an uncorrectable line: fault 0x811 or, for a wrong echo, 0x812; the line moves to a spare line and is
POISONED, unless it already is or no spare line is free. -/
def State.lineLost (s : State) (cls line : Nat) (echo : Bool) (code : List Nat) (pos : List Nat) : State :=
  let t := s.lastErr (if echo then 3 else 2) cls line (lineStamp code) pos
  let t := t.setFlag (if echo then F.LDC_STATUS_ECHO_ERR else F.LDC_STATUS_UNCORR) true
  let t := (t.count R.LDC_UNCORR_COUNT).raiseLD (if echo then 0x812 else 0x811) cls none
  if line ∈ s.larder.poisoned then t
  else
    let (t, moved) := t.toSpare cls line code
    if moved then t.modLarder (fun l => { l with poisoned := l.poisoned ++ [line] }) else t

/-- Bits of a codeword flip. -/
def flipBytes (c : List Nat) (l : List (Nat × Byte)) : List Nat :=
  l.foldl (fun c e => c.modify e.1 (fun b => b ^^^ e.2.toNat)) c

/-- What the DRAM does to a line, if anything. -/
def disturbOf (dist : List Disturb) (line : Nat) : List (Nat × Byte) × List (Nat × Byte) :=
  match dist.find? (fun d => d.line == line) with
  | some d => (d.first, d.again)
  | none => ([], [])

/-- R328 to R333: a read of a logical line for class `cls`: the words delivered, or none. -/
def State.readLine (s : State) (cls line : Nat) (dist : List Disturb) : State × Option (List Word) :=
  let stored := Memory.line s.larder.mem (s.physLine line)
  let (first, again) := disturbOf dist line
  let got := flipBytes stored first
  if line ∈ s.larder.poisoned then (s.lineLost cls line false got [], none)
  else
    match rsDecode got with
    | none => (s.lineLost cls line false got [], none)
    | some (c, pos) =>
      if lineEcho c ≠ line * 8 then (s.lineLost cls line true c pos, none)
      else if pos = [] then (s, some (lineWords c))
      else
        let t := (s.setFlag F.LDC_STATUS_CORR true).lastErr 1 cls line (lineStamp c) pos
        let t := t.countCorrected
        let t := t.setMem (Memory.writeFrom t.larder.mem (s.physLine line) 0 c)
        if (rsSyndromes (flipBytes c again)).all (· = 0) then (t.countOne R.LDC_CORR_COUNT 32, some (lineWords c))
        else
          let (t, moved) := t.toSpare cls line c
          let t := if moved then (t.setFlag F.LDC_STATUS_REMAPPED true).raiseLD 0x801 cls none else t
          (t, some (lineWords c))

/-- Words of a line under others: place `i` takes the first entry of `l` for it. -/
def mergeWords (base : List Word) (l : List (Nat × Word)) : List Word :=
  base.zipIdx.map (fun e => match l.find? (fun p => p.1 == e.2) with | some p => p.2 | none => e.1)

/-- R331, R339, R344: words of one line go to the DRAM for class `cls`, the line read first when not whole. An uncorrectable
line's other words become zero, and HST.STATUS shows a read of the Hoist. -/
def State.writePart (s : State) (cls line : Nat) (l : List (Nat × Word)) (dist : List Disturb) : State :=
  let zero := List.replicate 8 (0 : Word)
  if (List.range 8).all (fun i => l.any (fun p => p.1 == i)) then s.writeLine line (mergeWords zero l)
  else
    match s.readLine cls line dist with
    | (t, some ws) => t.writeLine line (mergeWords ws l)
    | (t, none) =>
      let t := if cls = 5 then (t.setFlag F.HST_STATUS_UNCORR true).setReg R.HST_ERR_ADDR (BitVec.ofNat 36 (line * 8)) else t
      t.writeLine line (mergeWords zero l)

/-- R472: a word of the staged range under an Inventory operation. -/
def State.staged (s : State) (a : Nat) : Bool :=
  match s.invOp.range with
  | some (lo, n) => decide (lo ≤ a) && decide (a < lo + n)
  | none => false

/-- R472, Table 11.5: the module itself writes words of a line from place `i` on, in class 4; those of a staged range wait for the end of the
operation. -/
def State.ownWrite (s : State) (line i : Nat) (ws : List Word) : State :=
  let l := ws.zipIdx.map (fun (w, j) => (i + j, w))
  let later := l.filter (fun e => s.staged (line * 8 + e.1))
  let now := l.filter (fun e => !s.staged (line * 8 + e.1))
  let t := { s with invOp := { s.invOp with held := s.invOp.held ++ later.map (fun e => (line * 8 + e.1, e.2)) } }
  if now = [] then t else t.writePart 4 line now []

/-- The module itself writes words to consecutive addresses; `fuel` bounds the lines. -/
def State.ownWrites (s : State) : Nat → Nat → List Word → State
  | 0, _, _ => s
  | _, _, [] => s
  | fuel + 1, a, ws =>
    let n := 8 - a % 8
    (s.ownWrite (a / 8) (a % 8) (ws.take n)).ownWrites fuel (a + n) (ws.drop n)

/-! ### Pointers (R338 to R340) -/

/-- The pointer of a requester. -/
def State.ptr (s : State) (hp : Bool) : Pointer := if hp then s.larder.hp else s.larder.lad

/-- A pointer changes; STATUS.PEND_HP and PEND_LAD show whether it holds a gathered line. -/
def State.modPtr (s : State) (hp : Bool) (f : Pointer → Pointer) : State :=
  let t := s.modLarder (fun l => if hp then { l with hp := f l.hp } else { l with lad := f l.lad })
  t.setFlag (if hp then F.HST_STATUS_PEND_HP else F.HST_STATUS_PEND_LAD) (t.ptr hp).gather.isSome

/-- PTR_HP or PTR_LAD. -/
def ptrKey (hp : Bool) : Nat := if hp then R.HST_PTR_HP else R.HST_PTR_LAD

/-- The word address a pointer stands at. -/
def State.ptrAddr (s : State) (hp : Bool) : Nat := s.fld ⟨ptrKey hp, 29, 0⟩

/-- R338, R472: the Hoist reaches word `a`. -/
def State.hoistOk (s : State) (write : Bool) (a : Nat) : Bool :=
  s.larderReady && decide (a < s.variant.rbase) && !(write && s.staged a)

/-- R339: a pointer's gathered line leaves it and waits for its commit. -/
def State.closeGather (s : State) (hp : Bool) : State :=
  match (s.ptr hp).gather with
  | some g => s.modPtr hp (fun p => { p with gather := none, closing := p.closing ++ [g] })
  | none => s

/-- R339, R472: the oldest gathered line that waits commits; words of a staged range are refused (none of a line's other
words). -/
def State.commitOne (s : State) (hp : Bool) (dist : List Disturb) : State :=
  match (s.ptr hp).closing with
  | [] => s
  | (line, l) :: rest =>
    let t := s.modPtr hp (fun p => { p with closing := rest })
    let l := l.filter (fun e => t.hoistOk true (line * 8 + e.1))
    if l = [] then t else t.writePart 5 line l dist

/-- `n` commits. -/
def State.commitMany (s : State) (hp : Bool) (dist : List Disturb) : Nat → State
  | 0 => s
  | n + 1 => (s.commitOne hp dist).commitMany hp dist n

/-- R339: a pointer commits everything it has gathered. -/
def State.commitPtr (s : State) (hp : Bool) (dist : List Disturb) : State :=
  let t := s.closeGather hp
  t.commitMany hp dist (t.ptr hp).closing.length

/-- R339, R341: both pointers commit. -/
def State.commitAll (s : State) : State := (s.commitPtr true []).commitPtr false []

/-- R340: the pointer keeps its present line and the one ahead. -/
def State.prunePtr (s : State) (hp : Bool) : State :=
  let line := s.ptrAddr hp / 8
  s.modPtr hp (fun p => { p with present := p.present.filter (fun e => e.1 = line ∨ e.1 = line + 1) })

/-- R338, R339: the pointer moves on by one word; leaving a line closes it. -/
def State.ptrNext (s : State) (hp : Bool) : State :=
  let a := s.ptrAddr hp
  let t := s.setFld ⟨ptrKey hp, 29, 0⟩ (a + 1)
  let t := t.countOne R.HST_WORD_COUNT 32
  if (a + 1) / 8 = a / 8 then t else (t.closeGather hp).prunePtr hp

/-- R338: a window access outside the user area. -/
def State.refuseWindow (s : State) (hp told : Bool) : State :=
  let t := (s.setFlag F.HST_STATUS_RANGE true).setReg R.HST_ERR_ADDR (BitVec.ofNat 36 (s.ptrAddr hp))
  if told then t else t.raiseLD 0x851 5 none

/-- R340: lines a pointer needs and neither holds nor has asked for. -/
def State.askPtr (s : State) (hp : Bool) (lines : List Nat) : State :=
  s.forEach lines (fun line t =>
    if (t.ptr hp).present.any (fun e => e.1 == line) || t.larder.reqs.any (fun r => r.user == .window hp && r.lines == [line]) ||
      !t.hoistOk false (line * 8) then t
    else t.ask 5 (.window hp) [line])

/-- R338 to R340: a window read: the state after it and the word, or none while the requester stalls. `told` says that
the transaction has already raised 0x851. The third component tells whether the access was refused. -/
def State.windowRead (s : State) (hp told : Bool) : State × Option Word × Bool :=
  let a := s.ptrAddr hp
  let line := a / 8
  if !s.hoistOk false a then (s.refuseWindow hp told, some 0, true)
  else
    let own : Option Word := match (s.ptr hp).gather with
      | some (g, l) => if g = line then (l.find? (fun (p : Nat × Word) => p.1 == a % 8)).map (fun p => p.2) else none
      | none => none
    match own with
    | some w => (s.ptrNext hp, some w, false)
    | none =>
      match (s.ptr hp).present.find? (fun (e : Nat × Option (List Word)) => e.1 == line) with
      | none => (s.askPtr hp [line, line + 1], none, false)
      | some (_, some ws) => ((s.ptrNext hp).askPtr hp [line + 1], some (ws.getD (a % 8) 0), false)
      | some (_, none) =>
        let t := (s.setFlag F.HST_STATUS_UNCORR true).setReg R.HST_ERR_ADDR (BitVec.ofNat 36 a)
        (t.ptrNext hp, some 0, false)

/-- R338, R339: a window write; the second component tells whether it was refused. -/
def State.windowWrite (s : State) (hp told : Bool) (w : Word) : State × Bool :=
  let a := s.ptrAddr hp
  if !s.hoistOk true a then (s.refuseWindow hp told, true)
  else
    let t := match (s.ptr hp).gather with
      | some (g, _) => if g = a / 8 then s else s.closeGather hp
      | none => s
    let t := t.modPtr hp (fun p => { p with
      gather := some (a / 8, (a % 8, w) :: (p.gather.elim [] (·.2))), lastWrite := s.clock })
    (t.ptrNext hp, false)

/-- R339: software writes a pointer. -/
def State.setPtr (s : State) (hp : Bool) (w : Word) : State :=
  let t := s.commitPtr hp []
  (t.setFld ⟨ptrKey hp, 29, 0⟩ w.toNat).prunePtr hp

/-! ### Arbitration and delivery (R336, R337) -/

/-- R336: the oldest request of the lowest class among those that pass. -/
def pickReq (l : List LineReq) (ok : LineReq → Bool) : Option LineReq :=
  match ((l.filter ok).map (·.cls)).min? with
  | none => none
  | some c => l.find? (fun r => ok r && r.cls == c)

/-- R336: the request of the next grant. -/
def Larder.grant (l : Larder) : Option LineReq :=
  let turn := l.reqs.find? (fun r => r.cls == 5 && r.user == .window (!l.lastHp))
  let bulk := match turn with
    | some r => some r
    | none => l.reqs.find? (fun r => r.cls == 5)
  let first := pickReq l.reqs (fun r => decide (r.cls < 5))
  match first, bulk with
  | some f, some b => if 9 ≤ l.runs then some b else some f
  | some f, none => some f
  | none, b => b

/-- R211: word address of an axis's initial state image in the reserved region (log entry 40). -/
def State.imageAddr (s : State) (n : Nat) : Nat := s.variant.rbase + 0x10000 + n * 8192

/-- R211, Table 11.5: a line of a state image arrives before the program first executes. -/
def State.imageLine (s : State) (n : AxisId) (line : Nat) (got : Option (List Word)) : State :=
  match got with
  | none => s.trap n 0x811
  | some ws =>
    let off := line * 8 - s.imageAddr n.val
    if s.axisOn n && (s.engs[n]).ranAt.all (fun r => decide (r < (s.engs[n]).readyAt)) then
      s.modEng n (fun e => { e with
        st := e.st.zipIdx.map (fun p => if off ≤ p.2 ∧ p.2 < off + 8 then ws.getD (p.2 - off) 0 else p.1) })
    else s

/-- The outcome of one line of request `r`. -/
def State.serve (s : State) (r : LineReq) (line : Nat) (got : Option (List Word)) : State :=
  let t := s.modLarder (fun l => { l with reqs := l.reqs.erase r })
  match r.user with
  | .window hp => t.modPtr hp (fun p => { p with present := (line, got) :: p.present.filter (fun e => e.1 ≠ line) })
  | .image n =>
    if h : n < 8 then
      let t := t.imageLine ⟨n, h⟩ line got
      if r.lines.length ≤ 1 ∨ got = none then t
      else t.modLarder (fun l => { l with reqs := { r with lines := r.lines.drop 1 } :: l.reqs })
    else t
  | _ =>
    match got with
    | none => t.modLarder (fun l => { l with arrived := l.arrived ++ [⟨r.user, none⟩] })
    | some ws =>
      let g := r.got ++ [(line, ws)]
      if r.lines.length ≤ 1 then t.modLarder (fun l => { l with arrived := l.arrived ++ [⟨r.user, some g⟩] })
      else t.modLarder (fun l => { l with reqs := { r with lines := r.lines.drop 1, got := g } :: l.reqs })

/-- R336, R328: the controller grants the next request and reads its line. -/
def State.lineRead (s : State) (dist : List Disturb) : State :=
  match s.larder.grant with
  | none => s
  | some r =>
    match r.lines with
    | [] => s.modLarder (fun l => { l with reqs := l.reqs.erase r })
    | line :: _ =>
      let bulk := decide (r.cls = 5)
      let t := s.modLarder (fun l => { l with
        runs := if bulk then 0 else min 9 (l.runs + 1),
        lastHp := match r.user with | .window hp => hp | _ => l.lastHp })
      let t := if bulk then (t.commitMany true dist t.larder.hp.closing.length).commitMany false dist
        t.larder.lad.closing.length else t
      let (t, got) := t.readLine r.cls line dist
      t.serve r line got

/-- LINE_READ (R328). -/
def execLineRead (dt : Nat) (dist : List Disturb) (s : State) : Host.Outcome State Fault Refusal :=
  s.answer (
    let s := s.pass dt
    if s.larderReady then s.lineRead dist else s)

/-! ### Scrub, hours, refresh (R333 to R335) -/

/-- R332, R334: the logical line that the scrub reads at a physical line: a spare line in use holds its logical line, one
given up holds none. -/
def State.scrubLine (s : State) (p : Nat) : Option Nat :=
  let base := s.variant.rbase / 8
  if base ≤ p ∧ p < base + s.box.remap.length then
    match s.box.remap[p - base]? with
    | some l => if s.spareOf l = some (p - base) then some l else none
    | none => none
  else some p

/-- R334: PCLK between two scrub reads, rounded down. -/
def State.scrubEvery (s : State) : Nat := max 1 (s.fld F.LDC_SCRUB_CFG_PERIOD) * 3600 * second / s.variant.dramLines

/-- SCRUB_READ (R334). -/
def execScrubRead (dist : List Disturb) (s : State) : Host.Outcome State Fault Refusal :=
  s.answer (if s.live && s.larderReady && s.flag F.LDC_SCRUB_CFG_EN then
    let s := s.atLeast (s.larder.scrubAt + s.scrubEvery)
    let p := s.fld F.LDC_SCRUB_POS_LINE
    let t := match s.scrubLine p with
      | some l => (s.readLine 4 l dist).1
      | none => s
    (t.setFld F.LDC_SCRUB_POS_LINE ((p + 1) % s.variant.dramLines)).modLarder (fun l => { l with scrubAt := s.clock })
  else s)

/-- ECC_HOUR (R333, R442). -/
def execEccHour (s : State) : Host.Outcome State Fault Refusal :=
  s.answer (if s.live && s.larderReady then
    let s := s.atLeast (s.larder.hourAt + 3600 * second)
    let l := s.larder
    let good := if l.hourCount ≤ max 1 (s.fld F.LDC_ECC_CFG_RATE_LIMIT) then l.goodHours + 1 else 0
    (s.setFlag F.LDC_STATUS_RATE_HIGH l.hourTold).modLarder (fun l => { l with
      hourAt := s.clock, hourCount := 0, hourTold := false, lastTold := l.hourTold, goodHours := good })
  else s)

/-- Table 11.4: the refresh interval of a STATUS.REFRESH code, in thousandths of a microsecond. -/
def refreshNs (code : Nat) : Nat := if code = 0 then 7800 else if code = 1 then 3900 else 1950

/-- REFRESH (R335). -/
def execRefresh (s : State) : Host.Outcome State Fault Refusal :=
  s.answer (if s.live && s.larderReady then
    let s := s.atLeast (s.larder.refreshAt + refreshNs (s.fld F.LDC_STATUS_REFRESH) / 2)
    s.modLarder (fun l => { l with refreshAt := s.clock })
  else s)

/-- R335, Table 11.4: the interval for the hottest device, with 3 K below each rising threshold, in 0.125 K. -/
def refreshCode (now : Nat) (t : Int) : Nat :=
  if 840 < t ∨ (now = 2 ∧ 816 < t) then 2 else if 680 < t ∨ (1 ≤ now ∧ 656 < t) then 1 else 0

/-- DRAM_TEMP (R335): the temperatures beside the three devices. -/
def execDramTemp (t0 t1 t2 : BitVec 16) (s : State) : Host.Outcome State Fault Refusal :=
  s.answer (if s.live then
    let s := s.atLeast (s.larder.tempAt + msec)
    let m := max t0.toInt (max t1.toInt t2.toInt)
    let d := if t0.toInt = m then 0 else if t1.toInt = m then 1 else 2
    let t := s.setReg R.LDC_TEMP (BitVec.ofNat 36 (d * 2 ^ 16 + unsigned 16 m))
    (t.setFld F.LDC_STATUS_REFRESH (refreshCode (s.fld F.LDC_STATUS_REFRESH) m)).modLarder
      (fun l => { l with tempAt := s.clock })
  else s)

/-! ### Hoist steps (R339, R341) -/

/-- POINTER_WRITE (R339). -/
def execPointerWrite (dt : Nat) (hp : Bool) (data : Word) (s : State) : Host.Outcome State Fault Refusal :=
  s.answer (
    let s := s.pass dt
    if s.reach 7 then s.setPtr hp data else s)

/-- LINE_COMMIT (R339). -/
def execLineCommit (dt : Nat) (hp : Bool) (dist : List Disturb) (s : State) : Host.Outcome State Fault Refusal :=
  s.answer (
    let s := s.pass dt
    if s.live then s.commitOne hp dist else s)

/-- GATHER_TIMEOUT (R339). -/
def execGatherTimeout (hp : Bool) (s : State) : Host.Outcome State Fault Refusal :=
  s.answer (if s.live && (s.ptr hp).gather.isSome then (s.atLeast ((s.ptr hp).lastWrite + 5000)).commitPtr hp [] else s)

/-- R341: the words from `a` on, `n` of them, lie in the user area and the Hoist may write them. -/
def State.hoistRange (s : State) (write : Bool) (a n : Nat) : Bool :=
  s.larderReady && decide (0 < n) && decide (a + n ≤ s.variant.rbase) &&
    !(write && match s.invOp.range with | some (lo, k) => decide (a < lo + k) && decide (lo < a + n) | none => false)

/-- The ranges of an operation. -/
def State.hoistOpOk (s : State) (op src dst len : Nat) : Bool :=
  (op = 2 || s.hoistRange false src len) && (op = 4 || s.hoistRange true dst len)

/-- R341, R472: words go to consecutive addresses, line by line, but into no staged range; `fuel` bounds the lines. -/
def State.hoistWrite (s : State) (dist : List Disturb) : Nat → Nat → List Word → State
  | 0, _, _ => s
  | _, _, [] => s
  | fuel + 1, a, ws =>
    let n := 8 - a % 8
    let l := ((ws.take n).zipIdx.map (fun e => (a % 8 + e.2, e.1))).filter (fun e => !s.staged (a / 8 * 8 + e.1))
    (if l = [] then s else s.writePart 5 (a / 8) l dist).hoistWrite dist fuel (a + n) (ws.drop n)

/-- R341: FILL. -/
def State.hoistFill (s : State) (dst n : Nat) (v : Word) : State :=
  s.hoistWrite [] (n / 8 + 2) dst (List.replicate n v)

/-- Table 11.5: words from consecutive addresses for the Hoist; words of an uncorrectable line read 0. -/
def State.hoistRead (s : State) (dist : List Disturb) : Nat → Nat → Nat → State × List Word
  | 0, _, _ => (s, [])
  | fuel + 1, a, n =>
    if n = 0 then (s, [])
    else
      let k := min n (8 - a % 8)
      match s.readLine 5 (a / 8) dist with
      | (t, some ws) =>
        let (t, rest) := t.hoistRead dist fuel (a + k) (n - k)
        (t, (ws.drop (a % 8)).take k ++ rest)
      | (t, none) =>
        let t := (t.setFlag F.HST_STATUS_UNCORR true).setReg R.HST_ERR_ADDR (BitVec.ofNat 36 a)
        let (t, rest) := t.hoistRead dist fuel (a + k) (n - k)
        (t, List.replicate k 0 ++ rest)

/-- R341: COPY, as if every word were read before any is written. -/
def State.hoistCopy (s : State) (src dst n : Nat) (dist : List Disturb) : State :=
  let (t, ws) := s.hoistRead dist (n / 8 + 2) src n
  t.hoistWrite dist (n / 8 + 2) dst ws

/-- R341: the running operation completes. -/
def State.hoistEnd (s : State) (o : HoistOp) (dist : List Disturb) : State :=
  let t := s.modLarder (fun l => { l with op := none })
  if !s.hoistOpOk o.op o.src o.dst o.len then (t.opErr R.HST_OP_STAT 0x852).raiseLD 0x852 5 none
  else if o.op = 2 then (t.hoistFill o.dst o.len o.value).opDone R.HST_OP_STAT
  else if o.op = 3 then (t.hoistCopy o.src o.dst o.len dist).opDone R.HST_OP_STAT
  else
    let (t, ws) := t.hoistRead dist (o.len / 8 + 2) o.src o.len
    (t.setReg R.HST_VALUE (BitVec.ofNat 36 (crc32Words ws))).opDone R.HST_OP_STAT

/-- R341: an HST.CMD operation, by its code. -/
def State.hstCmd (s : State) (op words : Nat) : State :=
  if op = 1 then s.commitAll
  else if op = 15 then
    match s.larder.op with
    | none => s.abortIdle R.HST_OP_STAT
    | some o =>
      let t := s.modLarder (fun l => { l with op := none })
      let n := min words (o.len - 1)
      let t := if o.op = 2 then t.hoistFill o.dst n o.value else if o.op = 3 then t.hoistCopy o.src o.dst n [] else t
      t.opAborted R.HST_OP_STAT
  else if s.larder.op.isSome ∨ op < 2 ∨ 4 < op then s.setFlag F.HST_STATUS_CMD_REFUSED true
  else
    let src := s.fld F.HST_SRC_ADDR
    let dst := s.fld F.HST_DST_ADDR
    let len := s.fld F.HST_LEN_ADDR
    let t := s.opStart R.HST_OP_STAT op
    if s.hoistOpOk op src dst len then t.modLarder (fun l => { l with op := some ⟨op, src, dst, len, s.reg R.HST_VALUE⟩ })
    else (t.opErr R.HST_OP_STAT 0x852).raiseLD 0x852 5 none

/-- An HST.CMD row. -/
def State.hstRow (s : State) (op words : Nat) : State := if s.reach 7 then s.hstCmd op words else s

/-- FLUSH (R341). -/
def execFlush (dt : Nat) (s : State) : Host.Outcome State Fault Refusal := s.answer ((s.pass dt).hstRow 1 0)

/-- FILL (R341). -/
def execFill (dt : Nat) (s : State) : Host.Outcome State Fault Refusal := s.answer ((s.pass dt).hstRow 2 0)

/-- COPY (R341). -/
def execCopy (dt : Nat) (s : State) : Host.Outcome State Fault Refusal := s.answer ((s.pass dt).hstRow 3 0)

/-- CRC (R341). -/
def execCrc (dt : Nat) (s : State) : Host.Outcome State Fault Refusal := s.answer ((s.pass dt).hstRow 4 0)

/-- HST_ABORT (R341, R44): `words` words had been written. -/
def execHstAbort (dt words : Nat) (s : State) : Host.Outcome State Fault Refusal := s.answer ((s.pass dt).hstRow 15 words)

/-- HOIST_OP_END (R341). -/
def execHoistOpEnd (dt : Nat) (dist : List Disturb) (s : State) : Host.Outcome State Fault Refusal :=
  s.answer (
    let s := s.pass dt
    if s.live then
      match s.larder.op with
      | some o =>
        let t := (s.commitMany true dist s.larder.hp.closing.length)
        (t.commitMany false dist t.larder.lad.closing.length).hoistEnd o dist
      | none => s
    else s)

end Sys2Proof.Machine
end

