-- ==== Sys2Proof/Machine/Compare.lean ====
section
/-! DEFINITION. Position compare outputs (R282 to R284, R288): commands, lists and pulses. -/

namespace Sys2Proof.Machine

open Sys2Proof

/-- R288: registers that SAVE stores. -/
def cpoSaveKeys : List Nat :=
  axisIds.map (fun n => R.CPO_CFG n) ++ axisIds.map (fun n => R.CPO_LIST n) ++ axisIds.map (fun n => R.CPO_PTR n)

/-- R288: a refused command or write. -/
def State.cpoRefuse (s : State) : State := s.setFlag F.CPO_STATUS_CMD_REFUSED true

/-- Table 9.15: ARM is possible: LEN from 1 to 4096, the list within the user area, the channel of SRC in use. -/
def State.cpoCanArm (s : State) (n : AxisId) : Bool :=
  let len := s.fld (F.CPO_PTR_LEN n)
  let a := s.fld (F.CPO_LIST_ADDR n)
  s.hasAxis n.val && decide (1 ≤ len) && decide (len ≤ 4096) && decide (a % 8 = 0) && s.larderReady &&
    decide (a + len ≤ s.variant.rbase) && (s.feedOfChan (s.fld (F.CPO_CFG_SRC n))).isSome

/-- R288: CPOn is no longer armed; its list's lines are no longer wanted. -/
def State.cpoDisarm (s : State) (n : AxisId) : State :=
  ((s.setRegBit R.CPO_STATUS (17 + n.val) false).modCompare n (fun c => { c with held := [], asked := false })).unask
    (.compare n.val)

/-- R282: ARM of one output. -/
def State.cpoArm (s : State) (n : AxisId) : State :=
  if !s.cpoCanArm n then s.cpoRefuse
  else
    let src : AxisId := Fin.ofNat 8 (s.fld (F.CPO_CFG_SRC n))
    let t := (s.cpoDisarm n).setFld (F.CPO_PTR_INDEX n) 0
    let t := t.modCompare n (fun c => { c with crossAt := s.reg (R.FB_POS src) })
    (t.setRegBit R.CPO_STATUS (17 + n.val) true).askEntries n

/-- R283: a pulse that starts now. -/
def State.cpoFire (s : State) (n : AxisId) : State :=
  if s.hasAxis n.val then s.modCompare n (fun c => { c with pulseEnd := some (s.clock + s.cpoWidth n) }) else s.cpoRefuse

/-- R288: CPO.CMD with an operation and the outputs it selects; bits of absent outputs are ignored (R2). -/
def cpoCommand (op outs : Nat) (ok : Bool) (s : State) : State :=
  let each (f : AxisId → State → State) : State := s.forEach (axisIds.filter (fun n => bitOf outs n.val && s.hasAxis n.val)) f
  match op with
  | 1 => each (fun n t => t.cpoArm n)
  | 2 => each (fun n t => t.cpoDisarm n)
  | 3 => each (fun n t => t.cpoFire n)
  | 4 => s.saveOr ok 0xd cpoSaveKeys
  | _ => s.cpoRefuse

/-- A CPO.CMD row. -/
def State.cpoRow (s : State) (op outs : Nat) (ok : Bool) : State := if s.reach 0xd then cpoCommand op outs ok s else s

/-- CPO_ARM (R282). -/
def execCpoArm (dt : Nat) (outs : BitVec 8) (s : State) : Host.Outcome State Fault Refusal :=
  s.answer ((s.pass dt).cpoRow 1 outs.toNat true)

/-- CPO_STOP (R288). -/
def execCpoStop (dt : Nat) (outs : BitVec 8) (s : State) : Host.Outcome State Fault Refusal :=
  s.answer ((s.pass dt).cpoRow 2 outs.toNat true)

/-- FIRE (R288). -/
def execFire (dt : Nat) (outs : BitVec 8) (s : State) : Host.Outcome State Fault Refusal :=
  s.answer ((s.pass dt).cpoRow 3 outs.toNat true)

/-- CPO_SAVE (R288). -/
def execCpoSave (dt : Nat) (ok : Bool) (s : State) : Host.Outcome State Fault Refusal :=
  s.answer ((s.pass dt).cpoRow 4 0 ok)

/-- PULSE_END (R283): the pulse of an output ends. -/
def execPulseEnd (n : AxisId) (s : State) : Host.Outcome State Fault Refusal :=
  s.answer (match (s.compares[n]).pulseEnd with
    | some e => (s.atLeast e).modCompare n (fun c => { c with pulseEnd := none })
    | none => s)

/-- R284: entries that P already lies beyond when they arrive are missed, one after the other. -/
def State.cpoMiss (s : State) (n : AxisId) (p : Word) : Nat → State
  | 0 => s
  | fuel + 1 =>
    let c := s.compares[n]
    match c.held.head? with
    | none => s
    | some x =>
      let d := crossing x c.crossAt p
      if d = 0 ∨ !s.cpoArmed n ∨ !bitOf (s.fld (F.CPO_CFG_DIR n)) (d - 1) then s
      else
        let t := (s.setRegBit R.CPO_STATUS n.val true).count R.CPO_MISS_COUNT
        ((t.raiseLD 0x661 n.val none).cpoNext n).cpoMiss n p fuel

/-- R284: a fetched line of an output: the entries from the first one not held, up to the end of its line or of the list;
an uncorrectable line clears ARMED (Table 11.5). -/
def State.cpoArrival (s : State) (n : AxisId) (lines : Option (List (Nat × List Word))) : State :=
  let t := s.modCompare n (fun c => { c with asked := false })
  if !s.cpoArmed n then t
  else
    match lines with
    | none => t.cpoDisarm n
    | some ls =>
      let len := max 1 (s.fld (F.CPO_PTR_LEN n))
      let held := (s.compares[n]).held
      let j := (s.fld (F.CPO_PTR_INDEX n) + held.length) % len
      let ws := (ls.head?).elim [] (·.2)
      let new := (ws.drop (j % 8)).take (len - j)
      let t := (t.modCompare n (fun c => { c with held := held ++ new })).showNext n
      let src : AxisId := Fin.ofNat 8 (s.fld (F.CPO_CFG_SRC n))
      if held = [] then (t.cpoMiss n (s.reg (R.FB_POS src)) new.length).askEntries n else t.askEntries n

/-- COMPARE_LINE_ARRIVAL (R284). -/
def execCompareLineArrival (dt : Nat) (n : AxisId) (s : State) : Host.Outcome State Fault Refusal :=
  s.answer (
    let s := s.pass dt
    match s.larder.arrived.find? (fun d => d.user == .compare n.val) with
    | none => s
    | some d => (s.modLarder (fun l => { l with arrived := l.arrived.erase d })).cpoArrival n d.lines)

/-- R288: a write to CFGn, LISTn or PTRn takes effect only while CPOn is not armed. -/
def cpoWrite (n : AxisId) (key : Nat) (w : Word) (s : State) : State :=
  if s.cpoArmed n then s.cpoRefuse else s.setReg key w

/-- R288: on acceptance of a full Inventory every output stops and its settings load. -/
def State.cpoAccept (s : State) : State :=
  let t := s.forEach axisIds (fun n t => (t.cpoDisarm n).modCompare n (fun _ => .reset))
  t.loadGroup 0xd cpoSaveKeys

end Sys2Proof.Machine
end

