-- ==== Sys2Proof/Machine/Net.lean ====
section
/-! DEFINITION. What the planner and the Ladder share: PTP time (R353), addresses and sessions, and the sending of
frames (R346, R349, R355, R360). -/

namespace Sys2Proof.Machine

open Sys2Proof

/-! ### PTP time (R353) -/

/-- R353: the PTP clock is LOCKED. -/
def State.ptpLocked (s : State) : Bool := s.flag F.LAD_STATUS_PTP_LOCKED

/-- R353: PTP time at a clock instant, ns. -/
def PtpMap.at (m : PtpMap) (t : Nat) : Nat := (m.ns + ((t : Int) - m.at_) * m.num / (max 1 m.den : Nat)).toNat

/-- R353: PTP time now, ns. -/
def State.ptpNow (s : State) : Nat := s.ladder.ptp.map.at s.clock

/-- R353: the PCLK edge nearest to a PTP instant, the later of two. -/
def PtpMap.edge (m : PtpMap) (ns : Nat) : Int := m.at_ + roundDiv (((ns : Int) - m.ns) * m.den) (max 1 m.num)

/-- R354: an instant as two words. -/
def instantWords (ns : Nat) : List Word := [BitVec.ofNat 36 (ns / 1000000000), BitVec.ofNat 36 (ns % 1000000000)]

/-- R354: the instant of two words whose seconds lie nearest to a PTP time; none when the words break their layout. -/
def instantOf (now : Nat) (a b : Word) : Option Nat :=
  if 1000000000 ≤ b.toNat then none
  else
    let sec := now / 1000000000
    let d := (BitVec.ofNat 36 (a.toNat + 2 ^ 36 - sec % 2 ^ 36)).toInt
    some ((((sec : Int) + d) * 1000000000).toNat + b.toNat)

/-! ### Addresses -/

/-- R347: the Ladder settings in force. -/
def State.ladderDef (s : State) : LadderDef :=
  match (if s.power = .bare then none else s.inv.bind (·.ladder)) with
  | some d => d
  | none =>
    let n := (s.reg R.SYS_SERIAL_LO).toNat
    { ip := 169 * 2 ^ 24 + 254 * 2 ^ 16 + (1 + n % 254) * 2 ^ 8 + (1 + n / 254 % 254), mask := 0xFFFF0000, ptpRole := 0,
      ptpDomain := 0, udpPort := 47360, moduleNo := 0, partners := [] }

/-- R346: the module's IPv4 address, its MAC address. -/
def State.myIp (s : State) : BitVec 32 := BitVec.ofNat 32 (s.fld F.LAD_IP_ADDR_ADDR)
def State.myMac (s : State) : BitVec 48 := BitVec.ofNat 48 (0x0250D0 * 2 ^ 24 + (s.reg R.SYS_SERIAL_LO).toNat % 2 ^ 24)

/-- The Ladder ports of the variant. -/
def State.ports (s : State) : List Nat := match s.variant with | .lkm8836 => [0, 1] | .lkm4836 => [0]

/-- Ports behind which an address lies. -/
def State.portsOf (s : State) (ip : BitVec 32) : List Nat :=
  match s.ladder.arp.find? (fun e => e.1 == ip) with
  | none => s.ports
  | some (_, mac, _) =>
    match s.ladder.fdb.find? (fun e => e.1 == mac) with
    | some (_, p, _) => [p]
    | none => s.ports

/-- R347, Tables 12.6 to 12.8: the settings in force show. -/
def State.ladderInForce (s : State) : State :=
  let d := s.ladderDef
  let t := s.setFld F.LAD_IP_ADDR_ADDR d.ip
  let t := t.setFlag F.LAD_STATUS_RECOVERY (s.power = .bare || (s.inv.bind (·.ladder)).isNone)
  t.setFld F.LAD_PTP_STAT_DOMAIN d.ptpDomain

/-- R361: every session ends, and with it what hangs on sessions. -/
def State.endSessions (s : State) : State :=
  s.modLadder (fun l => { l with
    slots := List.replicate 16 none, pendings := [], asked := [], owners := List.replicate 8 none, ending := none,
    msgs := [], txns := [], run := none, events := [], acted := [] })

/-! ### Sending -/

/-- R349: something goes to the transmit queues. -/
def State.emit (s : State) (queue : Nat) (ports : List Nat) (b : SentBody) : State :=
  s.modLadder (fun l => { l with sent := l.sent ++ [⟨queue, ports, b⟩] })

/-- R359: K_site as bytes. -/
def State.siteKey (s : State) : List Nat := beBytes 32 s.box.key.toNat

/-- R355: the header and the body of a frame. -/
def frameBytes (resp auth : Bool) (typ seq words status : Nat) (wrap : Bool) (arg : Nat) (body : List Nat) : List Nat :=
  [16 + 8 * bit resp + 4 * bit auth, typ] ++ beBytes 6 seq ++ beBytes 2 words ++ [status, bit wrap] ++ beBytes 4 arg ++ body

/-- R360: the tag of a frame between two addresses and ports. -/
def tagOf (key : BitVec 256) (src dst : BitVec 32) (sport dport : Nat) (f : List Nat) : List Nat :=
  (hmac (beBytes 32 key.toNat)
    (beBytes 4 src.toNat ++ beBytes 4 dst.toNat ++ beBytes 2 sport ++ beBytes 2 dport ++ f)).take 16

/-- R346: a datagram to an address; an address not in the ARP cache is asked for as well. -/
def State.sendTo (s : State) (queue : Nat) (ip : BitVec 32) (port : BitVec 16) (bytes : List Nat) : State :=
  let t := if s.ladder.arp.any (fun e => e.1 == ip) || ip = BitVec.allOnes 32 then s
    else s.emit 3 s.ports (.arp true (BitVec.allOnes 48) ip)
  t.emit queue (t.portsOf ip) (.ladder ip port bytes)

/-- The session of a slot. -/
def State.session (s : State) (slot : Nat) : Option Session := (s.ladder.slots[slot]?).join

/-- A session changes. -/
def State.modSession (s : State) (slot : Nat) (f : Session → Session) : State :=
  s.modLadder (fun l => { l with slots := l.slots.modify slot (Option.map f) })

/-- R360, R362: an authenticated frame that the module originates in a session. -/
def State.sendIn (s : State) (queue slot typ words arg : Nat) (body : List Nat) : State :=
  match (s.session slot).filter (fun e => decide (e.sent < 2 ^ 48 - 1)) with
  | none => s
  | some e =>
    let f := frameBytes false true typ (e.sent + 1) words 0 false arg body
    let tag := tagOf e.keyOut s.myIp e.ip s.ladderDef.udpPort e.port.toNat f
    (s.modSession slot (fun e => { e with sent := e.sent + 1 })).sendTo queue e.ip e.port (f ++ tag)

/-- R361: the slot belongs to a named partner. -/
def State.namedSlot (s : State) (slot : Nat) : Bool := decide (slot < s.ladderDef.partners.length)

/-- R370, R369: the slot of the partner that has MODULE_NO `m`. -/
def State.slotOfModule (s : State) (m : Nat) : Option Nat :=
  (List.range 16).find? (fun i => match s.session i with
    | some e => (e.isModule || s.namedSlot i) && decide (e.moduleNo = m)
    | none => false)

/-- The modules of a MODULES mask other than this one. -/
def State.otherModules (s : State) (mask : Nat) : List Nat :=
  (List.range 4).filter (fun m => bitOf mask m && decide (m ≠ s.ladderDef.moduleNo))

/-- R370: one sending of an event to each module of MODULES. -/
def State.sendEvent (s : State) (kind id modules instant : Nat) : State :=
  let w1 : Word := BitVec.ofNat 36 (kind * 2 ^ 32 + modules * 2 ^ 16 + id)
  s.forEach (s.otherModules modules) (fun m t =>
    match t.slotOfModule m with
    | some slot => t.sendIn 1 slot 9 3 0 (packWords (w1 :: instantWords instant))
    | none => t)

/-- R370: a HOLD (1), RESUME (2) or RESUME_STOP (3) is sent for the first of its three times. -/
def State.newEvent (s : State) (kind modules instant : Nat) : State :=
  let id := (s.ladder.eventId + 1) % 2 ^ 16
  let t := s.modLadder (fun l => { l with
    eventId := id, events := l.events ++ [⟨kind, id, modules, instant, 2, s.clock + 50000⟩] })
  t.sendEvent kind id modules instant

/-- R370: a HEARTBEAT in a session. -/
def State.sendHeartbeat (s : State) (slot : Nat) : State :=
  let id := (s.ladder.eventId + 1) % 2 ^ 16
  (s.modLadder (fun l => { l with eventId := id })).sendIn 1 slot 9 1 0 (packWords [BitVec.ofNat 36 id])

/-- R369: SYNC_ARM to each other module of MODULES. -/
def State.sendSyncArm (s : State) (modules id held ta : Nat) : State :=
  let w1 : Word := BitVec.ofNat 36 (held * 2 ^ 20 + modules * 2 ^ 16 + id)
  s.forEach (s.otherModules modules) (fun m t =>
    match t.slotOfModule m with
    | some slot => t.sendIn 1 slot 8 3 0 (packWords (w1 :: instantWords ta))
    | none => t)

end Sys2Proof.Machine
end

