-- ==== Sys2Proof/Machine/Blocks.lean ====
section
/-! DEFINITION. Motion blocks (R291 to R306): what a line of a program says, which lines are malformed, and how blocks
take their place in look-ahead, with corners and blends. -/

namespace Sys2Proof.Machine

open Sys2Proof

/-- A program runs, or comes to rest after an abort. -/
def State.planOn (s : State) : Bool := !s.planner.axes.isEmpty

/-! ### Layout (R292 to R294) -/

/-- Bits [hi:lo] of a word. -/
def fieldOf (w : Word) (hi lo : Nat) : Nat := bitsOf w.toNat hi lo

/-- Axes of a mask. -/
def maskAxes (m : Nat) : List Nat := (List.range 8).filter (fun n => bitOf m n)

/-- A line address within the user area. -/
def State.lineOk (s : State) (line : Nat) : Bool := s.larderReady && decide (line * 8 + 8 ≤ s.variant.rbase)

/-- Every word but those listed keeps within its mask; words not listed are 0. -/
def onlyBits (ws : List Word) (l : List (Nat × Nat)) : Bool :=
  (List.range 7).all (fun i =>
    let w := (ws.getD (i + 1) 0).toNat
    match l.find? (fun e => e.1 == i + 1) with
    | some (_, m) => w &&& m == w
    | none => w == 0)

/-- Masks of Table 10.4. -/
abbrev mAll : Nat := 2 ^ 36 - 1
abbrev m32 : Nat := 2 ^ 32 - 1
abbrev m35 : Nat := 2 ^ 35 - 1
abbrev m27 : Nat := 2 ^ 27 - 1

/-- R293, R294: the words of a block keep their layout. -/
def layoutOk (ws : List Word) : Bool :=
  let h := ws.getD 0 0
  let axes := (maskAxes (fieldOf h 31 24)).length
  let first (k : Nat) : List (Nat × Nat) := (List.range k).map (fun i => (i + 1, mAll))
  match fieldOf h 35 32 with
  | 1 => onlyBits ws (first axes ++ [(7, if fieldOf h 20 20 = 1 then m32 else m35)])
  | 2 => onlyBits ws (first 4 ++ [(5, mAll - (2 ^ 30 - 2 ^ 27) - (2 ^ 18 - 1)), (7, m35)])
  | 3 => onlyBits ws (first 4 ++ [(5, mAll - (2 ^ 18 - 1)), (6, mAll), (7, m35)])
  | 4 => onlyBits ws (first axes ++ [(7, m35)])
  | 5 => onlyBits ws [(1, m32)]
  | 6 => onlyBits ws [(1, m35), (2, 2 ^ 35 + (2 ^ 24 - 1)), (3, 2 ^ 36 - 2 ^ 32), (4, mAll)]
  | 7 => onlyBits ws [(1, m32), (2, m32)]
  | 8 => onlyBits ws [(1, m32), (2, m32), (3, m32), (4, 2 ^ 35 + m27)]
  | 9 => onlyBits ws [(1, m27), (2, 3), (3, m32), (4, m32)]
  | 10 => onlyBits ws [(1, m27), (2, 2 ^ 16 - 1)]
  | 11 => onlyBits ws [(1, m27)]
  | 13 => onlyBits ws [(1, 2 ^ 20 - 1), (2, m32)]
  | 12 | 14 => onlyBits ws []
  | _ => false

/-- R294: the axes of a motion block agree with its program and its plane. -/
def State.axesOk (s : State) (ws : List Word) : Bool :=
  let h := ws.getD 0 0
  let typ := fieldOf h 35 32
  let axes := maskAxes (fieldOf h 31 24)
  let w5 := ws.getD 5 0
  let i := fieldOf w5 35 33
  let j := fieldOf w5 32 30
  let k := fieldOf w5 29 27
  if typ ∈ [1, 2, 3, 4] then
    decide (axes ≠ []) && decide (axes.length ≤ 6) && axes.all (fun n => decide (n ∈ s.planner.axes)) &&
      axes.all (fun n => !decide (n ∈ s.planner.velRead)) &&
      (if typ = 2 then decide (i ≠ j) && axes == maskAxes (2 ^ i ||| 2 ^ j)
       else if typ = 3 then decide (i ≠ j) && decide (k ≠ i) && decide (k ≠ j) && axes == maskAxes (2 ^ i ||| 2 ^ j ||| 2 ^ k)
       else true)
  else decide (axes = [])

/-- R293, R294: ranges of the fields. -/
def State.rangeOk (s : State) (ws : List Word) : Bool :=
  let h := ws.getD 0 0
  let rapid := fieldOf h 21 21 = 1
  let timed := fieldOf h 20 20 = 1
  let w (i : Nat) : Word := ws.getD i 0
  decide (fieldOf h 19 18 = 0) && (!(rapid || timed) || decide (fieldOf h 35 32 = 1)) && !(rapid && timed) &&
    match fieldOf h 35 32 with
    | 1 => !timed || decide (w 7 ≠ 0)
    | 5 => decide (w 1 ≠ 0)
    | 6 => decide (fieldOf (w 3) 35 35 = 0) || decide (fieldOf (w 3) 34 32 ∈ s.planner.axes)
    | 8 => decide (fieldOf (w 4) 35 35 = 0) || s.lineOk (fieldOf (w 4) 26 0)
    | 9 => decide (fieldOf (w 2) 1 0 ≠ 3) && s.lineOk (fieldOf (w 1) 26 0)
    | 10 => decide (1 ≤ fieldOf (w 2) 15 0) && s.lineOk (fieldOf (w 1) 26 0)
    | 11 => s.lineOk (fieldOf (w 1) 26 0)
    | 13 => bitOf (fieldOf (w 1) 19 16) s.ladderDef.moduleNo
    | _ => true

/-- R294: the block is well formed. -/
def State.blockOk (s : State) (ws : List Word) : Bool := layoutOk ws && s.axesOk ws && s.rangeOk ws

/-! ### Axes of the path -/

/-- PSCALE of AX0 to AX7. -/
def State.pscales (s : State) : List Nat := axisIds.map (fun n => (s.reg (R.PLN_PSCALE n)).toNat)

/-- R299: the limits in force of AX0 to AX7, in path units. -/
def State.pathLims (s : State) : List AxisLim :=
  axisIds.map (fun n =>
    let c := (s.axes[n]).cfg
    let p : Int := (s.reg (R.PLN_PSCALE n)).toNat
    ⟨c.vmax * p / 16, c.amax * p / 4096, c.jmax * p / 2 ^ 20⟩)

/-- Ticks by axis in 2^-40 tick. -/
def inUnits (v : List Int) : List Int := v.map (· * uTick)

/-- R293: the end coordinate of an axis: absolute, modulo 2^36, or an increment. -/
def endOf (inc : Bool) (p : Int) (w : Word) : Int := if inc then p + w.toInt else p + posDiff w (posWord p)

/-! ### Look-ahead -/

/-- A piece of a curve. -/
def State.pieceOf (s : State) (axes : List Nat) (c : Curve) (feed : Option Nat) (exact : Bool) (lims : Int → List Stretch) :
    Piece :=
  let sc := s.pscales
  let table := chordTable c axes sc
  let len := match c with
    | .line p0 p1 => pathLen sc axes (vecSub p1 p0)
    | .arc p0 p1 _ _ r0 r1 _ sweep =>
      let plane : Int := (sweep.natAbs : Int) * (r0 + r1) / 2 ^ 48 * refPi / 2 ^ 48
      let k := pathLen sc (axes.drop 2) (vecSub p1 p0)
      isqrtBig (plane * plane + k * k).toNat
    | _ => table.getLastD 0
  { axes := axes, scales := sc, curve := c, chords := table, lo := 0, hi := len, len := len, stretches := lims len,
    entry := none, feed := feed, timed := none, stop := exact, last := true }

/-- The last piece in look-ahead that only SET_IO, velocity settings and skipped blocks follow: what is before it, the
item, its piece, what follows it. -/
def lastMove (l : List PlanItem) : Option (List PlanItem × PlanItem × Piece × List PlanItem) :=
  let rec go : List PlanItem → List PlanItem → Option (List PlanItem × PlanItem × Piece × List PlanItem)
    | [], _ => none
    | i :: before, after =>
      match i.op with
      | .move p => some (before.reverse, i, p, after)
      | .setIo .. => go before (i :: after)
      | .vel .. => go before (i :: after)
      | .pass => go before (i :: after)
      | _ => none
  go l.reverse []

/-- The piece is an arc. -/
def Piece.isArc (p : Piece) : Bool := match p.curve with | .arc .. => true | _ => false

/-- R302: the limit at a junction turned by a small angle. -/
def State.junctionSpeed (s : State) (axes : List Nat) (h : Int) : Option Int :=
  let a := smallAngle h
  if a ≤ 0 then none else ((axes.map (fun n => ((s.pathLims).getD n ⟨0, 0, 0⟩).a)).min?).map (fun m => m * 2 ^ 40 / a)

/-- R303: the blend between the last piece and a new one. -/
def State.blend (s : State) (a b : Piece) (d h : Int) : Piece × Piece :=
  let c := a.at_ a.len
  let e1 := a.velAt a.len d
  let e2 := b.velAt 0 d
  let pts := [vecSub c e1, vecSub c (vecScale e1 1 2), c, vecAdd c (vecScale e2 1 2), vecAdd c e2]
  let axes := (a.axes ++ b.axes.filter (fun n => n ∉ a.axes))
  let lims (len : Int) : List Stretch := [curvedLimits axes s.pathLims len (blendRadius d h)]
  (s.pieceOf axes (.bezier pts 0 32) a.feed false lims, s.pieceOf axes (.bezier pts 32 64) b.feed false lims)

/-- R302, R303: a motion piece takes its place in look-ahead. -/
def State.addMove (s : State) (addr lineNo depth : Nat) (p : Piece) : State :=
  let q := s.planner.queue
  let item (p : Piece) : PlanItem := ⟨addr, lineNo, depth, .move p⟩
  let put (l : List PlanItem) : State := s.modPlan (fun x => { x with queue := l })
  match lastMove q with
  | none => put (q ++ [item p])
  | some (before, i, a, after) =>
    let stopHere : State := put (before ++ [{ i with op := .move { a with stop := true } }] ++ after ++ [item p])
    if a.stop || p.timed.isSome then stopHere
    else
      let h := cornerChord a p
      if h ≤ smallChord then put (q ++ [item { p with entry := s.junctionSpeed (a.axes ++ p.axes) h }])
      else if a.isArc || p.isArc || decide (s.planner.tol = 0) then stopHere
      else
        let d := blendDist ((s.planner.tol : Int) * 2 ^ 40) h a.len p.len
        let running := decide (before = []) && decide (a.hi - d < s.planner.s)
        if running || decide (d ≤ 0) || decide (a.hi ≠ a.len) then stopHere
        else
          let (x, y) := s.blend a p d h
          put (before ++ [{ i with op := .move { a with hi := a.len - d, last := false } }, { i with op := .move x }] ++ after ++
            [item { y with last := false }, item { p with lo := d }])

/-- R297: a SPLINE block goes to look-ahead once the point after it is known. -/
def State.closeSpline (s : State) (next : Option (List Int)) : State :=
  match s.planner.open_ with
  | none => s
  | some o =>
    let c : Curve := .spline (inUnits o.a) (inUnits o.b) (inUnits o.c) (inUnits (next.getD o.c))
    (s.modPlan (fun p => { p with open_ := none })).addMove o.addr o.lineNo o.depth
      (s.pieceOf o.axes c (some o.feed) o.exact (fun _ => splineLimits c s.pscales o.axes s.pathLims))

/-- R295: reading stops with a fault at a line; a SPLINE run ends with its last good block. -/
def State.planErr (s : State) (line code : Nat) : State :=
  (s.closeSpline none).modPlan (fun p => { p with err := some (code, line), halted := true })

/-- Another item takes its place in look-ahead. -/
def State.addItem (s : State) (addr lineNo depth : Nat) (op : PlanOp) : State :=
  s.modPlan (fun p => { p with queue := p.queue ++ [⟨addr, lineNo, depth, op⟩] })

/-- R302, R304: the path comes to rest at the end of what stands in look-ahead. -/
def State.forceStop (s : State) : State :=
  match lastMove s.planner.queue with
  | none => s
  | some (before, i, a, after) =>
    s.modPlan (fun x => { x with queue := before ++ [{ i with op := .move { a with stop := true } }] ++ after })

/-- R297: the end point of a LINE or SPLINE block. -/
def State.lineEnd (s : State) (ws : List Word) (axes : List Nat) (inc : Bool) : List Int :=
  axes.zipIdx.foldl (fun p e => p.set e.1 (endOf inc (p.getD e.1 0) (ws.getD (e.2 + 1) 0))) s.planner.pos

/-- R297, R304: a LINE block. -/
def State.readStraight (s : State) (line lineNo depth : Nat) (ws : List Word) : State :=
  let h := ws.getD 0 0
  let axes := maskAxes (fieldOf h 31 24)
  let p0 := s.planner.pos
  let p1 := s.lineEnd ws axes (fieldOf h 23 23 = 1)
  let f := fieldOf (ws.getD 7 0) 34 0
  let n := fieldOf (ws.getD 7 0) 31 0
  let timed := decide (fieldOf h 20 20 = 1)
  if p1 = p0 then s.addItem line lineNo depth .pass
  else if timed && !axisIds.all (fun k =>
      let c := (s.axes[k]).cfg
      timedOk (p1.getD k.val 0 - p0.getD k.val 0).natAbs n c.vmax c.amax c.jmax) then s.planErr line 0x725
  else
    let c : Curve := .line (inUnits p0) (inUnits p1)
    let feed := if fieldOf h 21 21 = 1 then none else some (if f = 0 then s.planner.feed else f)
    let p := s.pieceOf axes c feed (timed || decide (fieldOf h 22 22 = 1))
      (fun _ => [straightLimits s.pscales axes s.pathLims (vecSub (inUnits p1) (inUnits p0))])
    let p := if timed then { p with timed := some n } else p
    (s.addMove line lineNo depth p).modPlan (fun x => { x with pos := p1 })

/-- R297: a SPLINE block. -/
def State.readSpline (s : State) (line lineNo depth : Nat) (ws : List Word) : State :=
  let h := ws.getD 0 0
  let axes := maskAxes (fieldOf h 31 24)
  let p0 := s.planner.pos
  let p1 := s.lineEnd ws axes (fieldOf h 23 23 = 1)
  let f := fieldOf (ws.getD 7 0) 34 0
  if p1 = p0 then s.addItem line lineNo depth .pass
  else
    let before := (s.planner.open_).elim p0 (·.b)
    let t := s.closeSpline (some p1)
    t.modPlan (fun x => { x with
      pos := p1,
      open_ := some ⟨line, lineNo, depth, axes, if f = 0 then x.feed else f, fieldOf h 22 22 = 1, before, p0, p1⟩ })

/-- R297, R298: an ARC or HELIX block. -/
def State.readArc (s : State) (line lineNo depth : Nat) (ws : List Word) : State :=
  let h := ws.getD 0 0
  let helix := fieldOf h 35 32 = 3
  let inc := decide (fieldOf h 23 23 = 1)
  let w (i : Nat) : Word := ws.getD i 0
  let i := fieldOf (w 5) 35 33
  let j := fieldOf (w 5) 32 30
  let k := fieldOf (w 5) 29 27
  let ccw := fieldOf (w 5) 26 26 = 1
  let turns := fieldOf (w 5) 25 18
  let p0 := s.planner.pos
  let p1 := (p0.set i (endOf inc (p0.getD i 0) (w 1))).set j (endOf inc (p0.getD j 0) (w 2))
  let p1 := if helix then p1.set k (endOf inc (p0.getD k 0) (w 6)) else p1
  let sc := s.pscales
  let pu (n : Nat) (ticks : Int) : Int := ticks * 2 ^ 8 * (sc.getD n 0 : Nat)
  let xs := pu i (-(w 3).toInt)
  let ys := pu j (-(w 4).toInt)
  let xe := pu i (p1.getD i 0 - p0.getD i 0 - (w 3).toInt)
  let ye := pu j (p1.getD j 0 - p0.getD j 0 - (w 4).toInt)
  let r0 : Int := isqrtBig (xs * xs + ys * ys).toNat
  let r1 : Int := isqrtBig (xe * xe + ye * ye).toNat
  if max (s.planner.tol * 2 ^ 40) (2 ^ 40) < (r0 - r1).natAbs then s.planErr line 0x723
  else
    let a0 := atanTurn xs ys
    let a1 := atanTurn xe ye
    let same := decide (p1.getD i 0 = p0.getD i 0 ∧ p1.getD j 0 = p0.getD j 0)
    let part := if same then (if turns = 0 then (turn48 : Int) else 0)
      else if ccw then (a1 - a0) % turn48 else (a0 - a1) % turn48
    let sweep := (if ccw then 1 else -1) * (part + (turns : Int) * turn48)
    let axes := [i, j] ++ (if helix then [k] else [])
    let c : Curve := .arc (inUnits p0) (inUnits p1) ((p0.getD i 0 + (w 3).toInt) * uTick) ((p0.getD j 0 + (w 4).toInt) * uTick)
      r0 r1 a0 sweep
    let f := fieldOf (w 7) 34 0
    let dk := pathLen sc [k] (vecSub (inUnits p1) (inUnits p0))
    let lk := s.pathLims.getD k ⟨0, 0, 0⟩
    let lims (len : Int) : List Stretch :=
      let x := curvedLimits [i, j] s.pathLims len (min r0 r1)
      [if helix ∧ 0 < dk then x.under ⟨len, lk.v * len / dk, lk.a * len / dk, lk.j * len / dk⟩ else x]
    let p := s.pieceOf axes c (some (if f = 0 then s.planner.feed else f)) (fieldOf h 22 22 = 1) lims
    (s.addMove line lineNo depth p).modPlan (fun x => { x with pos := p1 })

/-- R305: a FEED block. -/
def State.readFeed (s : State) (line lineNo depth : Nat) (ws : List Word) : State :=
  let w (i : Nat) : Word := ws.getD i 0
  let f := fieldOf (w 1) 34 0
  let t := s.modPlan (fun p => { p with
    feed := if f = 0 then p.feed else f,
    tol := if fieldOf (w 2) 35 35 = 1 then fieldOf (w 2) 23 0 else p.tol })
  if fieldOf (w 3) 35 35 = 0 then t.addItem line lineNo depth .pass
  else
    let n := fieldOf (w 3) 34 32
    let v := (w 4).toInt
    let rest := t.planner.velRead.filter (· ≠ n)
    let t := t.modPlan (fun p => { p with velRead := if v = 0 then rest else n :: rest })
    t.addItem line lineNo depth (.vel n v)

/-- R305, R306: a LOOP block: where reading goes on, or none when a ninth count would be active. -/
def State.readLoop (s : State) (line lineNo depth : Nat) (ws : List Word) : State :=
  let target := fieldOf (ws.getD 1 0) 26 0
  let count := fieldOf (ws.getD 2 0) 15 0
  let key (e : Nat × Nat × Nat) : Bool := e.1 == line && e.2.1 == depth
  let l := s.planner.loops
  let c := ((l.find? key).map (·.2.2)).getD 1
  let others := l.filter (fun e => !key e)
  let t := s.addItem line lineNo depth .pass
  if c < count then
    if 8 ≤ others.length then s.planErr line 0x724
    else t.modPlan (fun p => { p with loops := (line, depth, c + 1) :: others, line := target })
  else t.modPlan (fun p => { p with loops := others, line := line + 1 })

/-- R305: a motion block moves an axis whose velocity mode has not ended. -/
def State.blockWaits (s : State) (ws : List Word) : Bool :=
  let h := ws.getD 0 0
  decide (fieldOf h 35 32 ≤ 4) && (maskAxes (fieldOf h 31 24)).any (fun n =>
    decide (n ∈ s.planner.velAxes) || s.planner.queue.any (fun i => match i.op with | .vel m _ => m == n | _ => false))

/-- R291 to R306: a line that has been read takes its place in look-ahead; where it moves an axis that still leaves velocity
mode, it waits as it was read. -/
def State.readBlock (s : State) (line : Nat) (ws : List Word) : State :=
  let h := ws.getD 0 0
  let lineNo := fieldOf h 17 0
  let depth := s.planner.stack.length
  let w (i : Nat) : Word := ws.getD i 0
  let typ := fieldOf h 35 32
  let s := if typ = 4 then s else s.closeSpline none
  if !s.blockOk ws then s.planErr line 0x722
  else if s.blockWaits ws then s.modPlan (fun p => { p with deferred := some (line, ws) })
  else
    let t := s.modPlan (fun p => { p with line := line + 1 })
    match typ with
    | 1 => t.readStraight line lineNo depth ws
    | 2 => t.readArc line lineNo depth ws
    | 3 => t.readArc line lineNo depth ws
    | 4 => t.readSpline line lineNo depth ws
    | 5 => t.forceStop.addItem line lineNo depth (.dwell (fieldOf (w 1) 31 0))
    | 6 => t.readFeed line lineNo depth ws
    | 7 => t.addItem line lineNo depth (.setIo (fieldOf (w 1) 31 0) (fieldOf (w 2) 31 0))
    | 8 =>
      let timeout := if fieldOf (w 4) 35 35 = 1 then some (fieldOf (w 4) 26 0) else none
      (t.forceStop.addItem line lineNo depth (.waitIo (fieldOf (w 1) 31 0) (fieldOf (w 2) 31 0) (fieldOf (w 3) 31 0) timeout)).modPlan
        (fun p => { p with halted := timeout.isSome })
    | 9 =>
      let target := fieldOf (w 1) 26 0
      if fieldOf (w 2) 1 0 = 0 then (t.addItem line lineNo depth .pass).modPlan (fun p => { p with line := target })
      else (t.forceStop.addItem line lineNo depth
        (.jump (fieldOf (w 2) 1 0 = 1) (fieldOf (w 3) 31 0) (fieldOf (w 4) 31 0) target)).modPlan
          (fun p => { p with halted := true })
    | 10 => t.readLoop line lineNo depth ws
    | 11 =>
      if 8 ≤ depth then s.planErr line 0x724
      else (t.addItem line lineNo depth .pass).modPlan (fun p => { p with
        stack := (line + 1) :: p.stack, line := fieldOf (w 1) 26 0 })
    | 12 =>
      match s.planner.stack with
      | [] => s.planErr line 0x724
      | a :: rest => (t.addItem line lineNo depth .pass).modPlan (fun p => { p with stack := rest, line := a })
    | 13 =>
      (t.forceStop.addItem line lineNo depth (.sync (fieldOf (w 1) 19 16) (fieldOf (w 1) 15 0) (fieldOf (w 2) 31 0))).modPlan
        (fun p => { p with halted := true })
    | _ => (t.forceStop.addItem line lineNo depth .fin).modPlan (fun p => { p with halted := true })

/-- Motion blocks that stand in look-ahead after the one in execution. -/
def State.aheadBlocks (s : State) : Nat :=
  ((s.planner.queue.drop 1).filter (fun i => match i.op with | .move p => p.last | _ => false)).length +
    bit s.planner.open_.isSome

/-- R301: LOOKAHEAD in force. -/
def State.lookahead (s : State) : Nat := clampInt 16 4096 (s.fld F.PLN_CFG_LOOKAHEAD) |>.toNat

/-- R291: the planner asks for the next line when look-ahead has room. -/
def State.planAsk (s : State) : State :=
  let p := s.planner
  let t := s.setFld F.PLN_LA_STAT_AHEAD s.aheadBlocks
  if !s.planOn || !p.primed || p.asked || p.halted || p.deferred.isSome || p.aborting || p.err.isSome || decide (s.lookahead ≤ s.aheadBlocks) then t
  else if !s.lineOk p.line then
    let t := t.planErr p.line 0x722
    t.setFld F.PLN_LA_STAT_AHEAD t.aheadBlocks
  else (t.modPlan (fun p => { p with asked := true })).ask 2 .planner [p.line]

/-- BLOCK_READ (R291, R295): a line of the program arrives. -/
def blockRead (s : State) : State :=
  match s.larder.arrived.find? (fun d => d.user == .planner) with
  | none => s
  | some d =>
    let t := (s.modLarder (fun l => { l with arrived := l.arrived.erase d })).modPlan (fun p => { p with asked := false })
    if !s.planOn || s.planner.aborting || s.planner.err.isSome then t
    else
      match d.lines with
      | some ((line, ws) :: _) => (t.readBlock line ws).planAsk
      | _ => t.planErr s.planner.line 0x721

def execBlockRead (dt : Nat) (s : State) : Host.Outcome State Fault Refusal :=
  s.answer (
    let s := s.pass dt
    if s.live then blockRead s else s)

end Sys2Proof.Machine
end

