-- ==== Sys2Proof/Machine/Planner.lean ====
section
/-! DEFINITION. The planner (R289, R290, R299 to R310, R315 to R319): commands, the motion frame of a program, waits,
coordination with other modules, and the end of a program. -/

namespace Sys2Proof.Machine

open Sys2Proof

/-! ### What the planner shows (Table 10.8) -/

/-- The path is at rest. -/
def State.pathRest (s : State) : Bool := decide (s.planner.v = 0) && decide (s.planner.a = 0)

/-- The piece in execution. -/
def State.piece (s : State) : Option Piece :=
  match s.planner.queue.head? with
  | some i => match i.op with | .move p => some p | _ => none
  | none => none

/-- R307: OVERRIDE in force. -/
def State.override (s : State) : Nat := min 2048 (s.fld F.PLN_OVR_OVERRIDE)

/-- R307: an override of 0 holds the path. -/
def State.overrideHold (s : State) : Bool :=
  decide (s.override = 0) && (s.piece).all (fun p => p.timed.isNone) && !(match s.planner.wait with | .dwell _ => true | _ => false)

/-- R308, R317, R307: a feedhold is in force. -/
def State.holding (s : State) : Bool := s.planner.hold || s.planner.groupHold || s.overrideHold

/-- R308: a timed block has come to its hold. -/
def State.holdFrames (s : State) : Nat := max 1 (s.fld F.PLN_CFG_HOLD_FRAMES)

/-- The path stands under a feedhold. -/
def State.heldNow (s : State) : Bool :=
  s.pathRest && match s.piece with
    | some p => p.timed.isNone || decide (s.planner.ramp = s.holdFrames) || decide (s.planner.time = 0)
    | none => true

/-- STATE and CAUSE of PLN.EXEC. -/
def State.execState (s : State) : Nat × Nat :=
  let p := s.planner
  if !s.planOn then (0, 0)
  else if p.aborting then (5, 0)
  else if p.wait = .sync then (if p.late then 3 else 4, 3)
  else if s.holding then
    (if s.heldNow then 3 else 2, if p.hold then 7 else if p.groupHold then 6 else 5)
  else match p.wait with
    | .dwell _ => (4, 1)
    | .io _ => (4, match p.queue.head? with | some ⟨_, _, _, .jump ..⟩ => 4 | _ => 2)
    | _ => (1, 0)

/-- Table 10.8 to 10.10: the planner's registers follow its state. -/
def State.planShow (s : State) : State :=
  let (st, cause) := s.execState
  let t := (s.setFld F.PLN_EXEC_STATE st).setFld F.PLN_EXEC_CAUSE cause
  let t := match s.planner.queue.head? with
    | some i => ((t.setFld F.PLN_EXEC_LINE_NO i.lineNo).setFld F.PLN_EXEC_ADDR_ADDR i.addr).setFld F.PLN_EXEC_DEPTH i.depth
    | none => t
  let t := t.setFlag F.PLN_EXEC_TIMED ((s.piece).any (fun p => p.timed.isSome))
  let t := t.setFlag F.PLN_EXEC_BLEND ((s.piece).any (fun p => match p.curve with | .bezier .. => true | _ => false))
  let t := t.setFld F.PLN_LA_STAT_AHEAD s.aheadBlocks
  t.setReg R.PLN_PATH_VEL (posWord (roundDiv s.planner.v (2 ^ 28)))

/-! ### The end of a program (R305, R309, R310) -/

/-- Axis ids of a list of numbers. -/
def idsOf (l : List Nat) : List AxisId := axisIds.filter (fun n => decide (n.val ∈ l))

/-- The planner is idle; what partners have sent and STREAM set-points stay. -/
def State.planClear (s : State) : State :=
  let t := s.modPlan (fun p => { Planner.reset with held := p.held, points := p.points, missed := p.missed })
  ((t.setReg R.PLN_EXEC 0).setReg R.PLN_PATH_VEL 0).setFld F.PLN_LA_STAT_AHEAD 0 |>.unask .planner

/-- R317: a group segment's partners learn of a feedhold. -/
def State.groupTell (s : State) (kind : Nat) : State :=
  let g := s.fld F.PLN_EXEC_GROUP
  if g = 0 then s
  else
    let th := s.ptpNow + max 1 (s.fld F.PLN_SYNC_CFG_HOLD_LEAD) * 100000
    (s.newEvent kind g th).modPlan (fun p => { p with groupAt := some (th, kind = 2) })

/-- R295, R305: the program ends at rest: every axis of it enters ARMED. -/
def State.planFinish (s : State) (err : Option Nat) : State :=
  let t := s.forEach (idsOf s.planner.axes) (fun n t =>
    if t.axisSt n = stRunning then ((t.axisTo n stArmed).standStill n).modAxis n (fun a => { a with restSince := s.clock }) else t)
  let t := match err with
    | some code => (t.opErr R.PLN_OP_STAT code).groupTell 1
    | none => if s.opBusy R.PLN_OP_STAT then t.opDone R.PLN_OP_STAT else t
  t.planClear

/-- R305: the program is about to end, and its velocity axes come to rest at the planner's request. -/
def State.planEnding (s : State) : Bool :=
  s.planner.aborting ||
    match s.planner.queue.head? with
    | some i => i.op == .fin
    | none => s.planner.err.isSome

/-- R310: axes of the program that have left it. -/
def State.lostAxes (s : State) : List AxisId :=
  (idsOf s.planner.axes).filter (fun n =>
    decide (s.axisSt n ≠ stRunning) && !(decide (n.val ∈ s.planner.velAxes) && s.planEnding && !(s.faultStopping n) &&
      decide (s.axisSt n = stStopping ∨ s.axisSt n = stArmed)))

/-- R310: a program that has lost an axis ends; its other axes take a quick stop. -/
def State.programCheck (s : State) : State :=
  match s.lostAxes with
  | [] => s
  | n :: _ =>
    if !s.planOn then s
    else
      let t := s.raiseLD 0x711 n.val (some n.val)
      let t := t.forEach (idsOf s.planner.axes) (fun m t => if t.axisSt m = stRunning then t.stopAxis m true false else t)
      let t := (if s.opBusy R.PLN_OP_STAT then t.opErr R.PLN_OP_STAT 0x711 else t).groupTell 1
      t.planClear

/-- R305: velocity axes take a controlled stop. -/
def State.stopVelAxes (s : State) : State :=
  s.forEach (idsOf s.planner.velAxes) (fun n t => if t.axisSt n = stRunning then t.stopAxis n false false else t)

/-- An axis stands at rest at the end of its course. -/
def State.axisRest (s : State) (n : AxisId) : Bool :=
  let a := s.axes[n]
  decide (a.mo.v = 0) && decide (a.mo.a = 0) && a.path.isOver a.k && a.req.isNone && decide (s.axisSt n ≠ stStopping)

/-- R305: every axis of the program is at rest. -/
def State.programRest (s : State) : Bool := s.pathRest && (idsOf s.planner.axes).all (fun n => s.axisRest n)

/-! ### START (R289, R290) -/

/-- An axis still takes its start: it decelerates through rest, or ramps its amplitude. -/
def State.startPending (s : State) (n : AxisId) : Bool := (s.axes[n]).viaRest || (s.axes[n]).waitRamp

/-- R290: the path starts where the axes stand once all of them are ready. -/
def State.planPrime (s : State) : State :=
  if !s.planOn || s.planner.primed || (idsOf s.planner.axes).any (fun n => s.startPending n) then s
  else
    (s.modPlan (fun p => { p with
      primed := true, pos := axisIds.map (fun n => tickOf (s.axes[n]).mo.p) })).planAsk

/-- R289, Table 10.1: START with a program table entry. -/
def State.planStart (s : State) (prog : Fin 64) : State :=
  if s.planOn then s.setFlag F.PLN_STATUS_CMD_REFUSED true
  else
    let t := s.commitAll
    let t := ((t.opStart R.PLN_OP_STAT 1).setFld F.PLN_OP_STAT_PROG prog.val)
    let axes := maskAxes (s.fld (F.PLN_PROG_AXES prog))
    let ids := idsOf axes
    let line := s.fld (F.PLN_PROG_LINE prog)
    let fail (t : State) (code src : Nat) (ax : Option Nat) : State := (t.opErr R.PLN_OP_STAT code).raiseLD code src ax
    if !s.flag (F.PLN_PROG_VALID prog) || decide (axes = []) || !s.lineOk line then fail t 0x703 0 none
    else if !ids.all (fun n => (s.axisRec n.val).any (fun r => decide (r.source = 0))) then fail t 0x701 0 none
    else
      match ids.find? (fun n => decide (s.axisSt n ≠ stArmed) || s.opBusy (R.AX_OP_STAT n)) with
      | some n => fail t 0x702 n.val (some n.val)
      | none =>
        let refused := ids.filter (fun n => !(t.startAxis n).2)
        if refused ≠ [] then t.forEach refused (fun n t => t.refuseStart n) |>.opErr R.PLN_OP_STAT 0x531
        else
          let t := t.forEach ids (fun n t => (t.startAxis n).1)
          let t := { t with planner := { t.planner with
            axes := axes, line := line, tol := s.fld F.PLN_TOL_TOL, feed := 0, err := none, primed := false } }
          (t.setFld F.PLN_EXEC_LINE_NO 0).planPrime.planShow

/-- R308, R317: HOLD. -/
def State.planHold (s : State) : State :=
  if !s.planOn || s.planner.aborting then s.setFlag F.PLN_STATUS_CMD_REFUSED true
  else if s.fld F.PLN_EXEC_GROUP ≠ 0 then s.groupTell 1
  else (s.modPlan (fun p => { p with hold := true })).planShow

/-- R369: the modules whose SYNC_ARM for an id and mask are held, this module's own included, as a mask. -/
def State.heldMask (s : State) (modules id : Nat) : Nat :=
  (s.planner.held.filter (fun h => h.id == id && h.modules == modules)).foldl (fun m h => m ||| 2 ^ h.module)
    (2 ^ s.ladderDef.moduleNo)

/-- R315, R318: the instant of departure once every arrival is held; a module HELD at its SYNC has none until RESUME. -/
def State.syncSet (s : State) : State :=
  match s.planner.wait, s.planner.queue.head? with
  | .sync, some ⟨_, _, _, .sync modules id _⟩ =>
    if s.heldMask modules id &&& modules == modules && decide (s.planner.ta ≠ 0) && s.planner.tgo.isNone && !s.planner.late then
      let last := (s.planner.held.filter (fun h => h.id == id && h.modules == modules)).foldl (fun m h => max m h.at_) s.planner.ta
      s.modPlan (fun p => { p with tgo := some (last + max 1 (s.fld F.PLN_SYNC_CFG_GO_DELAY) * 100000) })
    else s
  | _, _ => s

/-- R308, R317, R318: RESUME. -/
def State.planResume (s : State) : State :=
  let p := s.planner
  if !s.planOn || p.aborting || !(p.hold || p.groupHold || p.late) then s.setFlag F.PLN_STATUS_CMD_REFUSED true
  else if p.late then
    let t := s.modPlan (fun p => { p with late := false, arrived := s.clock, groupHold := false, hold := false })
    match p.queue.head? with
    | some ⟨_, _, _, .sync modules id _⟩ =>
      (if p.ta = 0 then t else (t.sendSyncArm modules id (s.heldMask modules id) p.ta).syncSet).planShow
    | _ => t.planShow
  else if s.fld F.PLN_EXEC_GROUP ≠ 0 then s.groupTell 2
  else (s.modPlan (fun p => { p with hold := false, groupHold := false })).planShow

/-- R309: ABORT. -/
def State.planAbort (s : State) : State :=
  if s.opBusy R.PLN_OP_STAT then
    let t := (s.opAborted R.PLN_OP_STAT).stopVelAxes
    ((t.modPlan (fun p => { p with aborting := true, wait := .none, open_ := none })).unask .planner).planShow
  else s.abortIdle R.PLN_OP_STAT

/-- R322: registers that SAVE stores. -/
def plnSaveKeys : List Nat :=
  ((List.finRange 64).map (fun j => R.PLN_PROG j)) ++ axisIds.map (fun n => R.PLN_PSCALE n) ++
    [R.PLN_CFG, R.PLN_TOL, R.PLN_SYNC_CFG, R.PLN_STREAM_CFG, R.PLN_COMP_OFF]

/-- Table 10.7: PLN.CMD. -/
def plnCommand (op : Nat) (prog : Fin 64) (ok : Bool) (s : State) : State :=
  match op with
  | 1 => s.planStart prog
  | 2 => s.planHold
  | 3 => s.planResume
  | 4 => s.saveOr ok 9 plnSaveKeys
  | 15 => s.planAbort
  | _ => s.setFlag F.PLN_STATUS_CMD_REFUSED true

/-- A PLN.CMD row. -/
def State.plnRow (s : State) (op : Nat) (prog : Fin 64) (ok : Bool) : State :=
  if s.reach 9 then plnCommand op prog ok s else s

def execStart (dt : Nat) (prog : Fin 64) (s : State) : Host.Outcome State Fault Refusal :=
  s.answer ((s.pass dt).plnRow 1 prog true)

def execHold (dt : Nat) (s : State) : Host.Outcome State Fault Refusal := s.answer ((s.pass dt).plnRow 2 0 true)

def execResume (dt : Nat) (s : State) : Host.Outcome State Fault Refusal := s.answer ((s.pass dt).plnRow 3 0 true)

def execPlnSave (dt : Nat) (ok : Bool) (s : State) : Host.Outcome State Fault Refusal := s.answer ((s.pass dt).plnRow 4 0 ok)

def execPlnAbort (dt : Nat) (s : State) : Host.Outcome State Fault Refusal := s.answer ((s.pass dt).plnRow 15 0 true)

/-- R317: the group learns when an override of 0 comes to hold the path: at its write, or where the path then reaches what it
acts on. -/
def State.overrideTell (s : State) : State :=
  let held := s.planOn && s.overrideHold
  let t := if held && !s.planner.overrideHeld then s.groupTell 1 else s
  t.modPlan (fun p => { p with overrideHeld := held })

/-- R307, R317: a write to PLN.OVR. -/
def plnOverride (w : Word) (s : State) : State :=
  let t := (s.setFld F.PLN_OVR_OVERRIDE w.toNat).overrideTell
  if s.planOn then t.planShow else t

/-- OVERRIDE (R307). -/
def execOverride (dt : Nat) (data : Word) (s : State) : Host.Outcome State Fault Refusal :=
  s.answer (
    let s := s.pass dt
    if s.reach 9 then plnOverride data s else s)

/-! ### The motion frame of a program -/

/-- R305: inputs as the PLN block shows them. -/
def State.planInputs (s : State) : Nat :=
  match s.inv with
  | none => 0
  | some v => packBits ((List.range 32).map (fun i => (v.pins[i]?).any (fun p => decide (p.func = 1)) && (bitOf s.pins.xio i != s.pinInvert i)))

/-- R305: masked inputs match. -/
def State.ioMatch (s : State) (mask value : Nat) : Bool := s.planInputs &&& mask == value &&& mask

/-- R300, R307: what a piece lays before the path from `x` on, under its feed and the override; a RAPID line has its own
limits scaled down by an override below 100 %. -/
def State.pieceAhead (s : State) (p : Piece) (x : Int) : List Stretch :=
  match p.feed with
  | some f => p.ahead x (some ((f : Int) * 2 ^ 28 * s.override / 1024))
  | none => (p.ahead x none).map (fun g => { g with v := g.v * (min 1024 s.override : Nat) / 1024 })

/-- R301: what lies ahead of the path, up to the first exact stop, and the speed at its end; `unread` is the speed allowed at
the end of what has been read. -/
def State.pathAhead (s : State) (unread : Int) : List PlanItem → List Stretch × Int
  | [] => ([], unread)
  | i :: rest =>
    match i.op with
    | .move p =>
      if p.timed.isSome then ([], 0)
      else if p.stop then (s.pieceAhead p p.lo, 0)
      else
        let r := s.pathAhead unread rest
        (s.pieceAhead p p.lo ++ r.1, r.2)
    | .setIo .. => s.pathAhead unread rest
    | .vel .. => s.pathAhead unread rest
    | .pass => s.pathAhead unread rest
    | _ => ([], 0)

/-- R322: one more block executed. -/
def State.blockDone (s : State) : State := s.countOne R.PLN_BLOCK_COUNT 32

/-- The head item has been executed. -/
def State.popItem (s : State) (count : Bool) : State :=
  let t := s.modPlan (fun p => { p with queue := p.queue.drop 1, s := 0, time := 0 })
  if count then t.blockDone else t

/-- R305: items at the head that need no rest are executed; the path at rest, an item that waits begins to. -/
def State.planItems (s : State) : Nat → State
  | 0 => s
  | fuel + 1 =>
    match s.planner.queue.head? with
    | none => s
    | some i =>
      match i.op with
      | .pass => (s.popItem true).planItems fuel
      | .setIo m v =>
        if s.holding then s
        else
          let o := s.fld F.PLN_OUT_STATE_OUT
          ((s.setFld F.PLN_OUT_STATE_OUT ((o &&& (2 ^ 32 - 1 - m)) ||| (v &&& m))).popItem true).planItems fuel
      | .vel n v =>
        let t := s.popItem true
        let t := t.forEach (idsOf [n]) (fun n t => t.modAxis n (fun a => { a with req := some (.toVel v) }))
        (t.modPlan (fun p => { p with velAxes := if n ∈ p.velAxes then p.velAxes else n :: p.velAxes })).planItems fuel
      | .move p =>
        let at0 := decide (s.planner.s = 0) && decide (s.planner.time = 0)
        if at0 then s.modPlan (fun x => { x with s := p.lo }) else s
      | .dwell n => if s.pathRest ∧ s.planner.wait = .none then s.modPlan (fun p => { p with wait := .dwell n }) else s
      | .waitIo .. =>
        if s.pathRest ∧ s.planner.wait = .none then (s.modPlan (fun p => { p with wait := .io 0 })).groupTell 1 else s
      | .jump .. => if s.pathRest ∧ s.planner.wait = .none then s.modPlan (fun p => { p with wait := .io 0 }) else s
      | .fin => if s.pathRest then s.stopVelAxes else s
      | .sync .. => s

/-- R305: waits at a motion frame boundary. -/
def State.planWaits (s : State) : State :=
  match s.planner.wait, s.planner.queue.head? with
  | .dwell n, _ => if s.holding then s else s.modPlan (fun p => { p with wait := .dwell (n - 1) })
  | .io k, some ⟨_, _, _, .waitIo m v _ _⟩ =>
    if s.ioMatch m v then ((s.popItem true).modPlan (fun p => { p with wait := .none, halted := p.err.isSome })).planAsk
    else s.modPlan (fun p => { p with wait := .io (k + 1) })
  | .io _, some ⟨_, _, _, .jump c m v target⟩ =>
    let t := (s.popItem true).modPlan (fun p => { p with wait := .none, halted := p.err.isSome })
    (if s.ioMatch m v = c then t.modPlan (fun p => { p with line := target }) else t).planAsk
  | _, _ => s

/-- R308: σ of a timed block, in 2^-20, k of n frames into a hold. -/
def sigma (k n : Nat) : Nat := (2 ^ 20 - (timedAt (2 ^ 20) k n).toNat)

/-- R304, R308: a timed block advances by `dt`. -/
def State.timedMove (s : State) (p : Piece) (n dt : Nat) : State × List Int × List Int :=
  let h := s.holdFrames
  let k := if s.holding || s.planner.aborting then min h (s.planner.ramp + 1) else s.planner.ramp - 1
  let sg := sigma k h
  let t1 := s.planner.time + dt * sg / 2 ^ 20
  let d := n * 2 ^ 20
  match p.curve with
  | .line p0 p1 =>
    let dx := vecSub p1 p0
    let pos := vecAdd p0 (dx.map (fun x => timedAt x t1 d))
    let vel := dx.map (fun x => timedVel x t1 d * sg / 2 ^ 20)
    let t := s.modPlan (fun x => { x with time := t1, ramp := k })
    (if d ≤ t1 then (t.modPlan (fun x => { x with ramp := 0 })).popItem true else t, pos, vel)
  | _ => (s, [], [])

/-- The path runs `m` further: pieces that end are left behind, items on the way executed. -/
def State.runPath (s : State) (m : Int) : Nat → State × List Int × List Int
  | 0 => (s, [], [])
  | fuel + 1 =>
    match s.piece with
    | none => (s, [], [])
    | some p =>
      let x := s.planner.s + m
      if x < p.hi then (s.modPlan (fun q => { q with s := x }), p.at_ x, p.velAt x s.planner.v)
      else
        let here := (p.at_ p.hi, p.velAt p.hi s.planner.v)
        let t := (s.popItem p.last).planItems 64
        if p.stop || decide (x ≤ p.hi) then (t, here.1, here.2)
        else
          match t.piece with
          | none => (t, here.1, here.2)
          | some _ => t.runPath (x - p.hi) fuel

/-- The shortest way, 2^-24 path unit, that the path still runs before a stop; it stands nearer than that only by the
rounding of its course, and closes it at once. -/
abbrev stopNear : Int := 2 ^ 16

/-- R300, R301: the course of the path for `dt`, with the speed `unread` at the end of what has been read. At a stop it ends
at rest on its place. -/
def State.pathCourse (s : State) (p : Piece) (unread : Int) (dt : Nat) : Motion :=
  let q := s.planner
  let held := s.holding || q.aborting
  let (l, e) := if p.stop then ([], 0) else s.pathAhead unread (q.queue.drop 1)
  let l := s.pieceAhead p q.s ++ l
  let m := pathStep e held l q.v q.a (dt * 2 ^ 12)
  let whole := (l.map (·.len)).foldl (· + ·) 0
  let there := decide (whole ≤ m.p) || (!held && decide (m.v = 0) && decide (m.a = 0) && decide (whole - m.p ≤ stopNear))
  if e = 0 ∧ there then ⟨whole, 0, 0⟩ else m

/-- R300, R301: the path advances by `dt`. It is starved where it would run faster with more blocks read; reading that a
block error or a velocity axis has stopped is no such case. -/
def State.feedMove (s : State) (p : Piece) (dt : Nat) : State × List Int × List Int :=
  let q := s.planner
  let m := s.pathCourse p 0 dt
  let starved := q.err.isNone && q.deferred.isNone && decide (m.v < (s.pathCourse p (2 ^ 80) dt).v)
  let t := s.modPlan (fun x => { x with v := m.v, a := m.a })
  let t := if starved then
      let t := t.setFlag F.PLN_STATUS_STARVED true
      if s.flag F.PLN_EXEC_STARVED then t else t.count R.PLN_STARVE_COUNT
    else t
  (t.setFlag F.PLN_EXEC_STARVED starved).runPath m.p (q.queue.length + 1)

/-- R249: a program axis receives its trajectory point; one that needs a velocity, or a change of velocity in the motion
frame, beyond its limits makes it take a fault stop. -/
def State.takePoint (s : State) (n : AxisId) (p v : Int) : State :=
  let a := s.axes[n]
  if a.cfg.vmax < (velReg v).natAbs ∨ a.cfg.amax < (roundDiv (v - a.mo.v) (2 ^ 20)).natAbs then
    let t := ((s.raiseActed 0x553 n.val (some n.val)).setFlag (F.AX_EVENTS_LIMIT_HIT n) true)
    t.faultStop n 0x553
  else s.modAxis n (fun a => { a with path := .herm a.mo.p a.mo.v p v, k := 0 })

/-- R249, R290: every axis of the program that is not in velocity mode receives a point. -/
def State.emitPoints (s : State) (axes : List Nat) (pos vel : List Int) : State :=
  s.forEach (idsOf axes) (fun n t =>
    if decide (n.val ∈ t.planner.velAxes) || decide (t.axisSt n ≠ stRunning) then t
    else if pos = [] then
      if (t.axes[n]).mo.v = 0 then t.modAxis n (fun a => { a with path := .rest a.mo.p, k := 0, mo := ⟨a.mo.p, 0, 0⟩ }) else t
    else t.takePoint n (pos.getD n.val 0) (vel.getD n.val 0))

/-- R305: a velocity axis commanded to 0 leaves velocity mode once at rest. -/
def State.velEnds (s : State) : State :=
  s.forEach (idsOf (s.planner.velAxes.filter (fun n => n ∉ s.planner.velRead))) (fun n t =>
    let a := t.axes[n]
    let zero := match a.path with | .segs _ _ _ v => decide (v = 0) | .rest _ => true | .herm .. => false
    if t.axisRest n && zero then
      t.modPlan (fun p => { p with
        velAxes := p.velAxes.filter (· ≠ n.val), pos := p.pos.set n.val (tickOf a.mo.p) })
    else t)

/-- R291, R305: a block that waits for a velocity axis takes its place once it need not. -/
def State.readDeferred (s : State) : State :=
  match s.planner.deferred with
  | none => s
  | some (line, ws) => (s.modPlan (fun p => { p with deferred := none })).readBlock line ws

/-- R295, R305: a program that ends with ERR, nothing left to run, does so once every axis of it is at rest. -/
def State.endWithErr (s : State) : State :=
  match s.planner.err, s.planner.queue with
  | some (code, line), [] =>
    let t := s.stopVelAxes
    if t.programRest then ((t.setFld F.PLN_ERR_ADDR_ADDR line).raiseLD code 0 none).planFinish (some code) else t.planShow
  | _, _ => s.planShow

/-- R316: what the trajectory time advances by at this boundary, 2^-20 motion frame. -/
def State.planDt (s : State) : Nat :=
  if s.fld F.PLN_EXEC_GROUP = 0 then 2 ^ 20 else (s.ptpNow - s.planner.lastNs) * 2 ^ 20 / 100000

/-- The planner's part of a motion frame boundary. -/
def State.planFrame (s : State) : State :=
  if !s.planOn then s
  else if !s.planner.primed then s.planPrime.planShow
  else
    let axes := s.planner.axes
    let dt := s.planDt
    let t := s.velEnds.readDeferred
    let t := (t.planWaits.planItems 64).modPlan (fun p => { p with lastNs := s.ptpNow })
    let (t, pos, vel) := match t.piece, t.planner.wait with
      | some p, .none =>
        match p.timed with
        | some n => t.timedMove p n dt
        | none => t.feedMove p dt
      | _, _ => (t, [], [])
    let t := t.emitPoints axes pos vel
    let t := (t.planItems 64).planAsk.overrideTell
    let t := t.programCheck
    if !t.planOn then t
    else if t.planner.aborting && t.pathRest && t.heldNow then
      let t := t.stopVelAxes
      if t.programRest then t.planFinish none else t.planShow
    else t.endWithErr

/-! ### Steps of the program -/

/-- DWELL_END (R305). -/
def execDwellEnd (s : State) : Host.Outcome State Fault Refusal :=
  s.answer (match s.planner.wait with
    | .dwell 0 => (((s.popItem true).modPlan (fun p => { p with wait := .none })).planAsk).planShow
    | _ => s)

/-- WAIT_IO_TIMEOUT (R305): at TO_LINE, or the program ends with fault 0x731. -/
def waitIoTimeout (s : State) : State :=
  match s.planner.wait, s.planner.queue.head? with
  | .io k, some ⟨addr, _, _, .waitIo _ _ timeout goal⟩ =>
    if timeout = 0 ∨ k < timeout then s
    else
      let t := s.setFlag F.PLN_STATUS_WAIT_TIMEOUT true
      match goal with
      | some line =>
        (((t.popItem true).modPlan (fun p => { p with wait := .none, halted := p.err.isSome, line := line })).planAsk).planShow
      | none =>
        ((t.unask .planner).modPlan (fun p => { p with
          err := some (0x731, addr), halted := true, asked := false, deferred := none, open_ := none, queue := [],
          wait := .none })).endWithErr
  | _, _ => s

def execWaitIoTimeout (s : State) : Host.Outcome State Fault Refusal := s.answer (waitIoTimeout s)

/-- PROGRAM_END (R305). -/
def programEnd (s : State) : State :=
  match s.planner.queue.head? with
  | some i => if i.op == .fin && s.programRest then s.blockDone.planFinish none else s
  | none => s

def execProgramEnd (dt : Nat) (s : State) : Host.Outcome State Fault Refusal := s.answer (programEnd (s.pass dt))

/-! ### Coordination across modules (R315 to R318) -/

/-- R315: with PTP lock, the arrival is noted and sent. -/
def State.syncNote (s : State) : State :=
  match s.planner.wait, s.planner.queue.head? with
  | .sync, some ⟨_, _, _, .sync modules id _⟩ =>
    if s.ptpLocked && decide (s.planner.ta = 0) then
      let ta := s.ptpNow
      let t := s.modPlan (fun p => { p with ta := ta, repeatAt := s.clock + msec })
      (t.sendSyncArm modules id (s.heldMask modules id) ta).syncSet
    else s
  | _, _ => s

/-- SYNC_ARRIVAL (R315). -/
def syncArrival (s : State) : State :=
  match s.planner.queue.head? with
  | some ⟨_, _, _, .sync ..⟩ =>
    if !s.pathRest || decide (s.planner.wait ≠ .none) then s
    else
      let t := s.modPlan (fun p => { p with
        wait := .sync, ta := 0, tgo := none, arrived := s.clock, late := false, halted := p.err.isSome })
      let t := if s.ptpLocked then t else t.raiseLD 0x741 0 none
      t.syncNote.planAsk.planShow
  | _ => s

def execSyncArrival (dt : Nat) (s : State) : Host.Outcome State Fault Refusal := s.answer (syncArrival (s.pass dt))

/-- SYNC_ARM_REPEAT (R369). -/
def syncArmRepeat (s : State) : State :=
  match s.planner.wait, s.planner.queue.head? with
  | .sync, some ⟨_, _, _, .sync modules id _⟩ =>
    if s.planner.ta = 0 then s
    else
      let t := s.atLeast s.planner.repeatAt
      (t.modPlan (fun p => { p with repeatAt := t.clock + msec })).sendSyncArm modules id (t.heldMask modules id) t.planner.ta
  | _, _ => s

def execSyncArmRepeat (s : State) : Host.Outcome State Fault Refusal := s.answer (syncArmRepeat s)

/-- R317: a partner is absent, or cannot resume: fault 0x743 and a group hold. -/
def State.partnerLost (s : State) (module : Nat) : State :=
  let t := (s.setFlag F.PLN_STATUS_PARTNER_LOST true).raiseLD 0x743 module none
  t.groupTell 1

/-- SYNC_GO (R315, R369). -/
def syncGo (s : State) : State :=
  match s.planner.wait, s.planner.queue.head?, s.planner.tgo with
  | .sync, some ⟨_, _, _, .sync modules id _⟩, some g =>
    let s := s.atLeast (s.ladder.ptp.map.edge g).toNat
    let missing := (s.otherModules modules).filter (fun m =>
      (s.slotOfModule m).isNone ||
        !s.planner.held.any (fun h => h.module == m && h.id == id && h.modules == modules && h.held &&& modules == modules))
    if missing = [] then
      let t := (s.popItem true).modPlan (fun p => { p with
        wait := .none, late := false, lastNs := g, tgo := none, ta := 0,
        held := p.held.filter (fun h => !(h.id == id && h.modules == modules)) })
      (t.setFld F.PLN_EXEC_GROUP modules).planAsk.planShow
    else
      let t := s.forEach missing (fun m t => (t.setFlag F.PLN_STATUS_PARTNER_LOST true).raiseLD 0x743 m none)
      (t.modPlan (fun p => { p with late := true, tgo := none, groupHold := true })).setFlag F.PLN_STATUS_GROUP_HOLD true |>.planShow
  | _, _, _ => s

def execSyncGo (s : State) : Host.Outcome State Fault Refusal := s.answer (syncGo s)

/-- SYNC_TIMEOUT (R318). -/
def syncTimeout (s : State) : State :=
  match s.planner.wait, s.planner.queue.head? with
  | .sync, some ⟨_, _, _, .sync _ _ timeout⟩ =>
    if timeout = 0 ∨ s.planner.late then s
    else
      let t := s.atLeast (s.planner.arrived + timeout * 50000)
      let t := (t.raiseLD 0x742 0 none).setFlag F.PLN_STATUS_SYNC_LATE true
      (t.modPlan (fun p => { p with late := true, tgo := none })).planShow
  | _, _ => s

def execSyncTimeout (s : State) : Host.Outcome State Fault Refusal := s.answer (syncTimeout s)

/-- GROUP_HOLD_INSTANT (R317): the hold or the resume of a group takes effect at the next motion frame boundary. -/
def groupHoldInstant (s : State) : State :=
  match s.planner.groupAt with
  | none => s
  | some (ns, resume) =>
    let t := s.atLeast (s.ladder.ptp.map.edge ns).toNat
    let t := t.modPlan (fun p => { p with groupAt := none })
    if !t.planOn then t
    else if resume then (t.modPlan (fun p => { p with groupHold := false, hold := false })).planShow
    else ((t.modPlan (fun p => { p with groupHold := true })).setFlag F.PLN_STATUS_GROUP_HOLD true).planShow

def execGroupHoldInstant (s : State) : Host.Outcome State Fault Refusal := s.answer (groupHoldInstant s)

/-! ### STREAM set-points (R319) -/

/-- R319: frames without an applicable set-point of a RUNNING STREAM axis. -/
def State.streamMissed (s : State) (n : AxisId) : Nat := s.planner.missed.getD n.val 0

/-- STREAM_TIMEOUT (R319): a RUNNING STREAM axis has missed its set-points for TIMEOUT frames. -/
def streamTimeout (n : AxisId) (s : State) : State :=
  let lim := max 1 (s.fld F.PLN_STREAM_CFG_TIMEOUT)
  let stream := (s.axisRec n.val).any (fun r => decide (r.source = 2))
  if stream ∧ s.axisSt n = stRunning ∧ lim ≤ s.streamMissed n then
    let t := (s.raiseLD 0x751 0 (some n.val)).setFlag F.PLN_STATUS_STREAM_MISS true
    (t.modPlan (fun p => { p with missed := p.missed.set n.val 0, points := p.points.filter (fun e => e.1 ≠ n.val) })).stopAxis n
      false false
  else s

def execStreamTimeout (n : AxisId) (s : State) : Host.Outcome State Fault Refusal := s.answer (streamTimeout n s)

/-! ### Writes and acceptance (R314, R322) -/

/-- R322: settings take effect only while EXEC.STATE is IDLE. -/
def plnWrite (key : Nat) (w : Word) (s : State) : State :=
  if s.planOn then s.setFlag F.PLN_STATUS_CMD_REFUSED true else s.setReg key w

/-- R314: a bit of COMP_OFF changes only while its axis is DISABLED. -/
def compOffWrite (w : Word) (s : State) : State :=
  s.forEach axisIds (fun n t =>
    if t.axisSt n = stDisabled then t.setRegBit R.PLN_COMP_OFF n.val (bitOf w.toNat n.val) else t)

/-- R322: on acceptance of a full Inventory a program ends and the settings load. -/
def State.planAccept (s : State) : State :=
  let t := s.forEach (idsOf s.planner.axes) (fun m t => if t.axisSt m = stRunning then t.stopAxis m true false else t)
  let t := if s.opBusy R.PLN_OP_STAT then (t.opErr R.PLN_OP_STAT 0x711).groupTell 1 else t
  (t.planClear).loadGroup 9 plnSaveKeys

end Sys2Proof.Machine
end

