-- ==== Sys2Proof/Machine/Reaction.lean ====
section
/-! DEFINITION. The fault manager (chapter 15): the order of the records, the queue and the ring, the reactions of
Tables 15.4 and 15.5, the REPLACE reasons, and the commands of the FLT block. -/

namespace Sys2Proof.Machine

open Sys2Proof

/-! ### Order and records (R21, R435) -/

/-- R21: by detection instant, then die, then source. -/
def Event.before (a b : Event) : Bool :=
  decide (a.time < b.time) || (decide (a.time = b.time) && (decide (a.die < b.die) || (decide (a.die = b.die) && decide (a.source < b.source))))

/-- The event that R21 puts first. -/
def firstEvent : List Event → Option Event
  | [] => none
  | e :: t => match firstEvent t with
    | none => some e
    | some f => if f.before e then some f else some e

/-- R21, R15: an event that comes first still waits on a die whose link works. -/
def State.earlierOnDie (s : State) (e : Event) : Bool :=
  ([0, 1] : List DieId).any (fun d => s.hasDie d.val && !(s.dies[d]).linkLost && (s.dies[d]).events.any (fun f => f.before e))

/-- R435: the record of an event. -/
def State.recordOf (s : State) (e : Event) : FaultRec := ⟨e.code, e.source % 64, e.die, e.axis, 0, s.stamp e.time, e.time⟩

/-- Table 15.8: REC0 of a record. -/
def FaultRec.rec0 (r : FaultRec) : Word :=
  BitVec.ofNat 36 (r.code * 2 ^ 24 + r.source * 2 ^ 18 + r.die * 2 ^ 16 +
    (match r.axis with | none => 0 | some a => 2 ^ 15 + a % 8 * 2 ^ 12) + r.rep)

/-- R435: a record in the queue takes one more occurrence. -/
def FaultRec.again (r : FaultRec) : FaultRec := { r with rep := min 4095 (r.rep + 1) }

/-- The record stands for the same CODE, DIE and SOURCE. -/
def FaultRec.same (a b : FaultRec) : Bool := decide (a.code = b.code) && decide (a.die = b.die) && decide (a.source = b.source)

/-- R21: `a` stands after `b`: by full detection instant, then the higher die, then the higher source. -/
def FaultRec.later (a b : FaultRec) : Bool :=
  decide (b.at_ < a.at_) || (decide (a.at_ = b.at_) &&
    (decide (b.die < a.die) || (decide (a.die = b.die) && decide (b.source < a.source))))

/-- R21, R436: a record takes its place in that order, whenever it arrives. -/
def insertRec (r : FaultRec) : List FaultRec → List FaultRec
  | [] => [r]
  | h :: t => if h.later r then r :: h :: t else h :: insertRec r t

/-- Tables 15.7, 15.8, 2.9: REC0, REC1, Q_LEVEL and SYS.STATUS show the queue. -/
def State.showQueue (s : State) : State :=
  let q := s.fm.queue
  let t := s.setReg R.FLT_REC0 ((q.head?).elim 0 FaultRec.rec0)
  let t := t.setReg R.FLT_REC1 ((q.head?).elim 0 (·.time))
  let t := t.setReg R.FLT_Q_LEVEL (BitVec.ofNat 36 q.length)
  t.setFlag F.SYS_STATUS_FAULT_PENDING (!q.isEmpty)

/-- The fault queue changes. -/
def State.setQueue (s : State) (q : List FaultRec) : State := (s.modFm (fun x => { x with queue := q })).showQueue

/-! ### The Strongbox ring (R437) -/

/-- R437: instants of ring writes in the second that ends now. -/
def State.ringRecent (s : State) : List Nat := s.fm.ringTimes.filter (fun t => decide (s.clock < t + second))

/-- R446: BOX.RING_COUNT after one more record. -/
def ringCountUp (w : Word) : Word :=
  if w.toNat % 2 ^ 32 = 2 ^ 32 - 1 then BitVec.ofNat 36 (2 ^ 35 + 2 ^ 32 - 1) else w + 1

/-- R437: one record goes to the ring, within the limit of 1000 a second; `ok` is whether the Strongbox takes it. -/
def State.ringWrite (s : State) (r : FaultRec) (ok : Bool) : State :=
  if 1000 ≤ s.ringRecent.length then s.count R.BOX_DROP_COUNT
  else if !ok then s.boxWriteFail.setFlag F.FLT_STATUS_RING_FAIL true
  else
    let t := { s with
      box := { s.box with
        ring := (({ r with rep := 0 }).rec0, r.time, BitVec.ofNat 36 (s.box.life.getD 1 0 % 2 ^ 18 * 2 ^ 18)) ::
          s.box.ring.take 1023,
        ringCount := ringCountUp s.box.ringCount },
      fm := { s.fm with ringTimes := s.clock :: s.ringRecent } }
    (t.setReg R.BOX_RING_COUNT t.box.ringCount).lifeAdd 5 1

/-! ### The queue (R435, R436) -/

/-- R436: a lost record counts. -/
def State.lostRecord (s : State) : State := (s.count R.FLT_OVERFLOW).setFlag F.FLT_STATUS_OVF true

/-- R436: the record of fault 0xC11 that stands for a lost one. -/
def overflowRec (r : FaultRec) : FaultRec := ⟨0xC11, 0, 0, none, 0, r.time, r.at_⟩

/-- R435 to R437: a record is merged, queued or lost, and goes to the ring. -/
def State.takeRecord (s : State) (r : FaultRec) (ok : Bool) : State :=
  let q := s.fm.queue
  if q.any (fun x => x.same r) then
    (s.setQueue (q.map (fun x => if x.same r then x.again else x))).ringWrite r ok
  else if q.length < 63 then (s.setQueue (insertRec r q)).ringWrite r ok
  else if q.any (fun x => decide (x.code = 0xC11)) then
    ((s.setQueue (q.map (fun x => if x.code = 0xC11 then x.again else x))).lostRecord).ringWrite r ok
  else
    (((s.setQueue (q ++ [overflowRec r])).lostRecord).ringWrite r ok).ringWrite (overflowRec r) ok

/-! ### REPLACE reasons (R441, R442) -/

/-- Table 15.6: bits of SYS.REPLACE_WHY. -/
abbrev rsSparesLow : Nat := 0
abbrev rsRateHigh : Nat := 1
abbrev rsLeakDrift : Nat := 2
abbrev rsCoarse : Nat := 3
abbrev rsFallback : Nat := 4
abbrev rsTempLost : Nat := 5
abbrev rsRetired : Nat := 6

/-- R441: SYS.REPLACE_WHY takes a value; the mirrors and the Strongbox follow. -/
def State.setReasons (s : State) (v : Nat) : State :=
  let t := s.setReg R.SYS_REPLACE_WHY (BitVec.ofNat 36 v)
  let t := (t.setFlag F.SYS_STATUS_REPLACE (decide (v ≠ 0))).setFlag F.FLT_STATUS_REPLACE (decide (v ≠ 0))
  t.modBox (fun x => { x with reasons := v })

/-- R442: a reason is set. -/
def State.setReason (s : State) (i : Nat) : State := s.setReasons ((s.reg R.SYS_REPLACE_WHY).toNat ||| 2 ^ i)

/-- R442: a reason is cleared. -/
def State.clearReason (s : State) (i : Nat) : State :=
  let v := (s.reg R.SYS_REPLACE_WHY).toNat
  s.setReasons (if bitOf v i then v - 2 ^ i else v)

/-- R441: REPLACE_N is held low: a reason is set, the Strongbox has been read, and no reset, START or OFF is on. -/
def State.replaceLow (s : State) : Bool :=
  !(s.power ∈ [Power.off, Power.start, Power.reset]) && s.flag F.BOX_STATUS_READY && decide (s.reg R.SYS_REPLACE_WHY ≠ 0)

/-- Table 15.5: the reason that a fault sets. -/
def reasonOf (code : Nat) : Option Nat :=
  match code with
  | 0x802 => some rsSparesLow
  | 0x821 => some rsRateHigh
  | 0x241 => some rsLeakDrift
  | 0x342 => some rsCoarse
  | 0xB01 => some rsFallback
  | 0x441 => some rsTempLost
  | 0x242 => some rsRetired
  | _ => none

/-! ### Usable path (R114) -/

/-- R114: the windings of an axis: the coils of BIP2, else the whole of it. -/
def State.windings (s : State) (n : AxisId) : List (List LegId) :=
  let l := s.axisLegs n
  if s.motor n = 0 then [l.take 2, l.drop 2] else [l]

/-- R114: a winding has an available high side and an available low side on two different legs. -/
def State.pathIn (s : State) (l : List LegId) : Bool :=
  l.any (fun a => s.available a true && l.any (fun b => decide (b ≠ a) && s.available b false))

/-- R114: the axis has a usable path. -/
def State.usablePath (s : State) (n : AxisId) : Bool := (s.windings n).all (fun w => s.pathIn w)

/-- R114, R115: a switch of an axis has become unavailable: a fault stop while a usable path is left, else fault 0x204
and its Trapdoor policy. The source of 0x204 is a leg number (R127): that of the switch's fault, or the axis's lowest leg where
that fault concerns the whole die (DESIGN CHOICE, log entry 1501). -/
def State.pathCheck (s : State) (n : AxisId) (code source die : Nat) : State :=
  let source := if source < 16 then source else (s.firstLeg n).elim 0 legSource
  if !s.axisOn n then s
  else if s.usablePath n then s.faultStop n code
  else
    let t := s.modFm (fun x => { x with inbox := s.fm.inbox ++ [(⟨0x204, source, die, some n.val, s.clock, true⟩ : Event)] })
    t.trap n 0x204

/-! ### Reactions (R440) -/

/-- An axis number as an axis. -/
def axisOfNat (n : Nat) : Option AxisId := if h : n < 8 then some ⟨n, h⟩ else none

/-- Class ALL_TRAP: TRAP for every axis that is not DISABLED. -/
def State.allTrap (s : State) (cause : Nat) : State := s.forEach axisIds (fun n t => t.trap n cause)

/-- Class ALL_LATCH: every planned axis enters LATCHED. -/
def State.allLatch (s : State) (cause : Nat) : State := s.forEach axisIds (fun n t => t.latchAxis n cause)

/-- Faults 0x321 and 0x322: the axes with a leg that the trip maps in its quadrant. -/
def State.tripAxes (s : State) (e : Event) : List AxisId :=
  if h : 1 ≤ e.die ∧ e.die ≤ 2 ∧ 24 ≤ e.source ∧ e.source < 32 then
    let q : Quad := ⟨2 * (e.die - 1) + (if e.code = 0x321 then 0 else 1), by split <;> omega⟩
    let n : Fin 8 := ⟨e.source - 24, by omega⟩
    axisIds.filter (fun a => (s.axisLegs a).any (fun l => legQ l == q && bitOf (s.fld (F.PW_TRIP_CFG_LEGS q n)) (legM l).val))
  else []

/-- Axes whose switches a leg fault makes unavailable: its own axis, or every axis of the die for a low VG. -/
def State.pathAxes (s : State) (e : Event) : List AxisId :=
  if e.code = 0x223 then
    (if h : 1 ≤ e.die ∧ e.die ≤ 2 then s.dieAxes (⟨e.die - 1, by omega⟩ : DieId) else [])
  else (e.axis.bind axisOfNat).toList

/-- Table 15.5: faults of class ALL_TRAP, ALL_LATCH, FSTOP, and TRAP or "axis FAULTED" for the axis of the record. -/
def classAllTrap : List Nat := [0x101, 0x102, 0x413, 0xC02]
def classAllLatch : List Nat := [0x103, 0x122]
def classFstop : List Nat := [0x421, 0x543, 0x552, 0x553, 0xA22]
def classTrap : List Nat :=
  [0x205, 0x206, 0x222, 0x231, 0x232, 0x233, 0x234, 0x235, 0x352, 0x353, 0x432, 0x501, 0x512, 0x530, 0x541, 0x542, 0x554]
def classPath : List Nat := [0x201, 0x202, 0x203, 0x212, 0x213, 0x214, 0x221, 0x223]

/-- R440: what the fault manager does about a fault. -/
def State.react (s : State) (e : Event) : State :=
  let t := match reasonOf e.code with
    | some i => s.setReason i
    | none => s
  if e.acted then t
  else if e.code ∈ classAllTrap then t.allTrap e.code
  else if e.code ∈ classAllLatch then t.allLatch e.code
  else if e.code = 0x321 ∨ e.code = 0x322 then t.forEach (t.tripAxes e) (fun n t => t.trap n e.code)
  else if e.code ∈ classPath then t.forEach (t.pathAxes e) (fun n t => t.pathCheck n e.code e.source e.die)
  else match e.axis.bind axisOfNat with
    | none => t
    | some n =>
      if e.code ∈ classTrap then t.trap n e.code
      else if e.code ∈ classFstop then t.faultStop n e.code
      else t

/-- R459: the fault manager runs: LOADING, BARE or CONFIGURED, with or without the PLL. -/
def State.fmRuns (s : State) : Bool := decide (s.power ∈ [Power.loading, Power.bare, Power.configured])

/-- R21, R435 to R440 (FAULT_RECORD): the fault manager takes the event that comes first. -/
def faultRecord (ringOk : Bool) (s : State) : State :=
  match firstEvent s.fm.inbox with
  | none => s
  | some e =>
    if !s.fmRuns || s.earlierOnDie e then s
    else
      let t := (s.modFm (fun x => { x with inbox := s.fm.inbox.erase e })).busInner true
      ((t.takeRecord (t.recordOf e) ringOk).react e).programCheck

def execFaultRecord (ringOk : Bool) (s : State) : Host.Outcome State Fault Refusal := s.answer (faultRecord ringOk s)

/-! ### The FLT block (R445) -/

/-- R445: registers that OP SAVE stores. -/
def fltSaveKeys : List Nat := [R.FLT_STOP_CFG, R.FLT_LATCH_CFG]

/-- Table 15.7: FLT.CMD. -/
def fltCommand (op : Nat) (ok : Bool) (s : State) : State :=
  if !s.reach 4 then s
  else match op with
    | 1 => s.setQueue (s.fm.queue.drop 1)
    | 2 => s.setQueue []
    | 3 => s.saveOr ok 4 fltSaveKeys
    | _ => s.setFlag F.FLT_STATUS_CMD_REFUSED true

/-- POP (R436). -/
def execPop (dt : Nat) (s : State) : Host.Outcome State Fault Refusal := s.answer (fltCommand 1 true (s.pass dt))

/-- FAULT_FLUSH (R436). -/
def execFaultFlush (dt : Nat) (s : State) : Host.Outcome State Fault Refusal := s.answer (fltCommand 2 true (s.pass dt))

/-- FLT_SAVE (R445). -/
def execFltSave (dt : Nat) (ok : Bool) (s : State) : Host.Outcome State Fault Refusal := s.answer (fltCommand 3 ok (s.pass dt))

/-- R427: a write of FLT.STOP_CFG reaches every die's copy of STOP_DELAY. -/
def stopCfgWrite (w : Word) (s : State) : State :=
  let t := s.setReg R.FLT_STOP_CFG w
  t.forEach ([0, 1] : List DieId) (fun d t => t.modDie d (fun x => { x with stopDelay := max 1 (w.toNat % 65536) }))

/-- R445: on acceptance of a full Inventory the settings load. -/
def State.fltAccept (s : State) : State :=
  let t := s.loadGroup 4 fltSaveKeys
  stopCfgWrite (t.reg R.FLT_STOP_CFG) t

/-! ### REPLACE_REASON_CLEAR (Table 15.6) -/

/-- R121: the last result of a switch lies within BASE + LEAK_WARN, or its BASE is to be learnt anew. -/
def State.leakGood (s : State) (l : LegId) (hi : Bool) : Bool :=
  let k := if hi then R.LG_LEAK_H (legQ l) (legM l) else R.LG_LEAK_L (legQ l) (legM l)
  !s.regBit k 17 || decide (s.fld ⟨k, 13, 0⟩ ≤ s.fld ⟨k, 31, 18⟩ + s.fld (F.LG_LEAK_CFG_LEAK_WARN (legQ l)))

/-- R442: the condition that clears a reason holds. -/
def State.reasonOver (s : State) (i : Nat) : Bool :=
  match i with
  | 1 => decide (24 ≤ s.larder.goodHours)
  | 2 => legIds.all (fun l => s.leakGood l true && s.leakGood l false)
  | 3 => quadIds.all (fun q => !s.hasDie (quadDie q).val ||
      (!s.flag (F.PW_CAL_STAT_COARSE q) && decide ((s.regions[q]).fineSince + 600 * second ≤ s.clock)))
  | 4 => s.flag F.INV_ACTIVE_SLOT_A_OK
  | 5 => coreIds.all (fun c => !(s.cores[c]).tempLost && decide ((s.cores[c]).tempGoodSince + 60 * second ≤ s.clock))
  | 6 => legIds.all (fun l => s.legState l ≠ lgRetired)
  | _ => false

/-- R442 (REPLACE_REASON_CLEAR). -/
def replaceReasonClear (i : Nat) (s : State) : State :=
  if s.fmRuns && bitOf (s.reg R.SYS_REPLACE_WHY).toNat i && s.reasonOver i then s.clearReason i else s

def execReplaceReasonClear (dt : Nat) (reason : Fin 7) (s : State) : Host.Outcome State Fault Refusal :=
  s.answer (replaceReasonClear reason.val (s.pass dt))

end Sys2Proof.Machine
end

