-- ==== Sys2Proof/Machine/Protection.lean ====
section
/-! DEFINITION. Protection (chapter 15): the inlet, the brake, the stop inputs, the system comparators, the Trapdoor's
watch over a SHORT, die temperatures, gate links, the site key, the ring's window and the lifetime counters. -/

namespace Sys2Proof.Machine

open Sys2Proof

/-! ### The inlet (R418 to R421) -/

/-- Table 15.9: INLET_STATE: 0 OFF, 1 PRECHARGE, 2 ON, 3 BLOCKED. -/
abbrev inOff : Nat := 0
abbrev inPrecharge : Nat := 1
abbrev inOn : Nat := 2
abbrev inBlocked : Nat := 3

def State.inlet (s : State) : Nat := s.fld F.FLT_SUPPLY_INLET_STATE

def State.setInlet (s : State) (v : Nat) : State :=
  (s.setFld F.FLT_SUPPLY_INLET_STATE v).setFlag F.FLT_STATUS_INLET_ON (decide (v = inOn))

/-- R419, R420: the gate-source voltage of INLET, mV: from a precharge on it rises linearly from 0 to 12 V over 20 ms. -/
def State.inletGate (s : State) : Nat :=
  if s.inlet = inPrecharge ∨ s.inlet = inOn then min 12000 ((s.clock - s.guard.inletAt) * 12000 / (20 * msec)) else 0

/-- R419: INLET may be driven. -/
def State.inletEnabled (s : State) : Bool :=
  decide (s.power = .configured) && s.inv.any (·.inletEn) && !s.jtag.holdsOff

/-- R419: the precharge starts. -/
def State.precharge (s : State) : State :=
  if s.inletEnabled then (s.setInlet inPrecharge).modGuard (fun g => { g with inletAt := s.clock, inletWait := false })
  else s.setInlet inOff

/-- R419 (PRECHARGE_START): VMIN has stayed above 10 V for 10 ms. -/
def prechargeStart (s : State) : State :=
  if s.inletEnabled && decide (s.inlet = inOff) && !s.guard.inletWait && !s.flag F.FLT_STATUS_VM_REVERSED then s.precharge else s

def execPrechargeStart (dt : Nat) (s : State) : Host.Outcome State Fault Refusal := s.answer (prechargeStart (s.pass dt))

/-- R419: a precharge may last 200 ms. -/
abbrev prechargeLimit : Nat := 200 * msec

/-- R419 (PRECHARGE_DONE): VML reaches VMIN - 5 V. -/
def prechargeDone (s : State) : State :=
  if s.inlet = inPrecharge ∧ s.clock ≤ s.guard.inletAt + prechargeLimit then s.setInlet inOn else s

def execPrechargeDone (dt : Nat) (s : State) : Host.Outcome State Fault Refusal := s.answer (prechargeDone (s.pass dt))

/-- R419 (PRECHARGE_TIMEOUT). -/
def prechargeTimeout (s : State) : State :=
  if s.inlet = inPrecharge then
    let t := (s.atLeast (s.guard.inletAt + prechargeLimit)).setInlet inOff
    (t.raiseLD 0x104 0 none).modGuard (fun g => { g with inletWait := true })
  else s

def execPrechargeTimeout (s : State) : Host.Outcome State Fault Refusal := s.answer (prechargeTimeout s)

/-- R419 (VMIN_BELOW_5V). -/
def execVminBelow5v (dt : Nat) (s : State) : Host.Outcome State Fault Refusal :=
  s.answer ((s.pass dt).modGuard (fun g => { g with inletWait := false }))

/-- R420 (VM_REVERSED): VMIN falls below -2.0 V. -/
def vmReversed (s : State) : State :=
  if !s.fmRuns || s.flag F.FLT_STATUS_VM_REVERSED then s
  else ((s.setFlag F.FLT_STATUS_VM_REVERSED true).setInlet inBlocked).raiseLD 0x103 0 none

def execVmReversed (dt : Nat) (s : State) : Host.Outcome State Fault Refusal := s.answer (vmReversed (s.pass dt))

/-- R420 (INLET_UNBLOCK): VMIN has stayed above 10 V for 1 s. -/
def inletUnblock (s : State) : State :=
  if s.inlet = inBlocked then (s.setFlag F.FLT_STATUS_VM_REVERSED false).precharge else s

def execInletUnblock (dt : Nat) (s : State) : Host.Outcome State Fault Refusal := s.answer (inletUnblock (s.pass dt))

/-! ### The brake chopper (R422 to R424) -/

/-- R422: BRK may be driven. -/
def State.brkEnabled (s : State) : Bool :=
  decide (s.power = .configured) && s.inv.any (·.brkEn) && !s.flag F.FLT_STATUS_BRK_INHIBIT && !s.jtag.holdsOff

/-- PCLK for which BRK has been high in this motion frame. -/
def State.brkTimeNow (s : State) : Nat :=
  s.guard.brkTime + match s.guard.brkSince with
    | none => 0
    | some t => s.clock - max t s.guard.brkMark

/-- R422: BRK follows. -/
def State.brkSettle (s : State) : State :=
  let want := s.guard.brkWant && s.brkEnabled
  if want == s.flag F.FLT_STATUS_BRK_ON then s
  else
    let total := s.brkTimeNow
    (s.setFlag F.FLT_STATUS_BRK_ON want).modGuard (fun g => { g with
      brkSince := if want then some s.clock else none, brkTold := false, brkTime := total })

/-- R423: H_max, nJ. -/
def ProtDef.heatMax (p : ProtDef) : Nat := p.brkPcont * p.brkTau * 1000000000

/-- R423: the energy that goes into the resistor in a motion frame with BRK high for `high` PCLK, nJ; VM is input 6 of
ADC0, 200 V at full scale (Table 6.2). -/
def State.brkEnergy (s : State) (p : ProtDef) (high : Nat) : Nat :=
  let y := (s.lastY 0 6).natAbs
  y * y * 8000000 * high / (2 ^ 34 * max 1 p.brkRes)

/-- R423: the heat of the brake resistor, once per motion frame. -/
def State.brakeFrame (s : State) : State :=
  match s.inv with
  | none => s
  | some v =>
    if !v.brkEn then s
    else
      let p := v.prot
      let e := s.brkEnergy p s.brkTimeNow
      let h := s.guard.heat + e - s.guard.heat / (10000 * max 1 p.brkTau)
      let hm := p.heatMax
      let t := s.modGuard (fun g => { g with heat := h, brkMark := s.clock, brkTime := 0 })
      let t := t.modBox (fun x => { x with lifePart := t.box.lifePart.modify 3 (· + e) })
      let t := t.setFld F.FLT_BRK_HEAT_HEAT (min 1000 (h * 1000 / max 1 hm))
      if s.flag F.FLT_STATUS_BRK_INHIBIT then
        (if h * 10 ≤ hm * 9 then (t.setFlag F.FLT_STATUS_BRK_INHIBIT false).brkSettle else t)
      else if hm ≤ h then ((t.setFlag F.FLT_STATUS_BRK_INHIBIT true).raiseLD 0x111 0 none).brkSettle
      else t

/-- R424 (BRAKE_INEFFECTIVE): BRK high for 100 ms with CMP58 still active. -/
def brakeIneffective (s : State) : State :=
  match s.guard.brkSince with
  | none => s
  | some t0 =>
    if s.guard.brkTold || !s.cmpOut 58 then s
    else ((s.atLeast (t0 + 100 * msec)).raiseLD 0x112 0 none).modGuard (fun g => { g with brkTold := true })

def execBrakeIneffective (s : State) : Host.Outcome State Fault Refusal := s.answer (brakeIneffective s)

/-- R423 (BRAKE_HEAT_SAVE): once per second H goes to the Strongbox. -/
def brakeHeatSave (ok : Bool) (s : State) : State :=
  if !s.fmRuns then s
  else
    let t := s.atLeast (s.guard.heatAt + second)
    let t := t.modGuard (fun g => { g with heatAt := t.clock })
    if ok then t.modBox (fun x => { x with heat := t.guard.heat }) else t.boxWriteFail

def execBrakeHeatSave (ok : Bool) (s : State) : Host.Outcome State Fault Refusal := s.answer (brakeHeatSave ok s)

/-! ### System comparators (R175, R421, R422, R432) -/

/-- R432: an OPEN axis of TRAP_MODE 0 under an engaged Trapdoor changes to SHORT. -/
def State.openToShort (s : State) : State :=
  if s.flag F.FLT_STATUS_BRK_INHIBIT || !s.inv.any (·.brkEn) then
    s.forEach axisIds (fun n t => if t.planned n.val && t.trapped n && !t.shorted n && !t.openOnly n then t.toShort n else t)
  else s

/-- R421, R422, R432, R175: what a system comparator drives when it becomes active. -/
def State.systemRise (s : State) (j : Nat) : State :=
  match j with
  | 56 => if s.inv.isSome then (s.raiseLD 0x101 j none).openToShort else s
  | 57 => if s.inlet = inOn then s.raiseLD 0x102 j none else s
  | 58 => (s.modGuard (fun g => { g with brkWant := true })).brkSettle
  | 59 => (s.modGuard (fun g => { g with brkWant := false })).brkSettle
  | 60 => s.raiseLD 0x105 j none
  | 61 => s.raiseLD 0x106 j none
  | 62 => s.raiseLD 0x413 j none
  | 63 => s.raiseLD 0x413 j none
  | _ => s

/-- R177: the comparator runs CONTINUOUS and no audit holds its output. -/
def State.cmpContinuous (s : State) (j : Fin 64) : Bool :=
  s.fmRuns && (isSystem j || decide ((s.cmps[j]).mode = .continuous)) && !s.underAudit j

/-- R176, R178: the instant at which a CONTINUOUS comparator whose input crosses now changes its output: after QUAL steps of
20 ns, counted from the end of a settling threshold. -/
def State.cmpQualified (s : State) (j : Fin 64) : Nat :=
  max s.clock (s.cmps[j]).settle + 10 * (s.fld (F.CMP_CFG_QUAL j) + 1)

/-- R178 (COMPARATOR_ACTIVE): the input of a CONTINUOUS comparator crosses to `level` and stays there; it qualifies active. -/
def comparatorActive (j : Fin 64) (level : Nat) (s : State) : State :=
  if s.cmpContinuous j && !s.cmpOut j && s.cmpRaw j level then
    let t := (s.atLeast (s.cmpQualified j)).cmpRise j
    if isSystem j then t.systemRise j.val else t
  else s

def execComparatorActive (dt : Nat) (j : Fin 64) (level : Nat) (s : State) : Host.Outcome State Fault Refusal :=
  s.answer (comparatorActive j level (s.pass dt))

/-- R178 (COMPARATOR_RELEASE): the input of a CONTINUOUS comparator crosses back; it qualifies inactive. -/
def comparatorRelease (j : Fin 64) (level : Nat) (s : State) : State :=
  if s.cmpContinuous j && s.cmpOut j && !s.cmpRaw j level then (s.atLeast (s.cmpQualified j)).cmpFall j else s

def execComparatorRelease (dt : Nat) (j : Fin 64) (level : Nat) (s : State) : Host.Outcome State Fault Refusal :=
  s.answer (comparatorRelease j level (s.pass dt))

/-! ### Stop inputs (R425 to R428) -/

/-- FLT.STATUS.STOP_A or STOP_B. -/
def stopFld (b : Bool) : Fld := if b then F.FLT_STATUS_STOP_B else F.FLT_STATUS_STOP_A

/-- A stop input is low. -/
def State.stopLow (s : State) : Bool := !s.flag F.FLT_STATUS_STOP_A || !s.flag F.FLT_STATUS_STOP_B

/-- R426: STOP_DELAY, PCLK; 0 acts as 1. -/
def State.stopDelay (s : State) : Nat := max 1 (s.fld ⟨R.FLT_STOP_CFG, 15, 0⟩) * msec

/-- R428: the levels after a change: since when they differ, and what STOP_DISC still waits for. -/
def State.stopLevels (s : State) : State :=
  let a := s.flag F.FLT_STATUS_STOP_A
  let b := s.flag F.FLT_STATUS_STOP_B
  let t := s.modGuard (fun g => { g with
    differAt := if a == b then none else match g.differAt with | none => some s.clock | some t => some t,
    discLow := g.discLow || (!a && !b) })
  if t.flag F.FLT_STATUS_STOP_DISC && a && b && t.guard.discLow then t.setFlag F.FLT_STATUS_STOP_DISC false else t

/-- R426: the reaction to a stop edge by STOP_CFG.MODE. -/
def State.stopReact (s : State) : State :=
  let t := s.raiseActed 0x121 0 none
  let mode := t.regBit R.FLT_STOP_CFG 17
  let t := t.forEach axisIds (fun n t =>
    if mode && (decide (t.axisSt n = stRunning) || decide (t.axisSt n = stStopping)) then t.faultStop n 0x121 else t.trap n 0x121)
  let t := if mode then t.modGuard (fun g => { g with stopAt := some s.clock }) else t
  t.programCheck

/-- R426 (STOP_INPUT): the filtered level of STOPA (`b` false) or STOPB goes low. -/
def stopInput (b : Bool) (s : State) : State :=
  if !s.fmRuns || !s.flag (stopFld b) then s
  else
    let was := s.stopLow
    let t := s.setFlag (stopFld b) false
    let t := if b then t.forEach ([0, 1] : List DieId) (fun d t => t.modDie d (fun x => { x with
      stopbLowAt := some (s.clock - 2 * msec) })) else t
    let t := t.stopLevels
    if was then t else t.stopReact

def execStopInput (dt : Nat) (b : Bool) (s : State) : Host.Outcome State Fault Refusal := s.answer (stopInput b (s.pass dt))

/-- R427, R428 (STOP_INPUT_HIGH): the filtered level of a stop input goes high. -/
def stopInputHigh (b : Bool) (s : State) : State :=
  if !s.fmRuns || s.flag (stopFld b) then s
  else
    let t := s.setFlag (stopFld b) true
    let t := if b then t.forEach ([0, 1] : List DieId) (fun d t =>
      (t.modDie d (fun x => { x with stopbLowAt := none, backstop := false })).settleDie d) else t
    t.stopLevels

def execStopInputHigh (dt : Nat) (b : Bool) (s : State) : Host.Outcome State Fault Refusal :=
  s.answer (stopInputHigh b (s.pass dt))

/-- R426 (STOP_DELAY_END): an axis that the stop edge still finds in its fault stop takes its Trapdoor policy. -/
def stopDelayEnd (s : State) : State :=
  match s.guard.stopAt with
  | none => s
  | some t0 =>
    let t := (s.atLeast (t0 + s.stopDelay)).modGuard (fun g => { g with stopAt := none })
    (t.forEach axisIds (fun n t => if t.faultStopping n then t.trap n 0x121 else t)).programCheck

def execStopDelayEnd (s : State) : Host.Outcome State Fault Refusal := s.answer (stopDelayEnd s)

/-- R427, R103, R114 (STOPB_BACKSTOP): a die turns every leg off, without LD; its switches are unavailable, by the stop input's
fault. -/
def stopbBackstop (d : DieId) (s : State) : State :=
  match (s.dies[d]).stopbLowAt with
  | none => s
  | some t0 =>
    if (s.dies[d]).backstop || !s.hasDie d.val then s
    else
      let t := s.atLeast (t0 + (12 + (s.dies[d]).stopDelay) * msec)
      let t := (t.modDie d (fun x => { x with backstop := true })).settleDie d
      (t.forEach (t.dieAxes d) (fun n t => t.pathCheck n 0x121 ((t.firstLeg n).elim 0 legSource) (d.val + 1))).programCheck

def execStopbBackstop (d : DieId) (s : State) : Host.Outcome State Fault Refusal := s.answer (stopbBackstop d s)

/-- R428 (STOP_DISCREPANCY): the inputs have differed for STOP_DISC. -/
def stopDiscrepancy (s : State) : State :=
  match s.guard.differAt, s.inv with
  | some t0, some v =>
    if s.flag F.FLT_STATUS_STOP_DISC then s
    else
      let t := (s.atLeast (t0 + v.prot.stopDisc * msec)).setFlag F.FLT_STATUS_STOP_DISC true
      (t.raiseLD 0x122 0 none).modGuard (fun g => { g with discLow := false })
  | _, _ => s

def execStopDiscrepancy (s : State) : Host.Outcome State Fault Refusal := s.answer (stopDiscrepancy s)

/-! ### The Trapdoor (R431) -/

/-- R431: an axis in SHORT for t_K without a sign change. -/
def trapdoorShortTimeout (n : AxisId) (s : State) : State :=
  if s.planned n.val && s.shorted n then (s.atLeast ((s.axes[n]).signAt + s.shortLimit n)).toOpen n else s

/-- R431 (TRAPDOOR_SHORT_TIMEOUT). -/
def execTrapdoorShortTimeout (n : AxisId) (s : State) : Host.Outcome State Fault Refusal := s.answer (trapdoorShortTimeout n s)

/-- R431: the sign of a value: above +1 % or below -1 % of full scale. -/
def signOf (y : Int) : Int := if 131072 < y * 100 then 1 else if y * 100 < -131072 then -1 else 0

/-- R431: a value of the watched current of an axis in SHORT. -/
def State.watchSign (s : State) (n : AxisId) (y : Int) : State :=
  let a := s.axes[n]
  let g := signOf y
  if g = 0 ∨ g = a.sign then s
  else s.modAxis n (fun a => { a with sign := g, signAt := if a.sign = 0 then a.signAt else s.clock })

/-! ### Die temperatures (R438) -/

/-- The three die temperatures, 0.125 K. -/
def State.dieTemps (s : State) : List Int :=
  [s.sfld F.CLK_TEMP_LD_VALUE, s.sfld F.CLK_TEMP_GD0_VALUE, s.sfld F.CLK_TEMP_GD1_VALUE]

/-- R438: faults 0xC01 and 0xC02, and the bar to ARM. -/
def State.tempCheck (s : State) : State :=
  let ts := s.dieTemps
  let o140 := ts.any (fun t => decide (1120 < t))
  let o150 := ts.any (fun t => decide (1200 < t))
  let t := if o140 && !s.guard.over140 then s.raiseLD 0xC01 0 none else s
  let t := if o150 && !s.guard.over150 then t.raiseLD 0xC02 0 none else t
  t.modGuard (fun g => { g with
    over140 := o140, over150 := o150, armBar := o150 || (g.armBar && !ts.all (fun t => decide (t < 1040))) })

/-! ### ADC results (R166, R431, R438) -/

/-- R431: what a value of a core and input tells the axes in SHORT that watch it. -/
def State.watchAll (s : State) (core input : Nat) : State :=
  s.forEach axisIds (fun n t =>
    if t.shorted n && (t.currentInputs n).head? == some (core, input) then t.watchSign n (t.lastY core input) else t)

/-- R14, R166 (ADC_RESULT): the oldest result on the up lane of a die arrives on LD, which takes it up. -/
def adcResult (dt : Nat) (d : DieId) (s : State) : State :=
  match (s.dies[d]).adcUp with
  | [] => s.pass dt
  | v :: rest =>
    if (s.dies[d]).linkLost || !s.live then s.pass dt else
    let s := s.cross d (s.lands d v.done 250 dt) (fun u => decide (u.adc < 10)) (fun u => { u with adc := u.adc + 1 })
    let t := (s.modDie d (fun x => { x with adcUp := rest })).takeResult v
    let t := t.watchAll v.core v.input
    if v.input = 7 then t.tempCheck else t

def execAdcResult (dt : Nat) (d : DieId) (s : State) : Host.Outcome State Fault Refusal := s.answer (adcResult dt d s)

/-! ### Gate links and PCLK (R439, R152) -/

/-- R439: every axis of a die that is not DISABLED takes its Trapdoor policy and enters FAULTED. -/
def State.trapDie (s : State) (d : DieId) (cause : Nat) : State :=
  (s.forEach (s.dieAxes d) (fun n t => t.trap n cause)).programCheck

/-- R439 (GATE_LINK_LOSS): no valid link cycle for 10 us. -/
def gateLinkLoss (d : DieId) (s : State) : State :=
  if !s.fmRuns || !s.hasDie d.val || (s.dies[d]).linkLost then s
  else
    let t := s.atLeast ((s.dies[d]).linkAt + 10 * usec)
    let t := (t.modDie d (fun x => { x with linkLost := true })).raiseLD 0xC31 d.val none
    t.actByHalt d

def execGateLinkLoss (d : DieId) (s : State) : Host.Outcome State Fault Refusal := s.answer (gateLinkLoss d s)

/-- R439 (GATE_LINK_RETURN). -/
def gateLinkReturn (d : DieId) (s : State) : State :=
  if !(s.dies[d]).linkLost then s
  else ((s.modDie d (fun x => { x with linkLost := false, linkAt := s.clock })).endHalt d).trapDie d 0xC31

def execGateLinkReturn (dt : Nat) (d : DieId) (s : State) : Host.Outcome State Fault Refusal :=
  s.answer (gateLinkReturn d (s.pass dt))

/-- R152, R439 (PCLK_RETURN): PCLK is back and the die resumes at the next link cycle. -/
def pclkReturn (d : DieId) (s : State) : State :=
  if !(s.dies[d]).onBackup || !s.flag F.CLK_PLL_STAT_LOCK then s
  else
    let t := s.atLeast (s.nextBoundary usec s.clock)
    ((t.setBackup d false).endHalt d).trapDie d 0x351

def execPclkReturn (dt : Nat) (d : DieId) (s : State) : Host.Outcome State Fault Refusal := s.answer (pclkReturn d (s.pass dt))

/-! ### The site key (R443, R444, R473) -/

/-- R443 (KEY_DATA_WRITE): the next four key bytes. -/
def keyDataWrite (data : Word) (s : State) : State :=
  if !s.reach 3 then s else s.modGuard (fun g => { g with keyWords := data.toNat % 2 ^ 32 :: g.keyWords })

def execKeyDataWrite (dt : Nat) (data : Word) (s : State) : Host.Outcome State Fault Refusal :=
  s.answer (keyDataWrite data (s.pass dt))

/-- The key that the words written spell, first word most significant. -/
def keyOf (words : List Nat) : BitVec 256 := BitVec.ofNat 256 (words.reverse.foldl (fun a w => a * 2 ^ 32 + w) 0)

/-- R52: CRC-32 of the 32 key bytes. -/
def keyCrc (k : BitVec 256) : Nat := crc32 (beBytes 32 k.toNat)

/-- Table 15.11: BOX.CMD. -/
def boxCommand (op : Nat) (s : State) : State :=
  if !s.reach 3 then s
  else
    let words := s.guard.keyWords
    let t := s.modGuard (fun g => { g with keyWords := [] })
    let key := keyOf words
    if op ≠ 1 || s.opBusy R.BOX_OP_STAT || s.flag F.BOX_STATUS_KEY_SET || decide (words.length ≠ 8) || decide (key = 0) ||
        !s.allDisabled then t.setFlag F.BOX_STATUS_CMD_REFUSED true
    else if keyCrc key ≠ s.fld F.BOX_KEY_CRC_CRC then (t.opStart R.BOX_OP_STAT 1).opErr R.BOX_OP_STAT 0
    else (t.opStart R.BOX_OP_STAT 1).modGuard (fun g => { g with keyNew := key, keyAt := s.clock })

/-- R443 (KEY_PROGRAM). -/
def execKeyProgram (dt : Nat) (s : State) : Host.Outcome State Fault Refusal := s.answer (boxCommand 1 (s.pass dt))

/-- R444: the key region holds the key with the bits `flips` wrong; the read-back is judged. -/
def State.keyEnd (s : State) (flips : BitVec 256) : State :=
  let region := s.guard.keyNew ^^^ flips
  let good := decide (keyCrc region = s.fld F.BOX_KEY_CRC_CRC)
  let t := s.modBox (fun x => { x with key := region, mark := good, keyUnknown := !good })
  let t := (t.setFlag F.BOX_STATUS_KEY_SET true).setFlag F.INV_ACTIVE_KEY_BLANK false
  if good then t.opDone R.BOX_OP_STAT else (t.opErr R.BOX_OP_STAT 0xC13).raiseLD 0xC13 0 none

/-! ### The ring's window and the lifetime counters (R446, R447) -/

/-- R446: the word that BOX.RING_DATA shows. -/
def State.ringData (s : State) : Word :=
  match s.box.ring[s.fld F.BOX_RING_SEL_AGE]? with
  | none => 0
  | some (a, b, c) => match s.fld F.BOX_RING_SEL_WORD with
    | 1 => b
    | 2 => c
    | _ => a

/-- R446 (RING_DATA_ACCESS): WORD advances, and after word 2 AGE. -/
def ringAccess (s : State) : State :=
  if !s.reach 3 then s
  else match s.fld F.BOX_RING_SEL_WORD with
    | 1 => s.setFld F.BOX_RING_SEL_WORD 2
    | 2 => (s.setFld F.BOX_RING_SEL_WORD 0).setFld F.BOX_RING_SEL_AGE ((s.fld F.BOX_RING_SEL_AGE + 1) % 1024)
    | _ => s.setFld F.BOX_RING_SEL_WORD 1

def execRingDataAccess (dt : Nat) (s : State) : Host.Outcome State Fault Refusal := s.answer (ringAccess (s.pass dt))

/-- R447: BOX.LIFE_DATA shows the selected counter. -/
def State.lifeData (s : State) : Word := BitVec.ofNat 36 (s.box.life.getD (s.fld F.BOX_LIFE_SEL_INDEX) 0)

/-- R447: what a motion frame adds: time with VAUX, with the inlet ON, with a die above 125 C, and the highest die
temperature. -/
def State.lifeFrame (s : State) (dt : Nat) : State :=
  let hot := s.dieTemps.any (fun t => decide (1000 < t))
  let top := s.dieTemps.foldl (fun a t => max a t.toNat) 0
  s.modBox (fun x => { x with
      lifePart := ((s.box.lifePart.modify 0 (· + dt)).modify 1 (· + (if s.inlet = inOn then dt else 0))).modify 2
        (· + (if hot then dt else 0)),
      life := s.box.life.modify 6 (max top) })

/-- R447: whole hours and kJ go over into the counters. -/
def State.lifeCarry (s : State) : State :=
  let p := s.box.lifePart
  let hour := 3600 * second
  let t := ((s.lifeAdd 0 (p.getD 0 0 / hour)).lifeAdd 2 (p.getD 1 0 / hour)).lifeAdd 7 (p.getD 2 0 / hour)
  let t := t.lifeAdd 8 (p.getD 3 0 / 1000000000000)
  t.modBox (fun x => { x with
      lifePart := [p.getD 0 0 % hour, p.getD 1 0 % hour, p.getD 2 0 % hour, p.getD 3 0 % 1000000000000] })

/-- R447 (LIFETIME_UPDATE). -/
def lifetimeUpdate (ok : Bool) (s : State) : State :=
  if !s.fmRuns then s else if ok then s.lifeCarry else s.boxWriteFail

def execLifetimeUpdate (dt : Nat) (ok : Bool) (s : State) : Host.Outcome State Fault Refusal :=
  s.answer (lifetimeUpdate ok (s.pass dt))

end Sys2Proof.Machine
end

