-- ==== Sys2Proof/Machine/Power.lean ====
section
/-! DEFINITION. Power states, start-up, resets, clock loss and the test access port (chapter 16, R46). The debug halt
stands with the loop engine. -/

namespace Sys2Proof.Machine

open Sys2Proof

/-! ### Reset (R46, R455) -/

/-- R455: a leg through a reset: the die keeps its policy and its gates, and a switch that was unavailable stays off under
the policy until an Inventory allocates its leg. The hold after a short goes as at a power-up (R46, R117), and so
does a BASE that is only partly learnt (R120; DESIGN CHOICE, log entry 413). -/
def keepGate (g : Leg) (offHi offLo : Bool) : Leg :=
  match g.policy with
  | none => Leg.reset
  | some p => { Leg.reset with
      policy := some p,
      hi := { Switch.reset with on := g.hi.on, offAt := g.hi.offAt, offSince := g.hi.offSince, onAt := g.hi.onAt, keptOff := offHi },
      lo := { Switch.reset with
        on := g.lo.on, wait := g.lo.wait, offAt := g.lo.offAt, offSince := g.lo.offSince, onAt := g.lo.onAt, keptOff := offLo } }

/-- R455: a die through a reset: VG, its clock, its link and the stop input of its own. -/
def keepDie (d : Die) : Die :=
  { Die.reset with
    vgUp := d.vgUp, onBackup := d.onBackup, linkLost := d.linkLost, stopDelay := d.stopDelay,
    stopbLowAt := d.stopbLowAt, backstop := d.backstop, linkAt := d.linkAt }

/-- Everything at its reset value but what outlives the loss of VAUX: the Strongbox, and the model's clock, counter of
free values and queue. The coarse edges of every region begin anew (R140). -/
def State.cold (s : State) (p : Power) : State :=
  { State.reset with
    variant := s.variant, clock := s.clock, tsBase := s.clock, free := s.free, box := s.box, pending := s.pending,
    flash := s.flash, power := p, regions := Vector.replicate 4 { Region.reset with coarseSince := s.clock } }

/-- R46, R455: the module resets, but for the PLL, the Strongbox, the policies the dies hold and VG. -/
def State.resetNow (s : State) : State :=
  let t := s.cold .reset
  let t := { t with
    jtag := s.jtag,
    legs := Vector.ofFn (fun l : LegId => keepGate s.legs[l] (!s.available l true) (!s.available l false)),
    dies := s.dies.map keepDie,
    seq := { PowerSeq.reset with
      resetAt := s.clock, counted := s.seq.counted,
      shorts := (axisIds.filter (fun (n : AxisId) => s.planned n.val && s.shorted n)).map (fun (n : AxisId) =>
        (n.val, (s.axisRec n.val).elim 0 (·.firstLeg), s.motor n)) } }
  let t := t.setFlag F.CLK_PLL_STAT_LOCK (s.flag F.CLK_PLL_STAT_LOCK)
  let t := t.setFlag F.CLK_PLL_STAT_REF_PRESENT (s.flag F.CLK_PLL_STAT_REF_PRESENT)
  let t := t.setFlag F.CLK_PLL_STAT_BACKUP_GD0 (s.flag F.CLK_PLL_STAT_BACKUP_GD0)
  let t := t.setFlag F.CLK_PLL_STAT_BACKUP_GD1 (s.flag F.CLK_PLL_STAT_BACKUP_GD1)
  let t := t.setFld F.INV_NEXT_BOOT_NEXT_BOOT s.seq.order
  let t := t.forEach quadIds (fun q t => t.setFlag (F.PW_STATUS_ON_BACKUP q) (s.dies[quadDie q]).onBackup)
  (t.setFlag F.SYS_STATUS_PLL_LOCK (s.flag F.CLK_PLL_STAT_LOCK)).settleAll

/-- R429: the Trapdoor engages on every axis. -/
def State.engageAll (s : State) : State :=
  s.forEach axisIds (fun n t => if t.planned n.val then t.engage n else t)

/-- R46, R443: a reset starts; while KEY_PROGRAM runs it holds its rest back. `order` is the NEXT_BOOT that the boot after
it uses (Table 3.25: that of a reset from SYS.RESET only). -/
def State.resetWith (s : State) (order : Nat) : State :=
  let t := s.engageAll
  if t.opBusy R.BOX_OP_STAT then
    { t with power := .reset, seq := { t.seq with resetAt := s.clock, waitKey := true, order := order } }
  else { t with seq := { t.seq with order := order } }.resetNow

/-- Every reset but that from SYS.RESET. -/
def State.doReset (s : State) : State := s.resetWith 0

/-- R46 (RESET): a write of SYS.RESET. -/
def sysReset (data : Word) (s : State) : State :=
  if s.reach 0 && decide (data = 0xC0DE) then s.resetWith (s.fld F.INV_NEXT_BOOT_NEXT_BOOT) else s

def execReset (dt : Nat) (data : Word) (s : State) : Host.Outcome State Fault Refusal := s.answer (sysReset data (s.pass dt))

/-- R454 (RST_N): RST_N has been low for 1 us. -/
def rstN (s : State) : State :=
  if s.power ∈ [Power.off, Power.brownout, Power.reset] then s else s.doReset

def execRstN (dt : Nat) (s : State) : Host.Outcome State Fault Refusal := s.answer (rstN (s.pass dt))

/-- R444 (KEY_PROGRAM_END): KEY_PROGRAM ends; a reset that waits goes on. -/
def keyProgramEnd (flips : BitVec 256) (s : State) : State :=
  if !s.opBusy R.BOX_OP_STAT then s
  else
    let t := s.keyEnd flips
    if t.seq.waitKey then t.resetNow else t

def execKeyProgramEnd (dt : Nat) (flips : BitVec 256) (s : State) : Host.Outcome State Fault Refusal :=
  s.answer (keyProgramEnd flips (s.pass dt))

/-- R455 (RESET_SHORT_TIMEOUT): 2 s after the reset's start a held SHORT that LD has not resumed turns OPEN. -/
def resetShortTimeout (s : State) : State :=
  if s.seq.shorts.isEmpty then s
  else
    let t := (s.atLeast (s.seq.resetAt + 2 * second)).modPower (fun p => { p with shorts := [] })
    t.forEach legIds (fun l t =>
      if (t.legs[l]).policy = some true && !(t.legAxis l).any (fun n => t.shorted n) then
        (t.modLeg l (fun g => { g with policy := some false })).settle l
      else t)

def execResetShortTimeout (s : State) : Host.Outcome State Fault Refusal := s.answer (resetShortTimeout s)

/-! ### Start-up (R452) -/

/-- R452 (POWER_UP): VAUX rises above 15.0 V. -/
def execPowerUp (dt : Nat) (s : State) : Host.Outcome State Fault Refusal :=
  let t := s.pass dt
  s.answer (if t.power = .off then t.cold .start else t)

/-- R452 (PLL_LOCK): the PLL locks and the derived clocks start. -/
def pllLock (s : State) : State :=
  if s.flag F.CLK_PLL_STAT_LOCK || !(s.power ∈ [Power.start, Power.reset]) || s.seq.waitKey then s
  else
    let t := (s.setFlag F.CLK_PLL_STAT_LOCK true).setFlag F.CLK_PLL_STAT_REF_PRESENT true
    { t.setFlag F.SYS_STATUS_PLL_LOCK true with tsBase := s.clock }

def execPllLock (dt : Nat) (s : State) : Host.Outcome State Fault Refusal := s.answer (pllLock (s.pass dt))

/-- R473: the key region as a start-up finds it. -/
def State.judgeKey (s : State) : State :=
  let blank := decide (s.box.key = 0) && !s.box.mark
  let bad := !blank && !s.box.mark
  let t := s.modBox (fun x => { x with keyUnknown := bad })
  let t := (t.setFlag F.BOX_STATUS_KEY_SET (!blank)).setFlag F.INV_ACTIVE_KEY_BLANK blank
  if bad then t.raiseLD 0xC13 0 none else t

/-- R441: the reasons restored at start-up: all but SLOT_FALLBACK and TEMP_SENSOR_LOST. -/
def keptReasons (v : Nat) : Nat := v % 16 + bitsOf v 6 6 * 64

/-- R452, R441, R423, R446, R120, R121, R473: the Strongbox is read, and every comparator audited (R180). -/
def State.readBox (s : State) : State :=
  let t := (s.setAll s.box.leak).setFlag F.BOX_STATUS_READY true
  let t := if t.seq.counted then t else (t.lifeAdd 1 1).modPower (fun p => { p with counted := true })
  let t := (t.judgeKey).setReasons (keptReasons t.box.reasons)
  let t := t.setReg R.BOX_RING_COUNT t.box.ringCount
  let t := t.modGuard (fun g => { g with heat := t.box.heat, heatAt := t.clock })
  let t := t.forEach (legIds.filter (fun (l : LegId) => decide (l.val ∈ s.box.retired))) (fun (l : LegId) (t : State) => t.setLegState l lgRetired)
  ({ t.queueAudits (cmpIds.map (fun (c : Fin 64) => c.val)) .startUp with power := .loading }).ladderInForce

/-- R452 (STRONGBOX_READ). -/
def strongboxRead (s : State) : State :=
  if s.power = .start ∧ s.flag F.CLK_PLL_STAT_LOCK then s.readBox else s

def execStrongboxRead (dt : Nat) (s : State) : Host.Outcome State Fault Refusal := s.answer (strongboxRead (s.pass dt))

/-- R450 (RESET_END). -/
def resetEnd (s : State) : State :=
  if s.power = .reset ∧ s.flag F.CLK_PLL_STAT_LOCK ∧ !s.seq.waitKey then s.readBox else s

def execResetEnd (dt : Nat) (s : State) : Host.Outcome State Fault Refusal := s.answer (resetEnd (s.pass dt))

/-! ### Bare mode (R87, R453, R455) -/

/-- R87: the module enters bare mode. -/
def State.enterBare (s : State) : State :=
  let t := (s.setFlag F.SYS_STATUS_BARE true).modPower (fun p => { p with shorts := [] })
  let t := { t with
    power := .bare, inv := none,
    legs := t.legs.map (fun (g : Leg) => { g with policy := some false }),
    dies := t.dies.map (fun (d : Die) => { d with vgUp := false }) }
  t.ladderInForce.settleAll

/-- R324, R460 (LARDER_INIT): the DRAM is ready, or a device fails. -/
def larderInit (ok : Bool) (s : State) : State :=
  if s.power ≠ .loading || s.larderReady || s.flag F.LDC_STATUS_INIT_FAIL then s
  else if ok then
    let used := s.box.remap.length
    let t := s.modLarder (fun _ => { Larder.reset with
      hourAt := s.clock, scrubAt := s.clock, refreshAt := s.clock, tempAt := s.clock })
    let t := (t.setFld F.LDC_SPARES_USED used).setFlag F.LDC_STATUS_SPARES_LOW (decide (6144 < used))
    t.setFlag F.LDC_STATUS_READY true
  else ((s.setFlag F.LDC_STATUS_INIT_FAIL true).raiseLD 0x841 0 none).enterBare

def execLarderInit (dt : Nat) (ok : Bool) (s : State) : Host.Outcome State Fault Refusal := s.answer (larderInit ok (s.pass dt))

/-! ### Loss of VAUX (R450, R456, R473) -/

/-- R450, R453 (POWER_OFF): VAUX falls below 12.0 V; a key region half programmed stays so. -/
def powerOff (flips : BitVec 256) (s : State) : State :=
  if s.power = .off then s
  else
    let t := if s.opBusy R.BOX_OP_STAT then
        s.modBox (fun x => { x with key := s.guard.keyNew ^^^ flips, mark := false }) else s
    t.cold .off

def execPowerOff (dt : Nat) (flips : BitVec 256) (s : State) : Host.Outcome State Fault Refusal :=
  s.answer (powerOff flips (s.pass dt))

/-- R456: the ring takes every record that waits, in order. -/
def State.ringFlush (s : State) : Nat → State
  | 0 => s
  | n + 1 => match firstEvent s.fm.inbox with
    | none => s
    | some e => ((s.modFm (fun x => { x with inbox := s.fm.inbox.erase e })).ringWrite (s.recordOf e) true).ringFlush n

/-- R456 (BROWNOUT): VAUX below 14.0 V for 10 us. -/
def brownout (s : State) : State :=
  if s.power = .off ∨ s.power = .brownout then s
  else
    let t := s.engageAll
    let t := if s.flag F.BOX_STATUS_READY then
        (let u := (t.ringFlush t.fm.inbox.length).lifeCarry
         (u.modBox (fun x => { x with heat := t.guard.heat })))
      else t
    let t := ((t.setInlet inOff).modGuard (fun g => { g with brkWant := false })).setFlag F.FLT_STATUS_BRK_ON false
    let t := { t.setFlag F.LDC_STATUS_READY false with larder := .reset, power := .brownout }
    t.settleAll

def execBrownout (dt : Nat) (s : State) : Host.Outcome State Fault Refusal := s.answer (brownout (s.pass dt))

/-- R456 (BROWNOUT_RECOVERY): VAUX back above 15.0 V. -/
def execBrownoutRecovery (dt : Nat) (s : State) : Host.Outcome State Fault Refusal :=
  let t := s.pass dt
  s.answer (if t.power = .brownout then t.doReset else t)

/-! ### Loss of lock (R459) -/

/-- R459 (PLL_LOSS): the PLL loses lock; `ref` is whether the reference still toggles. -/
def pllLoss (ref : Bool) (s : State) : State :=
  if !s.flag F.CLK_PLL_STAT_LOCK then s
  else
    let t := ((s.setFlag F.CLK_PLL_STAT_LOCK false).setFlag F.SYS_STATUS_PLL_LOCK false).setFlag F.CLK_PLL_STAT_LOCK_LOST true
    let t := ((t.setFlag F.CLK_PLL_STAT_REF_PRESENT ref).count R.CLK_PLL_LOSS).raiseLD 0xC21 0 none
    let t := t.modPower (fun p => { p with lossAt := some s.clock })
    pclkLoss 1 (pclkLoss 0 t)

def execPllLoss (dt : Nat) (ref : Bool) (s : State) : Host.Outcome State Fault Refusal := s.answer (pllLoss ref (s.pass dt))

/-- R459: lock may be back within 8 ms. -/
abbrev relockLimit : Nat := 8 * msec

/-- R459 (PLL_RELOCK): the clocks resume at an engine frame boundary, and the Larder catches up its refresh. -/
def pllRelock (s : State) : State :=
  match s.seq.lossAt with
  | none => s
  | some t0 =>
    if s.flag F.CLK_PLL_STAT_LOCK || decide (t0 + relockLimit < s.clock) then s
    else
      let t := s.atLeast (s.nextBoundary framePclk s.clock)
      let t := (t.setFlag F.CLK_PLL_STAT_LOCK true).setFlag F.CLK_PLL_STAT_REF_PRESENT true
      let t := (t.setFlag F.SYS_STATUS_PLL_LOCK true).modPower (fun p => { p with lossAt := none })
      t.modLarder (fun l => { l with refreshAt := t.clock })

def execPllRelock (dt : Nat) (s : State) : Host.Outcome State Fault Refusal := s.answer (pllRelock (s.pass dt))

/-- R459 (PLL_LOSS_TIMEOUT): 8 ms without lock. -/
def pllLossTimeout (s : State) : State :=
  match s.seq.lossAt with
  | none => s
  | some t0 =>
    if s.flag F.CLK_PLL_STAT_LOCK then s
    else ((s.atLeast (t0 + relockLimit)).modPower (fun p => { p with lossAt := none })).doReset

def execPllLossTimeout (s : State) : Host.Outcome State Fault Refusal := s.answer (pllLossTimeout s)

/-! ### JTAG (R463) -/

/-- R463: the identification code. -/
def idCode (v : Variant) : BitVec 32 := match v with
  | .lkm8836 => 0x1883654F
  | .lkm4836 => 0x1483654F

/-- R463: an instruction comes into force; leaving EXTEST, HIGHZ or CLAMP starts a reset. -/
def State.jtagTo (s : State) (i : JtagInstr) : State :=
  if s.power = .off then s
  else
    let t := s.modJtag (fun x => { x with instr := i, dr := if i = .idcode then idCode s.variant else s.jtag.dr })
    if t.jtag.holdsOff then (if s.jtag.holdsOff then t else ((t.setInlet inOff).brkSettle).settleAll)
    else if s.jtag.holdsOff then t.doReset
    else t

/-- EXTEST. -/
def execExtest (dt : Nat) (s : State) : Host.Outcome State Fault Refusal := s.answer ((s.pass dt).jtagTo .extest)

/-- IDCODE. -/
def execIdcode (dt : Nat) (s : State) : Host.Outcome State Fault Refusal := s.answer ((s.pass dt).jtagTo .idcode)

/-- SAMPLE/PRELOAD. -/
def execSamplePreload (dt : Nat) (s : State) : Host.Outcome State Fault Refusal := s.answer ((s.pass dt).jtagTo .sample)

/-- HIGHZ. -/
def execHighz (dt : Nat) (s : State) : Host.Outcome State Fault Refusal := s.answer ((s.pass dt).jtagTo .highz)

/-- CLAMP. -/
def execClamp (dt : Nat) (s : State) : Host.Outcome State Fault Refusal := s.answer ((s.pass dt).jtagTo .clamp)

/-- BYPASS, and every value that Table 16.7 does not name. -/
def execBypass (dt : Nat) (s : State) : Host.Outcome State Fault Refusal := s.answer ((s.pass dt).jtagTo .bypass)

end Sys2Proof.Machine
end

