-- ==== Sys2Proof/Machine/EngineRun.lean ====
section
/-! DEFINITION. Running the schedule (chapters 7, 8 and 10): what an engine frame boundary does (set-points,
compensation, fetches), one executed step of an axis program with its inputs, outputs and supervisor, stall and
following error, and the commands of the ENG block. -/

namespace Sys2Proof.Machine

open Sys2Proof

/-- The engine frame in force. -/
def State.frameNow (s : State) : Nat := (s.lastEngine - s.tsBase) / framePclk

/-! ### Compensation (R311 to R314) -/

/-- The compensation of an axis. -/
def State.compDef (s : State) (n : AxisId) : Option CompDef :=
  match s.inv with
  | none => none
  | some v => v.comps.find? (fun c => c.axis == n.val)

/-- R311: the points that position `p` lies between, and the fraction of a step (numerator). -/
def CompDef.pitchAt (c : CompDef) (p : Int) : Nat × Nat × Nat :=
  let st : Int := max 1 c.pitchStep
  let j := (p - c.pitchStart) / st
  if j < 0 then (0, 0, 0)
  else if (c.pitchPoints : Int) ≤ j + 1 then (c.pitchPoints - 1, c.pitchPoints - 1, 0)
  else (j.toNat, j.toNat + 1, ((p - c.pitchStart) % st).toNat)

/-! Fetches (R212) -/

/-- The Larder lines of a fetch. -/
def Fetch.lines (f : Fetch) : List Nat := (f.points.map (fun j => (f.addr + j) / 8)).eraseDups

/-- R212: the completed fetch of `base` that frame `fr` uses: one for its own points `need`, else the last completed one
that an earlier boundary requested. -/
def fetchFor (l : List Fetch) (base fr : Nat) (need : List Nat) : Option Fetch :=
  let l := l.filter (fun f => decide (f.base = base) && f.got.isSome && decide (f.asked < fr))
  match l.find? (fun f => decide (f.points = need)) with
  | some f => some f
  | none => l.head?

/-- R212: the entries that frame `fr` needs have not arrived. -/
def fetchMissing (l : List Fetch) (base fr : Nat) (need : List Nat) : Bool :=
  !(fetchFor l base fr need).any (fun f => decide (f.points = need))

/-- R212: the two words that frame `fr` uses; 0 where no fetch has completed. -/
def fetchedWords (l : List Fetch) (base fr : Nat) (need : List Nat) : Word × Word :=
  match fetchFor l base fr need with
  | none => (0, 0)
  | some f => let w := f.got.getD []; (w.getD 0 0, w.getD 1 0)

/-- A word among delivered lines. -/
def wordIn (ls : List (Nat × List Word)) (a : Nat) : Word :=
  match ls.find? (fun e => e.1 == a / 8) with
  | none => 0
  | some e => e.2.getD (a % 8) 0

/-- R212: the oldest fetch of `base` under way takes what has arrived; one whose lines cannot be read never arrives. -/
def takeLines (base : Nat) (ls : Option (List (Nat × List Word))) (l : List Fetch) : List Fetch :=
  match l.reverse.find? (fun f => decide (f.base = base) && f.got.isNone) with
  | none => l
  | some f =>
    match ls with
    | none => l.erase f
    | some ls => l.replace f { f with got := some (f.points.map (fun j => wordIn ls (f.addr + j))) }

/-- R212: a fetch joins; of the completed ones of its table the newest three stay. -/
def addFetch (f : Fetch) (l : List Fetch) : List Fetch :=
  let mine := l.filter (fun x => decide (x.base = f.base))
  f :: (mine.filter (·.got.isNone) ++ (mine.filter (·.got.isSome)).take 3 ++ l.filter (fun x => decide (x.base ≠ f.base)))

/-- R212: the same entries are already on their way. -/
def underWay (l : List Fetch) (base : Nat) (need : List Nat) : Bool :=
  l.any (fun f => decide (f.base = base) && f.got.isNone && decide (f.points = need))

/-! Terms -/

/-- R311: the points that a position needs. -/
def CompDef.pitchNeed (c : CompDef) (p : Int) : List Nat := let (j, k, _) := c.pitchAt p; [j, k]

/-- R311: the pitch term in frame `fr`. -/
def pitchTerm (d : CompDef) (c : Comp) (fr : Nat) (p : Int) : Int :=
  if d.pitchPoints = 0 then 0
  else
    let (_, _, f) := d.pitchAt p
    let w := fetchedWords c.pitch 0 fr (d.pitchNeed p)
    let a := w.1.toInt
    let b := w.2.toInt
    roundDiv (a * max 1 d.pitchStep + f * (b - a)) (max 1 d.pitchStep)

/-- R312: the backlash term at position `p` of a generator that moves at `v`. -/
def backlashStep (d : CompDef) (c : Comp) (p v : Int) : Comp :=
  let dir : Int := if 0 < v then 1 else if v < 0 then -1 else c.dir
  let turn := decide (dir ≠ c.dir)
  let b0 := if turn then c.b else c.b0
  let travel := if turn then 0 else c.travel + (p - c.lastP).natAbs
  let bf : Int := (d.backlash / 2 : Nat)
  let target := if 0 < dir then bf else bf - d.backlash
  let b := if dir = 0 then 0
    else if d.blRamp ≤ travel then target
    else roundDiv (b0 * d.blRamp + (target - b0) * travel) d.blRamp
  { c with dir := dir, b0 := b0, travel := travel, lastP := p, moved := c.moved || decide (dir ≠ 0), b := b }

/-- R313: the thermal term. -/
def thermTerm (d : CompDef) (temp p : Int) : Int :=
  if d.tempSrc = 15 then 0 else roundDiv (p * d.thermCoef * (temp - d.tempRef)) 8000000000

/-- R313: T once per motion frame; while the input is lost the last good T holds. -/
def State.compTemps (s : State) : State :=
  s.forEach axisIds (fun n t =>
    match t.compDef n with
    | none => t
    | some d =>
      if h : d.tempSrc < 8 then
        if (t.cores[d.tempSrc]).tempLost then t
        else
          let fs := (t.calDef d.tempSrc 7).elim 0 (·.fullScale)
          t.modComp n (fun c => { c with temp := roundDiv (t.lastY d.tempSrc 7 * fs) 131072 })
      else t)

/-- R311 to R314: the terms of an axis at a set-point of frame `fr`, and their sum; 0 without a COMP shelf. -/
def State.compTerms (s : State) (n : AxisId) (fr : Nat) (p v : Int) : Comp × Int :=
  match s.compDef n with
  | none => (s.comps[n], 0)
  | some d =>
    let c := backlashStep d s.comps[n] p v
    (c, if s.regBit R.PLN_COMP_OFF n.val then 0 else pitchTerm d c fr p + c.b + thermTerm d c.temp p)

/-- R314: the terms of this engine frame; COMP_NOW reports their sum. -/
def State.compensate (s : State) (n : AxisId) (p v : Int) : State × Int :=
  let (c, sum) := s.compTerms n s.frameNow p v
  ((s.modComp n (fun _ => c)).setReg (R.PLN_COMP_NOW n) (posWord sum), sum)

/-! ### Fetches (R212) -/

/-- R203: a SINE that reads its detent table: coefficient base and DETENT_ADDR. -/
def State.detentSines (s : State) (n : AxisId) : List (Nat × Nat) :=
  let e := s.engs[n]
  ((progOf e.prog).filter (fun i => decide (i.op = opSine) && decide (bitsOf (e.coef.getD i.cbase 0).toNat 35 35 = 1))).map
    (fun i => (i.cbase, bitsOf (e.coef.getD i.cbase 0).toNat 29 0))

/-- R203: the points between which an angle lies. -/
def detentNeed (ang : Nat) : List Nat := [ang / 256 % 1024, (ang / 256 + 1) % 1024]

/-- R212: what has arrived for the engine goes to its axes. -/
def State.takeFetch (s : State) (d : Delivered) : State :=
  let gone := s.modLarder (fun l => { l with arrived := l.arrived.erase d })
  match d.user with
  | .detent m base =>
    match axisOfNat m with
    | none => gone
    | some n => gone.modEng n (fun e => { e with detents := takeLines base d.lines e.detents })
  | .pitch m =>
    match axisOfNat m with
    | none => gone
    | some n => gone.modComp n (fun c => { c with pitch := takeLines 0 d.lines c.pitch })
  | _ => s

def State.takeFetches (s : State) : State := s.forEach s.larder.arrived (fun d t => t.takeFetch d)

/-- R212: the requests of an engine frame boundary for the next frame, whose uncompensated set-point is `p` and whose
ANGLE_SET is `ang`. -/
def State.askFetches (s : State) (n : AxisId) (p : Int) (ang : Nat) : State :=
  let fr := s.frameNow
  let t := s.forEach (s.detentSines n) (fun (base, addr) t =>
    let f : Fetch := ⟨base, fr, addr, detentNeed ang, none⟩
    if underWay (t.engs[n]).detents base f.points then t
    else (t.ask 1 (.detent n.val base) f.lines).modEng n (fun e => { e with detents := addFetch f e.detents }))
  match t.compDef n with
  | none => t
  | some d =>
    let f : Fetch := ⟨0, fr, d.pitchAddr, d.pitchNeed p, none⟩
    if d.pitchPoints = 0 || underWay (t.comps[n]).pitch 0 f.points then t
    else (t.ask 1 (.pitch n.val) f.lines).modComp n (fun c => { c with pitch := addFetch f c.pitch })

/-- R212: one late entry counts. -/
def State.fetchLate (s : State) (n : AxisId) : State :=
  ((s.count R.ENG_FETCH_MISS).setFlag F.ENG_STATUS_FETCH_LATE true).raiseLD 0x513 n.val (some n.val)

/-- R212: the tables whose entries for this frame have not arrived by SLOT_START: those of each SINE at this frame's
ANGLE_SET, then the pitch points of its set-point. -/
def State.lateFetches (s : State) (n : AxisId) : State :=
  let fr := s.frameNow
  let need := detentNeed (s.axes[n]).angSet
  let sines := (s.detentSines n).filter (fun x => fetchMissing (s.engs[n]).detents x.1 fr need)
  let pitch := match s.compDef n with
    | none => false
    | some d => decide (d.pitchPoints ≠ 0) && fetchMissing (s.comps[n]).pitch 0 fr (d.pitchNeed (tickOf (s.axes[n]).mo.p))
  let t := s.forEach sines (fun _ t => t.fetchLate n)
  if pitch then t.fetchLate n else t

/-! ### Engine frame boundary (R19, R191, R192, R234, R248) -/

/-- R235: SET_ACC as presented. -/
def State.accCode (s : State) (n : AxisId) (a : Int) : Int :=
  let m := (s.axes[n]).cfg.amax
  if m = 0 then 0 else satQ (roundDiv (a * 131072) (m * 2 ^ 20))

/-- R192: one word of the latched axis inputs. -/
def State.setInput (s : State) (n : AxisId) (j : Nat) (w : Word) : State :=
  s.modEng n (fun e => { e with inputs := e.inputs.set j w })

/-- R234, R248: SET_POS takes a compensated set-point in ticks; ANGLE_SET follows its change. -/
def State.moveSetPos (s : State) (n : AxisId) (x : Int) : State :=
  let old := s.reg (R.AX_SET_POS n)
  let d := posDiff (posWord x) old
  let (num, den) := s.angRatio n
  let t := s.setReg (R.AX_SET_POS n) (posWord x)
  let t := if wraps36 old d then t.setFlag (F.AX_EVENTS_POS_WRAP n) true else t
  t.modAxis n (fun a =>
    let (g, r) := mapAngle num den a.angSet a.angRem d
    { a with angSet := g, angRem := r })

/-- R212: the entries of the next frame: the profile generator holds its set-point one frame ahead. -/
def State.foresee (s : State) (n : AxisId) : State :=
  let a := s.axes[n]
  let next := a.path.at_ (a.k + 1)
  let (num, den) := s.angRatio n
  let x := tickOf next.p + (s.compTerms n (s.frameNow + 1) (tickOf next.p) next.v).2
  s.askFetches n (tickOf next.p) (mapAngle num den a.angSet a.angRem (posDiff (posWord x) (s.reg (R.AX_SET_POS n)))).1

/-- R192: the SET inputs of a frame; an axis that is off has no acceleration. -/
def State.latchSet (s : State) (n : AxisId) : State :=
  let t := s.setInput n 0 (s.reg (R.AX_SET_POS n))
  let t := t.setInput n 2 (mkVec (t.speedCode n (t.sfld (F.AX_SET_VEL_VALUE n)))
    (if t.axisOn n then t.accCode n (t.axes[n]).mo.a else 0))
  t.setInput n 4 (mkWord (hiU ((t.engs[n]).inputs.getD 4 0)) (t.axes[n]).angSet)

/-- R192, R248, R314: the set-point of an axis that is on advances by one engine frame; the terms of every planned axis are
those of this frame, and its SET inputs are latched. -/
def State.advanceAxis (s : State) (n : AxisId) : State :=
  if !s.planned n.val then s
  else if !s.axisOn n then (((s.compensate n (tickOf (s.axes[n]).mo.p) 0).1).setReg (R.AX_SET_VEL n) 0).latchSet n
  else
    let a := s.axes[n]
    let m := a.path.at_ (a.k + 1)
    let t := s.modAxis n (fun a => { a with k := a.k + 1, mo := m })
    let (t, sum) := t.compensate n (tickOf m.p) m.v
    let t := t.moveSetPos n (tickOf m.p + sum)
    let t := (t.setReg (R.AX_SET_VEL n) (posWord (velReg m.v))).wheelTurn n
    (t.latchSet n).foresee n

/-- Table 7.12: LAST_END and MAX_END. -/
def State.loadFrame (s : State) : State :=
  let e := s.engine.endNow
  let t := s.setFld F.ENG_LOAD_LAST_END e
  let t := t.setFld F.ENG_LOAD_MAX_END (max e (t.fld F.ENG_LOAD_MAX_END))
  t.modEngine (fun x => { x with endNow := 0 })

/-! ### Coefficient staging (R222, R223) -/

/-- OP_STAT.STAGED shows how many words are staged. -/
def State.setStaged (s : State) (l : List (Nat × Nat × Word)) : State :=
  { s.setFld F.ENG_OP_STAT_STAGED l.length with engine := { s.engine with staged := l } }

/-- R205, R223: the number of tables of an axis. -/
def State.tableCount (s : State) (n : AxisId) : Nat := (s.engs[n]).tables.length / 64

/-- R203: a SINE coefficient word names a usable detent table. -/
def State.detentWordOk (s : State) (w : Word) : Bool :=
  let a := bitsOf w.toNat 29 0
  decide (bitsOf w.toNat 35 35 = 0) || (decide (a % 8 = 0) && decide (a + 1024 ≤ s.variant.rbase))

/-- R223: a staged word may be applied. -/
def State.stagedOk (s : State) (x : Nat × Nat × Word) : Bool :=
  match axisOfNat x.1 with
  | none => true
  | some n => (progOf (s.engs[n]).prog).all (fun i =>
      decide (i.cbase ≠ x.2.1) ||
        (if i.op = opLutg then decide (bitsOf x.2.2.toNat 35 30 < s.tableCount n)
         else if i.op = opSine then s.detentWordOk x.2.2 else true))

/-- R223: APPLY_COEF runs. -/
def State.applyRuns (s : State) : Bool := s.opBusy R.ENG_OP_STAT && decide (s.lastOp R.ENG_OP_STAT = 1)

/-- R220, R223: the batch is refused on account of axis `m`. -/
def State.refuseBatch (s : State) (m : Nat) : State :=
  ((s.setStaged []).opErr R.ENG_OP_STAT 0x502).raiseLD 0x502 m (some m)

/-- R223: a running APPLY_COEF writes every staged word, or refuses the whole batch for its first invalid word (log entry
707). -/
def State.applyStaged (s : State) : State :=
  if !s.applyRuns then s
  else match s.engine.staged.find? (fun x => !s.stagedOk x) with
    | some x => s.refuseBatch x.1
    | none =>
      let t := s.forEach s.engine.staged (fun (m, off, w) t =>
        match axisOfNat m with
        | none => t
        | some n => t.modEng n (fun e => { e with coef := e.coef.set off w }))
      (t.setStaged []).opDone R.ENG_OP_STAT

/-- R223 (COEF_BATCH_APPLY): the next engine frame boundary completes APPLY_COEF. -/
def coefBatchApply (s : State) : State :=
  if !s.live || !s.applyRuns then s
  else (s.atLeast (s.nextBoundary framePclk s.lastEngine)).applyStaged

def execCoefBatchApply (s : State) : Host.Outcome State Fault Refusal := s.answer (coefBatchApply s)

/-- R223: Table 7.16: ENG.CMD. -/
def engCommand (op : Nat) (s : State) : State :=
  let k := R.ENG_OP_STAT
  if !s.reach 0xA then s
  else if op = 0xF then
    if s.opBusy k then (s.setStaged []).opAborted k else s.abortIdle k
  else if s.opBusy k || !(op ∈ [1, 2]) then s.setFlag F.ENG_STATUS_CMD_REFUSED true
  else if op = 2 then (s.setStaged []).opWhole k 2
  else s.opStart k 1

/-- APPLY_COEF (R223). -/
def execApplyCoef (dt : Nat) (s : State) : Host.Outcome State Fault Refusal := s.answer (engCommand 1 (s.pass dt))

/-- DISCARD (R223). -/
def execDiscard (dt : Nat) (s : State) : Host.Outcome State Fault Refusal := s.answer (engCommand 2 (s.pass dt))

/-- ENG_ABORT (R223, R44). -/
def execEngAbort (dt : Nat) (s : State) : Host.Outcome State Fault Refusal := s.answer (engCommand 0xF (s.pass dt))

/-- R223: an Inventory APPLY that completes discards the staged words of the axes it affects; an APPLY_COEF that runs then
ends with 0x502, against the axis of the first word discarded. -/
def State.dropCoefs (s : State) (axes : List Nat) : State :=
  let hit (x : Nat × Nat × Word) : Bool := decide (x.1 ∈ axes)
  if s.opBusy R.ENG_OP_STAT then
    s.refuseBatch (((s.engine.staged.filter hit ++ s.engine.staged).head?).elim (axes.headD 0) (·.1))
  else s.setStaged (s.engine.staged.filter (fun x => !hit x))

/-- The axis that WIN_SEL names. -/
def State.winAxis (s : State) : AxisId := ⟨s.fld F.ENG_WIN_SEL_AXIS % 8, Nat.mod_lt _ (by decide)⟩

/-- R222: the section that WIN_SEL names. -/
def State.winSection (s : State) : List Word :=
  let e := s.engs[s.winAxis]
  match s.fld F.ENG_WIN_SEL_SECTION with
  | 0 => e.prog
  | 1 => e.coef
  | 2 => e.st
  | _ => e.tables

/-- R222: WIN_SEL moves on. -/
def State.winNext (s : State) : State := s.setFld F.ENG_WIN_SEL_OFFSET (s.fld F.ENG_WIN_SEL_OFFSET + 1)

/-- R222: the word a read of WIN_DATA returns. -/
def State.winData (s : State) : Word := s.winSection.getD (s.fld F.ENG_WIN_SEL_OFFSET) 0

/-- R222, R223: a write of WIN_DATA. -/
def State.winWrite (s : State) (w : Word) : State :=
  let n := s.winAxis
  let off := s.fld F.ENG_WIN_SEL_OFFSET
  let refuse := s.setFlag F.ENG_STATUS_WIN_REFUSED true
  let t :=
    if s.winSection.length ≤ off then refuse
    else match s.fld F.ENG_WIN_SEL_SECTION with
      | 1 =>
        if 16 ≤ s.engine.staged.length then refuse.setFlag F.ENG_STATUS_CMD_REFUSED true
        else s.setStaged (s.engine.staged ++ [(n.val, off, w)])
      | 3 =>
        if s.axisSt n = stDisabled then s.modEng n (fun e => { e with tables := e.tables.set off w }) else refuse
      | _ => refuse
  t.winNext

/-- R222 (WIN_DATA_ACCESS): a read (no word) or a write of WIN_DATA. -/
def winAccess (data : Option Word) (s : State) : State :=
  if !s.reach 0xA then s
  else match data with
    | none => s.winNext
    | some w => s.winWrite w

def execWinDataAccess (dt : Nat) (data : Option Word) (s : State) : Host.Outcome State Fault Refusal :=
  s.answer (winAccess data (s.pass dt))

/-! ### Axis inputs (R192, R235 to R239) -/

/-- R162: the trigger whose results the axis reads in this frame. -/
def State.ownTrigger (s : State) (n : AxisId) : Nat :=
  let d := s.adcDelay n.val
  if d < framePclk then s.lastEngine + d else s.lastEngine - framePclk + d % framePclk

/-- R192: the latch of the axis's channel that its program uses. -/
def State.fbLatch (s : State) (n : AxisId) : FbLatch :=
  match s.axisChan n with
  | none => ⟨0, 0, 0, 0, 0⟩
  | some c =>
    match (s.chans[c]).latches.find? (fun l => decide (l.at_ ≤ s.ownTrigger n)) with
    | some l => l
    | none => ⟨0, s.reg (R.FB_POS c), 0, s.fbFlags c, (s.chans[c]).ang⟩

/-- R236: the angle that a drive presents; KIND 3 gives the centre of the hall sector. -/
def State.driveAngle (s : State) (n : AxisId) (drive : Nat) : Nat :=
  match drive with
  | 0 => (s.axes[n]).angSet
  | 1 =>
    let l := s.fbLatch n
    if s.feedKind n = 3 then l.angle else toAngle (l.angle + s.sfld (F.AX_COMM_COMM_OFS n))
  | _ => s.fld (F.ENG_OBS_A_THETA n)

/-- R236, R242: FB_POS and FB_SPEED (as a velocity) that a drive presents. -/
def State.drivePos (s : State) (n : AxisId) (drive : Nat) : Word × Int :=
  match drive with
  | 0 => (s.reg (R.AX_SET_POS n), s.sfld (F.AX_SET_VEL_VALUE n))
  | 1 => ((s.fbLatch n).pos, (s.fbLatch n).speed)
  | _ => ((s.axes[n]).obsPos, s.omegaSpeed n (s.sfld (F.ENG_OBS_A_OMEGA n)))

/-- R239: the direction of the present torque: the sign of the q current last published. -/
def State.torqueBack (s : State) (n : AxisId) : Bool := decide (loQ (s.reg (R.AX_I_DQ n)) < 0)

/-- R239: step 1 of a transfer: the angle difference is fixed, a transfer to OPEN re-bases ANGLE_SET, one to OBS takes
SET_POS as its position. -/
def State.xferOpen (s : State) (n : AxisId) (x : Xfer) : State :=
  if x.quiet then s
  else
    let old := s.driveAngle n (s.drive n)
    let t := if x.drive = 0 then
        s.modAxis n (fun a => { a with angSet := toAngle (old + (if s.torqueBack n then -65536 else 65536)) })
      else if x.drive = 2 then
        s.modAxis n (fun a => { a with
          obsPos := s.reg (R.AX_SET_POS n), obsRem := 0, obsTheta := s.fld (F.ENG_OBS_A_THETA n) })
      else s
    let delta := angDiff (t.driveAngle n x.drive) old
    t.modAxis n (fun a => { a with xfer := some { x with delta := delta } })

/-- R239: a transfer moves on by one executed step, up to its last. -/
def State.xferStep (s : State) (n : AxisId) : State :=
  match (s.axes[n]).xfer with
  | none => s.modAxis n (fun a => { a with track := false })
  | some x =>
    let t := if x.k = 0 then s.xferOpen n x else s
    t.modAxis n (fun a => { a with
      track := decide (x.k = 0) && !x.quiet, xfer := a.xfer.map (fun x => { x with k := min x.steps (x.k + 1) }) })

/-- R236, R239: ANGLE_FB, FB_POS, FB_SPEED (velocity), AMP and I_LIM (fractions of I_RATED) of this executed step. -/
def State.presented (s : State) (n : AxisId) : Nat × Word × Int × Int × Int :=
  let a := s.axes[n]
  let d := s.drive n
  let amp := if d = 0 then a.amp.now else 0
  let lim := if d = 0 then 0 else a.ilim.now
  let (p, v) := s.drivePos n d
  match a.xfer with
  | none => (s.driveAngle n d, p, v, amp, lim)
  | some x =>
    let kk : Nat := max 1 x.steps
    if x.quiet then (s.driveAngle n d, p, v, roundDiv (amp * x.k) kk, lim)
    else
      let ang := toAngle ((s.driveAngle n x.drive : Nat) - roundDiv (x.delta * (kk - x.k : Nat)) kk)
      if x.drive = 0 then
        (ang, p, v, roundDiv (s.ampLevel n (s.regime n) * x.k) kk, roundDiv (x.ilim0 * (kk - x.k : Nat)) kk)
      else
        let (p', v') := s.drivePos n x.drive
        (ang, p', v', roundDiv (x.amp0 * (kk - x.k : Nat)) kk, s.limLevel n (s.regime n))

/-- R237: MODE. -/
def State.modeWord (s : State) (n : AxisId) : Nat :=
  let a := s.axes[n]
  packBits [a.track, decide (s.drive n = 0), s.flag (F.AX_STATE_XFER n), decide (a.mo.v < 0)] + s.regime n * 16

/-- R192, Table 7.5: the newest calibrated VM of the axis's die. -/
def State.vmOf (s : State) (n : AxisId) : Int :=
  let cs := coreIds.filter (fun c => coreDie c == s.axisDie n)
  (cs.foldl (fun (best : Nat × Int) c =>
    match (s.meas[measIx c.val 6]).hist.head? with
    | some e => if best.1 ≤ e.at_ then (e.at_, e.y) else best
    | none => best) (0, 0)).2

/-- R192, Tables 7.5 and 8.16: the inputs of an executed step, and the monitors that show them. -/
def State.latchInputs (s : State) (n : AxisId) : State :=
  let (ang, pos, v, amp, lim) := s.presented n
  let i := (s.engs[n]).inputs
  let speed := s.speedCode n v
  let ampC := s.ofRated n amp
  let set := loU (i.getD 4 0)
  let set := if (s.axes[n]).xfer.any (fun x => decide (x.k ≤ 1)) then (s.axes[n]).angSet else set
  let old := s.reg (R.AX_FB_POS n)
  let t := s.setInput n 1 pos
  let t := t.setInput n 3 (mkWord (unsigned 18 speed) (s.fbLatch n).flags)
  let t := t.setInput n 4 (mkWord ang set)
  let t := t.setInput n 5 (mkVec (s.ofRated n lim) ampC)
  let t := t.setInput n 6 (mkVec (s.vmOf n) 0)
  let t := t.setInput n 7 (mkWord 0 (s.modeWord n))
  let t := if wraps36 old (posDiff pos old) then t.setFlag (F.AX_EVENTS_FB_WRAP n) true else t
  let t := t.setReg (R.AX_FB_POS n) pos
  let t := t.setReg (R.AX_SPEED n) (mkWord (unsigned 18 speed) (hiU (i.getD 2 0)))
  let t := t.setReg (R.AX_ANGLES n) (mkWord set ang)
  t.setFld (F.AX_DRIVE_MON_AMP_NOW n) (unsigned 18 ampC)

/-- R211, R214: the axis executes its program in this engine frame. -/
def State.stepsNow (s : State) (n : AxisId) : Bool :=
  s.axisOn n && decide ((s.engs[n]).readyAt ≤ s.lastEngine) && decide (s.frameNow % 2 ^ s.fld (F.ENG_SLOT_LOG2L n) = 0)

/-- R192: a planned axis that executes no program in this engine frame, whose inputs other programs may read. -/
def State.idleStep (s : State) (n : AxisId) : Bool := s.planned n.val && !s.stepsNow n

/-! ### ENGINE_FRAME -/

/-- R19, R191, R212, R248 (ENGINE_FRAME): an engine frame boundary. -/
def engineFrame (s : State) : State :=
  if !s.live then s
  else
    let t := s.atLeast (s.nextBoundary framePclk s.lastEngine)
    let t := { t with lastEngine := t.clock, frame := (t.clock - t.tsBase) / framePclk }
    let t := (t.loadFrame.applyStaged).takeFetches
    let t := t.forEach quadIds (fun q t => t.applyRegion q)
    if t.jtag.halted then t
    else (t.forEach axisIds (fun n t => t.advanceAxis n)).forEach axisIds (fun n t =>
      if t.idleStep n && decide (framePclk ≤ t.adcDelay n.val) then t.latchInputs n else t)

def execEngineFrame (s : State) : Host.Outcome State Fault Refusal := s.answer (engineFrame s)

/-! ### ADC_TRIGGER -/

/-- R162, R192 (ADC_TRIGGER): the conversions of the trigger queue, and the channels of its axes latch; so do the inputs of an
axis that executes no program. -/
def adcTrigger (n : AxisId) (s : State) : State :=
  if !s.live || !s.planned n.val then s
  else
    let t := s.fireTrigger n
    t.forEach (s.sameTrigger n) (fun m t =>
      let t := match t.axisChan m with
        | none => t
        | some c => t.latchChan c (s.trigInstant n)
      if t.idleStep m && !t.jtag.halted && decide (t.adcDelay m.val < framePclk) then t.latchInputs m else t)

def execAdcTrigger (n : AxisId) (s : State) : Host.Outcome State Fault Refusal := s.answer (adcTrigger n s)

/-! ### Shared inputs (R191) -/

/-- R162, R169: the value of an ADC input for an axis that reads it at its own trigger; otherwise the latest. -/
def State.adcFor (s : State) (n : AxisId) (core input : Nat) : Option Sample :=
  let h := (s.meas[measIx core input]).hist
  if (s.seqs[n]).reads.contains (core, input) then
    match h.find? (fun e => decide (e.trig = s.ownTrigger n)) with
    | some e => some e
    | none => h.find? (fun e => decide (e.trig ≤ s.ownTrigger n))
  else h.head?

/-- Table 7.4: a shared input as an axis program reads it. -/
def State.sharedFor (s : State) (n : AxisId) (i : Nat) : Word :=
  if i < 0x40 then
    let e := (s.adcFor n (i / 8) (i % 8)).getD ⟨0, s.tsBase, 0, false⟩
    mkWord (unsigned 18 e.y) (bit e.isOver * 2 ^ 17 + (s.stamp e.at_).toNat % 65536)
  else if i < 0x80 then 0
  else if i < 0x100 then
    match axisOfNat ((i - 0x80) / 16) with
    | some m => (s.engs[m]).inputs.getD (i % 16) 0
    | none => 0
  else if i = 0x100 then BitVec.ofNat 36 s.frameNow
  else 0

/-- R169: results of the axis's trigger that have not reached LD. -/
def State.missingResults (s : State) (n : AxisId) : State :=
  s.forEach (s.seqs[n]).reads (fun (c, i) t =>
    if h : c < 8 then
      if (t.meas[measIx c i]).hist.any (fun e => decide (e.trig = t.ownTrigger n)) then t
      else
        let d := coreDie ⟨c, h⟩
        ((t.count (R.AD_MISS_COUNT d)).setFlag (F.AD_STATUS_MISSING d) true).raiseFor d 0x412 (20 + c % 4) (some n.val)
    else t)

/-- The environment of an executed step. -/
def State.engEnv (s : State) (n : AxisId) : EngEnv :=
  { shared := s.sharedFor n, coef := (s.engs[n]).coef, tables := (s.engs[n]).tables,
    log2L := s.fld (F.ENG_SLOT_LOG2L n), tracking := (s.axes[n]).track,
    detent := fun base => if s.regime n = 0 then
        some (fetchedWords (s.engs[n]).detents base s.frameNow (detentNeed (loU ((s.engs[n]).inputs.getD 4 0))))
      else none,
    vm := hiQ ((s.engs[n]).inputs.getD 6 0), motor := s.motor n, stepNo := s.free }

/-! ### After a program (R201, R209, R218, R246, R247, R254) -/

/-- R218: what OUT wrote. -/
def State.publish (s : State) (n : AxisId) (o : Nat × Word) : State :=
  match o.1 with
  | 0 =>
    let t := (s.setFld (F.ENG_SUPV_SPEED_EST n) (o.2.toNat % 2 ^ 18)).setFlag (F.ENG_SUPV_STALE n) false
    t.modEng n (fun e => { e with speedFrame := s.frameNow })
  | 1 => s.setReg (R.AX_I_DQ n) o.2
  | 2 => s.setReg (R.AX_V_DQ n) o.2
  | _ => s.setReg (R.AX_USER n) o.2

/-- R201: COMMIT sends the group. -/
def State.sendGroup (s : State) (n : AxisId) (g : Closed) : State :=
  let codes := legOrder (s.motor n) ((s.axisRec n.val).elim false (·.phaseRev)) g.codes
  s.commitGroup n (codes.map (dutyTaps (framePclk * s.wantedM n))) g.sel g.rev

/-- R251: LOCKED clears: the hold counts from now. -/
def State.unlock (s : State) (n : AxisId) : State :=
  (s.setFlag (F.ENG_SUPV_LOCKED n) false).modAxis n (fun a => { a with
    settled := false, holdSince := if s.drive n = 0 ∧ a.amp.on then some s.clock else none })

/-- R209, Table 7.7, R255: the supervisor's tests, in their order; a lock completes REACQUIRE. -/
def State.supervise (s : State) (n : AxisId) (o : ObsOut) : State :=
  let e := s.engs[n]
  let res := if o.isOver then e.resRun + 1 else 0
  let lock := if !o.isOver && o.fast then e.lockRun + 1 else 0
  let lost := decide (2 ≤ res)
  let newLost := lost && !s.flag (F.ENG_SUPV_MODEL_LOST n)
  let t := s.setReg (R.ENG_OBS_A n) (mkWord o.theta (unsigned 18 o.omega))
  let t := t.setReg (R.ENG_OBS_B n) (mkVec o.resid o.load)
  let t := t.setFld (F.AX_DRIVE_MON_LOAD_ANGLE n) (unsigned 18 o.load)
  let t := if lost then (t.setFlag (F.ENG_SUPV_MODEL_LOST n) true).setFlag (F.ENG_SUPV_LOST_SEEN n) true else t
  let gone := t.flag (F.ENG_SUPV_MODEL_LOST n)
  let t := if newLost && decide (s.drive n = 1) then t.raiseLD 0x522 n.val (some n.val) else t
  let now := (t.locked n || decide (16 ≤ lock)) && o.fast && !gone
  let t := if now && !t.locked n then
      let t := (t.setFlag (F.ENG_SUPV_LOCKED n) true).modAxis n (fun a => { a with settled := false, holdSince := none })
      if (t.axes[n]).reacquire.isSome then
        ((t.axisOpDone n).setFld (F.AX_STATE_ROTOR n) 3).modAxis n (fun a => { a with reacquire := none })
      else t
    else if !now && t.locked n then t.unlock n else t
  let apart := if o.apart && now && !t.axisSuspect n then e.apartRun + 1 else 0
  let t := t.modEng n (fun e => { e with resRun := res, lockRun := lock, apartRun := apart })
  if decide (2 ≤ apart) && !t.flag (F.ENG_SUPV_FB_DISAGREE n) then
    let t := (t.setFlag (F.ENG_SUPV_FB_DISAGREE n) true).setFlag (F.ENG_SUPV_DISAGREE_SEEN n) true
    let t := t.raiseLD 0x521 n.val (some n.val)
    match t.axisChan n with
    | none => t
    | some c => t.suspect c 0x521
  else t

/-- R236: in OBS drive, and on the way to it, FB_POS follows θ̂. -/
def State.obsFollow (s : State) (n : AxisId) (theta : Nat) : State :=
  let (num, den) := s.angRatio n
  s.modAxis n (fun a =>
    let x : Int := den * angDiff theta a.obsTheta + a.obsRem
    { a with obsPos := a.obsPos + posWord (x / num), obsRem := (x % num).toNat, obsTheta := theta })

/-- |SET_VEL| is at least `num` in `den` of N_RATED (SET_VEL is a fraction of 4 x N_RATED). -/
def State.velAtLeast (s : State) (n : AxisId) (num den : Nat) : Bool :=
  decide (num * 131072 ≤ (s.speedCode n (s.sfld (F.AX_SET_VEL_VALUE n))).natAbs * 4 * den)

/-- R246: a stall, by STALL_ACT. -/
def State.stallAxis (s : State) (n : AxisId) : State :=
  let t := (s.raiseActed 0x551 n.val (some n.val)).setFlag (F.AX_EVENTS_STALL n) true
  let t := (t.count (R.AX_STALL_COUNT n)).modAxis n (fun a => { a with stallRun := 0 })
  match (t.axes[n]).cfg.stallAct with
  | 0 => t
  | 1 => t.faultStop n 0x551
  | _ => t.trap n 0x551

/-- R246: the stall test of an executed step; `was` is whether the observer was LOCKED before it. -/
def State.stallTest (s : State) (n : AxisId) (load : Int) (was : Bool) : State :=
  if s.drive n ≠ 0 then s.modAxis n (fun a => { a with stallRun := 0 })
  else if was && !s.locked n && s.velAtLeast n 4 100 then s.stallAxis n
  else if decide (s.axisSt n = stRunning) && s.locked n &&
      decide (bitsOf (s.axes[n]).cfg.stall.toNat 35 18 < load.natAbs) then
    let r := (s.axes[n]).stallRun + 1
    if max 1 (bitsOf (s.axes[n]).cfg.stall.toNat 7 0) ≤ r then s.stallAxis n
    else s.modAxis n (fun a => { a with stallRun := r })
  else s.modAxis n (fun a => { a with stallRun := 0 })

/-- R254: the rotor is lost in OBS drive. -/
def State.rotorLost (s : State) (n : AxisId) : State :=
  ((s.raiseActed 0x541 n.val (some n.val)).setFlag (F.AX_EVENTS_ROTOR_LOST n) true).trap n 0x541

/-- R247: the following error of an executed step; the fault comes once for each time it exceeds FOLLOW_MAX (log entry
814). -/
def State.followTest (s : State) (n : AxisId) : State :=
  let m := (s.axes[n]).cfg.follow
  if !s.axisOn n then s
  else
    let far := decide (s.drive n ≠ 0) && decide (m ≠ 0) &&
      decide (m < (posDiff (s.reg (R.AX_SET_POS n)) (s.reg (R.AX_FB_POS n))).natAbs)
    let t := s.modAxis n (fun a => { a with astray := far })
    if far && !(s.axes[n]).astray then
      ((t.raiseActed 0x552 n.val (some n.val)).setFlag (F.AX_EVENTS_FOLLOW n) true).faultStop n 0x552
    else t

/-- R244: the points of a learning table within two points of an angle. -/
def learnPoints (ang : Nat) : List Nat :=
  ((List.range 6).map (fun i => (ang / 256 + 1024 + i - 2) % 1024)).filter (fun j => decide ((angDiff ang (j * 256)).natAbs ≤ 512))

/-- R244: a sample of a learning run. -/
def State.learnSample (s : State) (n : AxisId) : State :=
  match (s.axes[n]).learn with
  | none => s
  | some l =>
    if s.axisSt n ≠ stRunning then s
    else
      let ang := loU ((s.engs[n]).inputs.getD 4 0)
      let e := angDiff (s.fbLatch n).angle ang
      let pts := (learnPoints ang).foldl (fun ps j => ps.modify j (fun (a, ca, b, cb) =>
        if l.back then (a, ca, b + e, cb + 1) else (a + e, ca + 1, b, cb))) l.points
      s.modAxis n (fun a => { a with learn := some { l with points := pts } })

/-- What the outcome of a program does to the axis. -/
def State.afterRun (s : State) (n : AxisId) (r : Run) : State :=
  let was := s.locked n
  let t := s.modEng n (fun e => { e with st := r.st, omega := r.omega })
  let t := t.forEach r.outs (fun o t => t.publish n o)
  let t := match r.group with
    | some g => t.sendGroup n g
    | none => t
  let t := match r.obs with
    | some o => (t.supervise n o).obsFollow n o.theta
    | none => t
  if !t.axisOn n then t
  else if t.drive n = 2 && !t.locked n && r.obs.isSome then t.rotorLost n
  else
    let t := match r.obs with
      | some o => t.stallTest n o.load was
      | none => t
    (t.followTest n).learnSample n

/-! ### SLOT_START and SLOT_OVERRUN (R211, R213 to R217) -/

/-- R211, R214: the axis executes its program in this frame. -/
def State.slotDue (s : State) (n : AxisId) : Bool :=
  s.live && !s.jtag.halted && s.stepsNow n && decide ((s.engs[n]).ranAt ≠ some s.lastEngine)

/-- R213: the instant at which the program of the axis starts in this frame. -/
def State.slotAt (s : State) (n : AxisId) : Nat := s.lastEngine + max (s.slotStart n.val) s.engine.endNow

/-- R239: a transfer that has taken its last step is complete: the new drive holds. -/
def State.finishXfer (s : State) (n : AxisId) : State :=
  match (s.axes[n]).xfer with
  | none => s
  | some x =>
    if x.k < x.steps then s
    else
      let t := s.modAxis n (fun a => { a with xfer := none, track := false })
      if x.quiet then t
      else
        let t := ((t.setFlag (F.AX_STATE_XFER n) false).setFld (F.AX_STATE_DRIVE n) x.drive)
        let t := (t.setFlag (F.AX_EVENTS_XFER_DONE n) true).count (R.AX_XFER_COUNT n)
        let amp := t.ampLevel n (t.regime n)
        let lim := t.limLevel n (t.regime n)
        t.modAxis n (fun a => { a with
          amp := if x.drive = 0 then .at_ amp else .off, ilim := if x.drive = 0 then .off else .at_ lim,
          holdSince := if x.drive = 0 ∧ !t.locked n then some t.clock else none, settled := false })

/-- R192, R169, R212: the start of a program: its instant, its inputs, and what has not arrived. -/
def State.openSlot (s : State) (n : AxisId) : State :=
  let t := (s.atLeast (s.slotAt n)).takeFetches
  let t := ((t.finishXfer n).lateFetches n).missingResults n
  let t := (t.xferStep n).latchInputs n
  t.modEng n (fun e => { e with ranAt := some s.lastEngine })

/-- R213: the program of this frame has ended or been stopped `d` PCLK after its start. -/
def State.closeSlot (s : State) (n : AxisId) (start d : Nat) : State :=
  { (s.modEng n id).freeNext with engine := { s.engine with endNow := start + d - s.lastEngine } }

/-- One executed step over the first `k` instructions. -/
def State.runSteps (s : State) (n : AxisId) (k : Nat) : Run :=
  let e := s.engs[n]
  runProg (s.engEnv n) k (progOf e.prog) (Run.start e.st e.omega)

/-- R217: corrected errors. -/
def State.storeCorr (s : State) (corr : Nat) : State := s.countN R.ENG_STORE_CORR 16 corr

/-- R217: an uncorrectable word against an axis. -/
def State.storeErr (s : State) (n : AxisId) : State :=
  (s.setFlag F.ENG_STATUS_STORE_ERR true).raiseLD 0x501 n.val (some n.val)

/-- R213 (SLOT_START): the axis program runs; `bad` is the place of an instruction that reads an uncorrectable word. -/
def slotStart (n : AxisId) (bad : Option Nat) (corr : Nat) (s : State) : State :=
  if !s.slotDue n then s
  else
    let t := (s.openSlot n).storeCorr corr
    let len := (progOf (s.engs[n]).prog).length
    let u := match bad with
      | none => t.afterRun n (t.runSteps n len)
      | some k => if k < len then (t.afterRun n (t.runSteps n k)).storeErr n else t.afterRun n (t.runSteps n len)
    (u.closeSlot n (s.slotAt n) (s.fld (F.ENG_SLOT_D n))).programCheck

def execSlotStart (n : AxisId) (bad : Option Nat) (corr : Nat) (s : State) : Host.Outcome State Fault Refusal :=
  s.answer (slotStart n bad corr s)

/-- R215 (SLOT_OVERRUN): END is not complete in time; the engine stops the program after `done` instructions. -/
def slotOverrun (n : AxisId) (done : Nat) (s : State) : State :=
  if !s.slotDue n then s
  else
    let t := s.openSlot n
    let len := (progOf (s.engs[n]).prog).length
    let t := t.afterRun n (t.runSteps n (min done (len - 1)))
    let fr := s.frameNow
    let past := fr :: (t.engs[n]).overruns.filter (fun f => decide (fr < f + 16))
    let t := t.modEng n (fun e => { e with overruns := past })
    let t := ((t.count R.ENG_OVERRUN).setFlag F.ENG_STATUS_OVERRUN true).raiseLD 0x511 n.val (some n.val)
    let t := if 3 ≤ past.length then t.raiseLD 0x512 n.val (some n.val) else t
    (t.closeSlot n (s.slotAt n) (s.fld (F.ENG_SLOT_D n) + 1)).programCheck

def execSlotOverrun (n : AxisId) (done : Nat) (s : State) : Host.Outcome State Fault Refusal :=
  s.answer (slotOverrun n done s)

/-- R217 (STORE_SCRUB): one pass of the background scrub. -/
def execStoreScrub (dt : Nat) (corr : Nat) (bad : Option AxisId) (s : State) : Host.Outcome State Fault Refusal :=
  let t := s.pass dt
  s.answer (if !t.live then t else
    match bad with
    | none => t.storeCorr corr
    | some n => if t.planned n.val then (t.storeCorr corr).storeErr n else t.storeCorr corr)

/-- R218 (SPEED_EST_STALE): 2L engine frames have passed without a write of SPEED_EST. -/
def speedEstStale (n : AxisId) (s : State) : State :=
  if !s.live || !s.planned n.val || s.flag (F.ENG_SUPV_STALE n) then s
  else
    let due := (s.engs[n]).speedFrame + 2 * 2 ^ s.fld (F.ENG_SLOT_LOG2L n)
    (s.atLeast (s.tsBase + due * framePclk)).setFlag (F.ENG_SUPV_STALE n) true

def execSpeedEstStale (n : AxisId) (s : State) : Host.Outcome State Fault Refusal := s.answer (speedEstStale n s)

/-- R239 (TRANSFER_DONE). -/
def execTransferDone (n : AxisId) (s : State) : Host.Outcome State Fault Refusal := s.answer (s.finishXfer n)

/-! ### Debug halt (R151, R216, R463) -/

/-- R216: the engine stops at an instruction boundary: the program of an axis that was due in this frame stands after
`k` instructions. -/
def State.breakProgram (s : State) (n : AxisId) (k : Nat) : State :=
  if !s.slotDue n then s
  else
    let t := s.openSlot n
    let r := t.runSteps n k
    t.modEng n (fun e => { e with
      broken := some ⟨r, s.frameNow, (t.carriers[n]).next, (List.range 64).map (t.sharedFor n)⟩, st := r.st, omega := r.omega })

/-- R151 (DEBUG_HALT). -/
def debugHalt (broken : Option (AxisId × Nat)) (s : State) : State :=
  let t := s.jtagTo .debugHalt
  if t.power = .off || t.jtag.halted || decide (t.power = .reset) then t
  else
    let t := match broken with
      | none => t
      | some (n, k) => t.breakProgram n k
    let t := { t.setFlag F.ENG_STATUS_HALTED true with jtag := { t.jtag with halted := true } }
    t.forEach ([0, 1] : List DieId) (fun d t =>
      if t.hasDie d.val then (t.modDie d (fun x => { x with halted := true })).actByHalt d else t)

def execDebugHalt (dt : Nat) (broken : Option (AxisId × Nat)) (s : State) : Host.Outcome State Fault Refusal :=
  s.answer (debugHalt broken (s.pass dt))

/-- R192, R216: what the interrupted step reads is what it read when it began. -/
def State.brokenEnv (s : State) (n : AxisId) (b : Broken) : EngEnv :=
  { s.engEnv n with
    shared := fun i => if i < 64 then b.shared.getD i 0 else if i = 0x100 then BitVec.ofNat 36 b.frame else s.sharedFor n i
    detent := fun base => if s.regime n = 0 then
        some (fetchedWords (s.engs[n]).detents base b.frame (detentNeed (loU ((s.engs[n]).inputs.getD 4 0))))
      else none }

/-- R135, R216: the group that the axis has just committed was for `reload` at the latest. -/
def State.meantFor (s : State) (n : AxisId) (reload : Option Nat) : State :=
  match reload with
  | none => s
  | some r => s.modDie (s.axisDie n) (fun d => { d with
      down := d.down.map (fun g => if g.axis = n.val ∧ g.at_ = s.clock then { g with target := min r g.target } else g) })

/-- R216: the interrupted program is completed, without an overrun check; a group that it commits late is late (R135). -/
def State.mendProgram (s : State) (n : AxisId) : State :=
  match (s.engs[n]).broken with
  | none => s
  | some b =>
    let l := progOf (s.engs[n]).prog
    let t := s.modEng n (fun e => { e with broken := none })
    if t.axisOn n then ((t.afterRun n (runProg (t.brokenEnv n b) l.length l b.run)).meantFor n b.reload).freeNext else t

/-- R216: slots of the current frame whose SLOT_START has passed are skipped. -/
def State.skipSlots (s : State) : State :=
  s.forEach axisIds (fun n t =>
    if t.lastEngine + t.slotStart n.val < t.clock then t.modEng n (fun e => { e with ranAt := some t.lastEngine }) else t)

/-- R151: fault 0x352 of the DROP axes that the halt found switching. -/
def State.dropFaults (s : State) : State :=
  s.forEach axisIds (fun n t =>
    if t.planned n.val && t.axisOn n && !t.holdClass n then
      t.raiseGD (t.axisDie n) 0x352 (16 + ((t.firstLeg n).elim 0 (fun l => (legQ l).val % 2))) (some n.val)
    else t)

/-- R151, R216: the halt ends. -/
def State.endDebug (s : State) : State :=
  if !s.jtag.halted then s
  else
    let t := { s.setFlag F.ENG_STATUS_HALTED false with jtag := { s.jtag with halted := false } }
    let t := t.forEach ([0, 1] : List DieId) (fun d t =>
      if t.hasDie d.val then (t.modDie d (fun x => { x with halted := false })).endHalt d else t)
    let t := t.forEach axisIds (fun n t => t.mendProgram n)
    (t.skipSlots).dropFaults.programCheck

/-- R216 (DEBUG_RUN). -/
def execDebugRun (dt : Nat) (s : State) : Host.Outcome State Fault Refusal :=
  s.answer ((((s.pass dt).jtagTo .debugRun)).endDebug)

/-- R463 (TEST_LOGIC_RESET). -/
def execTestLogicReset (dt : Nat) (s : State) : Host.Outcome State Fault Refusal :=
  s.answer ((((s.pass dt).jtagTo .idcode)).endDebug)

end Sys2Proof.Machine
end

