-- ==== Sys2Proof/Machine/LegTests.lean ====
section
/-! DEFINITION. The tests of the legs (chapter 4): floating supplies, the gate-leakage check, the wiring test, the
commands of LGq, and the leg checks of an axis in CHECKING. -/

namespace Sys2Proof.Machine

open Sys2Proof

/-! ### Failure of a check (R126, R226) -/

/-- An axis in CHECKING fails: the fault, detected at a leg, and FAULTED. -/
def State.failLeg (s : State) (n : AxisId) (l : LegId) (code : Nat) : State :=
  (s.raiseGDActed (legDie l) code (legSource l) (some n.val)).trap n code

/-- An axis in CHECKING fails: the fault, detected on LD, and FAULTED. -/
def State.failAxis (s : State) (n : AxisId) (code source : Nat) : State :=
  (s.raiseActed code source (some n.val)).trap n code

/-- The check that an axis runs. -/
def State.checkOf (s : State) (n : AxisId) : Option Check :=
  if s.axisSt n = stChecking then (s.axes[n]).check else none

/-- CHECKING goes to another stage. -/
def State.checkStage (s : State) (n : AxisId) (stage : Nat) : State :=
  s.modAxis n (fun a => { a with check := a.check.map (fun c => { c with stage := stage }) })

/-- A leg shows TESTING. One that a short holds, and one that is FORCED_OFF, LATCHED or RETIRED, keeps showing that under an
hourly check, which R119 has return to IDLE (DESIGN CHOICE, log entry 410). -/
def State.testLeg (s : State) (l : LegId) : State :=
  if s.legState l ∈ [lgIdle, lgHeld] then (s.setLegState l lgTesting).settle l else s

/-! ### The wiring test (R123 to R125) -/

/-- R123: VM lies between VM_LOW and VM_HIGH. -/
def State.vmInWindow (s : State) : Bool :=
  match s.inv with
  | none => false
  | some v => decide (v.prot.vmLow ≤ s.fld F.FLT_SUPPLY_VM_MEAS) && decide (s.fld F.FLT_SUPPLY_VM_MEAS ≤ v.prot.vmHigh)

/-- Table 4.8: codes of a result. -/
abbrev wrPass : Nat := 1
abbrev wrGnd : Nat := 2
abbrev wrVm : Nat := 3
abbrev wrPhase : Nat := 4
abbrev wrOpen : Nat := 5
abbrev wrIndet : Nat := 6
abbrev wrNotDone : Nat := 7

/-- Table 4.8: the fault of a result. -/
def wireFault (v : Nat) : Nat :=
  if v = wrGnd then 0x231 else if v = wrVm then 0x232 else if v = wrPhase then 0x233 else if v = wrOpen then 0x234 else 0x235

/-- WIRE_RESULT of a leg. -/
def State.setWire (s : State) (l : LegId) (v : Nat) : State :=
  s.setFld ⟨R.LG_WIRE_RESULT (legQ l), 4 * (legM l).val + 3, 4 * (legM l).val⟩ v

/-- R125: a failing leg: its result and one fault. -/
def State.wireFail (s : State) (n : AxisId) (l : LegId) (v : Nat) : State :=
  (s.setWire l v).raiseGDActed (legDie l) (wireFault v) (legSource l) (some n.val)

/-- R123: every leg of an axis on which the test cannot run, or is cut short. -/
def State.wireMissed (s : State) (n : AxisId) : State := s.forEach (s.axisLegs n) (fun l t => t.wireFail n l wrNotDone)

/-- Table 4.7: how many steps a motor type runs. -/
def wireSteps (motor : Nat) : Nat := if motor = 1 then 5 else 7

/-- R124: a node as a step reads it: what it must be, and the result if it is the opposite. -/
def nodeRead (pass low high : Bool) (fail : Nat) : Nat :=
  if pass then (if high then wrPass else if low then fail else wrIndet)
  else (if low then wrPass else if high then fail else wrIndet)

/-- Table 4.7: what step `k` finds on the legs of an axis: leg and result, by place of the leg in the axis. -/
def wireStep (motor k : Nat) (legs : List LegId) (low high : LegId → Bool) : List (Nat × Nat) :=
  let at_ (l : LegId) (pass : Bool) (fail : Nat) : Nat × Nat := (l.val, nodeRead pass (low l) (high l) fail)
  let found :=
    if k = 0 then legs.map (fun l => at_ l false wrVm)
    else if k = 1 then legs.map (fun l => at_ l true wrGnd)
    else if motor = 0 ∧ k = 2 then (legs.take 2).map (fun l => at_ l true wrPhase)
    else ((legs.drop (k - (if motor = 0 then 3 else 2))).take 1).map (fun l => at_ l false wrOpen)
  found.filter (fun e => decide (e.2 ≠ wrPass))

/-- Who runs the test that an event concerns. -/
def ownerOf : TestRef → TestOwner
  | .quadrant q => .cmd q.val
  | .arming n => .axis n.val

/-- The axes of a list of numbers. -/
def axesIn (l : List Nat) : List AxisId := axisIds.filter (fun n => decide (n.val ∈ l))

/-- R124: every axis of the test has run its steps. -/
def State.wireOver (s : State) (w : WireTest) : Bool := (axesIn w.axes).all (fun n => decide (wireSteps (s.motor n) ≤ w.step))

/-- One wiring test changes. -/
def State.modWire (s : State) (o : TestOwner) (f : WireTest → WireTest) : State :=
  s.modWires (fun _ => s.wireTests.map (fun w => if w.owner = o then f w else w))

/-- R124 (WIRE_TEST_STEP_END): after 10 ms of settling a step reads the nodes. Bit i of `low` and `high`: the node of
leg i lies below 1.0 V, above 4.0 V. -/
def wireStepEnd (r : TestRef) (low high : BitVec 32) (s : State) : State :=
  match s.wireTests.find? (fun w => w.owner == ownerOf r) with
  | none => s
  | some w =>
    if s.wireOver w then s
    else
      let t := s.atLeast (w.since + 10 * msec)
      let found := (axesIn w.axes).flatMap (fun n =>
        if w.step < wireSteps (s.motor n) then
          wireStep (s.motor n) w.step (s.axisLegs n) (fun l => low.getLsbD l.val) (fun l => high.getLsbD l.val)
        else [])
      let fresh := found.filter (fun e => !w.fails.any (fun g => decide (g.1 = e.1)))
      t.modWire (ownerOf r) (fun w => { w with step := w.step + 1, since := t.clock, fails := w.fails ++ fresh })

def execWireTestStepEnd (owner : TestRef) (low high : BitVec 32) (s : State) : Host.Outcome State Fault Refusal :=
  s.answer (wireStepEnd owner low high s)

/-! ### End of a commanded test (R130) -/

/-- R130: a test of LGq.CMD runs to its end: DONE or ERR, and the first fault raised. -/
def State.lgEnd (s : State) (q : Quad) (err : Bool) (first : Nat) : State :=
  (s.setStat (R.LG_OP_STAT q) (if err then statErr else statDone)).setFld (F.LG_OP_STAT_ERR_CODE q) first

/-- R125: the results of a wiring test on the legs of an axis that has run its steps. -/
def State.wireReport (s : State) (w : WireTest) (n : AxisId) : State :=
  s.forEach (s.axisLegs n) (fun l t =>
    match w.fails.find? (fun e => decide (e.1 = l.val)) with
    | none => t.setWire l wrPass
    | some e => t.wireFail n l e.2)

/-- R125: the first fault that the reports of a wiring test raise. -/
def State.wireFirst (s : State) (w : WireTest) : Nat :=
  ((axesIn w.axes).flatMap (fun n => (s.axisLegs n).filterMap (fun l =>
    (w.fails.find? (fun e => decide (e.1 = l.val))).map (fun e => wireFault e.2)))).headD 0

/-- R226: the leg checks have ended; the checks of the axis follow. -/
def State.legChecksDone (s : State) (n : AxisId) : State := s.checkStage n 4

/-- R125 (WIRE_TEST_END). -/
def wireTestEnd (r : TestRef) (s : State) : State :=
  match s.wireTests.find? (fun w => w.owner == ownerOf r) with
  | none => s
  | some w =>
    if !s.wireOver w then s
    else
      let first := s.wireFirst w
      let t := s.forEach (axesIn w.axes) (fun n t => t.wireReport w n)
      let t := t.modWires (fun _ => t.wireTests.filter (fun w => w.owner ≠ ownerOf r))
      match r with
      | .quadrant q =>
        let t := t.forEach legIds (fun l t => t.endLegTest l)
        t.lgEnd q w.missed (if w.firstFault = 0 then first else w.firstFault)
      | .arming n => if first = 0 then t.legChecksDone n else t.trap n first

def execWireTestEnd (owner : TestRef) (s : State) : Host.Outcome State Fault Refusal := s.answer (wireTestEnd owner s)

/-- R126 step 5: an axis in CHECKING starts its wiring test. -/
def State.armWire (s : State) (n : AxisId) : State :=
  let t := s.checkStage n 3
  if t.vmInWindow then
    let t := t.forEach (t.axisLegs n) (fun l t => t.testLeg l)
    t.modWires (fun _ => t.wireTests ++ [⟨.axis n.val, [n.val], 0, t.clock, [], false, 0⟩])
  else (t.wireMissed n).trap n 0x235

/-- R123: WIRE_TEST. -/
def State.lgWireTest (s : State) (q : Quad) (legs : List LegId) : State :=
  let t := s.opStart (R.LG_OP_STAT q) 2
  let axes := axisIds.filter (fun n => legs.any (fun l => s.legAxis l == some n))
  let can := axes.filter (fun n => s.vmInWindow && !s.shorted n)
  let cannot := axes.filter (fun n => !(s.vmInWindow && !s.shorted n))
  let t := t.forEach cannot (fun n t => t.wireMissed n)
  let first := if cannot = [] then 0 else 0x235
  if can = [] then t.lgEnd q (decide (cannot ≠ [])) first
  else
    let t := t.forEach can (fun n t => t.forEach (t.axisLegs n) (fun l t => t.testLeg l))
    t.modWires (fun _ => t.wireTests ++ [⟨.cmd q.val, can.map (·.val), 0, t.clock, [], decide (cannot ≠ []), first⟩])

/-! ### The gate-leakage check (R119 to R121) -/

/-- The LEAK register of a switch. -/
def leakKey (l : LegId) (hi : Bool) : Nat := if hi then R.LG_LEAK_H (legQ l) (legM l) else R.LG_LEAK_L (legQ l) (legM l)

/-- R119: LEAK_EN of a leg. -/
def State.leakEn (s : State) (l : LegId) : Bool := bitOf (s.fld (F.LG_LEAK_CFG_LEAK_EN (legQ l))) (legM l).val

/-- The switches of legs that a check may take: LEAK_EN set, and not held on by a Trapdoor SHORT. -/
def State.leakable (s : State) (legs : List LegId) : List (Nat × Bool) :=
  ((legs.filter (fun l => s.leakEn l)).flatMap (fun l => ([true, false] : List Bool).map (fun hi => (l, hi)))).filterMap
    (fun (l, hi) => if s.requested l hi then none else some (l.val, hi))

/-- R120: I_L in nA, from t_c and t_d in the same unit; none: not reached within the time. -/
def leakNow (rise fall : Option Nat) : Nat :=
  match rise, fall with
  | none, _ => 0x3fff
  | some _, none => 0
  | some c, some d => min 0x3fff (roundDiv (10000 * c : Nat) (max 1 (2 * d + c))).toNat

/-- R120: BASE and BASE_VALID of a switch, in the register and in the Strongbox. -/
def State.setLeakBase (s : State) (l : LegId) (hi : Bool) (base : Nat) (valid : Bool) : State :=
  let k := leakKey l hi
  let t := (s.setFld ⟨k, 31, 18⟩ base).setFld ⟨k, 17, 17⟩ (bit valid)
  t.modBox (fun x => { x with
      leak := Cells.write (fun _ => 0) t.box.leak k (BitVec.ofNat 36 (base % 2 ^ 14 * 2 ^ 18 + bit valid * 2 ^ 17)) })

/-- R120: BASE_VALID of a switch is cleared and its BASE learnt anew. -/
def State.relearnSw (s : State) (l : LegId) (hi : Bool) : State :=
  (s.setLeakBase l hi (s.fld ⟨leakKey l hi, 31, 18⟩) false).modSw l hi (fun w => { w with learnSum := 0, learnN := 0 })

/-- R120: a result counts towards BASE while BASE_VALID is clear. -/
def State.learnLeak (s : State) (l : LegId) (hi : Bool) (now : Nat) : State :=
  if s.regBit (leakKey l hi) 17 then s
  else
    let w := (s.legs[l]).sw hi
    let t := s.modSw l hi (fun w => { w with learnSum := w.learnSum + now, learnN := w.learnN + 1 })
    if w.learnN + 1 < 8 then t else t.setLeakBase l hi (roundDiv ((w.learnSum + now : Nat) : Int) 8).toNat true

/-- R121: a leg retires. -/
def State.retireLeg (s : State) (l : LegId) : State :=
  let t := s.raiseGD (legDie l) 0x242 (legSource l) ((s.legAxis l).map (·.val))
  let t := t.modBox (fun x => { x with retired := if l.val ∈ t.box.retired then t.box.retired else l.val :: t.box.retired })
  t.legOff l lgRetired

/-- R121: a result exceeds the retirement limit. -/
def State.leakOver (s : State) (l : LegId) (now : Nat) : Bool :=
  decide (now = 0x3fff) || decide (s.fld (F.LG_LEAK_CFG_LEAK_LIMIT (legQ l)) < now)

/-- R121: a result exceeds BASE + LEAK_WARN. -/
def State.leakDrift (s : State) (l : LegId) (hi : Bool) (now : Nat) : Bool :=
  s.regBit (leakKey l hi) 17 && decide (s.fld ⟨leakKey l hi, 31, 18⟩ + s.fld (F.LG_LEAK_CFG_LEAK_WARN (legQ l)) < now)

/-- R120, R121: one result is reported, judged and learnt from; the first fault that it raises. -/
def State.leakResult (s : State) (l : LegId) (hi : Bool) (now : Nat) : State × Nat :=
  let t := s.setFld ⟨leakKey l hi, 13, 0⟩ now
  let t := t.modSw l hi (fun w => { w with leakAt := t.clock })
  let drift := s.leakDrift l hi now
  let t := if drift then t.raiseGD (legDie l) 0x241 (legSource l) ((s.legAxis l).map (·.val)) else t
  let t := t.learnLeak l hi now
  if s.leakOver l now then (t.retireLeg l, if drift then 0x241 else 0x242) else (t, if drift then 0x241 else 0)

/-- R126 step 4 done: an axis in CHECKING goes on to the wiring test. -/
def State.leakTestOver (s : State) (k : LeakTest) : State :=
  match k.owner with
  | .cmd q => if h : q < 4 then s.lgEnd ⟨q, h⟩ false k.firstFault else s
  | .axis n =>
    match axisOfNat n with
    | some n => if (s.checkOf n).isSome then s.armWire n else s
    | none => s
  | .hourly => s

/-- R126 step 4: a result that retired leg `l` ends the checking of the axis that runs the check. -/
def State.checkFails (s : State) (k : LeakTest) (l : LegId) : Bool :=
  decide (s.legState l = lgRetired) &&
    match k.owner with
    | .axis m => (axisOfNat m).any (fun n => (s.checkOf n).isSome)
    | _ => false

/-- R119 to R121, R126 (LEAK_CHECK_END): the check of a switch ends: `rise` is t_c and `fall` t_d in PCLK, none where
the gate did not get there in time. -/
def leakCheckEnd (l : LegId) (hi : Bool) (rise fall : Option Nat) (s : State) : State :=
  match s.leakTests.find? (fun k => decide ((l.val, hi) ∈ k.todo)) with
  | none => s
  | some k =>
    let (t, code) := s.leakResult l hi (leakNow rise fall)
    let k' : LeakTest := { k with
      todo := k.todo.erase (l.val, hi), firstFault := if k.firstFault = 0 then code else k.firstFault }
    let rest := t.leakTests.erase k
    let t := t.modLeaks (fun _ => if k'.todo = [] then rest else rest ++ [k'])
    let t := match k.owner with
      | .axis _ => t
      | _ => t.endLegTest l
    if t.checkFails k l then
      match k.owner with
      | .axis m => (axisOfNat m).elim t (fun n => t.failLeg n l 0x205)
      | _ => t
    else if k'.todo = [] then t.leakTestOver k' else t

def execLeakCheckEnd (dt : Nat) (l : LegId) (hi : Bool) (rise fall : Option Nat) (s : State) :
    Host.Outcome State Fault Refusal := s.answer (leakCheckEnd l hi rise fall (s.pass dt))

/-- A test already has the switch: a leakage check of its own, or a wiring test of its axis. -/
def State.switchBusy (s : State) (l : LegId) (hi : Bool) : Bool :=
  s.leakTests.any (fun k => decide ((l.val, hi) ∈ k.todo)) ||
    s.wireTests.any (fun w => (s.legAxis l).any (fun n => decide (n.val ∈ w.axes)))

/-- R119 (LEAK_CHECK_HOURLY): an hour after its last check, and once held off for 1 ms, a switch of a DISABLED axis is
checked, whatever the state of its leg. Before the first check after a power-up or reset the hour runs from there (DESIGN
CHOICE, log entry 410). -/
def leakCheckHourly (l : LegId) (hi : Bool) (s : State) : State :=
  let w := (s.legs[l]).sw hi
  if !s.live || (s.legAxis l).isNone || !s.legFree l || !s.leakEn l || w.on || s.switchBusy l hi then s
  else
    let t := s.atLeast (max (max w.leakAt s.tsBase + 3600 * second) (w.offSince + msec))
    { (if t.legState l = lgIdle then t.testLeg l else t) with leakTests := t.leakTests ++ [⟨.hourly, [(l.val, hi)], 0⟩] }

def execLeakCheckHourly (l : LegId) (hi : Bool) (s : State) : Host.Outcome State Fault Refusal := s.answer (leakCheckHourly l hi s)

/-- R130: LEAK_TEST. -/
def State.lgLeakTest (s : State) (q : Quad) (legs : List LegId) : State :=
  let mine := legs.filter (fun l => (s.legAxis l).isSome)
  let todo := s.leakable mine
  let left := (s.leakTests.map (fun (k : LeakTest) => { k with todo := k.todo.filter (fun e => !decide (e ∈ todo)) })).filter
    (fun k => decide (k.todo ≠ []))
  let t := s.modLeaks (fun _ => left)
  let t := t.opStart (R.LG_OP_STAT q) 3
  if todo = [] then t.lgEnd q false 0
  else
    let t := t.modLeaks (fun _ => t.leakTests ++ [(⟨.cmd q.val, todo, 0⟩ : LeakTest)])
    t.forEach (mine.filter (fun (l : LegId) => todo.any (fun e => decide (e.1 = l.val)))) (fun l t => t.testLeg l)

/-- R126 step 4: an axis in CHECKING starts its gate-leakage check. -/
def State.armLeak (s : State) (n : AxisId) : State :=
  let t := s.checkStage n 2
  let todo := t.leakable (t.axisLegs n)
  let t := t.forEach (t.axisLegs n) (fun l t => t.testLeg l)
  if todo = [] then t.armWire n else t.modLeaks (fun _ => t.leakTests ++ [⟨.axis n.val, todo, 0⟩])

/-! ### Leg checks at arming (R126) -/

/-- R124: the axis has run every step of a test. -/
def State.wireRan (s : State) (w : WireTest) (n : AxisId) : Bool := decide (wireSteps (s.motor n) ≤ w.step)

/-- R130: a wiring test is cut short on an axis: its results if it has run every step, else NOT_COMPLETED. -/
def State.wireCut (s : State) (w : WireTest) (n : AxisId) : State := if s.wireRan w n then s.wireReport w n else s.wireMissed n

/-- Table 4.15: the first fault that a wiring test has raised when it is cut short. -/
def State.wireCutFault (s : State) (w : WireTest) : Nat :=
  if w.firstFault ≠ 0 then w.firstFault
  else ((axesIn w.axes).filterMap (fun n =>
    if s.wireRan w n then (match s.wireFirst { w with axes := [n.val] } with | 0 => none | f => some f) else some 0x235)).headD 0

/-- R119, R130: the axis leaves DISABLED: hourly checks of its legs end at once, commanded tests are cut short there. -/
def State.cutTests (s : State) (n : AxisId) : State :=
  let mine (e : Nat × Bool) : Bool := (s.axisLegs n).any (fun l => decide (l.val = e.1))
  let cut := s.wireTests.filter (fun w => decide (n.val ∈ w.axes))
  let t := s.forEach cut (fun w t => t.wireCut w n)
  let t := { t with
    wireTests := t.wireTests.map (fun (w : WireTest) => if n.val ∈ w.axes then { w with
      axes := w.axes.filter (· ≠ n.val), missed := w.missed || !s.wireRan w n, firstFault := s.wireCutFault { w with axes := [n.val] } } else w),
    leakTests := t.leakTests.map (fun (k : LeakTest) => { k with todo := k.todo.filter (fun e => !mine e) }) }
  let isOver := t.leakTests.filter (fun k => decide (k.todo = []))
  let t := t.modLeaks (fun _ => t.leakTests.filter (fun k => decide (k.todo ≠ [])))
  let t := t.forEach isOver (fun k t => t.leakTestOver k)
  t.forEach (t.axisLegs n) (fun l t => t.endLegTest l)

/-- R126 step 3 done: REACQUIRE goes on to the checks of the axis (R255), the others to the gate-leakage check. -/
def State.suppliesReady (s : State) (n : AxisId) : State :=
  match s.checkOf n with
  | some c => if c.purpose = .reacquire then s.checkStage n 4 else s.armLeak n
  | none => s

/-- R100: CF_READY of a leg. -/
def State.cfReady (s : State) (l : LegId) : Bool := s.flag (F.LG_LEG_STAT_CF_READY (legQ l) (legM l))

/-- R126: every floating supply of an axis is ready. -/
def State.supplyReady (s : State) (n : AxisId) : Bool := (s.axisLegs n).all (fun l => s.cfReady l)

/-- R126, R226: an axis enters CHECKING: steps 1 to 3. Its legs leave IDLE with that (Table 4.6) and show TESTING up to the
end of CHECKING (DEDUCED, log entry 411). -/
def State.startChecking (s : State) (n : AxisId) (p : Purpose) : State :=
  let t := s.cutTests n
  let t := (t.axisTo n stChecking).modAxis n (fun a => { a with check := some ⟨p, 1, t.clock⟩ })
  let t := t.forEach (t.axisLegs n) (fun l t => if t.legState l = lgIdle then t.testLeg l else t)
  let t := t.settleAxis n
  match (t.axisLegs n).find? (fun l => decide (t.legState l ∈ [lgForcedOff, lgLatched, lgRetired])) with
  | some l => t.failLeg n l 0x205
  | none =>
    match (t.axisLegs n).find? (fun l => decide (t.fld (F.LG_LEG_CFG_SC_THRESH_H (legQ l) (legM l)) = 0) ||
        decide (t.fld (F.LG_LEG_CFG_SC_THRESH_L (legQ l) (legM l)) = 0)) with
    | some l => t.failLeg n l 0x206
    | none => if t.supplyReady n then t.suppliesReady n else t

/-- R126 (CF_READY_TIMEOUT): a floating supply is not ready 100 ms after CHECKING began. -/
def cfReadyTimeout (n : AxisId) (s : State) : State :=
  match s.checkOf n with
  | none => s
  | some c =>
    if c.stage ≠ 1 then s
    else
      let t := s.atLeast (c.since + 100 * msec)
      match (t.axisLegs n).find? (fun l => !t.cfReady l) with
      | some l => t.failLeg n l 0x222
      | none => t

def execCfReadyTimeout (n : AxisId) (s : State) : Host.Outcome State Fault Refusal := s.answer (cfReadyTimeout n s)

/-- R100 (FLOATING_SUPPLY_READY): CFn - SHn rises above VG - 1.5 V, or (`full`) above VG - 1.0 V. -/
def floatingSupplyReady (l : LegId) (full : Bool) (s : State) : State :=
  match s.legAxis l with
  | none => s
  | some n =>
    if !(s.dies[legDie l]).vgUp then s
    else
      let t := (s.modLeg l (fun g => { g with cfLow := false })).settle l
      if !full then t
      else
        let t := t.setCfReady l true
        match t.checkOf n with
        | some c => if c.stage = 1 && t.supplyReady n then t.suppliesReady n else t
        | none => t

def execFloatingSupplyReady (dt : Nat) (l : LegId) (full : Bool) (s : State) : Host.Outcome State Fault Refusal :=
  s.answer (floatingSupplyReady l full (s.pass dt))

/-! ### LGq.CMD (R117, R121, R130) -/

/-- The legs of quadrant `q` that LEGS selects. -/
def lgLegs (q : Quad) (legs : BitVec 8) : List LegId := legIds.filter (fun l => legQ l == q && legs.getLsbD (legM l).val)

/-- R117: CLEAR_LEG. -/
def State.clearLeg (s : State) (l : LegId) : State :=
  if s.legState l ≠ lgLatched then s
  else
    let t := s.modLeg l (fun g => { g with retries := [], hi := { g.hi with soft := .none }, lo := { g.lo with soft := .none } })
    (t.setLegState l (t.restState l)).settle l

/-- R121: READMIT. -/
def State.readmitLeg (s : State) (l : LegId) : State :=
  if s.legState l ≠ lgRetired then s
  else
    let t := (s.relearnSw l true).relearnSw l false
    let t := t.modBox (fun x => { x with retired := t.box.retired.filter (· ≠ l.val) })
    (t.setLegState l (t.restState l)).settle l

/-- R130: registers that OP SAVE stores. -/
def lgSaveKeys (q : Quad) : List Nat :=
  (([0, 1, 2, 3, 4, 5, 6, 7] : List (Fin 8)).map (fun m => R.LG_LEG_CFG q m)) ++ [R.LG_LEAK_CFG q]

/-- R130, R44: ABORT. -/
def State.lgAbort (s : State) (q : Quad) : State :=
  let k := R.LG_OP_STAT q
  if !s.opBusy k then s.abortIdle k
  else
    let mine := s.wireTests.filter (fun w => w.owner == TestOwner.cmd q.val)
    let t := s.forEach mine (fun w t => t.forEach (axesIn w.axes) (fun n t => t.wireCut w n))
    let t := { t with
      wireTests := t.wireTests.filter (fun w => w.owner ≠ TestOwner.cmd q.val),
      leakTests := t.leakTests.filter (fun w => w.owner ≠ TestOwner.cmd q.val) }
    let t := t.forEach legIds (fun l t => t.endLegTest l)
    let first := (mine.map (fun w => s.wireCutFault w) ++
      (s.leakTests.filter (fun w => w.owner == TestOwner.cmd q.val)).map (·.firstFault)).headD 0
    (t.opAborted k).setFld ⟨k, 31, 20⟩ first

/-- R130, Table 4.14: LGq.CMD. -/
def lgCommand (q : Quad) (op : Nat) (legs : BitVec 8) (ok : Bool) (s : State) : State :=
  let k := R.LG_OP_STAT q
  let sel := lgLegs q legs
  if !s.reach (0x20 + q.val) then s
  else if op = 0xF then s.lgAbort q
  else if s.opBusy k || !(op ∈ [1, 2, 3, 4, 5, 6]) || (decide (op ≠ 4) && !sel.all (fun l => s.legFree l)) then
    s.setFlag (F.LG_OP_STAT_CMD_REFUSED q) true
  else match op with
  | 1 => (s.forEach sel (fun l t => t.clearLeg l)).opWhole k 1
  | 2 => s.lgWireTest q sel
  | 3 => s.lgLeakTest q sel
  | 4 => (s.saveOr ok (0x20 + q.val) (lgSaveKeys q)).opWhole k 4
  | 5 => (s.forEach sel (fun l t => (t.relearnSw l true).relearnSw l false)).opWhole k 5
  | _ => (s.forEach sel (fun l t => t.readmitLeg l)).opWhole k 6

/-- CLEAR_LEG (R117). -/
def execClearLeg (dt : Nat) (q : Quad) (legs : BitVec 8) (s : State) : Host.Outcome State Fault Refusal :=
  s.answer (lgCommand q 1 legs true (s.pass dt))

/-- WIRE_TEST (R123). -/
def execWireTest (dt : Nat) (q : Quad) (legs : BitVec 8) (s : State) : Host.Outcome State Fault Refusal :=
  s.answer (lgCommand q 2 legs true (s.pass dt))

/-- LEAK_TEST (R119). -/
def execLeakTest (dt : Nat) (q : Quad) (legs : BitVec 8) (s : State) : Host.Outcome State Fault Refusal :=
  s.answer (lgCommand q 3 legs true (s.pass dt))

/-- LG_SAVE (R130). -/
def execLgSave (dt : Nat) (q : Quad) (ok : Bool) (s : State) : Host.Outcome State Fault Refusal :=
  s.answer (lgCommand q 4 0 ok (s.pass dt))

/-- RELEARN (R130). -/
def execRelearn (dt : Nat) (q : Quad) (legs : BitVec 8) (s : State) : Host.Outcome State Fault Refusal :=
  s.answer (lgCommand q 5 legs true (s.pass dt))

/-- READMIT (R121). -/
def execReadmit (dt : Nat) (q : Quad) (legs : BitVec 8) (s : State) : Host.Outcome State Fault Refusal :=
  s.answer (lgCommand q 6 legs true (s.pass dt))

/-- LG_ABORT (R130). -/
def execLgAbort (dt : Nat) (q : Quad) (s : State) : Host.Outcome State Fault Refusal :=
  s.answer (lgCommand q 0xF 0 true (s.pass dt))

end Sys2Proof.Machine
end

