-- ==== Sys2Proof/Machine/AxisCmd.lean ====
section
/-! DEFINITION. The commands of AXn.CMD and what follows them (chapter 8): CHECKING, ARMED, moves, stops, ALIGN, LEARN,
REACQUIRE, and the steps that end them. -/

namespace Sys2Proof.Machine

open Sys2Proof

/-- R228: a command or write is refused. -/
def State.refuseAxis (s : State) (n : AxisId) : State := s.setFlag (F.AX_EVENTS_CMD_REFUSED n) true

/-! ### CHECKING (R226, R255) -/

/-- R91: an APPLY that runs keeps the axis DISABLED. -/
def State.applyBars (s : State) (n : AxisId) : Bool := s.opBusy R.INV_OP_STAT && decide (n.val ∈ s.invOp.affected)

/-- R91, R226: a request that would take an axis out of DISABLED. -/
def State.leaveDisabled (s : State) (n : AxisId) (p : Purpose) : State :=
  if s.applyBars n then (s.refuseAxis n).raiseLD 0xB44 n.val (some n.val) else s.startChecking n p

/-- R226 step 2: an owned comparator with ACTION FAULT or TRIP is marked. -/
def State.markedCmp (s : State) (n : AxisId) : Option (Fin 64) :=
  cmpIds.find? (fun j => s.cmpOwner j == some n && s.cmpFailed j && decide (s.fld (F.CMP_CFG_ACTION j) ∈ [1, 2]))

/-- R226: every current input has a CALDEF record, and all carry one FULL_SCALE. -/
def State.scaleOk (s : State) (n : AxisId) : Bool :=
  (s.currentInputs n).all (fun (c, i) => (s.calDef c i).any (fun r => decide (max 1 r.fullScale = s.iFs n)))

/-- R226, R242: a program with OBS carries W_MIN at least the observer minimum. -/
def State.wMinOk (s : State) (n : AxisId) : Bool :=
  (progOf (s.engs[n]).prog).all (fun i =>
    decide (i.op ≠ opObs) || decide (s.obsMin n ≤ loU ((s.engs[n]).coef.getD (i.cbase + 6) 0)))

/-- R226 step 3. -/
def State.paramsOk (s : State) (n : AxisId) : Bool :=
  let c := s.cfgRegs n
  s.scaleOk n && (decide (s.currentInputs n = []) || decide ((s.loopOf n.val).elim 0 (·.iRated) ≤ s.iFs n)) &&
    decide (c.vmax ≠ 0) && decide (c.amax ≠ 0) && decide (c.jmax ≠ 0) && decide (c.qdec ≠ 0) && s.wMinOk n &&
    !(decide (s.driveMode n = 1) && s.axisSuspect n)

/-- R211: the state image of an axis is asked of the Larder, line by line. -/
def State.askImage (s : State) (n : AxisId) : State :=
  let l := (List.range (ceilDiv (s.engs[n]).init.length 8)).map (fun i => s.imageAddr n.val / 8 + i)
  if l = [] then s else s.ask 1 (.image n.val) l

/-- R244: a learning run turns in OPEN drive at PRECISION with CUR_RUN. -/
def State.beginLearn (s : State) (n : AxisId) : State :=
  let t := ((s.setFld (F.AX_STATE_DRIVE n) 0).setRegime n 0).modAxis n (fun a => { a with regime := 0 })
  t.modAxis n (fun a => { a with
    align := none, amp := ⟨0, t.ampLevel n 0, 0, true⟩, ilim := .off, holdSince := some s.clock, settled := false,
    learn := some ⟨false, a.mo.p, List.replicate 1024 (0, 0, 0, 0)⟩ })

/-- R226: the checks are passed. -/
def State.armAxis (s : State) (n : AxisId) (p : Purpose) : State :=
  let t := (s.enterArmed n p).askImage n
  match p with
  | .arm => t
  | .reacquire => t.modAxis n (fun a => { a with reacquire := some none })
  | .learn => t.beginLearn n
  | .align => t.beginAlign n true

/-- R226, R180 (CHECKING_END): the checks of the axis itself; no axis arms before the start-up audits are over. -/
def checkingEnd (n : AxisId) (s : State) : State :=
  match s.checkOf n with
  | none => s
  | some c =>
    if c.stage ≠ 4 || s.startUpAudits then s
    else match s.markedCmp n with
      | some j => s.failAxis n 0x432 j.val
      | none =>
        if !s.paramsOk n then s.failAxis n 0x530 n.val
        else
          let t := match s.uncalibrated n with
            | some core => if c.purpose = Purpose.reacquire then s
                else s.raiseFor (if core < 4 then 0 else 1) 0x402 (20 + core % 4) (some n.val)
            | none => s
          t.armAxis n c.purpose

def execCheckingEnd (dt : Nat) (n : AxisId) (s : State) : Host.Outcome State Fault Refusal := s.answer (checkingEnd n (s.pass dt))

/-! ### Moves (R228, R248, R252) -/

/-- R228, R6: MOVE and VELOCITY reach the axis: its SOURCE is the planner, and no running program names it. -/
def State.moveAllowed (s : State) (n : AxisId) : Bool :=
  (s.axisRec n.val).any (fun r => decide (r.source = 0)) && !(s.planOn && decide (n.val ∈ s.planner.axes))

/-- R248: the target of a move: the place nearest the present set-point that reads as the given position. -/
def State.moveTarget (s : State) (n : AxisId) (target : Word) : Int :=
  let p := tickOf (s.axes[n]).mo.p
  p + posDiff target (posWord p)

/-- R248: a request for the generator. -/
def State.request (s : State) (n : AxisId) (r : MotionReq) : State :=
  (s.setFlag (F.AX_STATE_AT_TARGET n) false).modAxis n (fun a => { a with
    req := some r, target := match r with | .toPos x => x | _ => a.target })

/-- R228, R251: a move or velocity of an ARMED or RUNNING axis; `op` is 0 for VELOCITY, which has no status. It takes the place
of a running MOVE or LEARN. -/
def State.moveAxis (s : State) (n : AxisId) (op : Nat) (r : State → MotionReq) : State :=
  if !(decide (s.axisSt n = stArmed) || decide (s.axisSt n = stRunning)) || !s.moveAllowed n then s.refuseAxis n
  else
    let k := R.AX_OP_STAT n
    if s.axisSt n = stRunning then
      let t := (if op = 0 then s.axisOpAbort n else s.opStart k op).modAxis n (fun a => { a with learn := none })
      t.request n (r t)
    else
      let (t, ok) := s.startAxis n
      if ok then
        let t := if op = 0 then t else t.opStart k op
        t.request n (r t)
      else if op = 0 || s.opBusy k then t
      else (t.opStart k op).opErr k 0x531

/-! ### ALIGN, LEARN, REACQUIRE, ABORT -/

/-- R244: ticks in one electrical cycle. -/
def State.cycleTicks (s : State) (n : AxisId) : Int :=
  let (num, den) := s.angRatio n
  roundDiv (262144 * den) num

/-- R244: LEARN may run: a feedback channel with at least 256 counts per electrical cycle, a SINE in the program, and a
table address in the user area. -/
def State.learnOk (s : State) (n : AxisId) : Bool :=
  let a := s.fld (F.AX_LEARN_CFG_LEARN_ADDR n)
  (match s.feedOf n.val with
    | none => false
    | some f => decide (256 * (f.tickNum : Int) ≤ s.cycleTicks n * f.tickDen)) &&
    (progOf (s.engs[n]).prog).any (fun i => decide (i.op = opSine)) &&
    decide (a % 8 = 0) && decide (a + 1024 ≤ s.variant.rbase)

/-- R244, R243: an operation from DISABLED that ends before any motion. -/
def State.axisOpFail (s : State) (n : AxisId) (op code : Nat) : State :=
  ((s.opStart (R.AX_OP_STAT n) op).opErr (R.AX_OP_STAT n) code).raiseLD code n.val (some n.val)

/-- R228, R44: ABORT of the operation that runs. -/
def State.abortAxis (s : State) (n : AxisId) : State :=
  let k := R.AX_OP_STAT n
  if !s.opBusy k then s.abortIdle k
  else
    let t := s.opAborted k
    match s.lastOp k with
    | 0xA => t.enterOff n stFaulted 0x541
    | 0xB =>
      if s.axisSt n = stRunning || s.axisSt n = stStopping then t.stopAxis n false true else t.disable n
    | 0xC =>
      if s.axisSt n = stChecking then t.disable n
      else t.modAxis n (fun a => { a with
        align := a.align.map (fun x => { x with phase := 2 }), amp := a.amp.down })
    | _ => if s.axisSt n = stRunning then t.stopAxis n false false else t

/-! ### AXn.CMD (R228, Table 8.2) -/

/-- R259: registers that OP SAVE stores. -/
def axisSaveKeys (n : AxisId) : List Nat :=
  [R.AX_CTRL n, R.AX_PROF_VMAX n, R.AX_PROF_AMAX n, R.AX_PROF_JMAX n, R.AX_PROF_QDEC n, R.AX_CUR n, R.AX_ECON n,
    R.AX_STALL_CFG n, R.AX_FOLLOW_MAX n, R.AX_XFER_CFG n, R.AX_COMM n, R.AX_LEARN_CFG n, R.AX_LEARN_SPEED n]

/-- R228: DISARM. -/
def State.disarmAxis (s : State) (n : AxisId) : State :=
  if s.axisSt n = stArmed then
    (s.axisOpAbort n).modAxis n (fun a => { a with
      amp := a.amp.down, ilim := a.ilim.down, disarm := some 0, align := none, learn := none, reacquire := none })
  else if s.axisSt n = stStopping then
    if s.faultStopping n then s else s.modAxis n (fun a => { a with thenDisable := true })
  else s.stopAxis n false true

/-- The profile of an ARMED axis is at rest. -/
def State.armedRest (s : State) (n : AxisId) : Bool :=
  let a := s.axes[n]
  decide (s.axisSt n = stArmed) && decide (a.mo.v = 0) && decide (a.mo.a = 0) && a.req.isNone && a.path.isOver a.k

/-- R228, R234: PRESET re-labels SET_POS and leaves ANGLE_SET where it is. -/
def State.presetAxis (s : State) (n : AxisId) : State :=
  let d := posDiff (s.reg (R.AX_TARGET_POS n)) (s.reg (R.AX_SET_POS n))
  let t := s.setReg (R.AX_SET_POS n) (s.reg (R.AX_TARGET_POS n))
  let t := t.modComp n (fun c => { c with lastP := c.lastP + d })
  t.modAxis n (fun a => { a with
    path := .rest (a.mo.p + d * uTick), k := 0, mo := ⟨a.mo.p + d * uTick, 0, 0⟩ })

/-- Table 8.2: an operation of AXn.CMD. -/
def axisCommand (n : AxisId) (op : Nat) (ok : Bool) (s : State) : State :=
  let st := s.axisSt n
  let when (b : Bool) (t : State) : State := if b then t else s.refuseAxis n
  if !s.reach (0x10 + n.val) || !s.planned n.val then s
  else match op with
  | 0x1 => when (decide (st = stDisabled) && !s.stopLow && !s.guard.armBar) (s.leaveDisabled n .arm)
  | 0x2 => when (s.axisOn n) (s.disarmAxis n).programCheck
  | 0x3 => when (decide (st = stRunning)) (s.stopAxis n false false).programCheck
  | 0x4 => when (decide (st = stRunning) || (decide (st = stStopping) && !s.faultStopping n && !(s.axes[n]).quick))
      (((s.stopAxis n true false).modAxis n (fun a => { a with thenDisable := (s.axes[n]).learn.isSome })).programCheck)
  | 0x5 => s.moveAxis n 5 (fun t => .toPos (t.moveTarget n (t.reg (R.AX_TARGET_POS n))))
  | 0x6 => s.moveAxis n 6 (fun t => .toPos (t.moveTarget n (t.reg (R.AX_SET_POS n) + t.reg (R.AX_TARGET_POS n))))
  | 0x7 => s.moveAxis n 0 (fun t => .toVel (t.sfld (F.AX_TARGET_VEL_TARGET n)))
  | 0x8 => when (decide (st = stFaulted) && !s.stopLow) (s.disable n)
  | 0x9 => when (decide (st = stLatched) && !s.flag F.FLT_STATUS_VM_REVERSED && !s.flag F.FLT_STATUS_STOP_DISC) (s.disable n)
  | 0xA => when (decide (st = stFaulted) && decide ((s.axes[n]).cause = 0x541))
      ((s.opStart (R.AX_OP_STAT n) 0xA).startChecking n .reacquire)
  | 0xB => when (decide (st = stDisabled))
      (if s.applyBars n then s.leaveDisabled n .learn
       else if s.learnOk n then (s.opStart (R.AX_OP_STAT n) 0xB).leaveDisabled n .learn else s.axisOpFail n 0xB 0x561)
  | 0xC => when (decide (st = stDisabled))
      (if s.applyBars n then s.leaveDisabled n .align
       else if (s.axisChan n).isSome then (s.opStart (R.AX_OP_STAT n) 0xC).leaveDisabled n .align
       else s.axisOpFail n 0xC 0x562)
  | 0xD => when (decide (st = stDisabled) || s.armedRest n) (s.presetAxis n)
  | 0xE => s.saveOr ok (0x10 + n.val) (axisSaveKeys n)
  | 0xF => (s.abortAxis n).programCheck
  | _ => s.refuseAxis n

/-- ARM (R226). -/
def execArm (dt : Nat) (n : AxisId) (s : State) : Host.Outcome State Fault Refusal := s.answer (axisCommand n 0x1 true (s.pass dt))

/-- DISARM (R228). -/
def execDisarm (dt : Nat) (n : AxisId) (s : State) : Host.Outcome State Fault Refusal :=
  s.answer (axisCommand n 0x2 true (s.pass dt))

/-- STOP (R229). -/
def execStop (dt : Nat) (n : AxisId) (s : State) : Host.Outcome State Fault Refusal := s.answer (axisCommand n 0x3 true (s.pass dt))

/-- QSTOP (R229). -/
def execQstop (dt : Nat) (n : AxisId) (s : State) : Host.Outcome State Fault Refusal :=
  s.answer (axisCommand n 0x4 true (s.pass dt))

/-- MOVE_ABS (R248). -/
def execMoveAbs (dt : Nat) (n : AxisId) (s : State) : Host.Outcome State Fault Refusal :=
  s.answer (axisCommand n 0x5 true (s.pass dt))

/-- MOVE_REL (R248). -/
def execMoveRel (dt : Nat) (n : AxisId) (s : State) : Host.Outcome State Fault Refusal :=
  s.answer (axisCommand n 0x6 true (s.pass dt))

/-- VELOCITY (R248). -/
def execVelocity (dt : Nat) (n : AxisId) (s : State) : Host.Outcome State Fault Refusal :=
  s.answer (axisCommand n 0x7 true (s.pass dt))

/-- CLEAR (R228). -/
def execClear (dt : Nat) (n : AxisId) (s : State) : Host.Outcome State Fault Refusal := s.answer (axisCommand n 0x8 true (s.pass dt))

/-- UNLATCH (R434). -/
def execUnlatch (dt : Nat) (n : AxisId) (s : State) : Host.Outcome State Fault Refusal :=
  s.answer (axisCommand n 0x9 true (s.pass dt))

/-- REACQUIRE (R255). -/
def execReacquire (dt : Nat) (n : AxisId) (s : State) : Host.Outcome State Fault Refusal :=
  s.answer (axisCommand n 0xA true (s.pass dt))

/-- LEARN (R244). -/
def execLearn (dt : Nat) (n : AxisId) (s : State) : Host.Outcome State Fault Refusal := s.answer (axisCommand n 0xB true (s.pass dt))

/-- ALIGN (R243). -/
def execAlign (dt : Nat) (n : AxisId) (s : State) : Host.Outcome State Fault Refusal := s.answer (axisCommand n 0xC true (s.pass dt))

/-- PRESET (R228). -/
def execAxisPreset (dt : Nat) (n : AxisId) (s : State) : Host.Outcome State Fault Refusal :=
  s.answer (axisCommand n 0xD true (s.pass dt))

/-- SAVE (R259). -/
def execAxisSave (dt : Nat) (n : AxisId) (ok : Bool) (s : State) : Host.Outcome State Fault Refusal :=
  s.answer (axisCommand n 0xE ok (s.pass dt))

/-- ABORT (R228). -/
def execAxisAbort (dt : Nat) (n : AxisId) (s : State) : Host.Outcome State Fault Refusal :=
  s.answer (axisCommand n 0xF true (s.pass dt))

/-! ### What ends them -/

/-- R228 (DISARM_RAMP_END): after 8 motion frames of ramp the axis enters DISABLED. -/
def disarmRampEnd (n : AxisId) (s : State) : State :=
  match (s.axes[n]).disarm with
  | some k => if decide (8 ≤ k) && decide (s.axisSt n = stArmed) then s.disable n else s
  | none => s

def execDisarmRampEnd (n : AxisId) (s : State) : Host.Outcome State Fault Refusal := s.answer (disarmRampEnd n s)

/-- R229, R248: the profile stands: its course is over, and nothing else is asked of it. -/
def State.profileOver (s : State) (n : AxisId) : Bool :=
  let a := s.axes[n]
  a.req.isNone && a.path.isOver a.k && decide (a.mo.v = 0) && !a.viaRest && !a.waitRamp

/-- R229 (PROFILE_AT_REST): a stop has come to rest: ARMED, DISABLED after DISARM, FAULTED after a fault stop. -/
def profileAtRest (n : AxisId) (s : State) : State :=
  if s.axisSt n ≠ stStopping || !s.profileOver n then s
  else if s.flag (F.AX_STATE_FAULT_STOP n) then (s.trap n (s.axes[n]).cause).programCheck
  else if (s.axes[n]).thenDisable then (s.disable n).programCheck
  else
    (((s.axisTo n stArmed).standStill n).modAxis n (fun a => { a with restSince := s.clock, thenDisable := false })).programCheck

def execProfileAtRest (n : AxisId) (s : State) : Host.Outcome State Fault Refusal := s.answer (profileAtRest n s)

/-- R248 (AT_TARGET): a MOVE reaches its target with v = 0 and a = 0; the axis is ARMED again. -/
def atTarget (n : AxisId) (s : State) : State :=
  let k := R.AX_OP_STAT n
  if s.axisSt n ≠ stRunning || !s.profileOver n || (s.axes[n]).mo.a ≠ 0 || !s.opBusy k || !(s.lastOp k ∈ [5, 6]) then s
  else
    let t := (s.setFlag (F.AX_STATE_AT_TARGET n) true).opDone k
    ((t.axisTo n stArmed).standStill n).modAxis n (fun a => { a with restSince := s.clock })

def execAtTarget (n : AxisId) (s : State) : Host.Outcome State Fault Refusal := s.answer (atTarget n s)

/-- R229 (STOP_TIMEOUT): the velocity has not reached 0 in time. -/
def stopTimeout (n : AxisId) (s : State) : State :=
  if s.axisSt n ≠ stStopping || s.profileOver n then s
  else ((s.atLeast ((s.axes[n]).stopAt + (s.axes[n]).cfg.stopTimeout)).failAxis n 0x554 n.val).programCheck

def execStopTimeout (n : AxisId) (s : State) : Host.Outcome State Fault Refusal := s.answer (stopTimeout n s)

/-- R232 (STANDBY_DELAY): an axis at rest long enough asks for STANDBY-HOLD. -/
def standbyDelay (n : AxisId) (s : State) : State :=
  let a := s.axes[n]
  if !s.armedRest n || !a.cfg.autoStandby || s.regime n = 2 then s
  else (s.atLeast (a.restSince + a.cfg.standbyDelay)).modAxis n (fun a => { a with regime := 2 })

def execStandbyDelay (n : AxisId) (s : State) : Host.Outcome State Fault Refusal := s.answer (standbyDelay n s)

/-- R251 (HOLD_SETTLE): the OPEN amplitude has held the rotor long enough. -/
def holdSettle (n : AxisId) (s : State) : State :=
  match (s.axes[n]).holdSince with
  | none => s
  | some t0 =>
    if !s.axisOn n || s.drive n ≠ 0 || s.locked n then s
    else (s.atLeast (t0 + (s.axes[n]).cfg.holdSettle)).modAxis n (fun a => { a with settled := true })

def execHoldSettle (n : AxisId) (s : State) : Host.Outcome State Fault Refusal := s.answer (holdSettle n s)

/-- R255 (REACQUIRE_TIMEOUT): no lock within 100 ms of the release of the Trapdoor. -/
def reacquireTimeout (n : AxisId) (s : State) : State :=
  match (s.axes[n]).reacquire with
  | some (some t0) =>
    if s.axisSt n ≠ stArmed || s.locked n then s else (s.atLeast (t0 + 100 * msec)).failAxis n 0x542 n.val
  | _ => s

def execReacquireTimeout (n : AxisId) (s : State) : Host.Outcome State Fault Refusal := s.answer (reacquireTimeout n s)

/-- R243: ALIGN lets the amplitude go. -/
def State.alignLetGo (s : State) (n : AxisId) : State :=
  s.modAxis n (fun a => { a with align := a.align.map (fun x => { x with phase := 2 }), amp := a.amp.down })

/-- R243: the second hold gives COMM_OFS from the mapped angles of both, or fault 0x562. -/
def State.alignResult (s : State) (n : AxisId) (theta1 theta2 : Nat) : State :=
  let d := angDiff theta2 theta1
  if 8192 < (d - 65536).natAbs then
    (((s.setFlag (F.AX_COMM_VALID n) false).axisOpErr n 0x562).raiseLD 0x562 n.val (some n.val)).alignLetGo n
  else
    ((s.setSFld (F.AX_COMM_COMM_OFS n) (roundDiv (2 * angDiff 0 theta1 + 65536 - d) 2)).setFlag
      (F.AX_COMM_VALID n) true).alignLetGo n

/-- R243 (ALIGN_HOLD_END): 50 ms of ramp and 200 ms of hold have passed. -/
def alignHoldEnd (n : AxisId) (s : State) : State :=
  match (s.axes[n]).align with
  | none => s
  | some x =>
    if s.axisSt n ≠ stArmed || 2 ≤ x.phase then s
    else
      let t := s.atLeast (x.since + 250 * msec)
      let theta := (s.axisChan n).elim 0 (fun c => (t.chans[c]).ang)
      if x.phase = 0 then
        t.modAxis n (fun a => { a with
          align := some { x with phase := 1, since := t.clock, theta1 := theta }, angSet := 65536, angRem := 0, amp := .off })
      else t.alignResult n x.theta1 theta

def execAlignHoldEnd (n : AxisId) (s : State) : Host.Outcome State Fault Refusal := s.answer (alignHoldEnd n s)

/-! ### The learning table (R244) -/

/-- R244: DA, and h in 2^-20 angle unit, of a point: sums and counts of the forward and the backward error. -/
def learnPoint (x : Int × Nat × Int × Nat) : Int × Int :=
  let (a, ca, b, cb) := x
  let den := max 1 (2 * ca * cb)
  (roundDiv (-(a * cb + b * ca)) den, roundDiv ((b * ca - a * cb) * 2 ^ 20) den)

/-- R244: the 1024 point words, if the run has succeeded. -/
def learnTable (pts : List (Int × Nat × Int × Nat)) : Option (List Word) :=
  let l := pts.map learnPoint
  let mean := roundDiv ((l.map (·.2)).foldl (· + ·) 0) 1024
  if pts.any (fun (_, ca, _, cb) => decide (ca = 0) || decide (cb = 0)) || l.any (fun e => decide (16384 < e.1.natAbs)) ||
      decide (mean ≤ 0) then none
  else some (l.map (fun (da, h) => mkVec da (clampInt (-32768) 32768 (roundDiv ((h - mean) * 131072) mean.toNat))))

/-- R244: the table goes into the Larder, line by line. -/
def State.writeTable (s : State) (line : Nat) : Nat → List Word → State
  | 0, _ => s
  | k + 1, ws => (s.ownWrite line 0 (ws.take 8)).writeTable (line + 1) k (ws.drop 8)

/-- R244 (LEARN_END): the way back is done: the table is computed and written, or the run fails. -/
def learnEnd (n : AxisId) (s : State) : State :=
  match (s.axes[n]).learn with
  | none => s
  | some l =>
    if s.axisSt n ≠ stRunning || !l.back || !s.profileOver n then s
    else match learnTable l.points with
      | some ws =>
        ((s.writeTable (s.fld (F.AX_LEARN_CFG_LEARN_ADDR n) / 8) 128 ws).axisOpDone n).disable n
      | none => ((s.axisOpErr n 0x561).raiseLD 0x561 n.val (some n.val)).disable n

def execLearnEnd (dt : Nat) (n : AxisId) (s : State) : Host.Outcome State Fault Refusal := s.answer (learnEnd n (s.pass dt))

end Sys2Proof.Machine
end

