-- ==== Sys2Proof/Machine/Hatch.lean ====
section
/-! DEFINITION. The Hatch (chapter 14): step channels, enable and ready, speed commands, their calibration, and the HAT
block's commands. What a motion frame boundary makes of them stands with the motion frame. -/

namespace Sys2Proof.Machine

open Sys2Proof

/-- A step channel changes. -/
def State.modStep (s : State) (c : AxisId) (f : StepChan → StepChan) : State :=
  s.modHatch (fun h => { h with steps := h.steps.set c.val (f h.steps[c.val]) })

/-- A speed-command input changes. -/
def State.modSpeed (s : State) (i : Fin 4) (f : SpeedCmd → SpeedCmd) : State :=
  s.modHatch (fun h => { h with cmds := h.cmds.set i.val (f h.cmds[i.val]) })

/-- The axis that a step channel commands, that a record of it names. -/
def State.htAxis (s : State) (c : AxisId) : Option AxisId :=
  (s.htRec c).bind (fun r => if r.used then axisOfNat r.axis else none)

def State.enaAxis (s : State) (c : AxisId) : Option AxisId :=
  (s.htRec c).bind (fun r => if r.enaUsed then axisOfNat r.axis else none)

/-- The axis that a speed-command input commands. -/
def State.cmdaAxis (s : State) (i : Fin 4) : Option AxisId :=
  (s.cmdaRec i).bind (fun r => if r.used then axisOfNat r.axis else none)

/-- R411: a pair of a channel is open. -/
def State.pairOpen (s : State) (c : AxisId) : Bool := s.regBit R.HAT_STATUS (16 + c.val)

/-! ### Step inputs (R404 to R406) -/

/-- R42: a position of the HAT block moves; its wrap shows at the axis. -/
def State.moveHat (s : State) (k : Nat) (n : Option AxisId) (d : Int) : State :=
  let w := s.reg k
  let t := s.setReg k (w + posWord d)
  match n with
  | some n => if wraps36 w d then t.setFlag (F.AX_EVENTS_POS_WRAP n) true else t
  | none => t

/-- R406, R253: whether a count of the channel may move HTn_TARGET; the first one on an ARMED axis is a start. -/
def State.countTaken (s : State) (n : AxisId) : State × Bool :=
  if s.axisSt n = stArmed then (if (s.axes[n]).disarm.isSome then (s, true) else s.startAxis n)
  else (s, decide (s.axisSt n = stRunning) || (decide (s.axisSt n = stStopping) && !s.faultStopping n))

/-- R404, R406: one count of a step channel, before DIR_INV. -/
def State.stepCount (s : State) (c : AxisId) (up : Bool) : State :=
  match s.htRec c, s.htAxis c with
  | some r, some n =>
    let d : Int := if up != s.flag (F.HAT_HT_CFG_DIR_INV c) then 1 else -1
    let (t, ok) := (s.moveHat (R.HAT_HT_COUNT c) (some n) d).countTaken n
    if ok then t.moveHat (R.HAT_HT_TARGET c) (some n) (d * r.ticksPerStep) else t.count R.HAT_LOST_COUNT
  | _, _ => s

/-- R405, R415: an illegal transition. -/
def State.stepIllegal (s : State) (c : AxisId) : State :=
  (s.setFlag F.HAT_STATUS_TRANS_SEEN true).raiseLD 0xA23 c.val ((s.htAxis c).map (·.val))

/-- R404, R405: the filtered levels of STEP and DIR change on one PCLK. -/
def State.stepLevels (s : State) (c : AxisId) (mode : Nat) (old : StepChan) (a b : Bool) : State :=
  let rise := a && !old.a
  match mode with
  | 0 =>
    let t := if rise then s.stepCount c old.b else s
    if rise && b != old.b then t.count R.HAT_DIR_RACE_COUNT else t
  | 1 =>
    let riseB := b && !old.b
    let t := if rise then s.stepCount c true else s
    let t := if riseB then t.stepCount c false else t
    if rise && riseB then t.count R.HAT_COLLIDE_COUNT else t
  | _ =>
    if a != old.a && b != old.b then s.stepIllegal c
    else if a = old.a && b = old.b then s
    else s.stepCount c (decide ((quadPlace a b + 4 - quadPlace old.a old.b) % 4 = 1))

/-- R404 to R406: the filtered levels of a channel become `step` and `dir`. -/
def stepEdge (c : AxisId) (step dir : Bool) (s : State) : State :=
  if !s.reach 0xc || !s.flag F.CLK_POWER_HATCH_EN then s
  else
    let old := s.hatch.steps[c]
    let t := s.modStep c (fun x => { x with a := step, b := dir })
    match s.htRec c with
    | none => t
    | some r => if !r.used || s.pairOpen c then t else t.stepLevels c r.mode old step dir

/-- R403, Table 14.2: the filter of the record accepts levels that have held for `held` PCLK. -/
def State.stepFilter (s : State) (c : AxisId) (held : Nat) : Bool :=
  (s.htRec c).all (fun r => decide (4 * 2 ^ r.filter ≤ held))

/-- R403 (STEP_EDGE): the levels of STEP and DIR have been `step` and `dir` for `held` PCLK; the filter lets them through or
not. -/
def execStepEdge (dt : Nat) (c : AxisId) (step dir : Bool) (held : Nat) (s : State) : Host.Outcome State Fault Refusal :=
  let t := s.pass dt
  s.answer (if t.stepFilter c held then stepEdge c step dir t else t)

/-! ### Enable (R409) -/

/-- R409: ENAn is active: its level against ENA_POL. -/
def State.enaActive (s : State) (c : AxisId) (high : Bool) : Bool := high != s.flag (F.HAT_HT_CFG_ENA_POL c)

/-- R409: an ENA edge acts on its axis. -/
def State.enaCommand (s : State) (n : AxisId) (c : AxisId) (active : Bool) : State :=
  let st := s.axisSt n
  if active then
    if st = stDisabled then axisCommand n 0x1 true s
    else if st = stFaulted && s.flag (F.HAT_HT_CFG_ENA_CLEAR c) then axisCommand n 0x1 true (axisCommand n 0x8 true s)
    else s
  else if s.axisOn n then axisCommand n 0x2 true s
  else s

/-- ENA_EDGE (R409): the debounced level of ENAn. -/
def enaEdge (c : AxisId) (high : Bool) (s : State) : State :=
  if !s.reach 0xc then s
  else
    let was := s.enaActive c (s.hatch.steps[c]).ena
    let t := (s.modStep c (fun x => { x with ena := high })).setRegBit R.HAT_STATUS (28 + c.val) (s.enaActive c high)
    if s.enaActive c high = was then t
    else match s.enaAxis c with
      | some n => t.enaCommand n c (s.enaActive c high)
      | none => t

def execEnaEdge (dt : Nat) (c : AxisId) (high : Bool) (s : State) : Host.Outcome State Fault Refusal :=
  s.answer (enaEdge c high (s.pass dt))

/-! ### Open pairs (R411) -/

/-- HATCH_PAIR_OPEN (R411). -/
def hatchPairOpen (c : AxisId) (s : State) : State :=
  match s.htAxis c with
  | none => s
  | some n =>
    if !s.reach 0xc || !s.flag F.CLK_POWER_HATCH_EN || s.pairOpen c then s
    else
      let t := (s.setRegBit R.HAT_STATUS (16 + c.val) true).setFlag F.HAT_STATUS_OPEN_SEEN true
      (t.raiseLD 0xA21 c.val (some n.val)).dropReady n

def execHatchPairOpen (dt : Nat) (c : AxisId) (s : State) : Host.Outcome State Fault Refusal :=
  s.answer (hatchPairOpen c (s.pass dt))

/-- HATCH_PAIR_VALID (R411): counting resumes from the levels that stand now, with no count for the interval. -/
def hatchPairValid (c : AxisId) (step dir : Bool) (s : State) : State :=
  if !s.reach 0xc || !s.pairOpen c then s
  else (s.setRegBit R.HAT_STATUS (16 + c.val) false).modStep c (fun x => { x with a := step, b := dir })

def execHatchPairValid (dt : Nat) (c : AxisId) (step dir : Bool) (s : State) : Host.Outcome State Fault Refusal :=
  s.answer (hatchPairValid c step dir (s.pass dt))

/-- R410: READYn conducts. -/
def State.readyConducts (s : State) (c : AxisId) : Bool :=
  s.reach 0xc && (s.htRec c).any (fun r => r.readyUsed) &&
    (s.regBit R.HAT_STATUS (8 + c.val) != s.flag (F.HAT_HT_CFG_READY_POL c))

/-! ### Speed commands (R412, R413) -/

/-- KIND of a speed-command input. -/
def State.cmdaKind (s : State) (i : Fin 4) : Option Nat := (s.cmdaRec i).bind (fun r => if r.used then some r.kind else none)

/-- R413: a period (PCLK) out of range for a KIND. -/
def badPeriod (kind len : Nat) : Bool :=
  if kind = 1 then decide (len < 50 * usec) || decide (10 * msec < len)
  else if kind = 2 then decide (len * 550000 < second) else false

/-- CMDA_EDGE (R412): a rising edge of an input of KIND 1 or 2; `high` is how long it was high since the edge before. -/
def cmdaEdge (i : Fin 4) (high : Nat) (s : State) : State :=
  match s.cmdaKind i with
  | none => s
  | some k =>
    if !s.reach 0xc || k = 0 then s
    else s.modSpeed i (fun c =>
      match c.riseAt with
      | none => { c with riseAt := some s.clock }
      | some t0 => { c with
          riseAt := some s.clock, period := some (min high (s.clock - t0), s.clock - t0),
          badPeriod := c.badPeriod || badPeriod k (s.clock - t0) })

def execCmdaEdge (dt : Nat) (i : Fin 4) (high : Nat) (s : State) : Host.Outcome State Fault Refusal :=
  s.answer (cmdaEdge i high (s.pass dt))

/-- A fraction, of a positive denominator, limited to ±1. -/
def limitOne (x : Int × Nat) : Int × Nat := (clampInt (-(x.2 : Int)) x.2 x.1, x.2)

/-- R412: the sign that DIRn gives to a frequency: none where HTn is in use. -/
def State.cmdaSign (s : State) (i : Fin 4) : Int :=
  let c : AxisId := ⟨i.val, by omega⟩
  if (s.htRec c).any (·.used) || (s.hatch.steps[c]).b then 1 else -1

/-- R412: x of an input before INVERT and the deadband, as a fraction; `c` is the mean code of a KIND 0 input. -/
def State.cmdaRaw (s : State) (i : Fin 4) (kind : Nat) (c : Int) : Int × Nat :=
  let x := s.hatch.cmds[i]
  match kind with
  | 0 => limitOne (c - signed 16 (s.fld (F.HAT_CMDA_CFG_OFFSET i)), 32000)
  | 1 =>
    match x.period with
    | none => (0, 1)
    | some (h, len) => if len = 0 then (0, 1) else limitOne (2 * (h : Int) - len, len)
  | _ =>
    match x.period, x.riseAt with
    | some (_, len), some t => if len = 0 || decide (t + 10 * msec ≤ s.clock) then (0, 1) else (s.cmdaSign i * 1000, len)
    | _, _ => (0, 1)

/-- R412: x after INVERT and the deadband. -/
def State.cmdaX (s : State) (i : Fin 4) (r : CmdaRec) (c : Int) : Int × Nat :=
  let (n, d) := s.cmdaRaw i r.kind c
  let n := if s.flag (F.HAT_CMDA_CFG_INVERT i) then -n else n
  if n.natAbs * 4096 < r.deadband * d then (0, 1) else (n, d)

/-- Table 14.8: RAW of an input. -/
def State.cmdaShown (s : State) (i : Fin 4) (kind : Nat) (c : Int) : Nat :=
  match kind, (s.hatch.cmds[i]).period with
  | 0, _ => unsigned 16 (clampInt (-32768) 32767 c)
  | _, none => 0
  | 1, some (h, len) => min 65535 (roundDiv (h * 65536) (max 1 len)).toNat
  | _, some (_, len) => min 65535 (roundDiv 50000000 (max 1 len)).toNat

/-- R412: the velocity target of an input, 2^-12 tick per motion frame. -/
def cmdaVel (r : CmdaRec) (x : Int × Nat) : Int := roundDiv (x.1 * r.velFs * 65536 * 4096) (x.2 * 10000)

/-- R413: this motion frame is a bad one for an input. -/
def State.cmdaBad (s : State) (i : Fin 4) (kind : Nat) (c : Int) : Bool :=
  let x := s.hatch.cmds[i]
  match kind with
  | 0 => decide (33600 < c.natAbs)
  | 1 => x.badPeriod || decide (x.riseAt.getD x.since + 20 * msec ≤ s.clock)
  | _ => x.badPeriod

/-- R413, R415: an input is lost, recovers, or stays as it is. -/
def State.cmdaLoss (s : State) (i : Fin 4) (n : AxisId) (kind : Nat) (c : Int) : State :=
  let bad := s.cmdaBad i kind c
  let t := s.modSpeed i (fun x => { x with
    badRun := if bad then x.badRun + 1 else 0, goodRun := if bad then 0 else x.goodRun + 1, badPeriod := false })
  let x := t.hatch.cmds[i]
  let lost := t.regBit R.HAT_STATUS (4 + i.val)
  let mark (b : Bool) := (t.setRegBit R.HAT_STATUS (4 + i.val) b).setFlag ⟨R.HAT_CMDA_VAL i, 17, 17⟩ b
  if !lost && bad && decide ((if kind = 0 then 8 else 1) ≤ x.badRun) then
    ((mark true).raiseLD 0xA24 (8 + i.val) (some n.val)).dropReady n
  else if lost && decide (8 ≤ x.goodRun) then mark false
  else t

/-- R412, R413: an input at a motion frame boundary, given the sum of its eight codes: CMDAn_VAL, and the velocity target it
gives its axis. -/
def State.cmdaFrame (s : State) (i : Fin 4) (sum : Int) : State × Int :=
  match s.cmdaRec i, s.cmdaAxis i with
  | some r, some n =>
    let c := roundDiv sum 8
    let t := s.cmdaLoss i n r.kind c
    let x := if t.regBit R.HAT_STATUS (4 + i.val) then (0, 1) else t.cmdaX i r c
    let t := t.setFld ⟨R.HAT_CMDA_VAL i, 35, 18⟩ (unsigned 18 (satQ (roundDiv (x.1 * 131072) x.2)))
    (t.setFld ⟨R.HAT_CMDA_VAL i, 15, 0⟩ (t.cmdaShown i r.kind c), cmdaVel r x)
  | _, _ => (s, 0)

/-! ### HAT.CMD and the settings (R414, R416) -/

/-- R416: the registers of the Hatch's SAVE record. -/
def hatSaveKeys : List Nat := axisIds.map (fun c => R.HAT_HT_CFG c) ++ cmdaIds.map (fun i => R.HAT_CMDA_CFG i)

/-- R414: CAL_ZERO may start on an input. -/
def State.calZeroOk (s : State) (i : Fin 4) : Bool :=
  decide (s.cmdaKind i = some 0) && (s.cmdaAxis i).any (fun n => decide (s.axisSt n = stDisabled))

/-- Table 14.6: a write of HAT.CMD. -/
def hatCommand (op : Nat) (i : Fin 4) (ok : Bool) (s : State) : State :=
  let k := R.HAT_OP_STAT
  let refuse := s.setFlag F.HAT_STATUS_CMD_REFUSED true
  if !s.reach 0xc then s
  else match op with
    | 1 =>
      if s.opBusy k || !s.calZeroOk i then refuse
      else (s.opStart k 1).modHatch (fun h => { h with cal := some (i.val, s.clock) })
    | 2 => if s.opBusy k then refuse else (s.opWhole k 2).saveOr ok 0xc hatSaveKeys
    | 0xF => if s.opBusy k then (s.opAborted k).modHatch (fun h => { h with cal := none }) else s.abortIdle k
    | _ => refuse

/-- CMDA_CAL_ZERO (R414). -/
def execCmdaCalZero (dt : Nat) (i : Fin 4) (s : State) : Host.Outcome State Fault Refusal :=
  s.answer (hatCommand 1 i true (s.pass dt))

/-- HAT_SAVE (R416). -/
def execHatSave (dt : Nat) (ok : Bool) (s : State) : Host.Outcome State Fault Refusal := s.answer (hatCommand 2 0 ok (s.pass dt))

/-- HAT_ABORT (R414). -/
def execHatAbort (dt : Nat) (s : State) : Host.Outcome State Fault Refusal := s.answer (hatCommand 0xF 0 true (s.pass dt))

/-- R412: PCLK between two conversions of a KIND 0 input (80 kHz). -/
abbrev codePclk : Nat := 6250

/-- CMDA_CAL_END (R414): the sum of 1024 conversions gives OFFSET. -/
def cmdaCalEnd (sum : Int) (s : State) : State :=
  match s.hatch.cal with
  | none => s
  | some (j, t0) =>
    if !s.reach 0xc || !s.opBusy R.HAT_OP_STAT then s
    else
      let s := s.atLeast (t0 + 1023 * codePclk)
      let t := s.modHatch (fun h => { h with cal := none })
      let mean := clampInt (-32768) 32767 (roundDiv sum 1024)
      (t.forEach (cmdaIds.filter (fun i => decide (i.val = j))) (fun i t =>
        t.setFld (F.HAT_CMDA_CFG_OFFSET i) (unsigned 16 mean))).opDone R.HAT_OP_STAT

def execCmdaCalEnd (dt : Nat) (sum : Int) (s : State) : Host.Outcome State Fault Refusal := s.answer (cmdaCalEnd sum (s.pass dt))

/-- R416: a settings register of the HAT block takes effect only while its axis is DISABLED or its record unused. -/
def State.hatFree (s : State) (n : Option AxisId) : Bool := n.all (fun n => decide (s.axisSt n = stDisabled))

/-- R416: a write of HTn_CFG. -/
def htCfgWrite (c : AxisId) (w : Word) (s : State) : State :=
  let n := (s.htRec c).bind (fun r => if r.used || r.enaUsed || r.readyUsed then axisOfNat r.axis else none)
  if !s.hatFree n then s.setFlag F.HAT_STATUS_CMD_REFUSED true
  else
    let t := s.setReg (R.HAT_HT_CFG c) w
    t.setRegBit R.HAT_STATUS (28 + c.val) (t.enaActive c (t.hatch.steps[c]).ena)

/-- R416: a write of CMDAn_CFG. -/
def cmdaCfgWrite (i : Fin 4) (w : Word) (s : State) : State :=
  if !s.hatFree (s.cmdaAxis i) then s.setFlag F.HAT_STATUS_CMD_REFUSED true else s.setReg (R.HAT_CMDA_CFG i) w

end Sys2Proof.Machine
end

