-- ==== Sys2Proof/Machine/Ports.lean ====
section
/-! DEFINITION. The peripheral ports P0 to P3 (R389 to R396, R400) and the SSI readings they make (R275, R276). -/

namespace Sys2Proof.Machine

open Sys2Proof

/-! ### Ports -/

/-- All ports. -/
def portIds : List PortId := [0, 1, 2, 3]

/-- R391: depth of a FIFO. -/
def State.fifoDepth (s : State) (p : PortId) : Nat := if p.val = 3 ∧ s.variant = .lkm8836 then 128 else 16

/-- A port changes; Pn_STAT shows the levels of its FIFOs. -/
def State.setPort (s : State) (p : PortId) (f : Port → Port) : State :=
  let t := s.modPort p f
  (t.setFld (F.PRT_P_STAT_TX_LEVEL p) (t.prt[p]).tx.length).setFld (F.PRT_P_STAT_RX_LEVEL p) (t.prt[p]).rx.length

/-- R391: bits and words of a unit. -/
def State.unitBits (s : State) (p : PortId) : Nat := s.fld (F.PRT_P_LEN_UNIT_BITS p)
def State.unitWords (s : State) (p : PortId) : Nat := ceilDiv (s.unitBits p) 36

/-- R400: UNIT_BITS in range. -/
def State.unitOk (s : State) (p : PortId) (u : Nat) : Bool :=
  if p.val = 3 ∧ s.variant = .lkm8836 then decide (1 ≤ u) && decide (u ≤ 4095) else decide (4 ≤ u) && decide (u ≤ 36)

/-- R389, R400: a port command or write is refused. -/
def State.portRefuse (s : State) (p : PortId) : State := s.setFlag (F.PRT_P_STAT_CMD_REFUSED p) true

/-- R392: a transfer is BUSY. -/
def State.portBusy (s : State) (p : PortId) : Bool := s.opBusy (R.PRT_P_STAT p)

/-- Table 2.17, R389: the port is in use and its clock runs. -/
def State.portOn (s : State) (p : PortId) : Bool := s.flag (F.PRT_P_CFG_USED p) && s.regBit R.CLK_POWER (4 + p.val)

/-- R390: PCLK that `edges` clock edges of a port last. -/
def State.portTime (s : State) (p : PortId) (edges : Nat) : Nat :=
  ceilDiv (edges * ceilDiv 300000 (max 1 (s.fld (F.PRT_P_LEN_CLOCK_KHZ p))) * 5) 3

/-- Table 3.15: lanes of a code. -/
def lanesOf (c : Nat) : Nat := if c = 0 then 1 else if c = 1 then 2 else 4

/-- R390: GAP, PCLK. -/
def State.portGap (s : State) (p : PortId) : Nat := max 1 (s.fld (F.PRT_P_CFG_GAP p)) * usec

/-- R389, R391: PCLK that a transfer lasts, without waits and retries. -/
def State.xferTime (s : State) (p : PortId) (x : PortXfer) : Nat :=
  let lc := lanesOf (s.fld (F.PRT_P_CFG_CMD_LANES p))
  let ld := lanesOf (s.fld (F.PRT_P_CFG_DATA_LANES p))
  let u := s.unitBits p
  let ta := if x.dir ∧ (1 < lc ∨ 1 < ld) then 1 else 0
  s.portTime p (ceilDiv (x.cmdUnits * u) lc + ta + ceilDiv (x.dataUnits * u) ld)

/-! ### SSI channels on a port (R275, R395, R396) -/

/-- R275: the SSI channels that a port serves, with their definitions and their axes. -/
def State.ssiChans (s : State) (p : PortId) : List (AxisId × FeedDef) :=
  axisIds.filterMap (fun c => (s.feedOfChan c.val).bind (fun f =>
    if f.kind = 4 ∧ f.ssiPort = p.val then some (c, f) else none))

/-- R275: L of an SSI channel. -/
def State.ssiLen (s : State) (c : AxisId) (f : FeedDef) : Nat := f.ssiBits + s.fld (F.FB_CFG_SSI_EXTRA c)

/-- R275: offset of a channel's reading from the motion frame boundary. -/
def State.ssiAt (s : State) (f : FeedDef) : Nat := s.adcDelay f.axis

/-- R395: the pause after a reading. -/
def State.ssiPause (s : State) (p : PortId) : Nat := max (s.portGap p) (20 * usec)

/-- R395: how long a reading and its pause last. -/
def State.ssiSpan (s : State) (p : PortId) (c : AxisId) (f : FeedDef) : Nat := s.portTime p (s.ssiLen c f) + s.ssiPause p

/-- R275: the start of the next reading of a channel: that of this motion frame while it is not made, else that of the
next one. -/
def State.ssiNext (s : State) (p : PortId) (c : AxisId) (f : FeedDef) : Nat :=
  let due := s.lastMotion + s.ssiAt f
  if (s.prt[p]).read.any (fun e => decide (e.1 = c.val) && decide (s.lastMotion ≤ e.2)) then due + motionPclk else due

/-- R396: the longest time free between two readings of a port. -/
def State.ssiWindow (s : State) (p : PortId) : Nat :=
  let l := s.ssiChans p
  let gap (x : AxisId × FeedDef) : Nat :=
    let own := s.ssiAt x.2
    let next := (l.map (fun y => (s.ssiAt y.2 + motionPclk - own + motionPclk - 1) % motionPclk + 1)).foldl min motionPclk
    next - s.ssiSpan p x.1 x.2
  (l.map gap).foldl max 0

/-- R396: a transfer starting now ends at least 1 us before the next reading of its port. -/
def State.ssiClear (s : State) (p : PortId) (start len : Nat) : Bool :=
  (s.prt[p]).ssi.isNone && (s.ssiChans p).all (fun x => decide (start + len + usec ≤ s.ssiNext p x.1 x.2))

/-! ### Transfers (R392 to R394) -/

/-- R392: a transfer's words leave the transmit FIFO and its start stands; it begins no earlier than the pause before it
ends. -/
def State.beginXfer (s : State) (p : PortId) (x : PortXfer) : State :=
  s.setPort p (fun q => { q with run := some { x with since := max s.clock q.freeAt }, deferred := none })

/-- R392, R396: the start is refused. -/
def State.startBad (s : State) (p : PortId) (x : PortXfer) : Bool :=
  let q := s.prt[p]
  let u := s.unitWords p
  !s.portOn p || s.portBusy p ||
    decide (q.tx.length ≠ (x.cmdUnits + (if x.dir then 0 else x.dataUnits)) * u) ||
    (x.dir && decide (s.fifoDepth p < q.rx.length + x.dataUnits * u)) ||
    (s.ssiChans p).any (fun e => decide (e.2.ssiSelect = x.sel)) ||
    (!(s.ssiChans p).isEmpty && decide (s.ssiWindow p < s.xferTime p x + usec))

/-- R392: OP START. -/
def State.startXferOn (s : State) (p : PortId) (x : PortXfer) : State :=
  if s.startBad p x then s.portRefuse p
  else
    let x := { x with kept := (s.prt[p]).tx }
    let t := ((s.setStat (R.PRT_P_STAT p) statBusy).setFld (F.PRT_P_STAT_RETRIES p) 0).setPort p (fun q => { q with tx := [] })
    if (s.ssiChans p).isEmpty || t.ssiClear p (max t.clock (t.prt[p]).freeAt) (t.xferTime p x) then t.beginXfer p x
    else t.setPort p (fun q => { q with deferred := some x })

/-- R390, R392: the select of a port is released: the transfer is over with a status. -/
def State.endPort (s : State) (p : PortId) (stat : Nat) : State :=
  (s.setStat (R.PRT_P_STAT p) stat).setPort p (fun q => { q with
    run := none, deferred := none, freeAt := s.clock + s.portGap p })

/-- R391: received units as the FIFO holds them: whole units, their unused low bits 0. -/
def unitsIn (u : Nat) : Nat → List Word → List Word
  | 0, _ => []
  | n + 1, l =>
    let w := ceilDiv u 36
    if l.length < w ∨ w = 0 then []
    else
      let x := l.take w
      let cut := 2 ^ (36 * w - u)
      x.dropLast ++ [BitVec.ofNat 36 ((x.getLastD 0).toNat / cut * cut)] ++ unitsIn u n (l.drop w)

/-- R393: the first unit matches the busy pattern. -/
def State.busyMatch (s : State) (p : PortId) (l : List Word) : Bool :=
  let u := s.unitBits p
  let pat := (s.reg (R.PRT_P_BUSYPAT p)).toNat
  match l.head? with
  | none => false
  | some w => if u ≤ 36 then decide (w.toNat / 2 ^ (36 - u) = pat % 2 ^ u) else decide (w.toNat = pat)

/-- PORT_XFER_END (R392, R393): the last unit is through; `rx` holds the words received. -/
def portXferEnd (p : PortId) (rx : List Word) (s : State) : State :=
  match (s.prt[p]).run with
  | none => s
  | some x =>
    if !s.live || x.retryAt.isSome then s
    else
      let t := s.atLeast (x.since + s.xferTime p x)
      let l := if x.dir then unitsIn (t.unitBits p) x.dataUnits rx else []
      if t.flag (F.PRT_P_CFG_BUSY_EN p) && x.dir && t.busyMatch p l then
        if t.fld (F.PRT_P_CFG_RETRY_MAX p) ≤ x.retries then
          ((t.endPort p statErr).setFlag (F.PRT_P_STAT_BUSY_GAVEUP p) true).raiseLD 0xA12 p.val none
        else t.setPort p (fun q => { q with
          run := some { x with retryAt := some (t.clock + (t.fld (F.PRT_P_CFG_RETRY_DELAY p) + 1) * 10 * usec) },
          freeAt := t.clock + t.portGap p })
      else (t.setPort p (fun q => { q with rx := q.rx ++ l })).endPort p statDone

def execPortXferEnd (dt : Nat) (p : PortId) (rx : List Word) (s : State) : Host.Outcome State Fault Refusal :=
  s.answer (portXferEnd p rx (s.pass dt))

/-- BUSY_RETRY (R393): the delay is over and the whole transfer is repeated. -/
def busyRetry (p : PortId) (s : State) : State :=
  match (s.prt[p]).run with
  | none => s
  | some x =>
    match x.retryAt with
    | none => s
    | some at_ =>
      if !s.live then s
      else
        let t := ((s.atLeast (max at_ (s.prt[p]).freeAt)).count (R.PRT_P_RETRY_COUNT p)).setFld (F.PRT_P_STAT_RETRIES p) (x.retries + 1)
        t.setPort p (fun q => { q with run := some { x with retryAt := none, retries := x.retries + 1, since := t.clock } })

def execBusyRetry (p : PortId) (s : State) : Host.Outcome State Fault Refusal := s.answer (busyRetry p s)

/-- PORT_RDY_TIMEOUT (R392): Pn_RDY has been low for 1 ms; `rx` holds the words of the units received before. -/
def portRdyTimeout (p : PortId) (rx : List Word) (s : State) : State :=
  match (s.prt[p]).run with
  | none => s
  | some x =>
    if !s.live || x.retryAt.isSome || !s.flag (F.PRT_P_CFG_RDY_EN p) then s
    else
      let t := s.atLeast (x.since + msec)
      let l := if x.dir then unitsIn (t.unitBits p) x.dataUnits rx else []
      let t := (t.setPort p (fun q => { q with rx := q.rx ++ l })).endPort p statErr
      (t.setFlag (F.PRT_P_STAT_RDY_TIMEOUT p) true).raiseLD 0xA11 p.val none

def execPortRdyTimeout (dt : Nat) (p : PortId) (rx : List Word) (s : State) : Host.Outcome State Fault Refusal :=
  s.answer (portRdyTimeout p rx (s.pass dt))

/-- PORT_DEFERRED_START (R396): the reading is over, and the transfer starts. -/
def portDeferredStart (p : PortId) (s : State) : State :=
  match (s.prt[p]).deferred with
  | none => s
  | some x =>
    let start := max s.clock (s.prt[p]).freeAt
    if !s.live || !s.ssiClear p start (s.xferTime p x) then s else (s.atLeast start).beginXfer p x

def execPortDeferredStart (dt : Nat) (p : PortId) (s : State) : Host.Outcome State Fault Refusal :=
  s.answer (portDeferredStart p (s.pass dt))

/-- R400: the registers of the PRT SAVE record. -/
def prtSaveKeys : List Nat := portIds.flatMap (fun p => [R.PRT_P_CFG p, R.PRT_P_LEN p, R.PRT_P_BUSYPAT p])

/-- R394: OP ABORT; `rx` holds the words of the units received before. -/
def State.abortPort (s : State) (p : PortId) (rx : List Word) : State :=
  let k := R.PRT_P_STAT p
  if !s.opBusy k then s.abortIdle k
  else
    let l := match (s.prt[p]).run with
      | some x => if x.dir && x.retryAt.isNone then unitsIn (s.unitBits p) x.dataUnits rx else []
      | none => []
    (s.setPort p (fun q => { q with rx := q.rx ++ l, tx := [] })).endPort p statAborted

/-- Table 13.11: a write of Pn_XFER; `w` holds its bits [17:0]. -/
def portCommand (p : PortId) (w : Nat) (ok : Bool) (rx : List Word) (s : State) : State :=
  if !s.reach 5 then s
  else match bitsOf w 14 12 with
    | 1 => s.startXferOn p ⟨bitsOf w 17 16, bitOf w 15, bitsOf w 11 8, bitsOf w 7 0, [], 0, 0, none⟩
    | 2 => if s.portBusy p then s.portRefuse p else s.setPort p (fun q => { q with tx := [], rx := [] })
    | 3 => s.saveOr ok 5 prtSaveKeys
    | 7 => s.abortPort p rx
    | _ => s.portRefuse p

/-- PORT_START (R392). -/
def execPortStart (dt : Nat) (p : PortId) (sel : Fin 4) (dir : Bool) (cmds : Fin 16) (units : Fin 256) (s : State) :
    Host.Outcome State Fault Refusal :=
  s.answer (portCommand p (sel.val * 2 ^ 16 + bit dir * 2 ^ 15 + 2 ^ 12 + cmds.val * 2 ^ 8 + units.val) true [] (s.pass dt))

/-- PORT_FLUSH (R394). -/
def execPortFlush (dt : Nat) (p : PortId) (s : State) : Host.Outcome State Fault Refusal :=
  s.answer (portCommand p (2 * 2 ^ 12) true [] (s.pass dt))

/-- PORT_SAVE (R400). -/
def execPortSave (dt : Nat) (p : PortId) (ok : Bool) (s : State) : Host.Outcome State Fault Refusal :=
  s.answer (portCommand p (3 * 2 ^ 12) ok [] (s.pass dt))

/-- PORT_ABORT (R394). -/
def execPortAbort (dt : Nat) (p : PortId) (rx : List Word) (s : State) : Host.Outcome State Fault Refusal :=
  s.answer (portCommand p (7 * 2 ^ 12) true rx (s.pass dt))

/-! ### Pn_DATA and the settings (R391, R400) -/

/-- R391: a write of Pn_DATA. -/
def State.portPush (s : State) (p : PortId) (w : Word) : State :=
  if (s.prt[p]).tx.length < s.fifoDepth p then s.setPort p (fun q => { q with tx := q.tx ++ [w] }) else s.portRefuse p

/-- R391: a read of Pn_DATA. -/
def State.portPop (s : State) (p : PortId) : State × Word :=
  match (s.prt[p]).rx with
  | [] => (s.portRefuse p, 0)
  | w :: l => (s.setPort p (fun q => { q with rx := l }), w)

/-- PORT_DATA_ACCESS (R391): a write of a word, or a read. -/
def portDataAccess (p : PortId) (data : Option Word) (s : State) : State :=
  if !s.reach 5 then s
  else match data with
    | some w => s.portPush p w
    | none => (s.portPop p).1

def execPortDataAccess (dt : Nat) (p : PortId) (data : Option Word) (s : State) : Host.Outcome State Fault Refusal :=
  s.answer (portDataAccess p data (s.pass dt))

/-- R400: a write of Pn_CFG (bits [17:0]), Pn_LEN (UNIT_BITS) or Pn_BUSYPAT. -/
def portCfgWrite (p : PortId) (w : Word) (s : State) : State :=
  if s.portBusy p then s.portRefuse p else s.setFld ⟨R.PRT_P_CFG p, 17, 0⟩ (bitsOf w.toNat 17 0)

def portLenWrite (p : PortId) (w : Word) (s : State) : State :=
  let u := bitsOf w.toNat 29 18
  if s.portBusy p || !s.unitOk p u then s.portRefuse p else s.setFld (F.PRT_P_LEN_UNIT_BITS p) u

def portPatWrite (p : PortId) (w : Word) (s : State) : State :=
  if s.portBusy p then s.portRefuse p else s.setReg (R.PRT_P_BUSYPAT p) w

/-- R74, Table 13.12: SSI_OWNED of every port. -/
def State.showSsiOwned (s : State) : State :=
  s.forEach portIds (fun p t => t.setFlag (F.PRT_P_STAT_SSI_OWNED p) (!(t.ssiChans p).isEmpty))

/-! ### SSI readings (R275 to R277, R395) -/

/-- R74: the port and the definition of an SSI channel. -/
def State.ssiPort (s : State) (c : AxisId) : Option (PortId × FeedDef) :=
  match s.feedOfChan c.val with
  | none => none
  | some f => if h : f.ssiPort < 4 then (if f.kind = 4 then some (⟨f.ssiPort, h⟩, f) else none) else none

/-- SSI_READ (R275): the reading of a motion frame starts. -/
def ssiRead (c : AxisId) (s : State) : State :=
  match s.ssiPort c with
  | none => s
  | some (p, f) =>
    let q := s.prt[p]
    if !s.live || !s.portOn p || q.ssi.isSome || (q.run.isSome && (q.run.bind (·.retryAt)).isNone) then s
    else
      let t := s.atLeast (max (s.ssiNext p c f) q.freeAt)
      t.setPort p (fun q => { q with
        ssi := some (c.val, t.clock), read := (c.val, t.clock) :: q.read.filter (fun e => e.1 ≠ c.val) })

def execSsiRead (c : AxisId) (s : State) : Host.Outcome State Fault Refusal := s.answer (ssiRead c s)

/-- Gray code of `n` bits to binary. -/
def grayBits : Nat → Nat → Nat
  | 0, _ => 0
  | n + 1, g => g ^^^ grayBits n (g / 2)

/-- R276: a reading is rejected. -/
def State.ssiReject (s : State) (c : AxisId) : State :=
  let n := (s.chanAxis c).map (·.val)
  let t := ((s.raiseLD 0x641 c.val n).count (R.FB_SSI_REJECT_COUNT c)).setFlag (F.FB_STATUS_SSI_REJ c) true
  let t := t.modChan c (fun x => { x with ssiBad := x.ssiBad + 1 })
  if (t.chans[c]).ssiBad = 3 then (t.raiseLD 0x642 c.val n).suspect c 0x642 else t

/-- R276: a change of `d` counts is beyond 4 x N_RATED in one motion frame. -/
def State.ssiTooFar (s : State) (c : AxisId) (f : FeedDef) (d : Int) : Bool :=
  match s.chanAxis c with
  | none => false
  | some n => decide ((s.tRev n * 4 * s.nRated n : Nat) * (max 1 f.tickDen : Nat) < d.natAbs * f.tickNum * 600000)

/-- R275: a good reading: the count moves by the change, or takes the first value. -/
def State.ssiTake (s : State) (c : AxisId) (at_ : Nat) (v : Nat) (d : Int) : State :=
  let t := s.countBy c d
  let t := t.modChan c (fun x => { x with
    ssiLast := some v, ssiBad := 0, ssiGood := ((at_, t.reg (R.FB_POS c)) :: x.ssiGood).take 2 })
  let t := if d = 0 then t else t.setFlag (F.FB_STATUS_DIR c) (decide (d < 0))
  if 2 ≤ (t.chans[c]).ssiGood.length then
    (t.setFlag (F.FB_STATUS_SPEED_VALID c) true).setFlag (F.FB_STATUS_STANDSTILL c) false
  else t

/-- R275, R276: a reading is judged. -/
def State.ssiJudge (s : State) (c : AxisId) (f : FeedDef) (at_ raw : Nat) (low : Bool) : State :=
  let extra := s.fld (F.FB_CFG_SSI_EXTRA c)
  let raw := raw % 2 ^ (f.ssiBits + extra)
  let t := s.setReg (R.FB_SSI_RAW c) (BitVec.ofNat 36 raw)
  let err := s.flag (F.FB_CFG_SSI_ERRBIT c) && decide (0 < extra) && bitOf raw 0
  let g := raw / 2 ^ extra
  let v := if s.flag (F.FB_CFG_SSI_GRAY c) then grayBits f.ssiBits g else g
  match (s.chans[c]).ssiLast with
  | none =>
    if low || err then t.ssiReject c else t.ssiTake c at_ v (posDiff (BitVec.ofNat 36 v) (s.reg (R.FB_COUNT c)))
  | some last =>
    let d := signed f.ssiBits (v + 2 ^ f.ssiBits - last % 2 ^ f.ssiBits)
    if low || err || s.ssiTooFar c f d then t.ssiReject c else t.ssiTake c at_ v d

/-- SSI_READ_END (R275, R276, R395): the reading of a channel completes: its bits, and whether the data line was low before
the first clock edge. -/
def ssiReadEnd (c : AxisId) (raw : Nat) (low : Bool) (s : State) : State :=
  match s.ssiPort c with
  | none => s
  | some (p, f) =>
    match (s.prt[p]).ssi with
    | none => s
    | some (d, since) =>
      if !s.live || d ≠ c.val then s
      else
        let t := s.atLeast (since + s.portTime p (s.ssiLen c f))
        (t.setPort p (fun q => { q with ssi := none, freeAt := t.clock + t.ssiPause p })).ssiJudge c f since raw low

def execSsiReadEnd (dt : Nat) (c : AxisId) (raw : Nat) (low : Bool) (s : State) : Host.Outcome State Fault Refusal :=
  s.answer (ssiReadEnd c raw low (s.pass dt))

/-- R276: a reading that was due in the motion frame and has not completed by its end counts as rejected. -/
def State.lateReadings (s : State) : State :=
  s.forEach portIds (fun p t =>
    let missed := (t.ssiChans p).filter (fun x =>
      t.portOn p && decide ((t.chans[x.1]).since ≤ t.lastMotion + t.ssiAt x.2) && !(t.prt[p]).read.any (fun e => decide (e.1 = x.1.val) && decide (t.lastMotion ≤ e.2)) ||
        (t.prt[p]).ssi.any (fun e => decide (e.1 = x.1.val)))
    let t := t.forEach missed (fun x t => t.ssiReject x.1)
    t.setPort p (fun q => if q.ssi.isSome then { q with ssi := none, freeAt := t.clock + t.ssiPause p } else q))

end Sys2Proof.Machine
end

