-- ==== Sys2Proof/Machine/MotionFrame.lean ====
section
/-! DEFINITION. The motion frame boundary (R19): settings and regimes, amplitude, transfers, the targets of the Hatch and of
STREAM, the generator, alignment and learning, and what is measured and modelled once per motion frame. -/

namespace Sys2Proof.Machine

open Sys2Proof

/-! ### Settings and regimes (R258, R231) -/

/-- R248: a plan still runs: its course is not over, or it holds a velocity. -/
def AxisMot.underPlan (a : AxisMot) : Bool :=
  match a.path with
  | .segs _ _ _ vEnd => !a.path.isOver a.k || decide (vEnd ≠ 0)
  | _ => false

/-- R258, R248: settings written since the last boundary take effect; a new REGIME_REQ asks for its regime, and new limits for
a new plan to the same end. -/
def State.takeSettings (s : State) (n : AxisId) : State :=
  let c := s.cfgRegs n
  let fault := s.faultStopping n
  s.modAxis n (fun a =>
    let same := decide (c.vmax = a.cfg.vmax) && decide (c.amax = a.cfg.amax) && decide (c.jmax = a.cfg.jmax) &&
      decide (c.qdec = a.cfg.qdec)
    let anew := !same && a.underPlan
    { a with
      cfg := c, regime := if c.regimeReq ≠ a.cfg.regimeReq ∧ c.regimeReq < 3 then c.regimeReq else a.regime,
      req := if anew && !fault && a.req.isNone then a.goal else a.req,
      path := if anew && fault then planFaultStop a.mo (c.qdec * uAcc) else a.path, k := if anew && fault then 0 else a.k })

/-- R231, R232: the regime that takes effect now: no motion runs in STANDBY-HOLD. -/
def State.regimeNow (s : State) (n : AxisId) : Nat :=
  let a := s.axes[n]
  if a.regime = 2 ∧ !s.armedRest n then (if s.regime n = 2 then 0 else s.regime n) else a.regime

/-- A ramp moves on by one motion frame. -/
def Ramp.advance (r : Ramp) : Ramp := { r with step := min 8 (r.step + 1) }

/-- The level of a ramp that is in force follows a setting at once; one that runs, or that is off, stands. -/
def Ramp.follow (r : Ramp) (level : Int) : Ramp := if r.on = false ∨ r.step < 8 then r else .at_ level

/-- R231: the ramps and the regime of an axis at a motion frame boundary. -/
def State.regimeFrame (s : State) (n : AxisId) : State :=
  let t := s.modAxis n (fun a => { a with
    amp := a.amp.advance, ilim := a.ilim.advance, disarm := a.disarm.map (· + 1) })
  if !t.axisOn n then t
  else
    let r := t.regimeNow n
    if r ≠ t.regime n then
      let t := t.setRegime n r
      t.modAxis n (fun a => { a with
        amp := if a.amp.on then a.amp.toward (t.ampLevel n r) else a.amp,
        ilim := if a.ilim.on then a.ilim.toward (t.limLevel n r) else a.ilim })
    else t.modAxis n (fun a => { a with
      amp := (if r = 1 then a.amp else a.amp.follow (t.ampLevel n r)), ilim := a.ilim.follow (t.limLevel n r) })

/-- R233: the amplitude of an OPEN drive in ECONOMY. -/
def State.ecoFrame (s : State) (n : AxisId) : State :=
  let a := s.axes[n]
  if !s.axisOn n || s.regime n ≠ 1 || s.drive n ≠ 0 || !a.amp.on || decide (a.amp.step < 8) || a.align.isSome ||
      a.learn.isSome || a.xfer.isSome then s
  else
    let run := a.cfg.curRun
    let lam := (s.sfld (F.ENG_OBS_B_LOAD_ANGLE n)).natAbs
    let x := a.amp.now
    let x := if !(s.locked n && progHasObs (progOf (s.engs[n]).prog)) then run
      else
        let x := if a.cfg.laTarget + 4096 < lam then x + run / 32 else if lam + 4096 < a.cfg.laTarget then x - run / 1024 else x
        min run (max a.cfg.ecoMin x)
    s.modAxis n (fun a => { a with amp := .at_ x })

/-! ### Transfers by speed (R240) -/

/-- R240: a DRIVE_MODE 2 axis passes between OPEN and OBS drive. -/
def State.driveFrame (s : State) (n : AxisId) : State :=
  let a := s.axes[n]
  if s.driveMode n ≠ 2 || !s.axisOn n || a.xfer.isSome || a.learn.isSome || a.align.isSome then s
  else if s.drive n = 2 then (if s.velAtLeast n 3 100 then s else s.startXfer n 0)
  else if s.locked n then (if s.velAtLeast n 4 100 then s.startXfer n 2 else s)
  else if s.velAtLeast n 10 100 && !s.faultStopping n then
    (s.raiseActed 0x543 n.val (some n.val)).faultStop n 0x543
  else s

/-! ### The generator (R248, R250, R252) -/

/-- Limits in force, in the units of the profile. -/
def AxisCfg.vLim (c : AxisCfg) : Int := max 1 c.vmax * uVel
def AxisCfg.aLim (c : AxisCfg) : Int := max 1 c.amax * uAcc
def AxisCfg.jLim (c : AxisCfg) : Int := max 1 c.jmax * uJerk
def AxisCfg.qLim (c : AxisCfg) : Int := max 1 c.qdec * uAcc

/-- R252: the direction of a target, against a turning rotor: of the velocity asked for, or of the way to the position. -/
def MotionReq.way (r : MotionReq) (m : Motion) : Int :=
  match r with
  | .toPos x => x * uTick - m.p
  | .toVel v => v
  | .stop _ => m.v
  | .learn x _ => x - m.p

/-- R248: the profile to a target under limits. -/
def planReq (c : AxisCfg) (m : Motion) (r : MotionReq) : Path :=
  match r with
  | .toPos x => planMove m (x * uTick) c.vLim c.aLim c.jLim
  | .toVel v => planVelocity m (v * uVel) c.vLim c.aLim c.jLim
  | .stop quick => planStop m (if quick then c.qLim else c.aLim) c.jLim
  | .learn x v => planMove m x (max 1 (min c.vLim v)) c.aLim c.jLim

/-- A path with a velocity added to it. -/
def Path.shift (x : Path) (v : Int) : Path :=
  match x with
  | .segs p0 l _ vEnd => .segs p0 (l.map (fun g => { g with v := g.v + v })) none (vEnd + v)
  | p => p

/-- R250: the fastest course onto a target at `p` that moves at `v`: planned against the moving target; while the target
outruns the velocity limit, the fastest change to that limit. -/
def planTrack (c : AxisCfg) (m : Motion) (p v : Int) : Path :=
  if v = 0 then planMove m p c.vLim c.aLim c.jLim
  else
    let rel : Motion := ⟨m.p, m.v - v, m.a⟩
    let s : Int := if segsDist (changeVel rel.v rel.a 0 c.aLim c.jLim) ≤ p - m.p then 1 else -1
    let room := c.vLim - s * v
    if room ≤ 0 then planVelocity m (s * c.vLim) c.vLim c.aLim c.jLim
    else (planMove rel p room c.aLim c.jLim).shift v

/-- R248, R252: the generator takes a new plan from its present state; a start on a turning rotor toward the other side
first goes through standstill. The second component tells whether the plan was taken. -/
def State.replan (s : State) (n : AxisId) (way : Int) (plan : Motion → Path) : State × Bool :=
  let a := s.axes[n]
  let take (via : Bool) (x : Path) := s.modAxis n (fun a => { a with path := x, k := 0, viaRest := via })
  if a.waitRamp then (s, false)
  else if !a.viaRest then (take false (plan a.mo), true)
  else if !a.path.isOver a.k then (s, false)
  else if a.mo.v ≠ 0 ∧ way * a.mo.v < 0 then (take true (planStop a.mo a.cfg.aLim a.cfg.jLim), false)
  else (take false (plan a.mo), true)

/-- R248: what has been asked of the generator. -/
def State.motionFrameReq (s : State) (n : AxisId) : State :=
  let a := s.axes[n]
  match a.req with
  | none => s
  | some r =>
    let (t, ok) := s.replan n (r.way a.mo) (fun m => planReq a.cfg m r)
    if ok then t.modAxis n (fun a => { a with req := none, goal := some r }) else t

/-- R232: a start out of STANDBY-HOLD waits for the ramps of R231. -/
def State.waitFrame (s : State) (n : AxisId) : State :=
  let a := s.axes[n]
  if a.waitRamp && decide (s.regime n ≠ 2) && decide (8 ≤ a.amp.step) && decide (8 ≤ a.ilim.step) then
    s.modAxis n (fun a => { a with waitRamp := false })
  else s

/-- R250: a RUNNING axis tracks a target (ticks) that moves at `v` (2^-12 tick per motion frame). -/
def State.track (s : State) (n : AxisId) (target v : Int) : State :=
  let a := s.axes[n]
  let still : Bool := match a.path with | .segs _ _ _ e => decide (e = 0) | .rest _ => true | .herm .. => false
  if decide (a.follow = some target) && decide (v = 0) && still && !a.viaRest && !a.waitRamp then s
  else
    let (t, ok) := s.replan n (target * uTick - a.mo.p) (fun m => planTrack a.cfg m (target * uTick) (v * uVel))
    if ok then t.modAxis n (fun a => { a with follow := some target, goal := if v = 0 then some (.toPos target) else none })
    else t

/-! ### Hatch targets (R407, R408, R410, R412) -/

/-- R407: the step channel's target at a boundary: HTn_TARGET, and its change over the last 8 motion frames by 8. -/
def State.stepTarget (s : State) (c : AxisId) : State × Word × Int :=
  let now := s.reg (R.HAT_HT_TARGET c)
  let h := (s.hatch.steps[c]).hist
  let old := (h[7]?).getD (h.getLastD now)
  (s.modStep c (fun x => { x with hist := (now :: x.hist).take 8 }), now, posDiff now old * 512)

/-- R408: the lag of a channel's target. -/
def State.lagCheck (s : State) (c n : AxisId) : State :=
  let lim := s.fld (F.HAT_HT_CFG_LAG_MAX c) * 4096
  let lag := posDiff (s.reg (R.HAT_HT_TARGET c)) (posWord (tickOf (s.axes[n]).mo.p))
  if lim = 0 ∨ lag.natAbs ≤ lim ∨ !s.axisOn n ∨ s.faultStopping n then s
  else ((s.raiseActed 0xA22 c.val (some n.val)).setFlag F.HAT_STATUS_LAG_SEEN true).faultStop n 0xA22

/-- R407, R408: a step channel at a boundary. -/
def State.stepFrame (s : State) (c : AxisId) : State :=
  match s.htAxis c with
  | none => s
  | some n =>
    let (t, now, v) := s.stepTarget c
    let t := if t.axisSt n = stRunning then t.track n (t.moveTarget n now) v else t
    t.lagCheck c n

/-- R412, R251: the velocity target of an input acts on its axis: its first change on an ARMED axis is a start. -/
def State.speedTarget (s : State) (n : AxisId) (v : Int) : State :=
  if (s.axes[n]).follow = some v then s
  else
    let mark (t : State) := t.modAxis n (fun a => { a with follow := some v })
    if s.axisSt n = stRunning then (mark s).request n (.toVel v)
    else if s.axisSt n = stArmed && (s.axes[n]).disarm.isNone && decide (v ≠ 0 ∨ (s.axes[n]).follow.isSome) then
      let (t, ok) := s.startAxis n
      if ok then (mark t).request n (.toVel v) else mark t
    else s

/-- R412: the speed-command inputs at a boundary. -/
def State.speedFrame (s : State) (sums : List Int) : State :=
  s.forEach cmdaIds (fun i t =>
    match t.cmdaAxis i with
    | none => t
    | some n =>
      let (t, v) := t.cmdaFrame i (sums.getD i.val 0)
      t.speedTarget n v)

/-- R410: READYn reports ready at a boundary after its condition holds. -/
def State.readyFrame (s : State) : State :=
  s.forEach axisIds (fun c t =>
    match t.htRec c with
    | none => t
    | some r =>
      match (if r.readyUsed then axisOfNat r.axis else none) with
      | none => t
      | some n => t.setRegBit R.HAT_STATUS (8 + c.val) (t.readyOk n))

/-! ### STREAM targets (R319) -/

/-- R319: the set-point of an axis that applies at this boundary: the latest whose instant has come. -/
def State.pointNow (s : State) (n : AxisId) : Option (Int × Int) :=
  ((s.planner.points.filter (fun e => decide (e.1 = n.val) && decide (e.2.1 ≤ s.clock))).foldl
    (fun (best : Option (Nat × Int × Int)) e =>
      match best with
      | some b => if b.1 ≤ e.2.1 then some e.2 else best
      | none => some e.2) none).map (·.2)

/-- R319: a STREAM axis at a boundary. -/
def State.streamFrame (s : State) (n : AxisId) : State :=
  if !(s.axisRec n.val).any (fun r => decide (r.source = 2)) then s
  else
    let p := s.pointNow n
    let t := s.modPlan (fun q => { q with
      points := q.points.filter (fun e => !(decide (e.1 = n.val) && decide (e.2.1 ≤ s.clock))) })
    match p with
    | none =>
      if t.axisSt n = stRunning then
        t.modPlan (fun q => { q with missed := q.missed.set n.val (q.missed.getD n.val 0 + 1) })
      else t
    | some (x, v) =>
      let t := t.modPlan (fun q => { q with missed := q.missed.set n.val 0 })
      let x := t.moveTarget n (posWord x)
      if t.axisSt n = stRunning then t.track n x v
      else if t.axisSt n = stArmed && (t.axes[n]).disarm.isNone then
        let (t, ok) := t.startAxis n
        if ok then t.track n x v else t
      else t

/-! ### Alignment and learning (R243, R244) -/

/-- R243: the end of ALIGN, the amplitude having come to 0. -/
def State.alignOver (s : State) (n : AxisId) (fromDisabled : Bool) : State :=
  let t := (s.axisOpDone n).modAxis n (fun a => { a with align := none })
  if fromDisabled then t.disable n
  else
    let t := t.setFld (F.AX_STATE_DRIVE n) (if t.driveMode n = 1 then 1 else 0)
    let lim := if t.flag (F.AX_COMM_VALID n) then t.limLevel n (t.regime n) else 0
    t.modAxis n (fun a => { a with ilim := if t.flag (F.AX_COMM_VALID n) then .at_ lim else .off })

/-- R243: the amplitude of ALIGN: 50 ms of ramp to CUR_RUN in each hold, then the ramp to 0. -/
def State.alignFrame (s : State) (n : AxisId) : State :=
  match (s.axes[n]).align with
  | none => s
  | some x =>
    if s.axisSt n ≠ stArmed then s
    else if x.phase = 2 then (if 8 ≤ (s.axes[n]).amp.step then s.alignOver n x.fromDisabled else s)
    else
      let k : Nat := min 500 ((s.clock - x.since) / motionPclk)
      let amp := (s.axes[n]).cfg.curRun * k / 500
      s.modAxis n (fun a => { a with amp := ⟨amp, amp, 8, false⟩ })

/-- R244: a learning run moves off once its amplitude stands, and turns back at the far end. -/
def State.learnFrame (s : State) (n : AxisId) : State :=
  match (s.axes[n]).learn with
  | none => s
  | some l =>
    let d := (max 1 (s.fld (F.AX_LEARN_CFG_CYCLES n)) : Int) * s.cycleTicks n * uTick
    let v := s.codeSpeed n (s.fld (F.AX_LEARN_SPEED_SPEED n)) * uVel
    let go (t : State) (goal : Int) (back : Bool) := t.modAxis n (fun a => { a with
      learn := some { l with goal := goal, back := back }, req := some (.learn goal v) })
    if s.axisSt n = stArmed then
      (if 8 ≤ (s.axes[n]).amp.step then go (s.axisTo n stRunning) ((s.axes[n]).mo.p + d) false else s)
    else if s.axisSt n = stRunning && !l.back && s.profileOver n then go s (l.goal - d) true
    else s

/-! ### MOTION_FRAME -/

/-- Tables 2.19, 15.9: what is measured once per motion frame. -/
def State.measureFrame (s : State) (e : MotionEnv) : State :=
  let t := s.setFld F.CLK_TEMP_LD_VALUE (unsigned 16 e.tempLd)
  let t := t.setFld F.CLK_VAUX_VALUE e.vaux
  let t := (t.setFld F.CLK_PWR_EST_VALUE (Config.powerEstimate t.free).toNat).freeNext
  let t := t.setFld F.FLT_SUPPLY_VMIN_MEAS (unsigned 12 (clampInt (-2048) 2047 e.vmin))
  let t := t.setFld F.FLT_SUPPLY_VM_MEAS (min 4095 e.vml)
  if -20 ≤ e.vmin then t.setFlag F.FLT_STATUS_VM_REVERSED false else t

/-- Tables 3.6 and 3.8: the levels of the XIO inputs that no row of their own reports (all but trip and hall inputs). -/
def State.takeXio (s : State) (levels : BitVec 32) : State :=
  match s.inv with
  | none => s
  | some v => s.modPins (fun x => { x with xio := packBits ((List.range 32).map (fun i =>
      if (v.pins[i]?).any (fun p => decide (p.func ∈ [3, 4, 5, 6])) then bitOf x.xio i else levels.getLsbD i)) })

/-- R231 to R250: the axes at a boundary, before and after the planner. -/
def State.axisFrame (s : State) (n : AxisId) : State :=
  if !s.planned n.val then s else ((((s.regimeFrame n).ecoFrame n).driveFrame n).alignFrame n).waitFrame n

def State.moveFrame (s : State) (n : AxisId) : State :=
  if !s.planned n.val || !s.axisOn n then s else ((s.streamFrame n).learnFrame n).motionFrameReq n

/-- R19 (MOTION_FRAME): a motion frame boundary; the engine frame boundary that falls with it comes first. -/
def motionFrame (e : MotionEnv) (s : State) : State :=
  if !s.live then s
  else
    let last := s.lastMotion
    let t := s.atLeast (s.nextBoundary motionPclk last)
    let due := t.tsBase + (t.clock - t.tsBase) / motionPclk * motionPclk
    let t := if t.lastEngine < due then engineFrame t else t
    let t := { t.lateReadings.takeXio e.xio with lastMotion := due }
    let t := (((t.measureFrame e).coresAtMotionFrame.compTemps.tempCheck).brakeFrame).lifeFrame (due - last)
    let t := t.forEach axisIds (fun n t => if t.planned n.val then t.takeSettings n else t)
    if t.jtag.halted then t
    else
      let t := if t.opBusy R.PLN_OP_STAT then t.busInner false else t
      let t := (t.forEach axisIds (fun n t => t.axisFrame n)).planFrame
      let t := (t.forEach axisIds (fun c t => t.stepFrame c)).speedFrame e.cmda
      let t := t.forEach axisIds (fun n t => t.moveFrame n)
      let t := t.forEach axisIds (fun n t => if t.planned n.val && t.axisOn n then t.foresee n else t)
      t.readyFrame.programCheck

def execMotionFrame (env : MotionEnv) (s : State) : Host.Outcome State Fault Refusal := s.answer (motionFrame env s)

end Sys2Proof.Machine
end

