-- ==== Sys2Proof/Machine/Image.lean ====
section
/-! DEFINITION. The Inventory image (R49 to R82): its shelves, what they define, and the steps 1 and 4 of the check of
R83. -/

namespace Sys2Proof.Machine

open Sys2Proof

/-- R83: a failed check: the word of the image at which it fails, the fault code, and the shelf index where it is not
that of the word (a missing shelf, R57). -/
structure Fail where
  word : Nat
  code : Nat
  shelf : Option Nat
  deriving DecidableEq, Repr

/-- R83: the failure at the lowest word; at one word, the lowest code. -/
def firstFail (l : List Fail) : Option Fail :=
  l.foldl (fun b f => match b with
    | none => some f
    | some g => if f.word < g.word ∨ (f.word = g.word ∧ f.code < g.code) then some f else b) none

/-- A check that fails at word `w` with code `c` unless `ok`. -/
def need (ok : Bool) (w c : Nat) : List Fail := if ok then [] else [⟨w, c, none⟩]

/-- R56: a shelf: its index, the word of its S0, its header fields and its body; `whole` when it ends within the image. -/
structure Shelf where
  idx : Nat
  at_ : Nat
  s0 : Word
  s1 : Word
  s2 : Word
  body : List Word
  whole : Bool
  deriving DecidableEq, Repr

def Shelf.typ (h : Shelf) : Nat := bitsOf h.s0.toNat 35 20
def Shelf.inst (h : Shelf) : Nat := bitsOf h.s0.toNat 15 8
def Shelf.len (h : Shelf) : Nat := bitsOf h.s1.toNat 22 0

/-- Word of the image at which word `i` of the body stands. -/
def Shelf.at (h : Shelf) (i : Nat) : Nat := h.at_ + 3 + i

/-- Word `i` of the body as a number. -/
def Shelf.w (h : Shelf) (i : Nat) : Nat := (h.body.getD i 0).toNat

/-- R57: the order of shelves. -/
def Shelf.key (h : Shelf) : Nat := h.typ * 256 + h.inst

/-- R56: `n` shelves from word `a` on, of an image whose trailer starts at `limit`; the words from `a` on follow. The
answer holds the word at which they end, none when they run beyond `limit`. -/
def parseShelves (limit : Nat) : Nat → Nat → Nat → List Word → List Shelf × Option Nat
  | 0, _, a, _ => ([], some a)
  | n + 1, idx, a, ws =>
    if limit < a + 3 then ([], none)
    else
      let s1 := ws.getD 1 0
      let len := bitsOf s1.toNat 22 0
      let h : Shelf := ⟨idx, a, ws.getD 0 0, s1, ws.getD 2 0, (ws.drop 3).take len, decide (a + 3 + len ≤ limit)⟩
      if limit < a + 3 + len then ([h], none)
      else
        let (l, e) := parseShelves limit n (idx + 1) (a + 3 + len) (ws.drop (3 + len))
        (h :: l, e)

/-- R53: fields of the header. -/
abbrev imgMagic : Nat := 0xD1F0A7E45
def imgLength (ws : List Word) : Nat := bitsOf (ws.getD 2 0).toNat 22 0
def imgPartial (ws : List Word) : Bool := bitsOf (ws.getD 3 0).toNat 3 3 = 1
def imgCount (ws : List Word) : Nat := bitsOf (ws.getD 4 0).toNat 11 0
def imgId (ws : List Word) : Word := ws.getD 5 0

/-- R54: reserved fields are checked for FORMAT_MINOR 0. -/
def imgStrict (ws : List Word) : Bool := bitsOf (ws.getD 1 0).toNat 7 0 = 0

/-- R54: a reserved field of word `w`. -/
def rsvd (strict : Bool) (v hi lo w : Nat) : List Fail := need (!strict || bitsOf v hi lo = 0) w 0xB24

/-- R53 to R55, step 1 of R83. -/
def headerFails (v : Variant) (ws : List Word) : List Fail :=
  let w (i : Nat) : Nat := (ws.getD i 0).toNat
  let strict := imgStrict ws
  let len := imgLength ws
  need (decide (w 0 = imgMagic)) 0 0xB10 ++ need (decide (bitsOf (w 1) 15 8 = 1)) 1 0xB11 ++ rsvd strict (w 1) 35 16 1 ++
    need (decide (20 ≤ len) && decide (len ≤ 7456540) && decide (len % 2 = 0)) 2 0xB12 ++ rsvd strict (w 2) 35 23 2 ++
    need (match v with | .lkm8836 => decide (bitsOf (w 3) 0 0 = 1) | .lkm4836 => decide (bitsOf (w 3) 1 1 = 1)) 3 0xB14 ++
    rsvd strict (w 3) 35 4 3 ++ rsvd strict (w 3) 2 2 3 ++
    rsvd strict (w 4) 35 12 4 ++ need (decide (0 < imgCount ws)) 4 0xB24 ++
    need (decide (crc32Words (ws.take 7) = bitsOf (w 7) 31 0)) 7 0xB13 ++ rsvd strict (w 7) 35 32 7

/-! ### What the shelves define -/

/-- Table 3.4. -/
def axisRecOf (n : Nat) : AxisRec :=
  ⟨bitsOf n 35 33, bitsOf n 32 31, bitsOf n 30 26, bitsOf n 25 24, bitsOf n 23 23 = 1, bitsOf n 22 22 = 1, bitsOf n 21 12⟩

/-- Table 3.6. -/
def pinRecOf (n : Nat) : PinRec := ⟨bitsOf n 17 16, bitsOf n 15 15 = 1, bitsOf n 11 8, bitsOf n 7 0⟩

/-- Table 3.9. -/
def loopOf (h : Shelf) : LoopDef :=
  let p := bitsOf (h.w 5) 13 0
  let c := bitsOf (h.w 6) 14 0
  let i := bitsOf (h.w 7) 14 0
  let t := bitsOf (h.w 8) 6 0 * 64
  let b := h.body.drop 9
  { axis := h.inst, regime := bitsOf (h.w 0) 5 4, driveMode := bitsOf (h.w 0) 2 0, steps := bitsOf (h.w 1) 15 0,
    iRated := bitsOf (h.w 2) 17 0, nRated := bitsOf (h.w 3) 17 0, nKnee := bitsOf (h.w 4) 17 0,
    prog := b.take p, coef := (b.drop p).take c, init := (b.drop (p + c)).take i, tables := (b.drop (p + c + i)).take t }

/-- Table 3.10: the records from a list of words. -/
def schedOf : List Word → List SchedRec
  | a :: b :: t =>
    ⟨bitsOf a.toNat 35 33, bitsOf a.toNat 32 29, bitsOf a.toNat 28 28 = 1, bitsOf a.toNat 12 0, bitsOf b.toNat 15 0⟩ ::
      schedOf t
  | _ => []

/-- Table 3.12. -/
def protRecOf (n : Nat) : ProtRec :=
  ⟨bitsOf n 35 33, bitsOf n 32 23, bitsOf n 22 20, bitsOf n 19 14, bitsOf n 13 13 = 1, bitsOf n 12 11⟩

/-- Table 3.12. -/
def protOf (b : List Word) : ProtDef :=
  let w (i : Nat) : Nat := (b.getD i 0).toNat
  { vmHigh := bitsOf (w 0) 35 18, vmLow := bitsOf (w 0) 17 0, brkOn := bitsOf (w 1) 35 18, brkOff := bitsOf (w 1) 17 0,
    brkRes := bitsOf (w 2) 17 0, brkPcont := bitsOf (w 3) 35 18, brkTau := bitsOf (w 3) 17 0,
    stopDisc := bitsOf (w 4) 15 0, recs := (b.drop 5).map (fun x => protRecOf x.toNat) }

/-- Table 3.13. -/
def feedOf (h : Shelf) : FeedDef :=
  { axis := h.inst, kind := bitsOf (h.w 0) 31 28, channel := bitsOf (h.w 0) 27 25, dirInv := bitsOf (h.w 0) 24 24 = 1,
    lines := bitsOf (h.w 1) 21 0, indexTol := bitsOf (h.w 2) 15 0, tickNum := bitsOf (h.w 3) 35 18,
    tickDen := bitsOf (h.w 3) 17 0, speedTimeout := bitsOf (h.w 4) 19 0, refKind := bitsOf (h.w 5) 17 16,
    refTeeth := bitsOf (h.w 5) 3 0, ssiPort := bitsOf (h.w 6) 17 16, ssiSelect := bitsOf (h.w 6) 15 14,
    ssiBits := bitsOf (h.w 6) 13 8 }

/-- Table 3.14. -/
def htRecOf (n : Nat) : HtRec :=
  ⟨bitsOf n 35 33, bitsOf n 32 32 = 1, bitsOf n 31 30, bitsOf n 29 27, bitsOf n 26 26 = 1, bitsOf n 25 25 = 1, bitsOf n 16 0⟩

/-- Table 3.14. -/
def cmdaRecOf (n : Nat) : CmdaRec := ⟨bitsOf n 35 33, bitsOf n 32 32 = 1, bitsOf n 31 30, bitsOf n 28 20, bitsOf n 17 0⟩

/-- Table 3.15: the records from a list of words. -/
def portsOf : List Word → List PortRec
  | a :: b :: t =>
    ⟨bitsOf a.toNat 35 35 = 1, bitsOf a.toNat 34 33, bitsOf a.toNat 32 31, bitsOf a.toNat 30 30 = 1, bitsOf a.toNat 29 18,
      bitsOf a.toNat 16 0, b.toNat⟩ :: portsOf t
  | _ => []

/-- Table 3.16: the partners from a list of words. -/
def partnersOf : List Word → List (Nat × Nat)
  | a :: b :: t => (bitsOf a.toNat 31 0, bitsOf b.toNat 15 0) :: partnersOf t
  | _ => []

/-- Table 3.16. -/
def ladderOf (b : List Word) : LadderDef :=
  let w (i : Nat) : Nat := (b.getD i 0).toNat
  { ip := bitsOf (w 0) 31 0, mask := bitsOf (w 1) 31 0, ptpRole := bitsOf (w 2) 25 24, ptpDomain := bitsOf (w 2) 23 16,
    udpPort := bitsOf (w 2) 15 0, moduleNo := bitsOf (w 3) 6 5, partners := partnersOf (b.drop 4) }

/-- Table 3.17. -/
def compOf (h : Shelf) : CompDef :=
  { axis := h.inst, pitchAddr := bitsOf (h.w 0) 29 0, pitchPoints := bitsOf (h.w 1) 16 0, pitchStart := signed 36 (h.w 2),
    pitchStep := bitsOf (h.w 3) 34 0, backlash := bitsOf (h.w 4) 19 0, blRamp := bitsOf (h.w 5) 17 0,
    thermCoef := signed 18 (bitsOf (h.w 6) 35 18), tempSrc := bitsOf (h.w 6) 3 0, tempRef := signed 12 (h.w 7) }

/-- Table 3.18: the records from a list of words. -/
def calsOf : List Word → List CalDef
  | a :: b :: t =>
    ⟨bitsOf a.toNat 35 33, bitsOf a.toNat 32 30, bitsOf a.toNat 29 28, bitsOf a.toNat 17 0, bitsOf b.toNat 35 18,
      bitsOf b.toNat 17 0⟩ :: calsOf t
  | _ => []

/-- Every shelf of a type. -/
def ofTyp (l : List Shelf) (t : Nat) : List Shelf := l.filter (fun h => h.typ == t)

/-- The body of the first shelf of a type. -/
def bodyOf (l : List Shelf) (t : Nat) : List Word := match ofTyp l t with | h :: _ => h.body | [] => []

/-- A HATCH, PORTS, LOOP … record of a channel that the shelf does not use. -/
def unusedPort : PortRec := ⟨false, 0, 0, false, 0, 0, 0⟩

/-- What the shelves of a full image define. -/
def inventoryOf (id : Word) (for8836 : Bool) (l : List Shelf) : Inventory :=
  let plan := bodyOf l 1
  let pins := bodyOf l 2
  let hatch := bodyOf l 7
  let w (b : List Word) (i : Nat) : Nat := (b.getD i 0).toNat
  { imageId := id, for8836 := for8836, vgGd0 := bitsOf (w plan 0) 0 0 = 1, vgGd1 := bitsOf (w plan 0) 1 1 = 1,
    axes := (plan.drop 1).map (fun x => axisRecOf x.toNat), pins := (pins.take 32).map (fun x => pinRecOf x.toNat),
    inletEn := bitsOf (w pins 32) 1 1 = 1, brkEn := bitsOf (w pins 32) 0 0 = 1, loops := (ofTyp l 3).map loopOf,
    sched := schedOf (bodyOf l 4), prot := protOf (bodyOf l 5), feeds := (ofTyp l 6).map feedOf,
    hts := (List.range 8).map (fun i => htRecOf (w hatch i)), cmdas := (List.range 4).map (fun i => cmdaRecOf (w hatch (8 + i))),
    ports := match ofTyp l 8 with
      | h :: _ => portsOf h.body
      | [] => List.replicate 4 unusedPort
    ladder := (ofTyp l 9).head?.map (fun h => ladderOf h.body), comps := (ofTyp l 10).map compOf,
    cals := calsOf ((bodyOf l 11).drop 1) }

/-- R90: the running Inventory with the LOOP and FEED shelves of a partial image. -/
def mergeInventory (v : Inventory) (l : List Shelf) : Inventory :=
  let loops := (ofTyp l 3).map loopOf
  let feeds := (ofTyp l 6).map feedOf
  { v with
    loops := v.loops.filter (fun d => !loops.any (fun e => e.axis == d.axis)) ++ loops
    feeds := v.feeds.filter (fun d => !feeds.any (fun e => e.axis == d.axis)) ++ feeds }

/-! ### Step 4 of R83: one shelf -/

/-- What the checks of the shelves go by. -/
structure ShelfCtx where
  variant : Variant
  strict : Bool
  partialImg : Bool
  inv : Inventory

/-- Table 0.1: number of axes, channels and cores of the variant. -/
def ShelfCtx.count (c : ShelfCtx) : Nat := match c.variant with | .lkm8836 => 8 | .lkm4836 => 4

/-- R55: an axis that a field names: absent on this variant, else not planned with the code of the rule. -/
def ShelfCtx.axisFail (c : ShelfCtx) (n w code : Nat) : List Fail :=
  if c.count ≤ n then need false w 0xB37 else need (c.inv.axes.any (fun r => r.axis == n)) w code

/-- R55: a value outside 0 to 7, or one of an absent resource. -/
def ShelfCtx.present (c : ShelfCtx) (n w : Nat) : List Fail := need (decide (n < c.count)) w 0xB37

/-- A field's range. -/
def inRange (lo hi v w : Nat) : List Fail := need (decide (lo ≤ v) && decide (v ≤ hi)) w 0xB24

/-- R57, Table 3.3: shelf types that carry an axis number. -/
def perAxis (t : Nat) : Bool := t = 3 || t = 6 || t = 10

/-- R56 to R58, Table 3.2: the header of a shelf. -/
def ShelfCtx.shelfHead (c : ShelfCtx) (prev : Option Shelf) (h : Shelf) : List Fail :=
  let ext := decide (0x8000 ≤ h.typ)
  let listed := ext || (decide (1 ≤ h.typ) && decide (h.typ ≤ 13))
  need listed h.at_ 0xB21 ++
    need (ext || bitsOf h.s0.toNat 7 0 = 0) h.at_ 0xB11 ++
    rsvd c.strict h.s0.toNat 19 16 h.at_ ++ rsvd c.strict h.s1.toNat 35 23 (h.at_ + 1) ++
    rsvd c.strict h.s2.toNat 35 32 (h.at_ + 2) ++
    need (prev.all (fun p => decide (p.key < h.key))) h.at_ 0xB22 ++
    need (!c.partialImg || ext || h.typ = 3 || h.typ = 6 || h.typ = 13) h.at_ 0xB22 ++
    (if !listed || ext || h.typ = 12 then []
     else if perAxis h.typ then
       (if 8 ≤ h.inst then need false h.at_ 0xB22 else c.axisFail h.inst h.at_ 0xB22)
     else need (decide (h.inst = 0)) h.at_ 0xB22) ++
    (if h.whole then
      need (decide (crc32Words (h.s0 :: h.s1 :: h.body) = bitsOf h.s2.toNat 31 0)) (h.at_ + 2 + h.len) 0xB20
     else [])

/-- BODY_LENGTH fails at S1, or at the body's word `i` that completes its counts. -/
def lengthFail (h : Shelf) (n : Nat) (i : Option Nat) : List Fail :=
  need (decide (h.len = n)) (match i with | some i => if i < h.len then h.at i else h.at_ + 1 | none => h.at_ + 1) 0xB23

/-- R61, Table 3.4. -/
def ShelfCtx.planFails (c : ShelfCtx) (h : Shelf) : List Fail :=
  let n := bitsOf (h.w 0) 7 4
  let w := h.at 0
  lengthFail h (1 + n) (some 0) ++ rsvd c.strict (h.w 0) 35 8 w ++ rsvd c.strict (h.w 0) 3 2 w ++ inRange 1 8 n w ++
    need (decide (8 < n) || decide (n ≤ c.count)) w 0xB37 ++
    need (decide (bitsOf (h.w 0) 1 1 = 0) || decide (c.variant = .lkm8836)) w 0xB37 ++
    (List.range (h.body.length - 1)).flatMap (fun j =>
      let v := h.w (j + 1)
      let w := h.at (j + 1)
      rsvd c.strict v 11 0 w ++ inRange 0 2 (bitsOf v 32 31) w ++ inRange 0 2 (bitsOf v 25 24) w ++
        inRange 1 1000 (bitsOf v 21 12) w ++
        need (decide (j = 0) || decide (bitsOf (h.w j) 35 33 ≤ bitsOf v 35 33)) w 0xB24 ++
        need (decide (j = 0) || decide (bitsOf (h.w j) 35 33 ≠ bitsOf v 35 33)) w 0xB30)

/-- Table 3.8: functions that take INDEX 0, and outputs. -/
def plainFunc (f : Nat) : Bool := decide (f ∈ [0, 1, 2, 10, 11])
def outputFunc (f : Nat) : Bool := decide (f ∈ [2, 10, 11])

/-- R65, R66, Tables 3.6 and 3.7. -/
def ShelfCtx.pinsFails (c : ShelfCtx) (h : Shelf) : List Fail :=
  lengthFail h 33 none ++ rsvd c.strict (h.w 32) 35 2 (h.at 32) ++
    (List.range (min 32 h.body.length)).flatMap (fun i =>
      let v := h.w i
      let r := pinRecOf v
      let w := h.at i
      rsvd c.strict v 35 18 w ++ rsvd c.strict v 14 12 w ++ inRange 0 11 r.func w ++
        need (!outputFunc r.func || decide (r.filter = 0)) w 0xB24 ++
        need (if plainFunc r.func then decide (r.index = 0) else decide (r.index ≤ 7)) w 0xB24)

/-- R67: the range of STEPS by motor type. -/
def stepsOk (motor st : Nat) : Bool :=
  if motor = 1 then decide (1 ≤ st) && decide (st ≤ 64)
  else decide (4 ≤ st) && decide (st ≤ 65532) && decide (st % (if motor = 0 then 4 else 10) = 0)

/-- R68, R219: the context in which a program is checked. -/
def ShelfCtx.progCtx (c : ShelfCtx) (userEnd : Nat) (d : LoopDef) : ProgCtx :=
  { axis := d.axis, motor := ((c.inv.axes.find? (fun r => r.axis == d.axis)).elim 0 (·.motor)), driveMode := d.driveMode,
    trapMode := ((c.inv.prot.recs.find? (fun r => r.axis == d.axis)).elim true (·.trapMode)),
    planned := c.inv.axes.map (·.axis), cores := c.count, userEnd := userEnd, prog := d.prog, coef := d.coef,
    init := d.init, tables := d.tables }

/-- R67, R68, R219, Table 3.9. -/
def ShelfCtx.loopFails (c : ShelfCtx) (userEnd : Nat) (h : Shelf) : List Fail :=
  let d := loopOf h
  let p := bitsOf (h.w 5) 13 0
  let q := bitsOf (h.w 6) 14 0
  let i := bitsOf (h.w 7) 14 0
  let t := bitsOf (h.w 8) 6 0
  let motor := (c.inv.axes.find? (fun r => r.axis == h.inst)).map (·.motor)
  lengthFail h (9 + p + q + i + 64 * t) (some 8) ++
    rsvd c.strict (h.w 0) 35 6 (h.at 0) ++ rsvd c.strict (h.w 0) 3 3 (h.at 0) ++ inRange 0 2 d.regime (h.at 0) ++
    inRange 0 2 d.driveMode (h.at 0) ++ rsvd c.strict (h.w 1) 35 16 (h.at 1) ++
    need (motor.all (fun m => stepsOk m d.steps)) (h.at 1) 0xB24 ++
    rsvd c.strict (h.w 2) 35 18 (h.at 2) ++ inRange 1 200000 d.iRated (h.at 2) ++
    rsvd c.strict (h.w 3) 35 18 (h.at 3) ++ inRange 1 60000 d.nRated (h.at 3) ++
    rsvd c.strict (h.w 4) 35 18 (h.at 4) ++ inRange 1 60000 d.nKnee (h.at 4) ++
    rsvd c.strict (h.w 5) 35 14 (h.at 5) ++ inRange 1 8192 p (h.at 5) ++
    rsvd c.strict (h.w 6) 35 15 (h.at 6) ++ inRange 0 16384 q (h.at 6) ++
    rsvd c.strict (h.w 7) 35 15 (h.at 7) ++ inRange 0 16384 i (h.at 7) ++
    rsvd c.strict (h.w 8) 35 7 (h.at 8) ++ inRange 0 64 t (h.at 8) ++
    (if decide (h.len = 9 + p + q + i + 64 * t) && h.whole then
      (c.progCtx userEnd d).fails.map (fun o => ⟨h.at (9 + o), 0xB25, none⟩) ++
        (if c.strict then (c.progCtx userEnd d).reservedFails.map (fun o => ⟨h.at (9 + o), 0xB24, none⟩) else [])
     else [])

/-- R70, Table 3.10. -/
def ShelfCtx.schedFails (c : ShelfCtx) (h : Shelf) : List Fail :=
  lengthFail h (2 * c.inv.axes.length) none ++
    (schedOf h.body).zipIdx.flatMap (fun (r, j) =>
      rsvd c.strict (h.w (2 * j)) 27 13 (h.at (2 * j)) ++ inRange 0 6249 r.slotStart (h.at (2 * j)) ++
        rsvd c.strict (h.w (2 * j + 1)) 35 16 (h.at (2 * j + 1)))

/-- R72, Table 3.12. Words 1 to 3 not 0 while BRK_EN is clear: 0xB24 (DESIGN CHOICE, log entry 315). -/
def ShelfCtx.protFails (c : ShelfCtx) (h : Shelf) : List Fail :=
  let d := protOf h.body
  let brk := if c.inv.brkEn then
      inRange 130 1850 d.brkOn (h.at 1) ++ inRange 120 1840 d.brkOff (h.at 1) ++
        need (decide (d.brkOff < d.brkOn)) (h.at 1) 0xB24 ++ rsvd c.strict (h.w 2) 35 18 (h.at 2) ++
        inRange 10 262143 d.brkRes (h.at 2) ++ inRange 1 100000 d.brkPcont (h.at 3) ++ inRange 1 3600 d.brkTau (h.at 3)
    else inRange 0 0 (h.w 1) (h.at 1) ++ inRange 0 0 (h.w 2) (h.at 2) ++ inRange 0 0 (h.w 3) (h.at 3)
  lengthFail h (5 + c.inv.axes.length) none ++ inRange 130 1850 d.vmHigh (h.at 0) ++ inRange 100 1700 d.vmLow (h.at 0) ++
    need (decide (d.vmLow < d.vmHigh)) (h.at 0) 0xB24 ++ brk ++ rsvd c.strict (h.w 4) 35 16 (h.at 4) ++
    inRange 1 1000 d.stopDisc (h.at 4) ++
    d.recs.zipIdx.flatMap (fun (r, j) =>
      let w := h.at (5 + j)
      inRange 1 1000 r.retryWait w ++ inRange 1 60 r.retryWindow w ++ inRange 0 2 r.fbLoss w ++
        rsvd c.strict (h.w (5 + j)) 10 0 w ++
        need (decide (j = 0) || decide (bitsOf (h.w (4 + j)) 35 33 ≤ r.axis)) w 0xB24)

/-- R73: the words that a KIND uses. -/
def feedUses (kind i : Nat) : Bool :=
  match i with
  | 0 => true
  | 1 => decide (kind ∈ [0, 1, 2, 5])
  | 2 => decide (kind ∈ [0, 2, 5])
  | 3 => true
  | 4 => kind ≠ 4
  | 5 => kind = 2
  | _ => kind = 4

/-- R73, Table 3.13. An unused word must be 0 as a whole, at every FORMAT_MINOR (DESIGN CHOICE, log entry 315). -/
def ShelfCtx.feedFails (c : ShelfCtx) (h : Shelf) : List Fail :=
  let d := feedOf h
  let word (i : Nat) (l : List Fail) : List Fail := if feedUses d.kind i then l else inRange 0 0 (h.w i) (h.at i)
  lengthFail h 7 none ++ rsvd c.strict (h.w 0) 35 32 (h.at 0) ++ rsvd c.strict (h.w 0) 23 0 (h.at 0) ++
    inRange 0 5 d.kind (h.at 0) ++ c.present d.channel (h.at 0) ++
    word 1 (rsvd c.strict (h.w 1) 35 22 (h.at 1) ++ inRange 1 4000000 d.lines (h.at 1)) ++
    word 2 (rsvd c.strict (h.w 2) 35 16 (h.at 2) ++ inRange 1 65535 d.indexTol (h.at 2)) ++
    inRange 1 262143 d.tickNum (h.at 3) ++ inRange 1 262143 d.tickDen (h.at 3) ++
    word 4 (rsvd c.strict (h.w 4) 35 20 (h.at 4) ++ inRange 100 1000000 d.speedTimeout (h.at 4)) ++
    word 5 (rsvd c.strict (h.w 5) 35 18 (h.at 5) ++ rsvd c.strict (h.w 5) 15 4 (h.at 5) ++ inRange 0 1 d.refKind (h.at 5) ++
      inRange 1 3 d.refTeeth (h.at 5)) ++
    word 6 (rsvd c.strict (h.w 6) 35 18 (h.at 6) ++ rsvd c.strict (h.w 6) 7 0 (h.at 6) ++ inRange 8 36 d.ssiBits (h.at 6))

/-- R75, Table 3.14: an HTn record. -/
def ShelfCtx.htFails (c : ShelfCtx) (v w : Nat) : List Fail :=
  let r := htRecOf v
  rsvd c.strict v 24 17 w ++
    (if r.used then
      c.axisFail r.axis w 0xB24 ++ inRange 0 2 r.mode w ++ inRange 1 65536 r.ticksPerStep w
     else
      inRange 0 0 r.mode w ++ inRange 0 0 r.filter w ++ inRange 0 0 r.ticksPerStep w ++
        (if r.enaUsed || r.readyUsed then c.axisFail r.axis w 0xB24 else inRange 0 0 r.axis w))

/-- R75, Table 3.14: a CMDAn record. -/
def ShelfCtx.cmdaFails (c : ShelfCtx) (v w : Nat) : List Fail :=
  let r := cmdaRecOf v
  rsvd c.strict v 29 29 w ++ rsvd c.strict v 19 18 w ++
    (if r.used then c.axisFail r.axis w 0xB24 ++ inRange 0 2 r.kind w ++ inRange 1 262143 r.velFs w
     else inRange 0 0 r.axis w ++ inRange 0 0 r.kind w ++ inRange 0 0 r.deadband w ++ inRange 0 0 r.velFs w)

/-- R75: the HATCH body. -/
def ShelfCtx.hatchFails (c : ShelfCtx) (h : Shelf) : List Fail :=
  lengthFail h 12 none ++
    (List.range (min 8 h.body.length)).flatMap (fun i =>
      if c.count ≤ i then need (decide (h.w i = 0)) (h.at i) 0xB37 else c.htFails (h.w i) (h.at i)) ++
    (List.range (min 12 h.body.length - 8)).flatMap (fun i => c.cmdaFails (h.w (8 + i)) (h.at (8 + i)))

/-- R77, Table 3.15. -/
def ShelfCtx.portsFails (c : ShelfCtx) (h : Shelf) : List Fail :=
  lengthFail h 8 none ++
    (portsOf h.body).zipIdx.flatMap (fun (r, p) =>
      let w := h.at (2 * p)
      if r.used then
        rsvd c.strict (h.w (2 * p)) 17 17 w ++ inRange 0 2 r.cmdLanes w ++ inRange 0 2 r.dataLanes w ++
          inRange 100 100000 r.clockKhz w ++
          (if p = 3 ∧ c.variant = .lkm8836 then inRange 1 4095 r.unitBits w
           else if p = 3 ∧ 0 < r.unitBits then need (decide (4 ≤ r.unitBits) && decide (r.unitBits ≤ 36)) w 0xB37
           else inRange 4 36 r.unitBits w)
      else inRange 0 0 (h.w (2 * p)) w ++ inRange 0 0 (h.w (2 * p + 1)) (h.at (2 * p + 1)))

/-- R78: a mask of ones followed by zeros. -/
def maskOk (m : Nat) : Bool := (List.range 33).any (fun k => m = 2 ^ 32 - 2 ^ k)

/-- R78: a unicast address of the subnet under a mask: its first octet; the rest of the rule. -/
def octetOk (a : Nat) : Bool := decide (1 ≤ a / 2 ^ 24) && decide (a / 2 ^ 24 ≤ 223) && decide (a / 2 ^ 24 ≠ 127)
def hostOk (ip mask a : Nat) : Bool :=
  let host := 2 ^ 32 - 1 - mask
  let same := decide (a &&& mask = ip &&& mask)
  !(same && (decide (a &&& host = 0) || decide (a &&& host = host)))

/-- R78, Table 3.16. -/
def ShelfCtx.ladderFails (c : ShelfCtx) (h : Shelf) : List Fail :=
  let d := ladderOf h.body
  let n := bitsOf (h.w 3) 4 0
  lengthFail h (4 + 2 * n) (some 3) ++ rsvd c.strict (h.w 0) 35 32 (h.at 0) ++ need (octetOk d.ip) (h.at 0) 0xB24 ++
    rsvd c.strict (h.w 1) 35 32 (h.at 1) ++ need (maskOk d.mask) (h.at 1) 0xB24 ++
    need (hostOk d.ip d.mask d.ip) (h.at 1) 0xB24 ++ rsvd c.strict (h.w 2) 35 26 (h.at 2) ++ inRange 0 1 d.ptpRole (h.at 2) ++
    inRange 0 127 d.ptpDomain (h.at 2) ++ inRange 1024 65535 d.udpPort (h.at 2) ++ rsvd c.strict (h.w 3) 35 7 (h.at 3) ++
    inRange 0 16 n (h.at 3) ++
    d.partners.zipIdx.flatMap (fun ((a, port), j) =>
      let w := h.at (4 + 2 * j)
      rsvd c.strict (h.w (4 + 2 * j)) 35 32 w ++ need (octetOk a && hostOk d.ip d.mask a && decide (a ≠ d.ip)) w 0xB24 ++
        rsvd c.strict (h.w (5 + 2 * j)) 35 16 (w + 1) ++ inRange 1024 65535 port (w + 1))

/-- R79, Table 3.17. -/
def ShelfCtx.compFails (c : ShelfCtx) (h : Shelf) : List Fail :=
  let d := compOf h
  lengthFail h 8 none ++ rsvd c.strict (h.w 0) 35 30 (h.at 0) ++ rsvd c.strict (h.w 1) 35 17 (h.at 1) ++
    inRange 0 65536 d.pitchPoints (h.at 1) ++ rsvd c.strict (h.w 3) 35 35 (h.at 3) ++
    inRange 1 (2 ^ 35 - 1) d.pitchStep (h.at 3) ++ rsvd c.strict (h.w 4) 35 20 (h.at 4) ++
    rsvd c.strict (h.w 5) 35 18 (h.at 5) ++ rsvd c.strict (h.w 6) 17 4 (h.at 6) ++
    (if d.tempSrc = 15 then [] else if 8 ≤ d.tempSrc then need false (h.at 6) 0xB24 else c.present d.tempSrc (h.at 6)) ++
    rsvd c.strict (h.w 7) 35 12 (h.at 7)

/-- R80, Table 3.18. -/
def ShelfCtx.calFails (c : ShelfCtx) (h : Shelf) : List Fail :=
  let n := bitsOf (h.w 0) 6 0
  lengthFail h (1 + 2 * n) (some 0) ++ rsvd c.strict (h.w 0) 35 7 (h.at 0) ++ inRange 0 64 n (h.at 0) ++
    (calsOf (h.body.drop 1)).zipIdx.flatMap (fun (r, j) =>
      let w := h.at (1 + 2 * j)
      rsvd c.strict (h.w (1 + 2 * j)) 27 18 w ++ c.present r.core w ++ inRange 0 2 r.unit w ++
        inRange 1 262143 r.fullScale w ++ inRange 1 131071 r.calPoint (w + 1) ++ inRange 1 262143 r.nominalGain (w + 1))

/-- R61 to R82: the body of a shelf by its type. A TABLES body of length 0 and a META body above its size: 0xB23 (DESIGN CHOICE,
log entry 315). -/
def ShelfCtx.bodyFails (c : ShelfCtx) (userEnd : Nat) (h : Shelf) : List Fail :=
  match h.typ with
  | 1 => c.planFails h
  | 2 => c.pinsFails h
  | 3 => c.loopFails userEnd h
  | 4 => c.schedFails h
  | 5 => c.protFails h
  | 6 => c.feedFails h
  | 7 => c.hatchFails h
  | 8 => c.portsFails h
  | 9 => c.ladderFails h
  | 10 => c.compFails h
  | 11 => c.calFails h
  | 12 => need (decide (1 ≤ h.len)) (h.at_ + 1) 0xB23 ++ rsvd c.strict (h.w 0) 35 30 (h.at 0)
  | 13 => need (decide (h.len ≤ 65536)) (h.at_ + 1) 0xB23
  | _ => []

/-- R57, Table 3.3: shelves that a full image holds, by their place in the order. -/
def requiredKeys (v : Inventory) : List Nat :=
  [1 * 256, 2 * 256] ++ v.axes.map (fun r => 3 * 256 + r.axis) ++ [4 * 256, 5 * 256] ++
    (if v.axes.any (fun r => r.source == 1) then [7 * 256] else []) ++ [11 * 256]

/-- R57: a missing shelf fails at the first shelf that stands after its place, or where the shelves end. -/
def missingFail (l : List Shelf) (end_ : Option Nat) (absent : List Nat) (beyond code : Nat) : List Fail :=
  if absent.isEmpty then []
  else
    match l.find? (fun h => decide (beyond < h.key)) with
    | some h => [⟨h.at_, code, none⟩]
    | none => match end_ with
      | some e => [⟨e, code, some l.length⟩]
      | none => []

/-- R57: shelves missing. -/
def ShelfCtx.missing (c : ShelfCtx) (l : List Shelf) (end_ : Option Nat) : List Fail :=
  if c.partialImg then
    missingFail l end_ (if l.any (fun h => h.typ == 3 || h.typ == 6) then [] else [0]) (6 * 256 + 255) 0xB22
  else
    (requiredKeys c.inv).flatMap (fun k => missingFail l end_ (if l.any (fun h => h.key == k) then [] else [k]) k 0xB22)

/-- Shelves with the one before each. -/
def withPrev : Option Shelf → List Shelf → List (Option Shelf × Shelf)
  | _, [] => []
  | p, h :: t => (p, h) :: withPrev (some h) t

/-- R56: where the shelves end against LENGTH. -/
def endFails (ws : List Word) (limit : Nat) : Option Nat → List Fail
  | none => [⟨limit, 0xB12, none⟩]
  | some e => if e = limit then [] else if e + 1 = limit then need (decide (ws.getD e 0 = 0)) e 0xB12 else [⟨e, 0xB12, none⟩]

/-- Step 4 of R83. -/
def ShelfCtx.shelfFails (c : ShelfCtx) (userEnd limit : Nat) (ws : List Word) (l : List Shelf) (end_ : Option Nat) : List Fail :=
  ((withPrev none l).flatMap (fun (p, h) => c.shelfHead p h ++ c.bodyFails userEnd h)) ++ c.missing l end_ ++
    endFails ws limit end_

/-- Table 3.24: the shelf index of a word of the image: 0xFFF in the header, the pad and the trailer. -/
def shelfOfWord (l : List Shelf) (w : Nat) : Nat :=
  match l.find? (fun h => decide (h.at_ ≤ w) && decide (w < h.at_ + 3 + h.body.length)) with
  | some h => h.idx
  | none => 0xFFF

end Sys2Proof.Machine
end

