-- ==== Sys2Proof/Machine/ImageRules.lean ====
section
/-! DEFINITION. The Inventory image: the rules between shelves (step 5 of R83), the schedule check of R71, the gate-drive
load of R64, and the whole check. -/

namespace Sys2Proof.Machine

open Sys2Proof

/-- What the rules between shelves go by: the image's shelves and what stands once it is accepted. -/
structure RuleCtx where
  c : ShelfCtx
  l : List Shelf
  /-- The word at which the shelves end. -/
  end_ : Option Nat
  /-- R81: the staged range, for an image that is applied from the Larder. -/
  staged : Option (Nat × Nat)
  /-- First word above the user area. -/
  userEnd : Nat

/-- The first shelf of a type. -/
def RuleCtx.shelf (x : RuleCtx) (t : Nat) : Option Shelf := (ofTyp x.l t).head?

/-- The word of body word `i` of the first shelf of a type; 0 when there is none. -/
def RuleCtx.word (x : RuleCtx) (t i : Nat) : Nat := (x.shelf t).elim 0 (·.at i)

/-- The legs of an axis record. -/
def AxisRec.legs (r : AxisRec) : List Nat := (List.range (motorLegs r.motor)).map (fun i => r.firstLeg + i)

/-- R62. -/
def RuleCtx.r62 (x : RuleCtx) : List Fail :=
  let legs := if x.c.variant = .lkm8836 then 32 else 16
  x.c.inv.axes.zipIdx.flatMap (fun (r, j) =>
    let w := x.word 1 (1 + j)
    let before := x.c.inv.axes.take j
    need (!before.any (fun o => o.axis == r.axis)) w 0xB30 ++
      need (!before.any (fun o => o.legs.any (fun l => r.legs.contains l))) w 0xB30 ++
      need (r.legs.all (fun l => decide (l < 32) && decide (l / 16 = r.firstLeg / 16))) w 0xB31 ++
      need (decide (r.axis < x.c.count) && r.legs.all (fun l => decide (l < legs))) w 0xB37)

/-- R64: the gate-drive load of an axis, in 1/60 uW: legs x QG (nC) x VG (V) x f (kHz) x 2. -/
def axisLoad (v : Inventory) (r : AxisRec) (m : Nat) : Nat :=
  let vg := if (if r.firstLeg < 16 then v.vgGd0 else v.vgGd1) then 15 else 12
  motorLegs r.motor * r.qg * vg * (if m ≤ 5 then 4800 / max 1 m else 960) * 2

/-- R64: the load of a die over some records of the schedule. -/
def dieLoad (v : Inventory) (d : Nat) (recs : List SchedRec) : Nat :=
  ((recs.filterMap (fun q => (v.axes.find? (fun r => r.axis == q.axis)).map (fun r => (r, q.mMinus1 + 1)))).filter
    (fun p => p.1.firstLeg / 16 = d)).foldl (fun a p => a + axisLoad v p.1 p.2) 0

/-- R64: 3 W in 1/60 uW. -/
abbrev loadLimit : Nat := 180000000

/-- R64, R83: the load of a die is known with the last of its records in the schedule. -/
def RuleCtx.r64 (x : RuleCtx) : List Fail :=
  if x.c.partialImg then []
  else [0, 1].flatMap (fun d =>
    let own := x.c.inv.sched.zipIdx.filter (fun p => x.c.inv.axes.any (fun r => r.axis == p.1.axis && r.firstLeg / 16 == d))
    need (decide (dieLoad x.c.inv d x.c.inv.sched ≤ loadLimit)) (x.word 4 (2 * (own.getLast?).elim 0 (·.2))) 0xB36)

/-- R66. -/
def RuleCtx.r66 (x : RuleCtx) : List Fail :=
  if x.c.partialImg then []
  else x.c.inv.pins.zipIdx.flatMap (fun (p, i) =>
    let w := x.word 2 i
    need (decide (p.func < 3) || !(x.c.inv.pins.take i).any (fun q => q.func == p.func && q.index == p.index)) w 0xB32 ++
      (if p.func ∈ [4, 5, 6] then x.c.present p.index w
       else if p.func ∈ [7, 8, 9] then x.c.axisFail p.index w 0xB35 else []))

/-- R68: sizes of the engine stores, and of the sections of a drive definition (tables in units of 64 words). -/
abbrev storeSizes : List Nat := [8192, 16384, 16384, 64]
def LoopDef.sizes (d : LoopDef) : List Nat := [d.prog.length, d.coef.length, d.init.length, d.tables.length / 64]

/-- Word-by-word sums. -/
def addSizes (a b : List Nat) : List Nat := List.zipWith (· + ·) a b

/-- R68: the sums over all axes. -/
def RuleCtx.r68 (x : RuleCtx) : List Fail :=
  let own := ofTyp x.l 3
  let kept := (x.c.inv.loops.filter (fun d => !own.any (fun h => h.inst == d.axis))).foldl (fun a d => addSizes a d.sizes) [0, 0, 0, 0]
  own.zipIdx.flatMap (fun (h, j) =>
    let sums := (own.take (j + 1)).foldl (fun a g => addSizes a (loopOf g).sizes) kept
    (List.range 4).flatMap (fun i => need (decide (sums.getD i 0 ≤ storeSizes.getD i 0)) (h.at (5 + i)) 0xB34))

/-- R69. -/
def RuleCtx.r69 (x : RuleCtx) : List Fail :=
  let shelfOf (t n : Nat) : Option Shelf := (ofTyp x.l t).find? (fun h => h.inst == n)
  x.c.inv.loops.flatMap (fun d =>
    let loop := shelfOf 3 d.axis
    let feed := shelfOf 6 d.axis
    let motor := (x.c.inv.axes.find? (fun r => r.axis == d.axis)).elim 0 (·.motor)
    let drive := if d.driveMode ≠ 1 then []
      else match x.c.inv.feeds.find? (fun f => f.axis == d.axis) with
        | none => missingFail x.l x.end_ [d.axis] (6 * 256 + d.axis) 0xB35
        | some f =>
          if f.kind = 3 ∧ motor ≠ 1 then
            match feed, loop with
            | some g, _ => [⟨g.at 0, 0xB35, none⟩]
            | none, some h => [⟨h.at 0, 0xB35, none⟩]
            | none, none => []
          else []
    drive ++ loop.elim [] (fun h => need (decide (d.nKnee ≤ 4 * d.nRated)) (h.at 4) 0xB35))

/-- R70. -/
def RuleCtx.r70 (x : RuleCtx) : List Fail :=
  if x.c.partialImg then []
  else x.c.inv.sched.zipIdx.flatMap (fun (r, j) =>
    let w := x.word 4 (2 * j)
    x.c.axisFail r.axis w 0xB35 ++ need (!(x.c.inv.sched.take j).any (fun q => q.axis == r.axis)) w 0xB30)

/-! ### The schedule (R71) -/

/-- R193, R71: the program of an axis, its MAC and D. -/
def axisProg (v : Inventory) (n : Nat) : List Ins := (v.loops.find? (fun d => d.axis == n)).elim [] (fun d => progOf d.prog)
def axisMac (v : Inventory) (n : Nat) : Nat :=
  progMac (axisProg v n) ((v.axes.find? (fun r => r.axis == n)).elim 0 (fun r => motorLegs r.motor))
def axisDur (v : Inventory) (n : Nat) : Nat := progDuration (axisMac v n)

/-- Insertion into a list sorted by trigger phase, SLOT_START and input. -/
def insertPhase (c : Nat × Nat × Nat) : List (Nat × Nat × Nat) → List (Nat × Nat × Nat)
  | [] => [c]
  | d :: t =>
    if c.1 = d.1 ∧ c.2.2 = d.2.2 then (d.1, min c.2.1 d.2.1, d.2.2) :: t
    else if c.1 < d.1 ∨ (c.1 = d.1 ∧ (c.2.1 < d.2.1 ∨ (c.2.1 = d.2.1 ∧ c.2.2 < d.2.2))) then c :: d :: t
    else d :: insertPhase c t

/-- R162, R163: the conversions of one engine frame on a core: trigger phase, SLOT_START of the reading axis, input. An
input that two axes read at one trigger instant is converted once. -/
def coreConvs (v : Inventory) (core : Nat) : List (Nat × Nat × Nat) :=
  v.sched.foldl (fun l r =>
    ((progReads (axisProg v r.axis)).filter (fun p => p.1 == core)).foldl
      (fun l p => if l.any (fun e => e.1 == r.adcDelay % 6250 && e.2.2 == p.2) then l
        else insertPhase (r.adcDelay % 6250, r.slotStart, p.2) l) l) []

/-- R71: the ends of the conversions of a frame when the core is free from `free` on. -/
def convEnds : Nat → List (Nat × Nat × Nat) → List (Nat × Nat × Nat) × Nat
  | free, [] => ([], free)
  | free, c :: t =>
    let e := max free c.1 + 200
    let (l, f) := convEnds e t
    ((c.1, c.2.2, e) :: l, f)

/-- R71: the steady state: what earlier frames leave of a core at a boundary, after `n` frames. -/
def steadyFree (cs : List (Nat × Nat × Nat)) : Nat → Nat
  | 0 => 0
  | n + 1 => (convEnds (steadyFree cs n) cs).2 - 6250

/-- R71: the ends of a core's conversions in the steady state, by trigger phase and input; none when a frame cannot hold
them. -/
def steadyEnds (v : Inventory) (core : Nat) : Option (List (Nat × Nat × Nat)) :=
  let cs := coreConvs v core
  if 6250 < 200 * cs.length then none else some (convEnds (steadyFree cs 4) cs).1

/-- R71: every ADC result that a program reads has arrived by its SLOT_START. -/
def arrivesInTime (v : Inventory) (r : SchedRec) : Bool :=
  (progReads (axisProg v r.axis)).all (fun p =>
    match steadyEnds v p.1 with
    | none => false
    | some l => match l.find? (fun e => e.1 == r.adcDelay % 6250 && e.2.1 == p.2) with
      | none => false
      | some e => decide (e.2.2 + 250 ≤ r.slotStart + if r.adcDelay < 6250 then 0 else 6250))

/-- R71: the word at which a check of record `j` of the schedule fails: in the SCHED shelf, or with the programs that a
partial image reloads. -/
def RuleCtx.schedWord (x : RuleCtx) (j : Nat) (second : Bool) : Nat :=
  match x.shelf 4 with
  | some h => h.at (2 * j + bit second)
  | none =>
    let own := ofTyp x.l 3
    let axis := (x.c.inv.sched[j]?).elim 0 (·.axis)
    let h := match own.find? (fun h => h.inst == axis) with
      | some h => some h
      | none => own.getLast?
    h.elim 0 (fun h => h.at (8 + (loopOf h).prog.length))

/-- R71. A late result is reported at the second word of the record of the axis that reads it (DESIGN CHOICE, log entry 314). -/
def RuleCtx.r71 (x : RuleCtx) : List Fail :=
  let v := x.c.inv
  v.sched.zipIdx.flatMap (fun (r, j) =>
    let free := if j = 0 then 0 else
      (v.sched[j - 1]?).elim 0 (fun q => q.slotStart + axisDur v q.axis)
    need (decide (r.slotStart + axisDur v r.axis ≤ 6000) && decide (free ≤ r.slotStart)) (x.schedWord j false) 0xB33 ++
      need (arrivesInTime v r) (x.schedWord j true) 0xB33)

/-- R72. -/
def RuleCtx.r72 (x : RuleCtx) : List Fail :=
  if x.c.partialImg then []
  else x.c.inv.prot.recs.zipIdx.flatMap (fun (r, j) =>
    let w := x.word 5 (5 + j)
    x.c.axisFail r.axis w 0xB35 ++
      need (decide (j = 0) || decide ((x.c.inv.prot.recs[j - 1]?).all (fun q => q.axis ≠ r.axis))) w 0xB30)

/-- R74. A KIND 4 axis without a PORTS shelf is reported at word 6 of its FEED body (DESIGN CHOICE, log entry 314). -/
def RuleCtx.r74 (x : RuleCtx) : List Fail :=
  let own := ofTyp x.l 6
  own.zipIdx.flatMap (fun (h, j) =>
    let f := feedOf h
    let others := (own.take j).map feedOf ++ x.c.inv.feeds.filter (fun g => !own.any (fun h => h.inst == g.axis))
    let ssi := if f.kind ≠ 4 then []
      else
        let w := match x.shelf 8 with
          | some p => p.at (2 * f.ssiPort)
          | none => h.at 6
        need ((x.c.inv.ports[f.ssiPort]?).any (·.used)) w 0xB35 ++
          need (!others.any (fun g => g.kind == 4 && g.ssiPort == f.ssiPort && g.ssiSelect == f.ssiSelect)) (h.at 6) 0xB35
    need (!others.any (fun g => g.channel == f.channel)) (h.at 0) 0xB35 ++
      need (!(decide (f.kind ∈ [3, 5])) || [4, 5, 6].all (fun k => x.c.inv.pins.any (fun p => p.func == k && p.index == f.channel)))
        (h.at 0) 0xB32 ++ ssi)

/-- An axis has SOURCE Hatch. -/
def RuleCtx.hatchAxis (x : RuleCtx) (n : Nat) : Bool := x.c.inv.axes.any (fun r => r.axis == n && r.source == 1)

/-- R75: the axes named by used records, in the order of the records, with the word of each. -/
def RuleCtx.hatchUsed (x : RuleCtx) : List (Nat × Nat) :=
  (x.c.inv.hts.zipIdx.filter (fun p => p.1.used)).map (fun p => (p.1.axis, x.word 7 p.2)) ++
    (x.c.inv.cmdas.zipIdx.filter (fun p => p.1.used)).map (fun p => (p.1.axis, x.word 7 (8 + p.2)))

/-- R76. -/
def RuleCtx.r76 (x : RuleCtx) : List Fail :=
  if x.c.partialImg then []
  else
    x.hatchUsed.zipIdx.flatMap (fun ((n, w), j) =>
      need (x.hatchAxis n) w 0xB35 ++ need (!(x.hatchUsed.take j).any (fun e => e.1 == n)) w 0xB35) ++
    x.c.inv.axes.flatMap (fun r =>
      need (decide (r.source ≠ 1) || x.hatchUsed.any (fun e => e.1 == r.axis)) (x.word 7 11) 0xB35)

/-- R55, R79, R81: `n` words from `a` lie in the user area. -/
def RuleCtx.areaFail (x : RuleCtx) (a n w : Nat) : List Fail :=
  if a + n ≤ x.userEnd then []
  else need false w (if a + n ≤ 0x3F000000 ∧ x.c.variant = .lkm4836 then 0xB37 else 0xB38)

/-- R79: PITCH_ADDR, then the whole table (DEDUCED, log entry 307). -/
def RuleCtx.r79 (x : RuleCtx) : List Fail :=
  (ofTyp x.l 10).flatMap (fun h =>
    let d := compOf h
    x.areaFail d.pitchAddr 1 (h.at 0) ++ x.areaFail d.pitchAddr d.pitchPoints (h.at 1))

/-- R80. -/
def RuleCtx.r80 (x : RuleCtx) : List Fail :=
  if x.c.partialImg then []
  else x.c.inv.cals.zipIdx.flatMap (fun (r, j) =>
    need (!(x.c.inv.cals.take j).any (fun q => q.core == r.core && q.input == r.input)) (x.word 11 (1 + 2 * j)) 0xB30)

/-- R81: the range of a TABLES shelf: address and data. -/
def tableRange (h : Shelf) : Nat × List Word := (bitsOf (h.w 0) 29 0, h.body.drop 1)

/-- Two ranges share a word. -/
def overlaps (a b : Nat × Nat) : Bool := decide (a.1 < b.1 + b.2) && decide (b.1 < a.1 + a.2)

/-- R81: the staged image bars an overlap where the image is applied from the Larder. -/
def RuleCtx.r81 (x : RuleCtx) : List Fail :=
  let own := ofTyp x.l 12
  own.zipIdx.flatMap (fun (h, j) =>
    let r := ((tableRange h).1, (tableRange h).2.length)
    let w := h.at 0
    x.areaFail r.1 r.2 w ++
      need (!(own.take j).any (fun g => overlaps r ((tableRange g).1, (tableRange g).2.length))) w 0xB38 ++
      need (!x.staged.any (fun q => overlaps r q)) w 0xB38)

/-- R165. -/
def RuleCtx.r165 (x : RuleCtx) : List Fail :=
  (ofTyp x.l 10).flatMap (fun h => need (!(decide ((compOf h).tempSrc ∈ [0, 4]))) (h.at 6) 0xB35) ++
    (if x.c.partialImg then []
     else x.c.inv.cals.zipIdx.flatMap (fun (r, j) =>
      need (decide (r.input ≠ 7) ||
        (!(decide (r.core ∈ [0, 4])) && x.c.inv.comps.any (fun d => d.tempSrc == r.core))) (x.word 11 (1 + 2 * j)) 0xB35))

/-- R402. -/
def RuleCtx.r402 (x : RuleCtx) : List Fail :=
  if x.c.partialImg then []
  else x.c.inv.hts.zipIdx.flatMap (fun (r, i) =>
    let w := x.word 7 i
    let before := x.c.inv.hts.take i
    need (r.used || !(r.enaUsed || r.readyUsed) || x.hatchAxis r.axis) w 0xB35 ++
      need (!(r.enaUsed && before.any (fun q => q.enaUsed && q.axis == r.axis))) w 0xB35 ++
      need (!(r.readyUsed && before.any (fun q => q.readyUsed && q.axis == r.axis))) w 0xB35)

/-- Step 5 of R83: the rules in ascending order of their labels. -/
def RuleCtx.rules (x : RuleCtx) : List (List Fail) :=
  [x.r62, x.r64, x.r66, x.r68, x.r69, x.r70, x.r71, x.r72, x.r74, x.r76, x.r79, x.r80, x.r81, x.r165, x.r402]

/-! ### The whole check (R83) -/

/-- Where an image comes from: a slot, or the staged words from a Larder address on. -/
inductive ImgSource | slot | staged (addr : Nat) (applied : Bool)
  deriving DecidableEq, Repr

/-- What an image that passes defines: the Inventory it makes, its TABLES, the axes that a partial image names. -/
structure Checked where
  inv : Inventory
  isPartial : Bool
  tables : List (Nat × List Word)
  loops : List Nat
  feeds : List Nat
  deriving DecidableEq, Repr

/-- The number of the first failing step's failure. -/
def firstRule : List (List Fail) → Option Fail
  | [] => none
  | l :: t => match firstFail l with
    | some f => some f
    | none => firstRule t

/-- R60: the key of the signature. -/
def State.imageKey (s : State) : List Nat := beBytes 32 s.box.key.toNat

/-- R59: the trailer that an image should carry. -/
def imgTag (key : List Nat) (ws : List Word) (n : Nat) : List Nat := hmac key (packWords (ws.take n))

/-- R59, step 3: reserved bits of the trailer, and the signature. -/
def trailerFails (key : List Nat) (ws : List Word) : List Fail :=
  let n := imgLength ws - 8
  let t := (ws.drop n).take 8
  (if imgStrict ws then (t.zipIdx.flatMap (fun (x, j) => rsvd true x.toNat 35 32 (n + j))) else []) ++
    need (decide (t.flatMap (fun x => beBytes 4 (bitsOf x.toNat 31 0)) = imgTag key ws n)) (n + 7) 0xB15

/-- R83: the check of an image. `full` says that only a full image will do (R92, Table 3.20). The failure carries its
word, code and shelf. -/
def State.checkImage (s : State) (src : ImgSource) (full : Bool) (ws : List Word) : Except (Nat × Nat × Nat) Checked :=
  let len := imgLength ws
  let part := imgPartial ws
  let fail (f : Fail) (l : List Shelf) : Except (Nat × Nat × Nat) Checked :=
    .error (f.word, f.code, f.shelf.getD (shelfOfWord l f.word))
  match firstFail (headerFails s.variant ws) with
  | some f => fail f []
  | none =>
    if part && (full || s.inv.isNone) then fail ⟨3, 0xB16, none⟩ []
    else if (match src with | .slot => false | .staged a _ => decide (s.variant.rbase < a + len)) then
      fail ⟨2, 0xB12, none⟩ []
    else match firstFail (trailerFails s.imageKey ws) with
      | some f => fail f []
      | none =>
        let limit := len - 8
        let (l, e) := parseShelves limit (imgCount ws) 0 8 ((ws.drop 8).take (limit - 8))
        let inv := match part, s.inv with
          | true, some v => mergeInventory v l
          | _, _ => inventoryOf (imgId ws) (bitsOf (ws.getD 3 0).toNat 0 0 = 1) l
        let c : ShelfCtx := { variant := s.variant, strict := imgStrict ws, partialImg := part, inv := inv }
        match firstFail (c.shelfFails s.variant.rbase limit ws l e) with
        | some f => fail f l
        | none =>
          let x : RuleCtx := { c := c, l := l, end_ := e, userEnd := s.variant.rbase
                               staged := match src with
                                 | .staged a true => some (a, len)
                                 | _ => none }
          match firstRule x.rules with
          | some f => fail f l
          | none => .ok {
              inv := inv, isPartial := part, tables := (ofTyp l 12).map tableRange
              loops := (ofTyp l 3).map (·.inst), feeds := (ofTyp l 6).map (·.inst) }

end Sys2Proof.Machine
end

