-- ==== Sys2Proof/Machine/Load.lean ====
section
/-! DEFINITION. Loading the Inventory (chapter 3): the images as read, acceptance, the operations of INV.CMD and the
boot. -/

namespace Sys2Proof.Machine

open Sys2Proof

/-! ### Reading an image (R49, R50, R85, R88) -/

/-- R88: `n` lines from a line on; the last component is the first uncorrectable line. -/
def State.readLines (s : State) : Nat → Nat → State × List Word × Option Nat
  | 0, _ => (s, [], none)
  | n + 1, line =>
    match s.readLine 4 line [] with
    | (t, none) => (t, [], some line)
    | (t, some ws) =>
      let (u, l, bad) := t.readLines n (line + 1)
      (u, ws ++ l, bad)

/-- R83: an image as read, or the failure (word, code, shelf index) that ended the reading. -/
abbrev ImgRead := Except (Nat × Nat × Nat) (List Word)

/-- R88: word address of the staged image. -/
def State.srcAddr (s : State) : Nat := s.fld F.INV_SRC_ADDR_SRC_ADDR * 8

/-- R88, R472: LENGTH of an image whose header stands; the eight header words otherwise. -/
def State.imgExtent (s : State) (head : List Word) : Nat :=
  if (headerFails s.variant head).isEmpty then imgLength head else 8

/-- R472: the image that an operation judges starts where INV.SRC_ADDR stood at the operation's start. -/
def State.stagedAt (s : State) : Nat := s.invOp.range.elim s.srcAddr (·.1)

/-- R88: the staged image at `src`, read line by line: its words up to the first uncorrectable line, and the failure that
such a line makes. -/
def State.readStaged (s : State) (src : Nat) : State × List Word × Option (Nat × Nat × Nat) :=
  match s.readLines 1 (src / 8) with
  | (t, _, some _) => (t, [], some (0, 0xB42, 0xFFF))
  | (t, head, none) =>
    let n := s.imgExtent head
    if s.variant.rbase < src + n then (t, head, none)
    else
      match t.readLines (ceilDiv n 8 - 1) (src / 8 + 1) with
      | (u, rest, bad) => (u, (head ++ rest).take n, bad.map (fun line => (line * 8 - src, 0xB42, 0xFFF)))

/-- R50, R85: byte `a` of a slot; erased bytes read as ones. -/
def State.flashByte (s : State) (k : Fin 2) (a : Nat) : Nat :=
  (Cells.read (fun _ => (0xFF : Byte)) s.flash[k] a).toNat

/-- R49: the first `n` words of a slot. -/
def State.slotWords (s : State) (k : Fin 2) (n : Nat) : List Word :=
  (unpackWords (ceilDiv n 2) ((List.range (ceilDiv n 2 * 9)).map (fun a => s.flashByte k a))).take n

/-- R85, R397: a slot, read through the boot port. -/
def State.readSlot (s : State) (k : Fin 2) (device : Bool) : State × ImgRead :=
  let t := s.setFlag (if k = 0 then F.PRT_BOOT_STAT_A_PRESENT else F.PRT_BOOT_STAT_B_PRESENT) device
  if device then (t, .ok (s.slotWords k (s.imgExtent (s.slotWords k 8)))) else (t, .error (0, 0xB41, 0xFFF))

/-- R49, R50: words written to an erased slot from byte 0 on. -/
def slotOf (ws : List Word) : Cells Byte :=
  (packWords ws).zipIdx.filterMap (fun (b, a) => if b % 256 = 0xFF then none else some (a, BitVec.ofNat 8 b))

/-- R92: what an aborted PROGRAM leaves: whole pairs of words, the first pair, which holds the MAGIC, being written last
(DESIGN CHOICE, log entry 316). -/
def partSlot (ws : List Word) (done : Nat) : Cells Byte := (slotOf (ws.take (done / 2 * 2))).filter (fun e => decide (9 ≤ e.1))

/-- A slot takes contents. -/
def State.setSlot (s : State) (k : Fin 2) (c : Cells Byte) : State := { s with flash := s.flash.set k.val c k.isLt }

/-- INV.ACTIVE.SLOT_A_OK or SLOT_B_OK. -/
def slotOk (k : Fin 2) : Fld := if k = 0 then F.INV_ACTIVE_SLOT_A_OK else F.INV_ACTIVE_SLOT_B_OK

/-! ### Acceptance of a full image (R84, R89) -/

/-- R81: the TABLES go into the Larder. -/
def State.writeTables (s : State) (l : List (Nat × List Word)) : State :=
  s.forEach l (fun e t => t.ownWrites (e.2.length / 8 + 2) e.1 e.2)

/-- R64, R71: INV.BUDGET. -/
def budgetWord (v : Inventory) : Word :=
  let load := ceilDiv (1000 * (v.sched.foldl (fun a r => a + axisDur v r.axis) 0)) 6250
  BitVec.ofNat 36 (load * 2 ^ 18 + ceilDiv (dieLoad v 1 v.sched) 600000 * 2 ^ 9 + ceilDiv (dieLoad v 0 v.sched) 600000)

/-- Table 3.27: INV.AXIS_MAP. -/
def axisMapWord (v : Inventory) : Word :=
  BitVec.ofNat 36 (v.axes.foldl (fun a r => a + (4 + r.motor) * 8 ^ r.axis) 0)

/-- Table 3.27: the axis of a leg, 0xF when unallocated. -/
def legOwner (v : Inventory) (l : LegId) : Nat :=
  match v.axes.find? (fun r => r.legs.contains l.val) with
  | some r => r.axis
  | none => 0xF

/-- INV shows the accepted image, and each GD die takes the gate supply that PLAN selects (R97). -/
def State.showInventory (s : State) (v : Inventory) (source : Nat) : State :=
  let t := (s.setReg R.INV_IMAGE_ID v.imageId).setReg R.INV_AXIS_MAP (axisMapWord v)
  let t := t.forEach legIds (fun l t => t.setFld (legMapFld l) (legOwner v l))
  let t := (t.setFld F.INV_ACTIVE_SOURCE source).setFlag F.INV_ACTIVE_PARTIAL_APPLIED false
  let t := (t.setReg R.INV_BUDGET (budgetWord v)).setFld F.ENG_LOAD_SCHED_LOAD (bitsOf (budgetWord v).toNat 27 18)
  let t := (t.setSupply 0 F.LG_SUPPLY_VG_SEL (bit v.vgGd0)).setSupply 1 F.LG_SUPPLY_VG_SEL (bit (v.vgGd1 && s.hasDie 1))
  (t.setFlag F.SYS_STATUS_INV_OK true).setFlag F.SYS_STATUS_BARE false

/-- R145, Table 5.4: MASKm of the leg that carries phase i of a six-step axis. -/
def sixStepMask (i : Nat) : Nat := if i = 0 then 0x56055605 else if i = 1 then 0x55660055 else 0x50506565

/-- Table 3.5: the phase that leg i of a TRI3 axis carries. -/
def triPhase (rev : Bool) (i : Nat) : Nat := if i = 0 then 0 else if rev then 3 - i else i

/-- R145: MASK_SRC, HALL_FB and MASKm of a leg. -/
def legMask (v : Inventory) (l : LegId) : Nat × Nat × Nat :=
  match v.axes.find? (fun r => r.legs.contains l.val) with
  | none => (0, 0, 0)
  | some r =>
    match v.loops.find? (fun d => d.axis == r.axis), v.feeds.find? (fun d => d.axis == r.axis) with
    | some d, some f =>
      if r.motor = 1 ∧ d.driveMode = 1 ∧ f.kind = 3 then (1, f.channel, sixStepMask (triPhase r.phaseRev (l.val - r.firstLeg)))
      else (0, 0, 0)
    | _, _ => (0, 0, 0)

/-- R84, R118, R145, R455: a leg under the new Inventory: its state, its switching registers and its policy, SHORT where
a SHORT held through the reset goes on. -/
def State.acceptLeg (s : State) (v : Inventory) (shorts : List Nat) (l : LegId) : State :=
  let n := legOwner v l
  let q := legQ l
  let m := legM l
  let (src, fb, mask) := legMask v l
  let rec_ := v.axes.find? (fun r => r.axis == n)
  let sch := v.sched.find? (fun r => r.axis == n)
  let t := s.setReg (R.PW_OUTCFG q m) (BitVec.ofNat 36 ((sch.elim 0 (·.mMinus1)) * 2 ^ 14 + bit (sch.any (·.align)) * 2 ^ 13 +
    src * 2 ^ 11 + fb * 2 ^ 8 + bit (rec_.any (·.haltHold)) * 8))
  let t := (t.setReg (R.PW_MASK q m) (BitVec.ofNat 36 mask)).setReg (R.PW_DUTY q m) 0
  let t := t.setFld ⟨R.LG_WIRE_RESULT q, 4 * m.val + 3, 4 * m.val⟩ 0
  let t := t.modLeg l (fun g => { g with
    policy := some (decide (n ∈ shorts)), bothOn := false, bothRun := 0, cmdHigh := false, riseDue := false, fallDue := false,
    hi := { g.hi with keptOff := false }, lo := { g.lo with keptOff := false } })
  if t.legState l = lgLatched then t
  else if l.val ∈ s.box.retired then t.setLegState l lgRetired
  else if n < 8 ∧ ((t.legs[l]).hi.heldShort ∨ (t.legs[l]).lo.heldShort) then t.setLegState l lgHeld
  else t.setLegState l (if n < 8 then lgIdle else lgUnallocated)

/-- R67, R211, R213: the engine takes the sections of a drive definition that lie at `base` in their stores; its initial
state goes into the reserved region. -/
def State.loadEngine (s : State) (v : Inventory) (n : AxisId) (d : LoopDef) (base : List Nat) : State :=
  let ins := progOf d.prog
  let t := s.modEng n (fun _ => { AxisEng.reset with
    prog := d.prog, coef := d.coef, init := d.init, tables := d.tables, base := base, st := d.init })
  let t := t.modSeq n (fun q => { q with reads := progReads ins })
  let t := t.ownWrites (d.init.length / 8 + 2) (t.imageAddr n.val) d.init
  let t := (t.setReg (R.ENG_OBS_A n) 0).setReg (R.ENG_OBS_B n) 0
  let t := (t.setReg (R.ENG_SUPV n) 0x100).setFlag (F.ENG_SUPV_HAS_OBS n) (progHasObs ins)
  t.setFld (F.ENG_SLOT_D n) (axisDur v n.val)

/-- R90: a full APPLY packs the engine stores in the order of the axes (DESIGN CHOICE, log entry 60). -/
def packedBase (v : Inventory) (n : Nat) : List Nat :=
  (v.loops.filter (fun d => decide (d.axis < n))).foldl (fun a d => addSizes a d.sizes) [0, 0, 0, 0]

/-- R259, R287: the settings of an axis load, the rest of its block takes its reset values. -/
def State.freshAxis (s : State) (n : AxisId) : State :=
  let k := (0x10 + n.val) * 512
  (s.clearRegs k (k + 512)).loadGroup (0x10 + n.val) (axisSaveKeys n)

/-- R84: an axis under the new Inventory: DISABLED with the REGIME of its LOOP shelf, SET_POS and ANGLE_SET at 0, the
Trapdoor engaged. -/
def State.acceptAxis (s : State) (v : Inventory) (shorts : List Nat) (n : AxisId) : State :=
  let t := (s.freshAxis n).modAxis n (fun _ => .reset)
  let t := (t.modCarrier n (fun _ => .reset)).modComp n (fun _ => .reset)
  let t := (t.modEng n (fun _ => .reset)).modSeq n (fun _ => ⟨[], s.clock⟩)
  let t := ((t.setReg (R.ENG_SLOT n) 0).setRegBit R.ENG_STATUS (10 + n.val) false).setReg (R.ENG_SUPV n) 0x100
  let plan := v.axes.any (fun r => r.axis == n.val)
  let short := decide (n.val ∈ shorts)
  let t := ((t.setRegBit R.FLT_TRAP_STAT (8 + n.val) plan).setRegBit R.FLT_TRAP_STAT (16 + n.val) short).setRegBit
    R.FLT_TRAP_STAT n.val false
  let t := t.modAxis n (fun a => { a with signAt := s.clock })
  match v.loops.find? (fun d => d.axis == n.val), v.sched.find? (fun r => r.axis == n.val) with
  | some d, some r =>
    let t := (t.loadEngine v n d (packedBase v n.val)).setFld (F.ENG_SLOT_SLOT_START n) r.slotStart
    let t := (t.setFld (F.AX_CTRL_REGIME_REQ n) d.regime).modAxis n (fun a => { a with regime := d.regime })
    let t := (t.setRegime n d.regime).showCarrier n (t.regimeM n d.regime + 1)
    t.modAxis n (fun a => { a with cfg := t.cfgRegs n })
  | _, _ => t

/-- R287: a feedback channel under a new FEED shelf. -/
def State.freshChan (s : State) (c : AxisId) : State :=
  let k := (0x18 + c.val) * 512
  let old := s.chans[c]
  let t := s.clearRegs k (k + 512)
  (t.modChan c (fun _ => { FbChan.reset with a := old.a, b := old.b, z := old.z, ivlAt := s.clock, since := s.clock })).showHall c

/-- R287: a channel on acceptance of a full Inventory. -/
def State.acceptChan (s : State) (c : AxisId) : State := (s.freshChan c).loadGroup (0x18 + c.val) [R.FB_CFG c]

/-- Table 6.4, R176: CFG of a system comparator: active below?, threshold code. -/
def systemCmp (below : Bool) (code : Nat) : Word := BitVec.ofNat 36 (0x2404000 + bit below * 0x200000 + code)

/-- R176: the code of a voltage of VM in 0.1 V. -/
def vmCode (v : Nat) : Nat := (v * 4096 + 1000) / 2000

/-- R185: the comparators on acceptance. -/
def State.acceptCmps (s : State) (v : Inventory) : State :=
  let t := s.loadGroup 0xb cmpSaveKeys
  let t := (t.setReg (R.CMP_CFG 56) (systemCmp false (vmCode v.prot.vmHigh))).setReg (R.CMP_CFG 57)
    (systemCmp true (vmCode v.prot.vmLow))
  let t := (t.setReg (R.CMP_CFG 58) (systemCmp false (vmCode v.prot.brkOn))).setReg (R.CMP_CFG 59)
    (systemCmp true (vmCode v.prot.brkOff))
  t.settleCmps s

/-- R165, Table 6.7: IN7 of a core: a COMP shelf names its thermistor. -/
def State.acceptCores (s : State) (v : Inventory) : State :=
  s.forEach coreIds (fun c t => t.setFlag (F.AD_CORE_CFG_IN7 (coreDie c) (coreLocal c))
    (decide (coreLocal c ≠ 0) && v.comps.any (fun d => d.tempSrc == c.val)))

/-- R129, R157: the settings of a quadrant load. -/
def State.acceptQuad (s : State) (q : Quad) : State :=
  (s.loadGroup (0x20 + q.val) (lgSaveKeys q)).loadGroup (0x24 + q.val) (pwSaveKeys q)

/-- R400: a port on acceptance: the shelf fields from PORTS, the FIFOs empty. -/
def State.acceptPort (s : State) (saved : Bool) (v : Inventory) (p : PortId) : State :=
  let r := v.ports.getD p.val unusedPort
  let t := if s.portBusy p then s.opAborted (R.PRT_P_STAT p) else s
  let t := t.setPort p (fun q => { Port.reset with freeAt := q.freeAt })
  let t := ((t.setFlag (F.PRT_P_CFG_USED p) r.used).setFld (F.PRT_P_CFG_CMD_LANES p) r.cmdLanes).setFld
    (F.PRT_P_CFG_DATA_LANES p) r.dataLanes
  let t := (t.setFlag (F.PRT_P_CFG_BUSY_EN p) r.busyEn).setFld (F.PRT_P_LEN_CLOCK_KHZ p) r.clockKhz
  if saved then t
  else (t.setFld (F.PRT_P_LEN_UNIT_BITS p) r.unitBits).setReg (R.PRT_P_BUSYPAT p) (BitVec.ofNat 36 r.busyPattern)

/-- R416: the Hatch on acceptance. -/
def State.acceptHatch (s : State) : State :=
  let t := s.clearRegs (0xc * 512) (0xd * 512)
  let h := s.hatch
  let t := { t with hatch := {
    steps := h.steps.map (fun (c : StepChan) => { c with hist := [] }),
    cmds := h.cmds.map (fun (_ : SpeedCmd) => { SpeedCmd.reset with since := s.clock }), cal := none } }
  t.loadGroup 0xc hatSaveKeys

/-- R130: leg tests that run when the Inventory changes end as by ABORT. -/
def State.dropTests (s : State) : State :=
  let t := s.forEach quadIds (fun q t => if t.opBusy (R.LG_OP_STAT q) then t.lgAbort q else t)
  { t with wireTests := [], leakTests := [] }

/-- R455: axes in SHORT through the reset that the new Inventory plans with the same FIRST_LEG and MOTOR. -/
def keptShorts (l : List (Nat × Nat × Nat)) (v : Inventory) : List Nat :=
  (l.filter (fun e => v.axes.any (fun r => r.axis == e.1 && r.firstLeg == e.2.1 && r.motor == e.2.2))).map (·.1)

/-- R84, R89: a full Inventory is accepted: the whole configuration changes on one edge. -/
def State.accept (s : State) (c : Checked) (source : Nat) : State :=
  let v := c.inv
  let t := ((s.writeTables c.tables).dropTests).dropCoefs [0, 1, 2, 3, 4, 5, 6, 7]
  let shorts := keptShorts s.seq.shorts v
  let saved := s.box.saves.any (fun e => e.1 == 5 && e.2.1 == v.imageId)
  let t := { (t.showInventory v source) with inv := some v, power := .configured }
  let t := (t.planAccept).cpoAccept
  let t := { t with
    planner := .reset, engine := .reset, seq := { t.seq with shorts := [] },
    dies := t.dies.map (fun (d : Die) => { d with vgUp := true, down := [], holdSince := none }) }
  let t := t.forEach quadIds (fun q t => t.acceptQuad q)
  let t := t.forEach axisIds (fun n t => (t.acceptAxis v shorts n).acceptChan n)
  let t := t.forEach legIds (fun l t => t.acceptLeg v shorts l)
  let t := ((t.acceptCmps v).acceptCores v).acceptHatch
  let t := t.modPins (fun p => { p with tripCmp := t.drivenTrips })
  let t := t.loadGroup 5 prtSaveKeys
  let t := t.forEach portIds (fun p t => t.acceptPort saved v p)
  let t := (t.fltAccept).loadGroup 6 [R.LAD_CFG, R.LAD_RATE]
  let t := ((t.showSsiOwned).endSessions).ladderInForce
  let t := t.forEach ([0, 1, 2, 3, 4, 5, 6, 7] : List (Fin 8)) (fun n t => t.tripChanged n)
  t.faultOut.settleAll

/-! ### Partial images (R90) -/

/-- R90: the lowest address from `a` on at which `n` units fit beside the regions in use; `fuel` bounds the moves. -/
def fitFrom (used : List (Nat × Nat)) (size n : Nat) : Nat → Nat → Option Nat
  | 0, _ => none
  | fuel + 1, a =>
    if size < a + n then none
    else
      match used.find? (fun r => decide (0 < r.2) && decide (r.1 < a + n) && decide (a < r.1 + r.2)) with
      | none => some a
      | some r => fitFrom used size n fuel (r.1 + r.2)

/-- R90: regions that programs use in store `i`. -/
def State.storeUsed (s : State) (i : Nat) : List (Nat × Nat) :=
  axisIds.map (fun n =>
    let e := s.engs[n]
    let size := [e.prog.length, e.coef.length, e.init.length, e.tables.length / 64].getD i 0
    (e.base.getD i 0, size))

/-- R90: a place for each section of each new drive definition; none where one finds no contiguous region. -/
def placeSections (used : Nat → List (Nat × Nat)) : List LoopDef → Option (List (Nat × List Nat))
  | [] => some []
  | d :: t =>
    let at_ (i : Nat) : Option Nat :=
      let n := d.sizes.getD i 0
      if n = 0 then some 0 else fitFrom (used i) (storeSizes.getD i 0) n ((used i).length + 2) 0
    match at_ 0, at_ 1, at_ 2, at_ 3 with
    | some a, some b, some c, some e =>
      let base := [a, b, c, e]
      (placeSections (fun i => (base.getD i 0, d.sizes.getD i 0) :: used i) t).map (fun l => (d.axis, base) :: l)
    | _, _, _, _ => none

/-- R90: where the sections of a partial image go. -/
def State.places (s : State) (c : Checked) : Option (List (Nat × List Nat)) :=
  placeSections s.storeUsed (c.inv.loops.filter (fun d => c.loops.contains d.axis))

/-- R90: the named axes switch to their new shelves; their settings and OUTCFG stand (R157, R259). -/
def State.acceptPartial (s : State) (c : Checked) (places : List (Nat × List Nat)) : State :=
  let old := (s.inv.elim [] (·.feeds)).filter (fun f => c.feeds.contains f.axis)
  let t := s.dropCoefs (c.loops ++ c.feeds)
  let t := { t with inv := some c.inv }
  let t := t.forEach (axisIds.filter (fun n => c.loops.contains n.val)) (fun n t =>
    match c.inv.loops.find? (fun d => d.axis == n.val) with
    | some d =>
      t.loadEngine c.inv n d ((places.find? (fun p => p.1 == n.val)).elim [0, 0, 0, 0] (·.2))
    | none => t)
  let chans := old.map (·.channel) ++ (c.inv.feeds.filter (fun f => c.feeds.contains f.axis)).map (·.channel)
  let t := t.forEach (axisIds.filter (fun n => chans.contains n.val)) (fun n t =>
    let cfg := t.reg (R.FB_CFG n)
    (t.freshChan n).setReg (R.FB_CFG n) cfg)
  let t := t.setReg R.INV_BUDGET (budgetWord c.inv)
  let t := (t.setFld F.ENG_LOAD_SCHED_LOAD (bitsOf (budgetWord c.inv).toNat 27 18)).setFlag F.INV_ACTIVE_PARTIAL_APPLIED true
  (t.showSsiOwned).endSessions

/-! ### The operations of INV.CMD (R88 to R93, R472) -/

/-- R472: the operation lets the staged range go; the writes it held back follow. -/
def State.invRelease (s : State) : State :=
  let l := s.invOp.held
  let t := s.modInv (fun i => { i with range := none, held := [], affected := [], partialImg := false })
  let t := t.setFld F.PRT_BOOT_STAT_ACTIVE 0
  t.forEach l (fun e t => t.ownWrite (e.1 / 8) (e.1 % 8) [e.2])

/-- R83: ERR_AT. -/
def errAtWord (word shelf : Nat) : Word := BitVec.ofNat 36 (shelf * 2 ^ 23 + word)

/-- R83: the operation ends with ERR on a failure (word, code, shelf index). -/
def State.invErr (s : State) (e : Nat × Nat × Nat) : State :=
  let t := (s.invRelease).opErr R.INV_OP_STAT e.2.1
  ((t.setReg R.INV_ERR_AT (errAtWord e.1 e.2.2)).setFld F.INV_PROGRESS_WORD e.1).raiseLD e.2.1 0 none

/-- The operation ends with DONE, `n` words processed. -/
def State.invDone (s : State) (n : Nat) : State :=
  ((s.invRelease).opDone R.INV_OP_STAT).setFld F.INV_PROGRESS_WORD n

/-- R89: every planned axis is DISABLED with its Trapdoor engaged. -/
def State.allQuiet (s : State) : Bool :=
  axisIds.all (fun n => !s.planned n.val || (decide (s.axisSt n = stDisabled) && s.trapped n))

/-- R90: the axes that the shelves of a partial image name. -/
def namedAxes (ws : List Word) : List Nat :=
  ((parseShelves (imgLength ws - 8) (imgCount ws) 0 8 (ws.drop 8)).1.filter (fun h => h.typ = 3 || h.typ = 6)).map (·.inst)

/-- The slot that an operation of INV.CMD concerns. -/
def opSlot (op : Nat) : Fin 2 := if op = 4 ∨ op = 6 ∨ op = 8 then 1 else 0

/-- An operation that reads the staged image. -/
def opStaged (op : Nat) : Bool := decide (op ∈ [1, 2, 5, 6])

/-- R92: PROGRAM_A or PROGRAM_B with an image that passes clears the OK bit and erases the slot. -/
def State.beginProgram (s : State) (op : Nat) (ws : List Word) : State :=
  match s.checkImage (.staged s.srcAddr false) true ws with
  | .ok _ => (s.setSlot (opSlot op) []).setFlag (slotOk (opSlot op)) false
  | .error _ => s

/-- R88 to R90, R472: an operation starts. -/
def State.invStart (s : State) (op : Nat) : State :=
  let t := ((s.commitAll).opStart R.INV_OP_STAT op).setReg R.INV_ERR_AT 0
  let t := t.setFld F.INV_PROGRESS_WORD 0
  let t := if op = 1 ∨ op = 2 then t else t.setFld F.PRT_BOOT_STAT_ACTIVE ((opSlot op).val + 1)
  if !s.larderReady && op < 7 then t.invErr (0, 0x841, 0xFFF)
  else if !opStaged op then
    if op < 7 then
      (if s.allQuiet then t.modInv (fun i => { i with affected := [0, 1, 2, 3, 4, 5, 6, 7] }) else t.invErr (0, 0xB40, 0xFFF))
    else t
  else if s.variant.rbase ≤ s.srcAddr then t.invErr (0, 0xB12, 0xFFF)
  else
    let (_, ws, bad) := t.readStaged s.srcAddr
    let n := s.imgExtent ws
    let t := t.modInv (fun i => { i with range := some (s.srcAddr, if s.variant.rbase < s.srcAddr + n then 8 else n) })
    if op = 1 then t
    else if op = 2 then
      if imgPartial ws then
        let named := namedAxes ws
        if axisIds.any (fun m => decide (m.val ∈ named) && s.planned m.val && decide (s.axisSt m ≠ stDisabled)) then
          t.invErr (0, 0xB40, 0xFFF)
        else t.modInv (fun i => { i with affected := named, partialImg := true })
      else if s.allQuiet then t.modInv (fun i => { i with affected := [0, 1, 2, 3, 4, 5, 6, 7] })
      else t.invErr (0, 0xB40, 0xFFF)
    else if bad.isSome then t
    else t.beginProgram op ws

/-- R83: the image of the running operation, read and checked. -/
def State.invCheck (s : State) (op : Nat) (device : Bool) : State × Except (Nat × Nat × Nat) (Checked × List Word) :=
  let (t, got) : State × ImgRead := if opStaged op then
      match s.readStaged s.stagedAt with
      | (t, ws, none) => (t, .ok ws)
      | (t, _, some e) => (t, .error e)
    else s.readSlot (opSlot op) device
  let src : ImgSource := if opStaged op then .staged s.stagedAt (decide (op = 2)) else .slot
  (t, match got with
    | .error e => .error e
    | .ok ws => match s.checkImage src (decide (2 < op)) ws with
      | .error e => .error e
      | .ok c => .ok (c, ws))

/-- R93, R44: ABORT; `done` words of the TABLES or of the slot had been written. -/
def State.invAbort (s : State) (done : Nat) : State :=
  if !s.opBusy R.INV_OP_STAT then s.abortIdle R.INV_OP_STAT
  else
    let op := s.lastOp R.INV_OP_STAT
    if s.invOp.boot.isSome then
      (((s.modInv (fun i => { i with boot := none })).invRelease).opAborted R.INV_OP_STAT).enterBare
    else
      let t := if op ∈ [2, 3, 4] then
          match s.invCheck op true with
          | (t, .ok (c, _)) =>
            (t.writeTables (c.tables.foldl (fun (l, left) e => (l ++ [(e.1, e.2.take left)], left - e.2.length)) ([], done)).1)
          | (t, .error _) => t
        else if op = 5 ∨ op = 6 then
          match s.invCheck op true with
          | (t, .ok (_, ws)) => t.setSlot (opSlot op) (partSlot ws done)
          | (t, .error _) => t
        else s
      (((t.invRelease).opAborted R.INV_OP_STAT)).setFld F.INV_PROGRESS_WORD done

/-- Table 3.22: a write of INV.CMD. -/
def invCommand (op done : Nat) (s : State) : State :=
  if !s.reach 2 then s
  else if op = 0xF then s.invAbort done
  else if op = 0 || 8 < op || s.opBusy R.INV_OP_STAT then s.setFlag F.INV_OP_STAT_CMD_REFUSED true
  else s.invStart op

/-- CHECK (R83). -/
def execCheck (dt : Nat) (s : State) : Host.Outcome State Fault Refusal := s.answer (invCommand 1 0 (s.pass dt))

/-- APPLY (R89, R90). -/
def execApply (dt : Nat) (s : State) : Host.Outcome State Fault Refusal := s.answer (invCommand 2 0 (s.pass dt))

/-- APPLY_SLOT_A (R89). -/
def execApplySlotA (dt : Nat) (s : State) : Host.Outcome State Fault Refusal := s.answer (invCommand 3 0 (s.pass dt))

/-- APPLY_SLOT_B (R89). -/
def execApplySlotB (dt : Nat) (s : State) : Host.Outcome State Fault Refusal := s.answer (invCommand 4 0 (s.pass dt))

/-- PROGRAM_A (R92). -/
def execProgramA (dt : Nat) (s : State) : Host.Outcome State Fault Refusal := s.answer (invCommand 5 0 (s.pass dt))

/-- PROGRAM_B (R92). -/
def execProgramB (dt : Nat) (s : State) : Host.Outcome State Fault Refusal := s.answer (invCommand 6 0 (s.pass dt))

/-- VERIFY_A (R83). -/
def execVerifyA (dt : Nat) (s : State) : Host.Outcome State Fault Refusal := s.answer (invCommand 7 0 (s.pass dt))

/-- VERIFY_B (R83). -/
def execVerifyB (dt : Nat) (s : State) : Host.Outcome State Fault Refusal := s.answer (invCommand 8 0 (s.pass dt))

/-- INV_ABORT (R93). -/
def execInvAbort (dt done : Nat) (s : State) : Host.Outcome State Fault Refusal := s.answer (invCommand 0xF done (s.pass dt))

/-- An operation of `ops` runs. -/
def State.invRuns (s : State) (ops : List Nat) : Bool :=
  s.live && s.opBusy R.INV_OP_STAT && s.invOp.boot.isNone && decide (s.lastOp R.INV_OP_STAT ∈ ops)

/-- INV_CHECK_END (R83): CHECK, VERIFY_A or VERIFY_B ends. -/
def invCheckEnd (device : Bool) (s : State) : State :=
  if !s.invRuns [1, 7, 8] then s
  else
    let op := s.lastOp R.INV_OP_STAT
    match s.invCheck op device with
    | (t, .error e) => (if op = 1 then t else t.setFlag (slotOk (opSlot op)) false).invErr e
    | (t, .ok (_, ws)) => (if op = 1 then t else t.setFlag (slotOk (opSlot op)) true).invDone ws.length

def execInvCheckEnd (dt : Nat) (device : Bool) (s : State) : Host.Outcome State Fault Refusal :=
  s.answer (invCheckEnd device (s.pass dt))

/-- APPLY_COMPLETE (R89). -/
def applyComplete (device : Bool) (s : State) : State :=
  if !s.invRuns [2, 3, 4] || s.invOp.partialImg then s
  else
    let op := s.lastOp R.INV_OP_STAT
    match s.invCheck op device with
    | (t, .error e) => (if op = 2 then t else t.setFlag (slotOk (opSlot op)) false).invErr e
    | (t, .ok (c, ws)) =>
      ((if op = 2 then t else t.setFlag (slotOk (opSlot op)) true).accept c (if op = 2 then 3 else op - 2)).invDone ws.length

def execApplyComplete (dt : Nat) (device : Bool) (s : State) : Host.Outcome State Fault Refusal :=
  s.answer (applyComplete device (s.pass dt))

/-- PARTIAL_APPLY_COMPLETE (R90). Where a section finds no region, ERR_AT is the last word before the trailer (DESIGN CHOICE,
log entry 314). -/
def partialApplyComplete (s : State) : State :=
  if !s.invRuns [2] || !s.invOp.partialImg then s
  else
    match s.invCheck 2 true with
    | (t, .error e) => t.invErr e
    | (t, .ok (c, ws)) =>
      match t.places c with
      | none => t.invErr (ws.length - 9, 0xB34, (c.loops.length + c.feeds.length) - 1)
      | some l => (t.acceptPartial c l).invDone ws.length

def execPartialApplyComplete (dt : Nat) (s : State) : Host.Outcome State Fault Refusal :=
  s.answer (partialApplyComplete (s.pass dt))

/-- PROGRAM_COMPLETE (R92). -/
def programComplete (device : Bool) (s : State) : State :=
  if !s.invRuns [5, 6] then s
  else
    let op := s.lastOp R.INV_OP_STAT
    match s.invCheck op true with
    | (t, .error e) => t.invErr e
    | (t, .ok (_, ws)) =>
      let t := t.setFlag (if opSlot op = 0 then F.PRT_BOOT_STAT_A_PRESENT else F.PRT_BOOT_STAT_B_PRESENT) device
      if device then ((t.setSlot (opSlot op) (slotOf ws)).setFlag (slotOk (opSlot op)) true).invDone ws.length
      else t.invErr (0, 0xB41, 0xFFF)

def execProgramComplete (dt : Nat) (device : Bool) (s : State) : Host.Outcome State Fault Refusal :=
  s.answer (programComplete device (s.pass dt))

/-! ### Boot (R85, R86) -/

/-- R85, Table 3.25: the slots that the order tries. -/
def bootOrder (next : Nat) : List Nat := if next = 0 then [0, 1] else if next = 1 then [1] else []

/-- BOOT (R85): the Larder is ready; the order of NEXT_BOOT starts, or bare mode is selected. -/
def boot (s : State) : State :=
  if s.power ≠ .loading || !s.live || !s.larderReady || s.opBusy R.INV_OP_STAT then s
  else
    let order := bootOrder (s.fld F.INV_NEXT_BOOT_NEXT_BOOT)
    let t := ((s.opStart R.INV_OP_STAT 0).setReg R.INV_ERR_AT 0).setFld F.INV_NEXT_BOOT_NEXT_BOOT 0
    match order with
    | [] => (t.opDone R.INV_OP_STAT).enterBare
    | k :: _ => (t.setFld F.PRT_BOOT_STAT_ACTIVE (k + 1)).modInv (fun i => { i with
        boot := some order, bootTried := order, bootFail := none })

def execBoot (dt : Nat) (s : State) : Host.Outcome State Fault Refusal := s.answer (boot (s.pass dt))

/-- R85: what the boot reports of its first refused slot. -/
def State.bootReport (s : State) : State :=
  match s.invOp.bootFail with
  | some (word, code, shelf) => (s.setFld F.INV_OP_STAT_ERR_CODE code).setReg R.INV_ERR_AT (errAtWord word shelf)
  | none => s

/-- SLOT_CHECK_END (R85, R86). -/
def slotCheckEnd (device : Bool) (s : State) : State :=
  match s.invOp.boot with
  | none => s
  | some [] => s
  | some (k :: rest) =>
    if !s.live || s.power ≠ .loading then s
    else
      let slot : Fin 2 := if k = 1 then 1 else 0
      let (t, got) := s.readSlot slot device
      let res : Except (Nat × Nat × Nat) (Checked × List Word) := match got with
        | .error e => .error e
        | .ok ws => match s.checkImage .slot true ws with
          | .error e => .error e
          | .ok c => .ok (c, ws)
      match res with
      | .ok (c, ws) =>
        let t := ((t.setFlag (slotOk slot) true).accept c (slot.val + 1)).modInv (fun i => { i with boot := none })
        let t := if slot = 1 ∧ 0 ∈ s.invOp.bootTried then t.raiseLD 0xB01 0 none else t
        (t.bootReport).invDone ws.length
      | .error e =>
        let t := (t.setFlag (slotOk slot) false).raiseLD e.2.1 0 none
        let t := t.modInv (fun i => { i with bootFail := i.bootFail.or (some e), boot := if rest = [] then none else some rest })
        match rest with
        | j :: _ => t.setFld F.PRT_BOOT_STAT_ACTIVE (j + 1)
        | [] =>
          let t := (t.raiseLD 0xB02 0 none).setStat R.INV_OP_STAT statErr
          ((t.bootReport).invRelease).enterBare

def execSlotCheckEnd (dt : Nat) (device : Bool) (s : State) : Host.Outcome State Fault Refusal :=
  s.answer (slotCheckEnd device (s.pass dt))

/-- Table 3.25: a write of INV.NEXT_BOOT. -/
def nextBootWrite (v : Nat) (s : State) : State :=
  if v % 4 = 3 then s.setFlag F.INV_OP_STAT_CMD_REFUSED true else s.setFld F.INV_NEXT_BOOT_NEXT_BOOT v

end Sys2Proof.Machine
end

