-- ==== Sys2Proof/Machine/Ethernet.lean ====
section
/-! DEFINITION. Ethernet, the switch, ARP, ICMP and PTP (R345 to R353). -/

namespace Sys2Proof.Machine

open Sys2Proof

/-! ### Ports and the switch (R345, R348, R349) -/

/-- Table 12.8: a Ladder port has its link. -/
def State.portUp (s : State) (p : Nat) : Bool := s.regBit R.LAD_PORT_STAT (2 * p)

/-- R348: a MAC address is a group address; the broadcast address. -/
def macGroup (m : BitVec 48) : Bool := m.getLsbD 40
def macBroadcast : BitVec 48 := BitVec.allOnes 48

/-- R348: the PTP multicast address 224.0.1.129. -/
def ptpGroup : BitVec 32 := 0xE0000181

/-- R346: the destination of an IPv4 datagram is the module's: its own address, the subnet broadcast, 255.255.255.255. -/
def State.ipForMe (s : State) (a : BitVec 32) : Bool :=
  a == s.myIp || a == BitVec.allOnes 32 || a == (s.myIp ||| ~~~ (BitVec.ofNat 32 s.ladderDef.mask))

/-- R346: the fixed checks of an IPv4 header. -/
def ipGood (h : IpHdr) : Bool := decide (h.version = 4) && decide (h.ihl = 5) && h.sumOk && !h.mf && decide (h.frag = 0)

/-- R346, R348, R351: what the module takes in of the frames that reach it. -/
def State.takesIn (s : State) (f : Frame) : Bool :=
  (f.dstMac == s.myMac || f.dstMac == macBroadcast || macGroup f.dstMac) &&
    match f.body with
    | .arp .. => f.dstMac == s.myMac || f.dstMac == macBroadcast
    | .icmp h echo data => ipGood h && s.ipForMe h.dst && echo && decide (data.length ≤ 1472) && !(macGroup f.dstMac && f.dstMac != macBroadcast)
    | .udp h _ dport sumOk _ =>
      ipGood h && s.ipForMe h.dst && sumOk && decide (dport.toNat = s.ladderDef.udpPort) && !(macGroup f.dstMac && f.dstMac != macBroadcast)
    | .ptp h m =>
      ipGood h && (h.dst == ptpGroup || (s.ipForMe h.dst && !(macGroup f.dstMac && f.dstMac != macBroadcast))) &&
        decide (m.domain = s.ladderDef.ptpDomain)
    | .ipOther _ | .pause | .other => false

/-- R348: a source address is learnt at its port; 64 entries, the oldest of which gives way. -/
def State.learnMac (s : State) (m : BitVec 48) (p : Nat) : State :=
  s.modLadder (fun l => { l with fdb := ((m, p, s.clock) :: l.fdb.filter (fun e => e.1 ≠ m)).take 64 })

/-- R351, R352: an instant or an interval of the hardware timestamps, ns. -/
def nclkNs (pclk : Nat) : Nat := pclk / 4 * 8

/-- R352: residence times that the transparent clock keeps. -/
def State.keepResid (s : State) (e : Nat × Nat × Bool × Nat) : State :=
  s.modLadder (fun l => { l with ptp := { l.ptp with resid := (e :: l.ptp.resid).take 64 } })

/-- R352: the residence time of the message that this one belongs to. -/
def State.residOf (s : State) (source seq : Nat) (isSync : Bool) : Nat :=
  match s.ladder.ptp.resid.find? (fun e => decide (e.1 = source) && decide (e.2.1 = seq) && e.2.2.1 == isSync) with
  | some e => e.2.2.2
  | none => 0

/-- R352: a PTP message as it passes the transparent clock, `leave` PCLK after its arrival. -/
def State.passPtp (s : State) (leave : Nat) (m : PtpMsg) : State × PtpMsg :=
  match m.kind with
  | .sync => (s.keepResid (m.source, m.seq, true, nclkNs leave), m)
  | .delayReq => (s.keepResid (m.source, m.seq, false, nclkNs leave), m)
  | .followUp => (s, { m with corr := m.corr + s.residOf m.source m.seq true })
  | .delayResp => (s, { m with corr := m.corr + s.residOf m.answers m.seq false })
  | .announce | .other => (s, m)

/-- R348, R349, R352: a frame goes on to another port and onto its wire `leave` PCLK after its arrival. -/
def State.forwardTo (s : State) (p leave : Nat) (f : Frame) : State :=
  let q := (s.ladder.fwd.getD p []).filter (fun t => decide (s.clock < t))
  if 32 ≤ q.length then s.count R.LAD_FWD_DROP
  else
    let t := s.modLadder (fun l => { l with fwd := l.fwd.set p (q ++ [s.clock + leave]) })
    match f.body with
    | .ptp h m =>
      let (t, m) := t.passPtp leave m
      t.emit 3 [p] (.forward { f with body := .ptp h m })
    | _ => t.emit 3 [p] (.forward f)

/-- R345, R348: a frame has arrived whole at a port. -/
def ethernetFrame (port : Fin 2) (leave : Nat) (f : Frame) (s : State) : State :=
  if !s.live || !(port.val ∈ s.ports) || !s.portUp port.val || f.vlan || f.body == .pause || decide (1518 < f.bytes) || !f.fcsOk then s
  else
    let t := s.learnMac f.srcMac port.val
    let other := 1 - port.val
    let t := if other ∈ s.ports && s.portUp other && f.dstMac != s.myMac then t.forwardTo other leave f else t
    if s.takesIn f then t.modLadder (fun l => { l with rx := l.rx ++ [(port.val, s.clock, f)] }) else t

def execEthernetFrame (dt : Nat) (port : Fin 2) (leave : Nat) (f : Frame) (s : State) : Host.Outcome State Fault Refusal :=
  s.answer (ethernetFrame port leave f (s.pass dt))

/-- The oldest frame of a kind leaves what was taken in. -/
def State.takeRx (s : State) (p : Packet → Bool) : Option ((Nat × Nat × Frame) × State) :=
  match s.ladder.rx.find? (fun e => p e.2.2.body) with
  | none => none
  | some e => some (e, s.modLadder (fun l => { l with rx := l.rx.eraseP (fun e => p e.2.2.body) }))

/-- R348: learnt addresses age after 300 s. -/
def macAge (s : State) : State :=
  match s.ladder.fdb.getLast? with
  | none => s
  | some (_, _, at_) =>
    if !s.live then s
    else
      let t := s.atLeast (at_ + 300 * second)
      t.modLadder (fun l => { l with fdb := l.fdb.filter (fun e => decide (t.clock < e.2.2 + 300 * second)) })

def execMacAge (s : State) : Host.Outcome State Fault Refusal := s.answer (macAge s)

/-! ### Rate buckets (R363) -/

/-- R363: what is left of a bucket (units of 1/second of a frame) after the frame at `now`; none when it holds no token. -/
def bucketTake (rate cap now : Nat) (b : Nat × Nat) : Option (Nat × Nat) :=
  let tokens := min (cap * second) (b.1 + (now - b.2) * rate)
  if second ≤ tokens then some (tokens - second, now) else none

/-- R357, R363: a frame takes a token of the shared bucket; none when there is none. -/
def State.sharedToken (s : State) : Option State :=
  (bucketTake 2000 64 s.clock s.ladder.shared).map (fun b => s.modLadder (fun l => { l with shared := b }))

/-- R363: a frame without a token. -/
def State.rateDrop (s : State) : State := s.count R.LAD_RX_RATE_DROP

/-- R364: an address is quarantined. -/
def State.quarantined (s : State) (ip : BitVec 32) : Bool := s.ladder.quar.any (fun e => e.1 == ip && decide (s.clock < e.2))

/-! ### ARP and ICMP (R346) -/

/-- R346: an address is resolved; 32 entries, the oldest of which gives way. -/
def State.learnArp (s : State) (ip : BitVec 32) (mac : BitVec 48) : State :=
  s.modLadder (fun l => { l with arp := ((ip, mac, s.clock) :: l.arp.filter (fun e => e.1 ≠ ip)).take 32 })

/-- R346, R363: the oldest ARP packet taken in. -/
def arp (s : State) : State :=
  match s.takeRx (fun b => match b with | .arp .. => true | _ => false) with
  | none => s
  | some ((port, _, f), t) =>
    match bucketTake 200 200 t.clock t.ladder.arpTokens, f.body with
    | some b, .arp request smac sip target =>
      let t := t.modLadder (fun l => { l with arpTokens := b })
      let t := if sip = t.myIp ∧ smac ≠ t.myMac then (t.raiseLD 0x931 0 none).setFlag F.LAD_STATUS_ADDR_CONFLICT true else t
      if target = t.myIp ∧ sip ≠ t.myIp then
        let t := t.learnArp sip smac
        if request then t.emit 3 [port] (.arp false smac sip) else t
      else t
    | _, _ => t.rateDrop

def execArp (dt : Nat) (s : State) : Host.Outcome State Fault Refusal := s.answer (arp (s.pass dt))

/-- R346: cache entries age out after 60 s. -/
def arpAge (s : State) : State :=
  match s.ladder.arp.getLast? with
  | none => s
  | some (_, _, at_) =>
    if !s.live then s
    else
      let t := s.atLeast (at_ + 60 * second)
      t.modLadder (fun l => { l with arp := l.arp.filter (fun e => decide (t.clock < e.2.2 + 60 * second)) })

def execArpAge (s : State) : Host.Outcome State Fault Refusal := s.answer (arpAge s)

/-- R346, R357, R363: the oldest ICMP echo request taken in. -/
def icmpEcho (s : State) : State :=
  match s.takeRx (fun b => match b with | .icmp .. => true | _ => false) with
  | none => s
  | some ((_, _, f), t) =>
    match f.body with
    | .icmp h _ data =>
      if t.quarantined h.src then t.count R.LAD_QUAR_DROP
      else match t.sharedToken with
        | none => t.rateDrop
        | some t => t.emit 3 (t.portsOf h.src) (.icmpReply h.src data)
    | _ => t

def execIcmpEcho (dt : Nat) (s : State) : Host.Outcome State Fault Refusal := s.answer (icmpEcho (s.pass dt))

/-! ### Links (R345, R346, R373) -/

/-- PTP state codes of Table 12.8. -/
abbrev ptpListening : Nat := 1
abbrev ptpUncalibrated : Nat := 2
abbrev ptpSlave : Nat := 3
abbrev ptpMaster : Nat := 4

/-- R351, R353: the PTP clock changes. -/
def State.modPtp (s : State) (f : Ptp → Ptp) : State := s.modLadder (fun l => { l with ptp := f l.ptp })

/-- R346, R373: a port links at 1000 Mbit/s (`gig`) or 100 Mbit/s. -/
def linkUp (port : Fin 2) (gig : Bool) (s : State) : State :=
  if !s.live || !(port.val ∈ s.ports) || s.portUp port.val || !s.regBit R.CLK_POWER port.val then s
  else
    let t := (s.setRegBit R.LAD_PORT_STAT (2 * port.val) true).setRegBit R.LAD_PORT_STAT (2 * port.val + 1) gig
    let t := if gig then t else t.raiseLD 0x902 port.val none
    let t := t.emit 3 [port.val] (.arp true macBroadcast t.myIp)
    if t.fld F.LAD_PTP_STAT_STATE = 0 then
      (t.setFld F.LAD_PTP_STAT_STATE ptpListening).modPtp (fun p => { p with lastAnnounce := t.clock })
    else t

def execLinkUp (dt : Nat) (port : Fin 2) (gig : Bool) (s : State) : Host.Outcome State Fault Refusal :=
  s.answer (linkUp port gig (s.pass dt))

/-- Table 12.8: a port shows no link. -/
def State.linkDown (s : State) (port : Nat) : State :=
  (s.setRegBit R.LAD_PORT_STAT (2 * port) false).setRegBit R.LAD_PORT_STAT (2 * port + 1) false

/-- R373: a port that was up loses its link. -/
def linkLost (port : Fin 2) (s : State) : State :=
  if !s.live || !s.portUp port.val then s else (s.linkDown port.val).raiseLD 0x901 port.val none

def execLinkLost (dt : Nat) (port : Fin 2) (s : State) : Host.Outcome State Fault Refusal := s.answer (linkLost port (s.pass dt))

/-! ### PTP (R351 to R353) -/

/-- The module's clock identity: its MAC address, widened as IEEE 1588 has it. -/
def State.ptpId (s : State) : Nat := 0x0250D0FFFE * 2 ^ 24 + s.myMac.toNat % 2 ^ 24

/-- R351: the rank of the module's own clock. -/
def State.ownRank (s : State) : ClockRank := ⟨[128, 248, 0xFE, 0xFFFF, s.ladderDef.moduleNo, s.ptpId]⟩

/-- R351: one rank is better than another. -/
def rankBefore : List Nat → List Nat → Bool
  | [], _ => false
  | _, [] => false
  | a :: s, b :: t => decide (a < b) || (decide (a = b) && rankBefore s t)

/-- R353: the PTP clock is LOCKED or not. -/
def State.setLocked (s : State) (b : Bool) : State := (s.setFlag F.LAD_STATUS_PTP_LOCKED b).setFlag F.LAD_PTP_STAT_LOCKED b

/-- R353: lock is lost. -/
def State.ptpUnlock (s : State) : State :=
  let t := ((s.setLocked false).setFlag F.LAD_STATUS_LOCK_LOST true).raiseLD 0x911 0 none
  (t.setFld F.LAD_PTP_STAT_STATE ptpUncalibrated).modPtp (fun p => { p with good := 0, bad := 0 })

/-- R353: what a Sync says of the lock, by its offset. -/
def State.judgeOffset (s : State) (offset : Int) : State :=
  let off := clampInt (-(2 ^ 35)) (2 ^ 35 - 1) offset
  let t := s.setReg R.LAD_PTP_OFFSET (BitVec.ofInt 36 off)
  if s.ptpLocked then
    let bad := if 1000 < offset.natAbs then s.ladder.ptp.bad + 1 else 0
    if bad = 2 then t.ptpUnlock else t.modPtp (fun p => { p with bad := bad })
  else
    let good := if offset.natAbs ≤ 200 then s.ladder.ptp.good + 1 else 0
    if good = 16 then
      (((t.setLocked true).setFld F.LAD_PTP_STAT_STATE ptpSlave).modPtp (fun p => { p with good := 0, bad := 0 })).syncNote
    else t.modPtp (fun p => { p with good := good })

/-- R353: the map through a Sync that left its master at `ns` (corrected, path included) and arrived at clock instant `t2`,
and through the Sync before. -/
def PtpMap.update (m : PtpMap) (ns : Int) (t2 : Nat) : PtpMap :=
  if m.at_ < t2 ∧ m.ns < ns ∧ 0 < m.at_ then ⟨ns, t2, (ns - m.ns).toNat, t2 - m.at_⟩ else ⟨ns, t2, 2, 1⟩

/-- R351: after a Sync the module asks its delay. -/
def State.sendDelayReq (s : State) : State :=
  let n := (s.ladder.ptp.reqSeq + 1) % 2 ^ 16
  let t := s.modPtp (fun p => { p with reqSeq := n, reqAt := some s.clock })
  t.emit 0 t.ports (.ptp ⟨.delayReq, t.ladderDef.ptpDomain, t.ptpId, n, 0, 0, 0, ⟨[]⟩, 0⟩)

/-- R353: a Sync and its Follow_Up from the master followed. -/
def State.ptpUpdate (s : State) (t2 log : Nat) (m : PtpMsg) (corr : Int) : State :=
  let p := s.ladder.ptp
  let arrived := t2 / 4 * 4
  let ns := (m.time : Int) + corr + p.delay
  let offset := (p.map.at arrived : Int) - ns
  let t := s.judgeOffset offset
  let t := t.modPtp (fun p => { p with map := p.map.update ns arrived, lastSync := s.clock, interval := second / 2 ^ log })
  t.sendDelayReq

/-- R353 (PTP_SYNC): the oldest Follow_Up taken in, with its Sync. -/
def ptpSync (s : State) : State :=
  match s.takeRx (fun b => match b with | .ptp _ m => m.kind == .followUp | _ => false) with
  | none => s
  | some ((_, _, f), t) =>
    match f.body with
    | .ptp _ m =>
      let mine (b : Packet) : Bool := match b with | .ptp _ x => x.kind == .sync && decide (x.source = m.source) | _ => false
      let sync := t.ladder.rx.find? (fun e => mine e.2.2.body &&
        match e.2.2.body with | .ptp _ x => decide (x.seq = m.seq) | _ => false)
      let t := t.modLadder (fun l => { l with rx := l.rx.filter (fun e => !mine e.2.2.body) })
      match sync, t.ladder.ptp.master with
      | some (_, t2, g), some (src, _) =>
        match g.body with
        | .ptp _ x => if src = m.source ∧ t.fld F.LAD_PTP_STAT_STATE ≠ ptpMaster then t.ptpUpdate t2 x.log m (m.corr + x.corr) else t
        | _ => t
      | _, _ => t
    | _ => t

def execPtpSync (dt : Nat) (s : State) : Host.Outcome State Fault Refusal := s.answer (ptpSync (s.pass dt))

/-- R353: no Sync for three sync intervals. -/
def ptpSyncTimeout (s : State) : State :=
  if !s.live || !s.ptpLocked || decide (s.fld F.LAD_PTP_STAT_STATE ≠ ptpSlave) then s
  else (s.atLeast (s.ladder.ptp.lastSync + 3 * s.ladder.ptp.interval)).ptpUnlock

def execPtpSyncTimeout (s : State) : Host.Outcome State Fault Refusal := s.answer (ptpSyncTimeout s)

/-- R351: no Announce for three seconds frees the choice of a master. -/
def State.masterSilent (s : State) : Bool := decide (s.ladder.ptp.lastAnnounce + 3 * second ≤ s.clock)

/-- R351: an Announce: the best clock is followed. -/
def State.announce (s : State) (m : PtpMsg) : State :=
  let better := match s.ladder.ptp.master with
    | none => true
    | some (src, r) => decide (src = m.source) || rankBefore m.master.rank r.rank || s.masterSilent
  let follow := better && (decide (s.ladderDef.ptpRole = 0) || rankBefore m.master.rank s.ownRank.rank)
  if !follow then s
  else
    let t := if s.fld F.LAD_PTP_STAT_STATE = ptpMaster then s.ptpUnlock
      else if s.fld F.LAD_PTP_STAT_STATE = ptpSlave then s
      else s.setFld F.LAD_PTP_STAT_STATE ptpUncalibrated
    t.modPtp (fun p => { p with master := some (m.source, m.master), lastAnnounce := s.clock })

/-- R351: a Delay_Resp to the module's own Delay_Req gives the mean path delay. -/
def State.delayResp (s : State) (m : PtpMsg) : State :=
  match s.ladder.ptp.reqAt with
  | some t3 =>
    if m.answers = s.ptpId ∧ m.seq = s.ladder.ptp.reqSeq then
      let back := (m.time : Int) - m.corr - (s.ladder.ptp.map.at (t3 / 4 * 4) : Int)
      s.modPtp (fun p => { p with delay := roundDiv (p.delay + back) 2, reqAt := none })
    else s
  | none => s

/-- R351: a Delay_Req to the module as master, received at clock instant `at_`. -/
def State.delayReq (s : State) (at_ : Nat) (m : PtpMsg) : State :=
  if s.fld F.LAD_PTP_STAT_STATE ≠ ptpMaster then s
  else
    s.emit 3 s.ports (.ptp ⟨.delayResp, s.ladderDef.ptpDomain, s.ptpId, m.seq, s.ladder.ptp.map.at (at_ / 4 * 4), m.corr, m.source,
      ⟨[]⟩, 3⟩)

/-- R351 (PTP_MESSAGE): the oldest of the other PTP messages taken in. -/
def ptpMessage (s : State) : State :=
  match s.takeRx (fun b => match b with
      | .ptp _ m => m.kind == .announce || m.kind == .delayReq || m.kind == .delayResp || m.kind == .other
      | _ => false) with
  | none => s
  | some ((_, at_, f), t) =>
    match f.body with
    | .ptp _ m =>
      match m.kind with
      | .announce => t.announce m
      | .delayReq => t.delayReq at_ m
      | .delayResp => t.delayResp m
      | .sync | .followUp | .other => t
    | _ => t

def execPtpMessage (dt : Nat) (s : State) : Host.Outcome State Fault Refusal := s.answer (ptpMessage (s.pass dt))

/-- R351: the module becomes master. -/
def State.becomeMaster (s : State) : State :=
  let t := ((s.setLocked true).setFld F.LAD_PTP_STAT_STATE ptpMaster).setReg R.LAD_PTP_OFFSET 0
  (t.modPtp (fun p => { p with master := none, nextSync := t.clock, nextAnnounce := t.clock, good := 0, bad := 0 })).syncNote

/-- R351: a master sends a Sync with its Follow_Up, and an Announce, when they are due. -/
def State.masterSend (s : State) : State :=
  let p := s.ladder.ptp
  let d := s.ladderDef.ptpDomain
  let t := if p.nextSync ≤ s.clock then
      let n := (p.seq + 1) % 2 ^ 16
      let t := s.modPtp (fun p => { p with seq := n, nextSync := p.nextSync + second / 8 })
      let t := t.emit 0 t.ports (.ptp ⟨.sync, d, t.ptpId, n, 0, 0, 0, ⟨[]⟩, 3⟩)
      t.emit 3 t.ports (.ptp ⟨.followUp, d, t.ptpId, n, t.ladder.ptp.map.at (t.clock / 4 * 4), 0, 0, ⟨[]⟩, 3⟩)
    else s
  if p.nextAnnounce ≤ s.clock then
    let t := t.modPtp (fun p => { p with nextAnnounce := p.nextAnnounce + second })
    t.emit 3 t.ports (.ptp ⟨.announce, d, t.ptpId, 0, 0, 0, 0, t.ownRank, 0⟩)
  else t

/-- PTP_MASTER_SEND (R351): a clock of PTP_ROLE 1 that hears no better one is master and sends. -/
def ptpMasterSend (s : State) : State :=
  if !s.live || decide (s.ladderDef.ptpRole ≠ 1) || decide (s.fld F.LAD_PTP_STAT_STATE = 0) then s
  else if s.fld F.LAD_PTP_STAT_STATE = ptpMaster then
    (s.atLeast (min s.ladder.ptp.nextSync s.ladder.ptp.nextAnnounce)).masterSend
  else (s.atLeast (s.ladder.ptp.lastAnnounce + 3 * second)).becomeMaster.masterSend

def execPtpMasterSend (s : State) : Host.Outcome State Fault Refusal := s.answer (ptpMasterSend s)

/-- PTP_SEC_READ (Table 12.9): the read of LAD.PTP_SEC latches PTP_NS. -/
def ptpSecRead (s : State) : State :=
  (s.setReg R.LAD_PTP_SEC (BitVec.ofNat 36 (s.ptpNow / 1000000000))).setFld F.LAD_PTP_NS_NS (s.ptpNow % 1000000000)

def execPtpSecRead (dt : Nat) (_ : Req) (s : State) : Host.Outcome State Fault Refusal :=
  let t := s.pass dt
  s.answer (if t.reach 6 then ptpSecRead t else t)

end Sys2Proof.Machine
end

