-- ==== Sys2Proof/Machine/Stock.lean ====
section
/-! DEFINITION. The Stocktake (R38 to R41) and the wrap of the module timestamp (R18, R42). -/

namespace Sys2Proof.Machine

open Sys2Proof

/-- R38, R39, R40: a request for a capture at instant `t` of the model's clock, from `source` (Table 2.14). The answer
says whether it was accepted. -/
def State.scheduleStock (s : State) (t source : Nat) : State × Bool :=
  if s.flag F.SYS_STOCK_DONE_PENDING then (s.setFlag F.SYS_STATUS_STOCK_REFUSED true, false)
  else
    let u := (s.setReg R.SYS_STOCK_AT (s.stamp t)).setReg R.SYS_STOCK_DONE (BitVec.ofNat 36 (source * 16 + 2))
    (u.modStock (fun k => { k with due := t, caught := none }), true)

/-- Table 2.14: the origin of a register write. -/
def stockSource : Req → Nat | .hp => 1 | .ladder => 2

/-- STOCKTAKE (R38): a write of any value to SYS.STOCKTAKE. -/
def stocktake (req : Req) (s : State) : State :=
  if s.reach 0 then (s.scheduleStock (s.clock + 4000) (stockSource req)).1 else s

def execStocktake (dt : Nat) (req : Req) (_ : Word) (s : State) : Host.Outcome State Fault Refusal :=
  s.answer (stocktake req (s.pass dt))

/-- The holding registers of a block's table with the counters they copy: pairs of offsets. -/
def holdingPairs (b : BlockSpec) : List (Nat × Nat) :=
  b.regs.flatMap (fun r =>
    match r.kind with
    | .holding src => (List.range r.cnt).map (fun i => (r.off + i * r.stride, src + i * r.stride))
    | _ => [])

/-- R38: every counter of block `blk` goes into its holding register. -/
def State.captureBlock (s : State) (blk : Nat) : State :=
  match blockTable.find? (fun b => decide (b.num ≤ blk) && decide (blk < b.num + b.inst)) with
  | none => s
  | some b => s.forEach (holdingPairs b) (fun p t => t.setReg (blk * 512 + p.1) (s.reg (blk * 512 + p.2)))

/-- The implemented blocks that lie on LD, and those on a GD die that captures. -/
def State.captured (s : State) (c : Bool × Bool) : List Nat :=
  (List.range 64).filter (fun b => s.implemented b &&
    match blockDie b with
    | none => true
    | some d => if d = 0 then c.1 else c.2)

/-- STOCKTAKE_CAPTURE (R38, R40): at T, LD and every GD die that the order has reached copy their counters. The flags
say of each die that it captures and that its confirmation will come; a die whose link is lost does neither. -/
def stocktakeCapture (gd0 gd1 : Bool) (s : State) : State :=
  if !s.live || !s.flag F.SYS_STOCK_DONE_PENDING || s.stock.caught.isSome then s
  else
    let t := s.atLeast s.stock.due
    let c := (gd0 && !(t.dies[0]).linkLost, gd1 && t.hasDie 1 && !(t.dies[1]).linkLost)
    ((t.forEach (t.captured c) (fun b t => t.captureBlock b)).setReg R.SYS_TIME_H (t.stamp t.stock.due)).modStock
      (fun k => { k with caught := some c })

def execStocktakeCapture (gd0 gd1 : Bool) (s : State) : Host.Outcome State Fault Refusal :=
  s.answer (stocktakeCapture gd0 gd1 s)

/-- STOCKTAKE_CONFIRM (R40): every present die has confirmed. -/
def stocktakeConfirm (s : State) : State :=
  match s.stock.caught with
  | none => s
  | some (a, b) =>
    if s.live && s.flag F.SYS_STOCK_DONE_PENDING && a && (b || !s.hasDie 1) then
      (s.setFlag F.SYS_STOCK_DONE_DONE true).setFlag F.SYS_STOCK_DONE_PENDING false
    else s

def execStocktakeConfirm (dt : Nat) (s : State) : Host.Outcome State Fault Refusal := s.answer (stocktakeConfirm (s.pass dt))

/-- STOCKTAKE_MISSING (R40): at T + 20 µs a die has not confirmed. -/
def stocktakeMissing (s : State) : State :=
  match s.stock.caught with
  | none => s
  | some (a, b) =>
    if !s.live || !s.flag F.SYS_STOCK_DONE_PENDING || (a && (b || !s.hasDie 1)) then s
    else
      let t := s.atLeast (s.stock.due + 20 * usec)
      let t := (t.setFlag F.SYS_STOCK_DONE_MISSING_GD0 !a).setFlag F.SYS_STOCK_DONE_MISSING_GD1 (!b && t.hasDie 1)
      (t.setFlag F.SYS_STOCK_DONE_DONE true).setFlag F.SYS_STOCK_DONE_PENDING false

def execStocktakeMissing (s : State) : Host.Outcome State Fault Refusal := s.answer (stocktakeMissing s)

/-- R40: a read of a holding register stalls now. -/
def State.stockHolds (s : State) : Bool :=
  s.flag F.SYS_STOCK_DONE_PENDING && decide (s.stock.due ≤ s.clock + 8 * usec)

/-- TIMESTAMP_WRAP (R18, R42): 2^36 PCLK after the time base or the wrap before it the timestamp goes to 0. -/
def timestampWrap (s : State) : State :=
  if !s.live then s
  else
    let t := s.atLeast (max s.stock.wrapAt s.tsBase + 2 ^ 36)
    (t.setFlag F.SYS_STATUS_TS_WRAP true).modStock (fun k => { k with wrapAt := max k.wrapAt s.tsBase + 2 ^ 36 })

def execTimestampWrap (s : State) : Host.Outcome State Fault Refusal := s.answer (timestampWrap s)

end Sys2Proof.Machine
end

