-- ==== Sys2Proof/Machine/Session.lean ====
section
/-! DEFINITION. Ladder frames, sessions, partners, and the messages that touch no register (R354 to R374). -/

namespace Sys2Proof.Machine

open Sys2Proof

/-! ### The end of a session (R361, R371) -/

/-- R371: the named partner of a slot stops being present. -/
def State.partnerGone (s : State) (slot : Nat) : State :=
  match s.session slot with
  | none => s
  | some e =>
    let t := ((s.modSession slot (fun e => { e with present := false })).setFlag F.LAD_STATUS_PARTNER_LOST true).raiseLD 0x921 slot none
    if bitOf (t.fld F.PLN_EXEC_GROUP) e.moduleNo && t.planOn then t.partnerLost e.moduleNo else t

/-- R361: the session of a slot ends. -/
def State.dropSession (s : State) (slot : Nat) : State :=
  let t := match s.session slot with
    | some e => if e.present then s.partnerGone slot else s
    | none => s
  t.modLadder (fun l => { l with slots := l.slots.set slot none })

/-- R362: sessions whose own sequence numbers are spent end. -/
def State.dropSpent (s : State) : State :=
  s.forEach (List.range 16) (fun i t =>
    match t.session i with
    | some e => if 2 ^ 48 - 1 ≤ e.sent then t.dropSession i else t
    | none => t)

/-! ### Frames (R355, R357, R358) -/

/-- Table 12.1: the header of a frame. -/
structure Header where
  ver : Nat
  resp : Bool
  auth : Bool
  typ : Nat
  seq : Nat
  words : Nat
  status : Nat
  arg : Nat
  /-- No reserved bit is set, and a request has STATUS and WRAP 0. -/
  clean : Bool
  deriving DecidableEq, Repr

/-- Table 12.1: the header of a payload of at least 16 bytes. -/
def headerOf (l : List Nat) : Header :=
  let b0 := l.getD 0 0
  let w := beNat ((l.drop 8).take 2)
  let resp := bitOf b0 3
  let status := l.getD 10 0
  let last := l.getD 11 0
  { ver := b0 / 16, resp := resp, auth := bitOf b0 2, typ := l.getD 1 0, seq := beNat ((l.drop 2).take 6), words := w % 512,
    status := status, arg := beNat ((l.drop 12).take 4)
    clean := decide (b0 % 4 = 0) && decide (w < 512) && decide (last < 2) && (resp || (decide (status = 0) && decide (last = 0))) }

/-- R355: bytes of a body of `w` words. -/
def packedLen (w : Nat) : Nat := 9 * ((w + 1) / 2)

/-- R355, R357 step 4: the payload has a header, and its length agrees with it. -/
def lengthAgrees (l : List Nat) (h : Header) : Bool :=
  let fixed := 16 + 16 * bit h.auth
  let body := l.length - fixed
  decide (fixed ≤ l.length) && decide (h.words ≤ 320) &&
    (decide (body = packedLen h.words) || (!h.resp && (h.typ == 3 || h.typ == 5) && decide (body = 0)) ||
      (!h.resp && decide (h.typ = 1) && decide (body = 16)) || (h.resp && decide (h.typ = 1) && decide (body = 50)))

/-- R354: two words hold an instant. -/
def instantFits (b : Word) : Bool := decide (b.toNat < 1000000000)

/-- R368: word 1 of a STREAM record. -/
def streamAxisFits (w : Word) : Bool := decide (w.toNat % 2 ^ 33 = 0)

/-- R358, Table 12.2: ARG, WORDS and body of a request fit its type. -/
def typeFits (typ arg words : Nat) (body : List Nat) : Bool :=
  let ws := (unpackWords ((words + 1) / 2) body)
  let padOk := decide (body.length = packedLen words) && (decide (words % 2 = 0) || ws.getD words 0 == 0)
  let many := decide (1 ≤ words) && decide (words ≤ 320)
  match typ with
  | 1 => decide (arg = 0) && decide (words = 0) && decide (body.length = 16)
  | 2 => decide (arg = 0) && decide (words = 0) && decide (body = [])
  | 3 => decide (arg < 2 ^ 16) && many && decide (body = [])
  | 4 => decide (arg < 2 ^ 16) && many && padOk
  | 5 => !bitOf arg 30 && many && decide (body = [])
  | 6 => !bitOf arg 30 && many && padOk
  | 7 =>
    decide (arg = 0) && padOk && decide (5 ≤ words) && decide (words ≤ 26) && decide (words % 3 = 2) &&
      instantFits (ws.getD 1 0) && (List.range ((words - 2) / 3)).all (fun i => streamAxisFits (ws.getD (2 + 3 * i) 0))
  | 8 => decide (arg = 0) && padOk && decide (words = 3) && decide ((ws.getD 0 0).toNat < 2 ^ 24) && instantFits (ws.getD 2 0)
  | 9 =>
    let w := (ws.getD 0 0).toNat
    decide (arg = 0) && padOk &&
      ((decide (words = 1) && decide (w < 2 ^ 16)) ||
        (decide (words = 3) && decide (1 ≤ w / 2 ^ 32) && decide (w / 2 ^ 32 ≤ 3) && decide (w % 2 ^ 32 < 2 ^ 20) &&
          instantFits (ws.getD 2 0)))
  | 10 => decide (arg = 0) && padOk && decide (words = 2) && instantFits (ws.getD 1 0)
  | _ => false

/-- R358: a frame that has passed step 5 is malformed. -/
def malformed (h : Header) (body : List Nat) : Bool :=
  !h.clean || (decide (h.typ = 1) && h.auth) ||
    (if h.resp then decide (h.typ ≠ 1) else !typeFits h.typ h.arg h.words body)

/-- R356: the types whose requests are answered in a session. -/
def answered (typ : Nat) : Bool := [2, 3, 4, 5, 6, 10].contains typ

/-- R365: the types that the transaction queue holds. -/
def queuedType (typ : Nat) : Bool := [3, 4, 5, 6, 10].contains typ

/-- R355, R356, R360: a response to a message, if its session still stands. -/
def State.respond (s : State) (m : Msg) (status : Nat) (wrap : Bool) (ws : List Word) : State :=
  match m.slot.bind (fun i => s.session i) with
  | none => s
  | some e =>
    if e.ip ≠ m.ip ∨ e.port ≠ m.port then s
    else
      let f := frameBytes true true m.typ m.seq ws.length status wrap 0 (packWords ws)
      s.sendTo 3 e.ip e.port (f ++ tagOf e.keyOut s.myIp e.ip s.ladderDef.udpPort e.port.toNat f)

/-! ### Slots (R361) -/

/-- The valid session of a source. -/
def State.sessionOf (s : State) (ip : BitVec 32) (port : BitVec 16) : Option Nat :=
  (List.range 16).find? (fun i => match s.session i with | some e => e.ip == ip && e.port == port | none => false)

/-- R361: the slot of a named partner. -/
def State.partnerSlot (s : State) (ip : BitVec 32) (port : BitVec 16) : Option Nat :=
  s.ladderDef.partners.findIdx? (fun p => decide (p.1 = ip.toNat) && decide (p.2 = port.toNat))

/-- The unnamed slot that has been idle longest, and since when. -/
def State.idlest (s : State) : Option (Nat × Nat) :=
  ((List.range 16).filter (fun i => !s.namedSlot i)).foldl (fun (best : Option (Nat × Nat)) i =>
    match s.session i, best with
    | some e, some (j, t) => if e.heard < t then some (i, e.heard) else some (j, t)
    | some e, none => some (i, e.heard)
    | none, b => b) none

/-- R361: the slot that a session from a source takes. -/
def State.slotFor (s : State) (ip : BitVec 32) (port : BitVec 16) : Option Nat :=
  match s.partnerSlot ip port with
  | some i => some i
  | none =>
    match s.sessionOf ip port with
    | some i => some i
    | none =>
      match (List.range 16).find? (fun i => !s.namedSlot i && (s.session i).isNone) with
      | some i => some i
      | none =>
        match s.idlest with
        | some (i, t) => if t + 60 * second ≤ s.clock then some i else none
        | none => none

/-! ### Step 5 of R357: tags, replay, quarantine -/

/-- R362: what H and the window become when a frame with SEQ `q` is accepted; none for a replay. -/
def windowTake (high seen q : Nat) : Option (Nat × Nat) :=
  if high < q then some (q, if q - high < 64 then (seen * 2 ^ (q - high) + 1) % 2 ^ 64 else 1)
  else if high - q ≤ 63 ∧ !bitOf seen (high - q) then some (high, seen + 2 ^ (high - q))
  else none

/-- R364: an address is quarantined: its sessions end. -/
def State.quarantine (s : State) (ip : BitVec 32) : State :=
  let until_ := s.clock + max 1 (s.fld F.LAD_CFG_QUAR_TIME) * second
  let t := s.modLadder (fun l =>
    let old := l.quar.filter (fun e => decide (s.clock < e.2))
    let first := old.foldl (fun m e => min m e.2) until_
    let kept := if old.length < 16 then old else old.eraseP (fun e => decide (e.2 = first))
    { l with
      quar := (ip, until_) :: kept, bad := l.bad.filter (fun e => e.1 ≠ ip)
      pendings := l.pendings.filter (fun e => e.ip ≠ ip) })
  let t := t.forEach (List.range 16) (fun i t =>
    match t.session i with | some e => if e.ip = ip then t.dropSession i else t | none => t)
  (t.setFlag F.LAD_STATUS_QUARANTINE true).raiseLD 0x922 0 none

/-- R364: a frame fails step 5. -/
def State.badFrame (s : State) (ip : BitVec 32) : State :=
  let t := s.modLadder (fun l => { l with
    bad := (ip, s.clock) :: l.bad.filter (fun e => decide (s.clock < e.2 + 10 * second)) })
  if 16 ≤ (t.ladder.bad.filter (fun e => e.1 == ip)).length then t.quarantine ip else t

/-- R357 step 5: authentication fails. -/
def State.authFail (s : State) (ip : BitVec 32) : State := (s.count R.LAD_AUTH_FAIL).badFrame ip

/-- R359: the tag of a frame verifies under a key. -/
def tagOk (key : BitVec 256) (src dst : BitVec 32) (sport dport : Nat) (l : List Nat) : Bool :=
  decide (tagOf key src dst sport dport (l.take (l.length - 16)) = l.drop (l.length - 16))

/-- R361, R359: a pending session becomes valid in its slot. -/
def State.validate (s : State) (slot : Nat) (e : Session) : State :=
  let named := s.namedSlot slot
  s.modLadder (fun l => { l with
    pendings := l.pendings.filter (fun p => p ≠ e)
    slots := l.slots.set slot (some { e with
      since := s.clock, heard := s.clock, present := named, tokens := 256 * second, tokenAt := s.clock
      moduleNo := if named then (Config.partnerModule e.ip e.port).toNat else 0 }) })

/-- R371: an authenticated frame has arrived in a session. -/
def State.heardFrom (s : State) (slot : Nat) : State :=
  s.modSession slot (fun e => { e with heard := s.clock, present := s.namedSlot slot })

/-- R362: the SEQ of an authenticated frame of a session: accepted or not. -/
def State.takeSeq (s : State) (slot : Nat) (ip : BitVec 32) (h : Header) : State × Bool :=
  match s.session slot with
  | none => (s, false)
  | some e =>
    if h.resp then (s, true)
    else if h.seq = 0 then ((s.dropSession slot).count R.LAD_REPLAY |>.badFrame ip, false)
    else match windowTake e.high e.seen h.seq with
      | none => ((s.count R.LAD_REPLAY).badFrame ip, false)
      | some (hi, seen) => (s.modSession slot (fun e => { e with high := hi, seen := seen }), true)

/-- R357 step 5 for a frame with AUTH: the slot of its session, if it passes. -/
def State.authenticate (s : State) (ip dst : BitVec 32) (sport : BitVec 16) (l : List Nat) (h : Header) : State × Option Nat :=
  let ok (e : Session) : Bool := tagOk e.keyIn ip dst sport.toNat s.ladderDef.udpPort l
  let valid := (s.sessionOf ip sport).filter (fun i => (s.session i).any ok)
  match valid with
  | some i =>
    let (t, good) := s.takeSeq i ip h
    if good then (t.heardFrom i, some i) else (t, none)
  | none =>
    match s.ladder.pendings.find? (fun e => e.ip == ip && e.port == sport && decide (s.clock < e.since + second) && ok e) with
    | none => (s.authFail ip, none)
    | some e =>
      match s.slotFor ip sport with
      | none => (s.authFail ip, none)
      | some i =>
        let (t, good) := (s.validate i e).takeSeq i ip h
        if good then (t, some i) else (t, none)

/-- R357 step 3, R363: a Ladder frame takes a token of its session's bucket or of the shared one. -/
def State.frameToken (s : State) (ip : BitVec 32) (sport : BitVec 16) : Option State :=
  match s.sessionOf ip sport with
  | none => s.sharedToken
  | some i =>
    match s.session i with
    | none => s.sharedToken
    | some e =>
      let rate := max 1000 (min 200000 (s.fld F.LAD_RATE_PARTNER_RATE))
      (bucketTake rate 256 s.clock (e.tokens, e.tokenAt)).map (fun b =>
        s.modSession i (fun e => { e with tokens := b.1, tokenAt := b.2 }))

/-- R358, R365: a frame that passed step 5 goes to its type. -/
def State.typed (s : State) (m : Msg) (h : Header) : State :=
  if malformed h m.body then
    let t := s.count R.LAD_MALFORMED
    if h.auth && answered h.typ then t.respond m 1 false [] else t
  else if queuedType h.typ then
    if s.ladder.txns.length < 16 then s.modLadder (fun l => { l with txns := l.txns ++ [m] }) else s.respond m 2 false []
  else s.modLadder (fun l => { l with msgs := l.msgs ++ [m] })

/-- R357, steps 2 to 6. -/
def State.receive (s : State) (ip dst : BitVec 32) (sport : BitVec 16) (l : List Nat) : State :=
  if s.quarantined ip then s.count R.LAD_QUAR_DROP
  else match s.frameToken ip sport with
    | none => s.rateDrop
    | some t =>
      let h := headerOf l
      if l.length < 16 ∨ h.ver ≠ 1 ∨ !lengthAgrees l h then t.count R.LAD_MALFORMED
      else
        let body := (l.drop 16).take (l.length - 16 - 16 * bit h.auth)
        let msg (slot : Option Nat) : Msg := ⟨ip, sport, slot, h.typ, h.resp, h.seq, h.arg, h.words, body, h.status, t.clock⟩
        if h.auth then
          match t.authenticate ip dst sport l h with
          | (t, none) => t
          | (t, some i) =>
            let t := t.typed (msg (some i)) h
            if h.seq = 2 ^ 48 - 1 ∧ !h.resp then t.dropSession i else t
        else if h.typ = 1 then t.typed (msg none) h
        else t.authFail ip

/-- LADDER_FRAME (R357): the oldest Ladder datagram taken in. -/
def ladderFrame (s : State) : State :=
  match s.takeRx (fun b => match b with | .udp .. => true | _ => false) with
  | none => s
  | some ((_, _, f), t) =>
    match f.body with
    | .udp ip sport _ _ payload => (t.receive ip.src ip.dst sport (payload.map (fun (b : Byte) => b.toNat))).dropSpent
    | _ => t

def execLadderFrame (dt : Nat) (s : State) : Host.Outcome State Fault Refusal := s.answer (ladderFrame (s.pass dt))

/-! ### DISCOVER (R359, R361) -/

/-- The oldest message of a type, request or response, leaves the queue. -/
def State.takeMsg (s : State) (typ : Nat) (resp : Bool) : Option (Msg × State) :=
  let p (m : Msg) : Bool := decide (m.typ = typ) && m.resp == resp
  match s.ladder.msgs.find? p with
  | none => none
  | some m => some (m, s.modLadder (fun l => { l with msgs := l.msgs.eraseP p }))

/-- The ASCII bytes of the labels of R359. -/
def labelProof : List Nat := [0x4C, 0x41, 0x44, 0x44, 0x45, 0x52, 0x2D, 0x50, 0x52, 0x4F, 0x4F, 0x46]
def labelIr : List Nat := [0x4C, 0x41, 0x44, 0x44, 0x45, 0x52, 0x2D, 0x49, 0x52]
def labelRi : List Nat := [0x4C, 0x41, 0x44, 0x44, 0x45, 0x52, 0x2D, 0x52, 0x49]

/-- R359: a key of a session. -/
def State.sessionKey (s : State) (label ni nr : List Nat) : BitVec 256 :=
  BitVec.ofNat 256 (beNat (hmac s.siteKey (label ++ ni ++ nr)))

/-- R359: the four words of a DISCOVER response. -/
def State.discoverWords (s : State) : List Word :=
  [s.reg R.SYS_ID, s.reg R.SYS_SERIAL_LO, s.reg R.SYS_SERIAL_HI,
    BitVec.ofNat 36 (s.ladderDef.moduleNo + 4 + 8 * bit (decide (s.power ≠ .bare) && s.inv.any (fun v => v.for8836)))]

/-- R359: the PROOF of a DISCOVER response. -/
def State.proof (s : State) (ni nr ws : List Nat) : List Nat := (hmac s.siteKey (labelProof ++ ni ++ nr ++ ws)).take 16

/-- R359: a fresh nonce, as bytes. -/
def State.draw (s : State) : State × List Nat :=
  (s.modLadder (fun l => { l with drawn := l.drawn + 1 }), beBytes 16 (Config.nonce s.ladder.drawn).toNat)

/-- DISCOVER (R359): the oldest DISCOVER that waits. -/
def discover (s : State) : State :=
  match s.takeMsg 1 false with
  | none => s
  | some (m, t) =>
    let t := t.modLadder (fun l => { l with pendings := l.pendings.filter (fun e => decide (t.clock < e.since + second)) })
    if 4 ≤ t.ladder.pendings.length ∨ (t.slotFor m.ip m.port).isNone then
      t.sendTo 3 m.ip m.port (frameBytes true false 1 m.seq 0 4 false 0 [])
    else
      let (t, nr) := t.draw
      let ws := packWords t.discoverWords
      let e : Session := {
        ip := m.ip, port := m.port, keyIn := t.sessionKey labelIr m.body nr
        keyOut := t.sessionKey labelRi m.body nr, since := t.clock, heard := t.clock, present := false, high := 0, seen := 0
        sent := 0, tokens := 0, tokenAt := t.clock, isModule := false, moduleNo := 0 }
      let t := t.modLadder (fun l => { l with pendings := l.pendings ++ [e] })
      t.sendTo 3 m.ip m.port (frameBytes true false 1 m.seq 4 0 false 0 (nr ++ ws ++ t.proof m.body nr ws))

def execDiscover (dt : Nat) (s : State) : Host.Outcome State Fault Refusal := s.answer (discover (s.pass dt))

/-- DISCOVER_RESPONSE (R359, R361): the oldest response to a DISCOVER of the module. -/
def discoverResponse (s : State) : State :=
  match s.takeMsg 1 true with
  | none => s
  | some (m, t) =>
    match (t.partnerSlot m.ip m.port).bind (fun i => t.ladder.asked.find? (fun a => decide (a.1 = i))) with
    | none => t
    | some (i, n) =>
      let ni := beBytes 16 n
      let nr := m.body.take 16
      let ws := (m.body.drop 16).take 18
      if m.status ≠ 0 ∨ m.body.length ≠ 50 ∨ m.body.drop 34 ≠ t.proof ni nr ws then t
      else
        let info := (unpackWords 2 ws).getD 3 0
        let e : Session := {
        ip := m.ip, port := m.port, keyIn := t.sessionKey labelRi ni nr
        keyOut := t.sessionKey labelIr ni nr, since := t.clock, heard := t.clock, present := false, high := 0, seen := 0
        sent := 0, tokens := 256 * second, tokenAt := t.clock, isModule := bitOf info.toNat 2, moduleNo := info.toNat % 4 }
        let t := t.modLadder (fun l => { l with
          asked := l.asked.filter (fun a => a.1 ≠ i), slots := l.slots.set i (some e) })
        t.sendHeartbeat i

def execDiscoverResponse (dt : Nat) (s : State) : Host.Outcome State Fault Refusal := s.answer (discoverResponse (s.pass dt))

/-- R361: the named partners that the module asks: their slots. -/
def State.toAsk (s : State) : List Nat :=
  (List.range (min 16 s.ladderDef.partners.length)).filter (fun i =>
    decide (s.myIp.toNat < (s.ladderDef.partners.getD i (0, 0)).1) && (s.session i).isNone)

/-- PARTNER_DISCOVER (R361). -/
def partnerDiscover (s : State) : State :=
  if !s.live || decide (s.toAsk = []) then s
  else
    let t := s.atLeast s.ladder.askedAt
    let t := t.modLadder (fun l => { l with askedAt := t.clock + second, asked := [] })
    t.forEach t.toAsk (fun i t =>
      let p := t.ladderDef.partners.getD i (0, 0)
      let (t, ni) := t.draw
      let t := t.modLadder (fun l => { l with asked := l.asked ++ [(i, beNat ni)] })
      t.sendTo 3 (BitVec.ofNat 32 p.1) (BitVec.ofNat 16 p.2) (frameBytes false false 1 t.ladder.drawn 0 0 false 0 ni))

def execPartnerDiscover (s : State) : Host.Outcome State Fault Refusal := s.answer (partnerDiscover s)

/-- SESSION_EXPIRY (R359): the oldest pending session expires. -/
def sessionExpiry (s : State) : State :=
  match s.ladder.pendings.head? with
  | none => s
  | some e =>
    let t := s.atLeast (e.since + second)
    t.modLadder (fun l => { l with pendings := l.pendings.filter (fun e => decide (t.clock < e.since + second)) })

def execSessionExpiry (s : State) : Host.Outcome State Fault Refusal := s.answer (sessionExpiry s)

/-! ### STATUS (R359) -/

/-- R359: the words of a STATUS response. -/
def State.statusWords (s : State) : List Word :=
  [s.reg R.SYS_ID, s.reg R.SYS_STATUS, s.reg R.SYS_REPLACE_WHY, s.now, s.reg R.LAD_PTP_STAT, s.reg R.PLN_EXEC] ++
    axisIds.map (fun n => if s.planned n.val then s.reg (R.AX_STATE n) else 0)

/-- STATUS (R359): the oldest STATUS request. -/
def status (s : State) : State :=
  match s.takeMsg 2 false with
  | none => s
  | some (m, t) => t.respond m 0 false t.statusWords

def execStatus (dt : Nat) (s : State) : Host.Outcome State Fault Refusal := s.answer (status (s.pass dt))

/-! ### Partners (R370, R371) -/

/-- R371: PARTNER_TIMEOUT, PCLK. -/
def State.partnerTimeout (s : State) : Nat := max 4 (s.fld F.LAD_CFG_PARTNER_TIMEOUT) * msec

/-- The named partners with a valid session. -/
def State.namedValid (s : State) : List Nat := (List.range 16).filter (fun i => s.namedSlot i && (s.session i).isSome)

/-- HEARTBEAT (R370). -/
def heartbeat (s : State) : State :=
  if s.namedValid = [] then s
  else
    let t := s.atLeast s.ladder.heartAt
    let t := t.modLadder (fun l => { l with heartAt := t.clock + t.partnerTimeout / 4 })
    (t.forEach t.namedValid (fun i t => t.sendHeartbeat i)).dropSpent

def execHeartbeat (s : State) : Host.Outcome State Fault Refusal := s.answer (heartbeat s)

/-- PARTNER_ABSENT (R371): the partner of a slot has been silent for PARTNER_TIMEOUT. -/
def partnerAbsent (slot : Fin 16) (s : State) : State :=
  match s.session slot.val with
  | none => s
  | some e => if e.present then (s.atLeast (e.heard + s.partnerTimeout)).partnerGone slot.val else s

def execPartnerAbsent (slot : Fin 16) (s : State) : Host.Outcome State Fault Refusal := s.answer (partnerAbsent slot s)

/-- QUARANTINE_EXPIRY (R364): the quarantine closest to its end lapses. -/
def quarantineExpiry (s : State) : State :=
  match s.ladder.quar with
  | [] => s
  | e :: rest =>
    let t := s.atLeast (rest.foldl (fun m e => min m e.2) e.2)
    t.modLadder (fun l => { l with quar := l.quar.filter (fun e => decide (t.clock < e.2)) })

def execQuarantineExpiry (s : State) : Host.Outcome State Fault Refusal := s.answer (quarantineExpiry s)

/-! ### STREAM, SYNC_ARM, EVENT (R368 to R370, R317, R319) -/

/-- R353: the clock instant of a PTP instant. -/
def State.instantAt (s : State) (a b : Word) : Option Int := (instantOf s.ptpNow a b).map (fun ns => s.ladder.ptp.map.edge ns)

/-- R368: the records of a STREAM: axis, position, velocity. -/
def streamRecs : List Word → List (AxisId × Int × Int)
  | a :: p :: v :: t => (Fin.ofNat 8 (a.toNat / 2 ^ 33), p.toInt, v.toInt) :: streamRecs t
  | _ => []

/-- R368, R319: one record of a STREAM, for clock instant `at_`. -/
def State.streamRec (s : State) (who : BitVec 32 × BitVec 16) (at_ : Int) (r : AxisId × Int × Int) : State :=
  let n := r.1
  let owner := (s.ladder.owners.getD n.val none)
  if s.axisOn n && owner.any (fun o => o ≠ who) then s.count R.LAD_STREAM_REJECT
  else
    let t := if s.axisOn n then s.modLadder (fun l => { l with owners := l.owners.set n.val (some who) }) else s
    if at_ < (s.clock : Int) - 50000 then t.count R.PLN_LATE_SP_COUNT
    else t.modPlan (fun p => { p with points := p.points ++ [(n.val, at_.toNat, r.2.1, r.2.2)] })

/-- STREAM (R368): the oldest STREAM frame. -/
def stream (s : State) : State :=
  match s.takeMsg 7 false with
  | none => s
  | some (m, t) =>
    let ws := (unpackWords ((m.words + 1) / 2) m.body).take m.words
    let recs := streamRecs (ws.drop 2)
    let foreign := recs.any (fun r => !(t.axisRec r.1.val).any (fun a => decide (a.source = 2)))
    match (if t.ptpLocked && !foreign then t.instantAt (ws.getD 0 0) (ws.getD 1 0) else none) with
    | none => t.count R.LAD_STREAM_REJECT
    | some at_ => t.forEach recs (fun r t => t.streamRec (m.ip, m.port) at_ r)

def execStream (dt : Nat) (s : State) : Host.Outcome State Fault Refusal := s.answer (stream (s.pass dt))

/-- The module number of the partner that sent a message. -/
def State.senderModule (s : State) (m : Msg) : Option Nat :=
  m.slot.bind (fun i => (s.session i).bind (fun e => if e.isModule || s.namedSlot i then some e.moduleNo else none))

/-- SYNC_ARM (R369): the oldest SYNC_ARM: held for its SYNC_ID. -/
def syncArm (s : State) : State :=
  match s.takeMsg 8 false with
  | none => s
  | some (m, t) =>
    let ws := unpackWords 2 m.body
    let w := (ws.getD 0 0).toNat
    match t.senderModule m, instantOf t.ptpNow (ws.getD 1 0) (ws.getD 2 0) with
    | some n, some ns =>
      let h : ArmHeld := ⟨n, w % 2 ^ 16, bitsOf w 19 16, bitsOf w 23 20, ns⟩
      (t.modPlan (fun p => { p with held := h :: p.held.filter (fun x => x.module ≠ n) })).syncSet
    | _, _ => t

def execSyncArm (dt : Nat) (s : State) : Host.Outcome State Fault Refusal := s.answer (syncArm (s.pass dt))

/-- R317: what a HOLD (1), RESUME (2) or RESUME_STOP (3) for PTP instant `ns` does in a group. -/
def State.groupEvent (s : State) (kind modules sender ns : Nat) : State :=
  let mine := bitOf modules s.ladderDef.moduleNo
  if !mine then s
  else if kind = 2 ∧ !s.planOn then s.newEvent 3 modules ns
  else if !s.planOn ∨ s.fld F.PLN_EXEC_GROUP = 0 then s
  else if kind = 1 then s.modPlan (fun p => { p with groupAt := some (ns, false) })
  else if kind = 2 then s.modPlan (fun p => { p with groupAt := some (ns, true) })
  else
    (((s.setFlag F.PLN_STATUS_PARTNER_LOST true).raiseLD 0x743 sender none).modPlan (fun p => { p with
      groupAt := none, groupHold := true })).setFlag F.PLN_STATUS_GROUP_HOLD true |>.planShow

/-- EVENT (R370): the oldest EVENT, acted on once per sender and EVENT_ID. -/
def event (s : State) : State :=
  match s.takeMsg 9 false with
  | none => s
  | some (m, t) =>
    let ws := unpackWords ((m.words + 1) / 2) m.body
    let w := (ws.getD 0 0).toNat
    let id := w % 2 ^ 16
    if t.ladder.acted.any (fun a => a.1 == m.ip && decide (a.2 = id)) then t
    else
      let t := t.modLadder (fun l => { l with acted := ((m.ip, id) :: l.acted).take 256 })
      match t.senderModule m, instantOf t.ptpNow (ws.getD 1 0) (ws.getD 2 0) with
      | some n, some ns => if w / 2 ^ 32 = 0 then t else t.groupEvent (w / 2 ^ 32) (bitsOf w 19 16) n ns
      | _, _ => t

def execEvent (dt : Nat) (s : State) : Host.Outcome State Fault Refusal := s.answer (event (s.pass dt))

/-- EVENT_REPEAT (R370): the group event whose next sending is due first. -/
def eventRepeat (s : State) : State :=
  match s.ladder.events with
  | [] => s
  | e :: rest =>
    let e := rest.foldl (fun (m e : EventOut) => if e.next < m.next then e else m) e
    let t := (s.atLeast e.next).modLadder (fun l => { l with
      events := l.events.filterMap (fun (x : EventOut) =>
        if x = e then (if e.left ≤ 1 then none else some { x with left := x.left - 1, next := x.next + 50000 }) else some x) })
    t.sendEvent e.kind e.id e.modules e.instant

def execEventRepeat (s : State) : Host.Outcome State Fault Refusal := s.answer (eventRepeat s)

/-! ### STOCKTAKE_AT (R372) -/

/-- The transaction at the head of the queue ends with a response. -/
def State.txnDone (s : State) (m : Msg) (status : Nat) (wrap : Bool) (ws : List Word) : State :=
  let t := (s.modLadder (fun l => { l with txns := l.txns.drop 1, run := none })).respond m status wrap ws
  match t.ladder.ending with
  | none => t
  | some i => (t.modLadder (fun l => { l with ending := none })).dropSession i

/-- STOCKTAKE_AT (R372): the transaction at the head of the queue. -/
def stocktakeAt (s : State) : State :=
  match s.ladder.txns.head? with
  | none => s
  | some m =>
    if m.typ ≠ 10 then s
    else
      let ws := unpackWords 1 m.body
      match (if s.ptpLocked then s.instantAt (ws.getD 0 0) (ws.getD 1 0) else none) with
      | none => s.txnDone m 3 false []
      | some t =>
        if t < (m.at_ : Int) + 4000 ∨ (m.at_ : Int) + 100 * msec < t then s.txnDone m 3 false []
        else
          let (u, ok) := s.scheduleStock t.toNat 3
          if ok then u.txnDone m 0 false [u.stamp t.toNat] else u.txnDone m 3 false []

def execStocktakeAt (dt : Nat) (s : State) : Host.Outcome State Fault Refusal := s.answer (stocktakeAt (s.pass dt))

/-! ### LAD.CMD (Table 12.10) -/

/-- R361: END_SESSION; one that a Ladder frame issues waits for the response of its frame. -/
def endSession (slot : Nat) (req : Req) (s : State) : State :=
  match req with
  | .hp => s.dropSession slot
  | .ladder => s.modLadder (fun l => { l with ending := some slot })

/-- R364: CLEAR_QUAR. -/
def clearQuar (s : State) : State := s.modLadder (fun l => { l with quar := [] })

/-- Table 12.10: a write to LAD.CMD. -/
def ladCommand (op slot : Nat) (req : Req) (ok : Bool) (s : State) : State :=
  match op with
  | 1 => endSession slot req s
  | 2 => clearQuar s
  | 3 => s.saveOr ok 6 [R.LAD_CFG, R.LAD_RATE]
  | _ => s.setFlag F.LAD_STATUS_CMD_REFUSED true

def State.ladRow (s : State) (op slot : Nat) (ok : Bool) : State := if s.reach 6 then ladCommand op slot .hp ok s else s

def execEndSession (dt : Nat) (slot : Fin 16) (s : State) : Host.Outcome State Fault Refusal :=
  s.answer ((s.pass dt).ladRow 1 slot.val true)

def execClearQuar (dt : Nat) (s : State) : Host.Outcome State Fault Refusal := s.answer ((s.pass dt).ladRow 2 0 true)

def execLadSave (dt : Nat) (ok : Bool) (s : State) : Host.Outcome State Fault Refusal := s.answer ((s.pass dt).ladRow 3 0 ok)

/-! ### What the LAD block shows of sessions (Table 12.10) -/

/-- LAD.SESS_INFO. -/
def State.sessInfo (s : State) : Word :=
  let i := s.fld F.LAD_SESS_SEL_SLOT
  let named := bit (s.namedSlot i) * 64
  match s.session i with
  | none => BitVec.ofNat 36 named
  | some e => BitVec.ofNat 36 (e.port.toNat * 65536 + 128 + named + 32 * bit e.present + 16 * bit e.isModule + e.moduleNo)

/-- LAD.SESS_ADDR. -/
def State.sessAddr (s : State) : Word :=
  match s.session (s.fld F.LAD_SESS_SEL_SLOT) with
  | none => 0
  | some e => e.ip.setWidth 36

/-- LAD.PARTNERS. -/
def State.partnersWord (s : State) : Word :=
  let bits (f : Session → Bool) : Nat := packBits ((List.range 16).map (fun i => (s.session i).any f))
  BitVec.ofNat 36 (bits (fun e => e.present) * 65536 + bits (fun _ => true))

/-- R359: LAD.STATUS.KEY_BLANK. -/
def State.keyBlank (s : State) : Bool := s.box.key == 0

end Sys2Proof.Machine
end

