-- ==== Sys2Proof/Machine/Bus.lean ====
section
/-! DEFINITION. The register bus: decoding, access codes, masked writes, what a read shows and what a write does, and
transactions of several words with their stalls (R23 to R37, R40 to R43). -/

namespace Sys2Proof.Machine

open Sys2Proof

/-! ### Decoding (R25 to R29) -/

/-- R26: the table of an implemented block. -/
def State.blockSpec (s : State) (blk : Nat) : Option BlockSpec :=
  if s.implemented blk then blockTable.find? (fun b => decide (b.num ≤ blk) && decide (blk < b.num + b.inst)) else none

/-- R27, R29: the decode width of a block. -/
def State.blockK (s : State) (blk : Nat) : Nat := (s.blockSpec blk).elim 9 (fun b => b.k)

/-- A register of a table stands at an offset. -/
def RegSpec.holds (r : RegSpec) (off : Nat) : Bool :=
  decide (r.off ≤ off) && decide ((off - r.off) % r.stride = 0) && decide ((off - r.off) / r.stride < r.cnt)

/-- R2: offsets of an LKM-4836 whose registers belong to absent channels. -/
def absentOffsets (blk : Nat) : List Nat :=
  if blk = 0x1 then [9]
  else if blk = 0x2 then [9, 10]
  else if blk = 0x9 then [20, 21, 22, 23, 28, 29, 30, 31]
  else if blk = 0xA then [20, 21, 22, 23, 28, 29, 30, 31, 36, 37, 38, 39, 44, 45, 46, 47]
  else if blk = 0xC then [12, 13, 14, 15, 20, 21, 22, 23, 28, 29, 30, 31]
  else if blk = 0xD then [4, 5, 6, 7, 12, 13, 14, 15, 20, 21, 22, 23, 28, 29, 30, 31]
  else []

/-- R28, R2: the register at an offset of an implemented block; none for a hole. -/
def State.specAt (s : State) (blk off : Nat) : Option RegSpec :=
  match s.blockSpec blk with
  | none => none
  | some b => if s.variant = .lkm4836 ∧ off ∈ absentOffsets blk then none else b.regs.find? (fun r => r.holds off)

/-- R2, Table 2.18: the RW bits of a register on this variant. -/
def State.rwMask (s : State) (key : Nat) (r : RegSpec) : Nat :=
  if s.variant = .lkm4836 ∧ key = R.CLK_POWER then 0xF9
  else if s.variant = .lkm4836 ∧ key = R.PLN_COMP_OFF then 0xF
  else if s.variant = .lkm4836 ∧ R.PLN_PROG 0 ≤ key ∧ key ≤ R.PLN_PROG 63 then r.rw &&& 0xFFFFFFFF
  else r.rw

/-! ### Access codes (R30 to R32, R43) -/

/-- R32: the bits that a write may change, and the values it brings. -/
def writeMask (msk : Bool) (data : Word) : Nat := if msk then data.toNat / 2 ^ 18 else 2 ^ 36 - 1
def writeValue (msk : Bool) (data : Word) : Nat := if msk then data.toNat % 2 ^ 18 else data.toNat

/-- Table 2.3: what a write makes of a register with the given RW and W1C bits. -/
def mergeWord (rw w1c : Nat) (msk : Bool) (old data : Word) : Word :=
  let m := writeMask msk data
  let v := writeValue msk data
  let take := rw &&& m
  let clear := w1c &&& m &&& v
  BitVec.ofNat 36 (((old.toNat &&& ((2 ^ 36 - 1) ^^^ take)) ||| (v &&& take)) &&& ((2 ^ 36 - 1) ^^^ clear))

/-- Table 2.3: the value a WO field acts on. -/
def actedWord (msk : Bool) (data : Word) : Nat := writeValue msk data &&& writeMask msk data

/-- R30, R31, R43: a write that only changes the register. -/
def State.plainWrite (s : State) (key : Nat) (r : RegSpec) (msk : Bool) (data : Word) (race : Race) : State :=
  let w := mergeWord (s.rwMask key r) r.w1c msk (s.reg key) data
  match r.kind with
  | .holding _ => s
  | .event n | .interval n =>
    let t := s.setReg key (if msk then w else BitVec.ofNat 36 (w.toNat % 2 ^ 35))
    if race.inc then t.countOne key n else t
  | .plain => s.setReg key (w ||| (race.sets &&& BitVec.ofNat 36 r.w1c))

/-! ### What a read shows -/

/-- Table 4.11, R111, R108: the gate of a switch stands above 2.0 V: while it is driven on, while a soft turn-off holds it at
SOFT_LEVEL (6 V to 9 V), and after gate-sense has found that it failed to fall. The rise and the fall within HS_TIMEOUT of an
edge are taken to be over at the edge (DESIGN CHOICE, log entry 412). -/
def Switch.gateUp (w : Switch) : Bool := w.on || w.stuck || (match w.soft with | .hold _ => true | _ => false)

/-- LEG_STAT of a leg (Table 4.11). -/
def State.legStat (s : State) (l : LegId) : Word :=
  let g := s.legs[l]
  let w := (s.reg (R.LG_LEG_STAT (legQ l) (legM l))).toNat
  BitVec.ofNat 36 (bitsPut w 14 8 (min 7 (s.retriesNow l) * 16 + bit (s.available l true) * 8 + bit (s.available l false) * 4 +
    bit g.hi.gateUp * 2 + bit g.lo.gateUp))

/-- The leg of a quadrant's register. -/
def legOf (q : Quad) (m : Nat) : LegId := Fin.ofNat 32 (8 * q.val + m)

/-- The selected calibration set of a die (Table 6.11), VALID only while CALDEF holds its FULL_SCALE (R174). -/
def State.selectedCal (s : State) (d : DieId) : Word × Word :=
  let (core, input, set) := calSel d (s.reg (R.AD_CAL_SEL d)).toNat
  match s.calSet core input set, s.keptCal core input set with
  | some p, _ => p
  | none, some (o, g, _) => (notValid o, notValid g)
  | none, none => (0, 0)

/-- Table 3.24: INV.PROGRESS; while an operation runs, the words that it has processed by now (free, log entry 316). -/
def State.shownProgress (s : State) : Word :=
  if s.opBusy R.INV_OP_STAT then
    let n := match s.invOp.range with
      | some r => r.2
      | none => s.imgExtent (s.slotWords (opSlot (s.lastOp R.INV_OP_STAT)) 8)
    BitVec.ofNat 36 (Config.progress s.clock % (n + 1))
  else s.reg R.INV_PROGRESS

/-- R24: what a read of a register on LD without a side effect shows. A speed derived from an edge interval reads 0 while the
interval's SAT is set (Table 2.5). -/
def State.shownLD (s : State) (blk off : Nat) : Word :=
  let key := blk * 512 + off
  if key = R.SYS_TIME then s.now
  else if key = R.INV_PROGRESS then s.shownProgress
  else if key = R.BOX_RING_DATA then s.ringData
  else if key = R.BOX_LIFE_DATA then s.lifeData
  else if key = R.LAD_STATUS then BitVec.ofNat 36 (bitsPut (s.reg key).toNat 13 13 (bit s.keyBlank))
  else if key = R.LAD_SESS_INFO then s.sessInfo
  else if key = R.LAD_SESS_ADDR then s.sessAddr
  else if key = R.LAD_PARTNERS then s.partnersWord
  else if key = R.PLN_IN_STATE then BitVec.ofNat 36 s.planInputs
  else if 0x10 ≤ blk ∧ blk < 0x18 ∧ !s.planned (blk - 0x10) then 0
  else if 0x18 ≤ blk ∧ blk < 0x20 ∧ off = 2 then
    BitVec.ofNat 36 (bitsPut (s.reg key).toNat 11 11 (bit (s.chanReferenced (Fin.ofNat 8 (blk - 0x18)))))
  else if 0x18 ≤ blk ∧ blk < 0x20 ∧ off = 6 then
    let (n, sat) := s.fbInterval (Fin.ofNat 8 (blk - 0x18))
    BitVec.ofNat 36 (n + 2 ^ 35 * bit sat)
  else if 0x18 ≤ blk ∧ blk < 0x20 ∧ off = 5 ∧ s.chanKind (Fin.ofNat 8 (blk - 0x18)) ≠ 4 ∧
      (s.fbInterval (Fin.ofNat 8 (blk - 0x18))).2 then 0
  else s.reg key

/-- Table 5.9: SEL of OUTCFGm shows the mask entry now applied; with no mask active, the SEL that the active group carries. -/
def State.shownOutcfg (s : State) (l : LegId) : Word :=
  let w := s.reg (R.PW_OUTCFG (legQ l) (legM l))
  match s.maskIndex l with
  | some i => BitVec.ofNat 36 (bitsPut w.toNat 6 4 i)
  | none => w

/-- What a read of a register on a GD die shows. -/
def State.shownGD (s : State) (blk off : Nat) : Word :=
  if blk < 0x24 ∧ 8 ≤ off ∧ off < 16 then s.legStat (legOf (Fin.ofNat 4 (blk - 0x20)) (off - 8))
  else if 0x24 ≤ blk ∧ blk < 0x28 ∧ off < 8 then s.shownOutcfg (legOf (Fin.ofNat 4 (blk - 0x24)) off)
  else if 0x28 ≤ blk then
    let d : DieId := Fin.ofNat 2 (blk - 0x28)
    if off = 6 then BitVec.ofNat 36 (bitsPut (s.reg (R.AD_STATUS d)).toNat 3 0 (s.uncalBits d))
    else if off = 8 then (s.selectedCal d).1
    else if off = 9 then (s.selectedCal d).2
    else s.reg (blk * 512 + off)
  else s.reg (blk * 512 + off)

/-- R40, Table 2.12: a read of the register stalls under a pending Stocktake. -/
def heldKind (blk off : Nat) (r : RegSpec) : Bool :=
  decide (blk * 512 + off = R.SYS_TIME_H) || match r.kind with | .holding _ => true | _ => false

/-- A read of a register, the Hoist window apart: the state after it and the word. -/
def State.readReg (s : State) (blk off : Nat) : State × Word :=
  let key := blk * 512 + off
  if (blockDie blk).isSome then (s, s.shownGD blk off)
  else if key = R.LAD_PTP_SEC then
    let t := ptpSecRead s
    (t, t.reg R.LAD_PTP_SEC)
  else if key = R.ENG_WIN_DATA then (s.winNext, s.winData)
  else if blk = 5 ∧ 16 ≤ off ∧ off % 8 = 2 then s.portPop (Fin.ofNat 4 ((off - 16) / 8))
  else (s, s.shownLD blk off)

/-! ### What a write does -/

/-- R258: a write to a register of an axis. -/
def State.writeAxis (s : State) (n : AxisId) (off : Nat) (r : RegSpec) (msk : Bool) (data : Word) (e : AccessEnv) : State :=
  if !s.planned n.val then s
  else if off = 0 then axisCommand n (actedWord msk data % 16) e.saved s
  else if off ∈ [15, 26, 27] ∧ s.axisSt n ≠ stDisabled then s.setFlag (F.AX_EVENTS_CMD_REFUSED n) true
  else s.plainWrite ((0x10 + n.val) * 512 + off) r msk data e.race

/-- Writes to LGq, PWq and ADd, when they have crossed the gate link. -/
def State.writeGD (s : State) (blk off : Nat) (r : RegSpec) (msk : Bool) (data : Word) (e : AccessEnv) : State :=
  let key := blk * 512 + off
  let cmd := actedWord msk data
  let op := bitsOf cmd 11 8
  let w := mergeWord r.rw r.w1c msk (s.reg key) data
  if blk < 0x24 then
    let q : Quad := Fin.ofNat 4 (blk - 0x20)
    if off < 8 then legCfgWrite (legOf q off) msk data s
    else if off = 32 then lgCommand q op (BitVec.ofNat 8 cmd) e.saved s
    else s.plainWrite key r msk data e.race
  else if blk < 0x28 then
    let q : Quad := Fin.ofNat 4 (blk - 0x24)
    if off < 8 then outcfgWrite (legOf q off) msk data s
    else if off < 16 then pwMaskWrite (legOf q (off - 8)) w s
    else if 24 ≤ off ∧ off < 32 then tripCfgWrite q (Fin.ofNat 8 (off - 24)) w s
    else if off = 33 then pwCommand q op (cmd % 256) e.saved s
    else s.plainWrite key r msk data e.race
  else
    let d : DieId := Fin.ofNat 2 (blk - 0x28)
    if off = 4 then adCommand d op (cmd % 64) s
    else if off = 0 then (s.plainWrite key r msk data e.race).setRegBit key 3 true
    else s.plainWrite key r msk data e.race

/-- R47 (Table 2.18): a peripheral port whose clock stops is idle: no transfer and no reading runs on it (log entry 206). -/
def State.idlePort (s : State) (p : PortId) : State :=
  let t := if s.portBusy p then s.setStat (R.PRT_P_STAT p) 0 else s
  t.setPort p (fun q => { q with run := none, deferred := none, ssi := none })

/-- R47 (Table 2.18): a write to CLK.POWER: what it switches off reads as idle from then on and reports no faults: a Ladder
port has no link, a peripheral port is idle, no Hatch pair is open. -/
def clkPowerWrite (w : Word) (s : State) : State :=
  let t := s.setReg R.CLK_POWER w
  let t := t.forEach portIds (fun p t => if bitOf w.toNat (4 + p.val) then t else t.idlePort p)
  let t := s.ports.foldl (fun t p => if bitOf w.toNat p then t else t.linkDown p) t
  if bitOf w.toNat 3 then t else t.forEach axisIds (fun c t => t.setRegBit R.HAT_STATUS (16 + c.val) false)

/-- Writes to the blocks of LD that commands or conditions of their own govern; `w` is the merged word, `cmd` what a WO
field acts on. -/
def State.writeLD (s : State) (req : Req) (blk off : Nat) (r : RegSpec) (msk : Bool) (data : Word) (e : AccessEnv) : State :=
  let key := blk * 512 + off
  let cmd := actedWord msk data
  let op := bitsOf cmd 11 8
  let w := mergeWord (s.rwMask key r) r.w1c msk (s.reg key) data
  let plain := s.plainWrite key r msk data e.race
  if key = R.SYS_STOCKTAKE then stocktake req s
  else if key = R.CLK_POWER then clkPowerWrite w s
  else if key = R.SYS_RESET then sysReset (BitVec.ofNat 36 cmd) s
  else if key = R.INV_CMD then invCommand (cmd % 16) e.done s
  else if key = R.INV_NEXT_BOOT then nextBootWrite (w.toNat % 4) s
  else if key = R.BOX_CMD then boxCommand op s
  else if key = R.BOX_KEY_DATA then keyDataWrite (BitVec.ofNat 36 cmd) s
  else if key = R.FLT_CMD then fltCommand op e.saved s
  else if key = R.FLT_STOP_CFG then stopCfgWrite w s
  else if blk = 5 ∧ 16 ≤ off then
    let p : PortId := Fin.ofNat 4 ((off - 16) / 8)
    match off % 8 with
    | 0 => portCfgWrite p w s
    | 1 => portCommand p (cmd % 2 ^ 18) e.saved e.rx s
    | 2 => s.portPush p (if msk then maskedWord 0 data else data)
    | 4 => portLenWrite p w s
    | 5 => portPatWrite p w s
    | _ => plain
  else if key = R.LAD_CMD then ladCommand op (cmd % 16) req e.saved s
  else if key = R.HST_PTR_HP then s.setPtr true w
  else if key = R.HST_PTR_LAD then s.setPtr false w
  else if key = R.HST_CMD then s.hstCmd op e.done
  else if key = R.PLN_CMD then plnCommand op (Fin.ofNat 64 (cmd % 64)) e.saved s
  else if key = R.PLN_OVR then plnOverride w s
  else if key = R.PLN_COMP_OFF then compOffWrite w s
  else if blk = 9 ∧ (off ∈ [8, 9, 10, 11] ∨ (16 ≤ off ∧ off < 24) ∨ 64 ≤ off) then plnWrite key w s
  else if key = R.ENG_WIN_DATA then s.winWrite (if msk then maskedWord s.winData data else data)
  else if key = R.ENG_CMD then engCommand op s
  else if blk = 0xB ∧ off < 64 then cmpCfgWrite (Fin.ofNat 64 off) msk data s
  else if key = R.CMP_CMD then cmpCommand op (bitOf cmd 6) (Fin.ofNat 64 (cmd % 64)) e.saved s
  else if key = R.HAT_CMD then hatCommand op (Fin.ofNat 4 (cmd % 4)) e.saved s
  else if blk = 0xC ∧ 8 ≤ off ∧ off < 16 then htCfgWrite (Fin.ofNat 8 (off - 8)) w s
  else if blk = 0xC ∧ 32 ≤ off ∧ off < 36 then cmdaCfgWrite (Fin.ofNat 4 (off - 32)) w s
  else if blk = 0xD ∧ off < 24 then cpoWrite (Fin.ofNat 8 (off % 8)) key w s
  else if key = R.CPO_CMD then cpoCommand op (cmd % 256) e.saved s
  else if 0x10 ≤ blk ∧ blk < 0x18 then s.writeAxis (Fin.ofNat 8 (blk - 0x10)) off r msk data e
  else if 0x18 ≤ blk ∧ blk < 0x20 then
    let c : AxisId := Fin.ofNat 8 (blk - 0x18)
    match off with
    | 0 => fbCfgWrite c w s
    | 1 => fbCommand c (cmd % 16) e.saved s
    | 6 => intervalWrite c msk data s
    | _ => plain
  else plain

/-! ### Transactions (R34 to R37) -/

/-- What an access meets when nothing is said of it. -/
def quiet : AccessEnv := ⟨true, [], 0, ⟨0, false⟩⟩

/-- R25, R34: a transaction of `n` words at an address. -/
def State.newTxn (s : State) (read : Bool) (addr : BitVec 16) (n : Nat) (data : List Word) : Txn :=
  let blk := addr.toNat / 1024
  let off := addr.toNat % 512 % 2 ^ s.blockK blk
  { read := read, blk := blk, msk := bitOf addr.toNat 9, off := off, past := false, left := n, data := data, out := [],
    wrap := false, xd := false, unmapped := false, range := false, uncorr := false, wait := .none,
    win := blk = 7 && decide (off < 256), silent := false, envs := [] }

/-- R34, R35: the transaction has moved a word, and goes on to the next offset. -/
def Txn.moved (x : Txn) (k : Nat) (got : Word) : Txn :=
  let next := if x.win then (x.off + 1) % 256 else (x.off + 1) % 2 ^ k
  { x with
    off := next, past := x.past || decide (next = 0), wrap := x.wrap || x.past, left := if x.silent then 0 else x.left - 1
    data := x.data.drop 1, out := if x.read then x.out ++ [got] else x.out, wait := .none }

/-- R338 to R340: the word of a masked window write: its old value is the word at the pointer. -/
def State.windowMerged (s : State) (hp told : Bool) (msk : Bool) (data : Word) : State × Option Word :=
  if !msk || !s.hoistOk true (s.ptrAddr hp) then (s, some data)
  else match s.windowRead hp told with
    | (_, some old, _) => (s, some (maskedWord old data))
    | (t, none, _) => (t, none)

/-- R338 to R340: an access to the Hoist window. -/
def State.windowStep (s : State) (req : Req) (x : Txn) : State × Txn :=
  let hp := req == .hp
  if x.read then
    let lost := s.flag F.HST_STATUS_UNCORR
    match (s.setFlag F.HST_STATUS_UNCORR false).windowRead hp x.range with
    | (t, none, _) => (t.setFlag F.HST_STATUS_UNCORR lost, { x with wait := .window })
    | (t, some w, refused) =>
      let bad := t.flag F.HST_STATUS_UNCORR
      (t.setFlag F.HST_STATUS_UNCORR (lost || bad), { x.moved 9 w with range := x.range || refused, uncorr := x.uncorr || bad })
  else
    match s.windowMerged hp x.range x.msk (x.data.getD 0 0) with
    | (t, none) => (t, { x with wait := .window })
    | (t, some w) =>
      let (t, refused) := t.windowWrite hp x.range w
      (t, { x.moved 9 0 with range := x.range || refused })

/-- One access of a transaction, its crossing of the gate link done. -/
def State.txnAccess (s : State) (req : Req) (e : AccessEnv) (x : Txn) : State × Txn :=
  let k := s.blockK x.blk
  if !s.implemented x.blk then (s.setFlag F.SYS_STATUS_UNMAPPED true, { x.moved k 0 with unmapped := true })
  else if s.power = .bare ∧ 8 < x.blk then (s, x.moved k 0)
  else if x.blk = 7 ∧ x.off < 256 then s.windowStep req x
  else match s.specAt x.blk x.off with
    | none => (s, x.moved k 0)
    | some r =>
      if x.read then
        if heldKind x.blk x.off r && s.stockHolds then (s, { x with wait := .held })
        else
          let (t, w) := s.readReg x.blk x.off
          (t, x.moved k w)
      else
        let d := x.data.getD 0 0
        ((if (blockDie x.blk).isSome then s.writeGD x.blk x.off r x.msk d e else s.writeLD req x.blk x.off r x.msk d e), x.moved k 0)

/-- R36: the next access of a transaction crosses the gate link. -/
def State.crosses (s : State) (x : Txn) : Bool :=
  (blockDie x.blk).isSome && s.implemented x.blk && decide (s.power ≠ .bare)

/-- R23, R34, R36: the bus grants a transaction its next access: it goes onto the gate link, or is made at once. -/
def State.txnGranted (s : State) (req : Req) (x : Txn) : State × Txn :=
  let x := { x with wait := .none }
  if x.left = 0 then (s, x)
  else if s.crosses x then (s, { x with wait := .link s.clock })
  else s.txnAccess req (x.envs.headD quiet) { x with envs := x.envs.drop 1 }

/-- R23: a transaction that no stall holds requests its next access of the bus. -/
def State.txnRequest (s : State) (x : Txn) : Txn :=
  if x.left = 0 ∨ x.wait ≠ .none then x else { x with wait := .bus s.clock }

/-- R36: an access has crossed the link and returned, and the transaction requests its next one; `es` says what they meet. -/
def State.txnReturn (s : State) (req : Req) (es : List AccessEnv) (x : Txn) : State × Txn :=
  let (t, y) := s.txnAccess req (es.headD quiet) { x with wait := .none, envs := es.drop 1 }
  (t, t.txnRequest y)

/-- R37: an access has not returned after 10 µs. -/
def State.txnTimeout (s : State) (since : Nat) (x : Txn) : State × Txn :=
  let t := (s.atLeast (since + 5000)).setFlag F.SYS_STATUS_XD_TIMEOUT true
  (t, t.txnRequest { x.moved (s.blockK x.blk) 0 with xd := true })

/-- R40, R340: a stall at a holding register or at the window is over, or not. -/
def State.txnResume (s : State) (req : Req) (es : List AccessEnv) (x : Txn) : State × Txn :=
  match x.wait with
  | .held | .window => s.txnReturn req es x
  | .none | .link _ | .bus _ => (s, x)

/-! ### Single accesses -/

/-- A single access goes on being under way, or is complete; a reset that it causes ends it. -/
def State.keepAccess (s : State) (before : List (Req × Txn)) (req : Req) (x : Txn) (after : List (Req × Txn)) : State :=
  if !s.live then s
  else if x.left = 0 then s.modAccess (fun a => { a with open_ := before ++ after, read := x.out })
  else s.modAccess (fun a => { a with open_ := before ++ [(req, x)] ++ after })

/-- The oldest single access of a requester that waits as `p` says: what stands before it, itself, what stands after. -/
def State.findAccess (s : State) (req : Req) (p : Txn → Bool) : Option (List (Req × Txn) × Txn × List (Req × Txn)) :=
  match s.access.open_.findIdx? (fun a => a.1 == req && p a.2) with
  | none => none
  | some i => (s.access.open_[i]?).map (fun a => (s.access.open_.take i, a.2, s.access.open_.drop (i + 1)))

end Sys2Proof.Machine
end

