-- ==== Sys2Proof/Machine/LadderTxn.lean ====
section
/-! DEFINITION. Registers and Larder over the Ladder (R365 to R367). -/

namespace Sys2Proof.Machine

open Sys2Proof

/-- R366: the register transaction of the message at the head of the queue stalls, or its response is sent. A reset that it
causes ends both. -/
def State.ladderKeep (s : State) (m : Msg) (x : Txn) : State :=
  if !s.live then s
  else if x.left = 0 then s.txnDone m 0 x.wrap x.out
  else s.modLadder (fun l => { l with run := some x })

/-- R366: the register transaction of a message. -/
def State.ladderTxn (s : State) (m : Msg) : Txn :=
  let addr := BitVec.ofNat 16 m.arg
  if m.typ = 3 then s.newTxn true addr m.words []
  else s.newTxn false addr m.words ((unpackWords ((m.words + 1) / 2) m.body).take m.words)

/-- R367: a message moves words through PTR_LAD until it ends, stalls, or the pointer leaves the user area (`range`). -/
def State.hoistMove (s : State) : Nat → Txn → State × Txn
  | 0, x => (s, x)
  | n + 1, x =>
    if x.left = 0 ∨ x.wait ≠ .none then (s, x)
    else
      let (t, y) := s.windowStep .ladder x
      if y.range then (t, { x with range := true, left := 0 }) else t.hoistMove n y

/-- R367: the transaction of a HOIST message. -/
def hoistTxn (m : Msg) : Txn :=
  { read := m.typ == 5, blk := 7, msk := false, off := 0, past := false, left := m.words,
    data := if m.typ = 5 then [] else (unpackWords ((m.words + 1) / 2) m.body).take m.words, out := [], wrap := false, xd := false,
    unmapped := false, range := false, uncorr := false, wait := .none, win := true, silent := false, envs := [] }

/-- HOIST_READ and HOIST_WRITE (R367): the message at the head of the queue runs, or goes on after a stall. -/
def State.ladderHoist (s : State) (typ : Nat) : State :=
  match s.ladder.txns.head? with
  | none => s
  | some m =>
    if m.typ ≠ typ ∨ !s.live then s
    else
      let (t, x) := match s.ladder.run with
        | none => ((if bitOf m.arg 31 then s.setPtr false (BitVec.ofNat 36 (m.arg % 2 ^ 30)) else s), hoistTxn m)
        | some x => (s, { x with wait := .none })
      let (t, x) := t.hoistMove (x.left + 1) x
      if x.left = 0 then t.txnDone m (if x.range then 5 else 0) false x.out
      else t.modLadder (fun l => { l with run := some x })

def execHoistRead (dt : Nat) (s : State) : Host.Outcome State Fault Refusal := s.answer ((s.pass dt).ladderHoist 5)

def execHoistWrite (dt : Nat) (s : State) : Host.Outcome State Fault Refusal := s.answer ((s.pass dt).ladderHoist 6)

end Sys2Proof.Machine
end

