-- ==== Sys2Proof/Machine/HostPort.lean ====
section
/-! DEFINITION. The host port HP (R375 to R388). -/

namespace Sys2Proof.Machine

open Sys2Proof

/-- R388: fault 0xA01 + i, at most once per 100 ms. -/
def State.hpFault (s : State) (i : Nat) : State :=
  match s.hp.told.getD i none with
  | some t => if s.clock < t + 100 * msec then s else (s.modHp (fun h => { h with told := h.told.set i (some s.clock) })).raiseLD (0xA01 + i) 8 none
  | none => (s.modHp (fun h => { h with told := h.told.set i (some s.clock) })).raiseLD (0xA01 + i) 8 none

/-! ### The command (R379 to R381) -/

/-- Table 13.3. -/
def hpOpcode (cmd : Word) : Nat := bitsOf cmd.toNat 35 32
def hpLanes (cmd : Word) : Nat := 2 * 2 ^ bitsOf cmd.toNat 31 30
def hpWords (cmd : Word) : Nat := bitsOf cmd.toNat 25 16 + 1
def hpAddr (cmd : Word) : BitVec 16 := cmd.setWidth 16

/-- R381: OPCODE or LANES is reserved, or a reserved bit is set. -/
def hpBad (cmd : Word) : Bool :=
  !(hpOpcode cmd ∈ [1, 2, 3]) || decide (bitsOf cmd.toNat 31 30 = 3) || decide (bitsOf cmd.toNat 29 26 ≠ 0)

/-- R385: a new transaction; what its trailer says of the one before it. -/
def State.hpSelect (s : State) : State :=
  s.modHp (fun h => { h with
    phase := .running, write := false, lanes := 2, words := 0, edges := 0, clocks := false, crcOk := true, busy := false,
    run := none, prevAbort := h.abort, prevOver := h.isOver, abort := false, isOver := false, sent := [], sentCrc := none,
    trailer := none })

/-- R381: REJECT, with fault 0xA01 or 0xA02. -/
def State.hpReject (s : State) (i : Nat) : State :=
  let t := ((s.count R.PRT_CMD_ERR_COUNT).setRegBit R.PRT_HP_STAT (4 + i) true).hpFault i
  t.modHp (fun h => { h with phase := .rejected })

/-- R377, R381: the host selects the module and sends a command word of an opcode with its CRC; the transaction that an
ACCEPT opens, or none while HP does not answer, the command phase is cut short, or the command is rejected. -/
def State.hpCommand (s : State) (op : Nat) (cmd : Word) (crc : BitVec 16) (edges : Nat) : State × Bool :=
  if !s.live || s.hp.phase == .running then (s, false)
  else
    let good := decide (crc.toNat = crc16Words [cmd])
    if edges < 26 then (s.hpSelect, false)
    else if !good then (s.hpSelect.hpReject 0, false)
    else if hpBad cmd then (s.hpSelect.hpReject 1, false)
    else if hpOpcode cmd ≠ op then (s, false)
    else (s.hpSelect.modHp (fun h => { h with edges := edges, lanes := hpLanes cmd, words := hpWords cmd }), true)

/-! ### Edges (Table 13.2, R382, R383) -/

/-- Edges of the data phase. -/
def hpDataEdges (lanes words : Nat) : Nat := ceilDiv (36 * words) lanes

/-- Edges up to the start of the trailer, and its own 26. -/
def hpBodyEdges (h : HostPort) : Nat :=
  if h.words = 0 then 28
  else if h.write then 30 + hpDataEdges h.lanes h.words + 16 / h.lanes
  else 28 + hpDataEdges h.lanes h.words + 16 / h.lanes

def hpAllEdges (h : HostPort) : Nat := hpBodyEdges h + 26

/-- R383: the words that a READ fetches within its edges. -/
def hpFetched (h : HostPort) : Nat :=
  if h.edges < 28 then 0
  else
    let e := h.edges - 28
    min h.words (1 + (if e = 0 then 0 else (e * h.lanes - 1) / 36 + 1))

/-- R382: the words of a WRITE whose last bit arrives within its edges. -/
def hpArrived (h : HostPort) : Nat := min h.words ((h.edges - 29) * h.lanes / 36)

/-- The edge up to which the host may clock while `k` words are done and the next one stalls. -/
def hpReach (h : HostPort) (k : Nat) : Nat :=
  if h.write then
    (if k + 16 < h.words then 29 + hpDataEdges h.lanes (k + 16) else 30 + hpDataEdges h.lanes h.words + 16 / h.lanes)
  else 28 + 36 * k / h.lanes

/-! ### Trailer and end -/

/-- R385, Table 13.4: the status word. -/
def hpTrailer (h : HostPort) (x : Option Txn) : Word :=
  let f (b : Bool) (i : Nat) : Nat := bit b * 2 ^ i
  let of (g : Txn → Bool) : Bool := x.any g
  BitVec.ofNat 36 (0x6 * 2 ^ 32 + f h.prevOver 11 + f h.prevAbort 10 + f h.busy 9 + f (of (fun x => x.xd)) 8 +
    f (of (fun x => x.unmapped)) 7 + f (of (fun x => x.range)) 6 + f (of (fun x => x.uncorr)) 5 + f (h.write && !h.crcOk) 4 +
    f (of (fun x => x.wrap)) 3)

/-- R384: an edge comes while HP_READY is low. -/
def State.hpBusy (s : State) (k : Nat) : State :=
  if s.hp.clocks && decide (hpReach s.hp k < s.hp.edges) then
    (s.modHp (fun h => { h with busy := true })).setFlag F.PRT_HP_STAT_BUSY_CLK true
  else s

/-- R382: the data CRC of a WRITE has arrived and is wrong. -/
def State.hpJudge (s : State) : State :=
  if s.hp.write && !s.hp.crcOk then ((s.count R.PRT_DATA_CRC_COUNT).setFlag F.PRT_HP_STAT_DATA_CRC true).hpFault 2 else s

/-- R378, R382, R383: what the transaction has brought out once no word of it is left to move. -/
def State.hpFinish (s : State) (x : Option Txn) : State :=
  let h := s.hp
  let crcEdge := if h.write then 29 + hpDataEdges h.lanes h.words + 16 / h.lanes else hpBodyEdges h
  let moved := x.elim [] (fun x => x.out)
  let whole := if h.write then [] else moved.take ((h.edges - 28) * h.lanes / 36)
  let t := s.modHp (fun h => { h with
    run := none, sent := whole
    sentCrc := if !h.write && decide (0 < h.words) && decide (crcEdge ≤ h.edges) then some (crc16Words moved) else none })
  let t := if h.write && decide (crcEdge ≤ h.edges) then t.hpJudge else t
  if hpAllEdges h ≤ h.edges then t.modHp (fun h => { h with phase := .ended, trailer := some (hpTrailer h x) }) else t

/-- The transaction stalls, or has moved all its words; a reset that it causes ends it. -/
def State.hpKeep (s : State) (x : Txn) : State :=
  if !s.live then s
  else if x.left = 0 then s.hpFinish (some x)
  else
    let t := s.modHp (fun h => { h with run := some x })
    match x.wait with
    | .bus _ => t
    | _ => t.hpBusy (if x.read then x.out.length else s.hp.words - x.data.length)

/-- HP_PING (R379). -/
def hpPing (cmd : Word) (crc : BitVec 16) (edges : Nat) (s : State) : State :=
  match s.hpCommand 3 cmd crc edges with
  | (t, false) => t
  | (t, true) => (t.modHp (fun h => { h with words := 0 })).hpFinish none

def execHpPing (dt : Nat) (cmd : Word) (crc : BitVec 16) (edges : Nat) (s : State) : Host.Outcome State Fault Refusal :=
  s.answer (hpPing cmd crc edges (s.pass dt))

/-! ### Select release and extra edges (R386, R387) -/

/-- R386: what an early release leaves of the words: those that a READ is fetching and those that a WRITE has received
whole end by themselves. -/
def State.hpLeave (s : State) : State :=
  match s.hp.run with
  | none => s
  | some x =>
    let y : Txn := { x with silent := x.read, left := if x.read then 1 else x.left }
    (s.modAccess (fun a => { a with open_ := a.open_ ++ [(.hp, y)] })).modHp (fun h => { h with run := none })

/-- R386: an early release, where it counts as one. -/
def State.hpAbort (s : State) : State :=
  let t := ((s.count R.PRT_ABORT_COUNT).setFlag F.PRT_HP_STAT_FRAME_ABORT true).hpFault 3
  t.modHp (fun h => { h with phase := .idle, abort := true })

/-- SELECT_RELEASE (R386): HP_SEL_N rises before the trailer's last edge; with no transaction under way, the release cuts a
command phase short. -/
def selectRelease (s : State) : State :=
  if !s.live then s
  else match s.hp.phase with
    | .running => s.hpLeave.hpAbort
    | .rejected => s.modHp (fun h => { h with phase := .idle })
    | .idle | .ended => s.hpSelect.hpAbort

def execSelectRelease (dt : Nat) (s : State) : Host.Outcome State Fault Refusal := s.answer (selectRelease (s.pass dt))

/-- OVERCLOCK (R387): edges after the trailer. -/
def overclock (s : State) : State :=
  if !s.live || s.hp.phase != .ended || s.hp.isOver then s
  else
    let t := ((s.count R.PRT_OVERCLOCK_COUNT).setFlag F.PRT_HP_STAT_OVERCLOCK true).hpFault 4
    t.modHp (fun h => { h with isOver := true })

def execOverclock (dt : Nat) (s : State) : Host.Outcome State Fault Refusal := s.answer (overclock (s.pass dt))

end Sys2Proof.Machine
end

