-- ==== Sys2Proof/Machine/Arbiter.lean ====
section
/-! DEFINITION. The internal register bus (R22 row 6, R23) and the rows that make accesses over it: single accesses, the
transactions of the host port and those of the Ladder's register messages. -/

namespace Sys2Proof.Machine

open Sys2Proof

/-! ### The arbiter (R23) -/

/-- R23, Table 1.4: 2 BCLK and 64 BCLK in thirds of a PCLK (a BCLK lasts 5/3 PCLK). -/
abbrev busSlot : Nat := 10
abbrev busAge : Nat := 320

/-- R23: whose request waits: the fault manager's or the planner's, a single access, the host port's transaction, the
Ladder's. -/
inductive Turn | inner (i : Nat) | single (i : Nat) | hp | ladder
  deriving DecidableEq, Repr

/-- R23: a request that waits: its rank in row 6 of Table 1.6 (0 fault manager, 1 planner, 2 HP, 3 Ladder), and the instant
since when. -/
structure BusWant where
  rank : Nat
  since : Nat
  turn : Turn
  deriving DecidableEq, Repr

/-- Table 1.6 row 6. -/
def reqRank : Req → Nat
  | .hp => 2
  | .ladder => 3

/-- R23: since when a transaction has requested its next access. -/
def Txn.onBus (x : Txn) : Option Nat := match x.wait with | .bus t => some t | _ => none

/-- R23: every request that waits for the bus. -/
def State.busWants (s : State) : List BusWant :=
  s.access.inner.zipIdx.map (fun (a, i) => ⟨if a.1 then 0 else 1, a.2, .inner i⟩) ++
  s.access.open_.zipIdx.filterMap (fun (a, i) => a.2.onBus.map (fun t => ⟨reqRank a.1, t, .single i⟩)) ++
  (s.hp.run.bind Txn.onBus).toList.map (fun t => ⟨2, t, .hp⟩) ++
  (s.ladder.run.bind Txn.onBus).toList.map (fun t => ⟨3, t, .ladder⟩)

/-- R23: at instant `at_` (thirds of a PCLK) the request has waited 64 BCLK. -/
def BusWant.aged (w : BusWant) (at_ : Nat) : Bool := decide (3 * w.since + busAge ≤ at_)

/-- R23: of two requests the bus grants `a` before `b`: one that has waited 64 BCLK first, of several such the oldest, else by
rank. -/
def BusWant.first (at_ : Nat) (a b : BusWant) : Bool :=
  match a.aged at_, b.aged at_ with
  | true, true => decide (a.since < b.since) || (decide (a.since = b.since) && decide (a.rank ≤ b.rank))
  | true, false => true
  | false, true => false
  | false, false => decide (a.rank < b.rank) || (decide (a.rank = b.rank) && decide (a.since ≤ b.since))

/-- R23: the request that the bus grants at `at_`. -/
def bestWant (at_ : Nat) : List BusWant → Option BusWant
  | [] => none
  | w :: l => match bestWant at_ l with
    | none => some w
    | some v => if w.first at_ v then some w else some v

/-- R23: the instant of the next grant, in thirds of a PCLK: 2 BCLK after the last one, once a request is there. -/
def State.busAt (s : State) (l : List BusWant) : Nat :=
  max s.access.freeAt (l.foldl (fun a w => min a (3 * w.since)) (3 * (l.head?).elim 0 (·.since)))

/-- R23: one grant: the access is made, and holds the bus for 2 BCLK. -/
def State.busGrant (s : State) (at_ : Nat) (w : BusWant) : State :=
  let t := (s.atLeast (ceilDiv at_ 3)).modAccess (fun a => { a with freeAt := at_ + busSlot })
  match w.turn with
  | .inner i => t.modAccess (fun a => { a with inner := a.inner.eraseIdx i })
  | .single i =>
    match s.access.open_[i]? with
    | none => t
    | some (req, x) =>
      let (t, x) := t.txnGranted req x
      t.keepAccess (s.access.open_.take i) req (t.txnRequest x) (s.access.open_.drop (i + 1))
  | .hp =>
    match s.hp.run with
    | none => t
    | some x =>
      let (t, x) := t.txnGranted .hp x
      t.hpKeep (t.txnRequest x)
  | .ladder =>
    match s.ladder.run, s.ladder.txns.head? with
    | some x, some m =>
      let (t, x) := t.txnGranted .ladder x
      t.ladderKeep m (t.txnRequest x)
    | _, _ => t

/-- R23: the grants up to an instant (PCLK), or until no request waits; `n` bounds their number. -/
def State.busRun (s : State) (limit : Option Nat) : Nat → State
  | 0 => s
  | n + 1 =>
    if !s.live then s
    else
      let l := s.busWants
      match bestWant (s.busAt l) l with
      | none => s
      | some w => if limit.any (fun t => decide (3 * t < s.busAt l)) then s else (s.busGrant (s.busAt l) w).busRun limit n

/-- How many grants the requests that wait can take. -/
def State.busFuel (s : State) : Nat :=
  1 + s.access.inner.length + (s.access.open_.map (fun a => a.2.left)).foldl (· + ·) 0 + s.hp.run.elim 0 (·.left) +
    s.ladder.run.elim 0 (·.left)

/-- R23: `dt` PCLK pass, with the grants that fall into them. -/
def State.busPass (s : State) (dt : Nat) : State := (s.busRun (some (s.clock + dt)) s.busFuel).atLeast (s.clock + dt)

/-- R23: the bus is free and no request waits. -/
def State.busIdle (s : State) : Bool := decide (s.access.freeAt ≤ 3 * s.clock) && s.busWants.isEmpty

/-- R23: a requester that has just asked goes on until it has no more to ask, if the bus was idle; else it waits for its
grants, which fall into the time that later register rows and link cycles let pass (log entry 103). -/
def State.busGo (s : State) (idle : Bool) : State := if idle then s.busRun none s.busFuel else s

/-! ### Single accesses -/

/-- R23: a requester makes a single access. -/
def State.singleAccess (s : State) (req : Req) (read : Bool) (addr : BitVec 16) (data : List Word) (e : AccessEnv) : State :=
  if !s.live then s
  else
    let x := s.txnRequest { s.newTxn read addr 1 data with envs := [e] }
    (s.modAccess (fun a => { a with open_ := a.open_ ++ [(req, x)] })).busGo s.busIdle

/-- REGISTER_WRITE (R30 to R32). -/
def execRegisterWrite (dt : Nat) (req : Req) (addr : BitVec 16) (data : Word) (e : AccessEnv) (s : State) :
    Host.Outcome State Fault Refusal :=
  s.answer ((s.busPass dt).singleAccess req false addr [data] e)

/-- A single access that stalls at a holding register or the window is tried again. -/
def State.retryAccess (s : State) (req : Req) (wait : Stall) : Option State :=
  match s.findAccess req (fun x => x.wait == wait) with
  | none => none
  | some (b, x, a) =>
    let (t, x) := s.txnResume req [] x
    some ((t.keepAccess b req x a).busGo s.busIdle)

/-- RH_READ (R40): a read of a holding register; one that stalls is tried again. -/
def rhRead (req : Req) (addr : BitVec 16) (s : State) : State :=
  if !s.live then s
  else match s.retryAccess req .held with
    | some t => t
    | none => s.singleAccess req true addr [] quiet

def execRhRead (dt : Nat) (req : Req) (addr : BitVec 16) (s : State) : Host.Outcome State Fault Refusal :=
  s.answer (rhRead req addr (s.busPass dt))

/-- HOIST_WINDOW_ACCESS (R338): a read, or a write of a word; a read that stalls is tried again. -/
def hoistWindowAccess (req : Req) (write : Option Word) (s : State) : State :=
  if !s.live then s
  else match s.retryAccess req .window with
    | some t => t
    | none => s.singleAccess req write.isNone 0x1C00 write.toList quiet

def execHoistWindowAccess (dt : Nat) (req : Req) (write : Option Word) (s : State) : Host.Outcome State Fault Refusal :=
  s.answer (hoistWindowAccess req write (s.busPass dt))


/-! ### Register messages of the Ladder (R366) -/

/-- REG_READ and REG_WRITE (R366): the message at the head of the queue runs, or goes on after a stall at a holding
register or the window. -/
def State.ladderReg (s : State) (typ : Nat) (es : List AccessEnv) : State :=
  match s.ladder.txns.head? with
  | none => s
  | some m =>
    if m.typ ≠ typ ∨ !s.live then s
    else
      let (t, x) := match s.ladder.run with
        | none => (s, s.txnRequest { s.ladderTxn m with envs := es })
        | some x => s.txnResume .ladder es x
      (t.ladderKeep m x).busGo s.busIdle

def execRegRead (dt : Nat) (s : State) : Host.Outcome State Fault Refusal := s.answer ((s.busPass dt).ladderReg 3 [])

def execRegWrite (dt : Nat) (envs : List AccessEnv) (s : State) : Host.Outcome State Fault Refusal :=
  s.answer ((s.busPass dt).ladderReg 4 envs)

/-! ### Transactions of the host port (R382, R383) -/

/-- HP_READ (R383). -/
def hpRead (cmd : Word) (crc : BitVec 16) (edges : Nat) (clocks : Bool) (s : State) : State :=
  match s.hpCommand 1 cmd crc edges with
  | (t, false) => t
  | (t, true) =>
    let t := t.modHp (fun h => { h with clocks := clocks })
    (t.hpKeep (t.txnRequest (t.newTxn true (hpAddr cmd) (hpFetched t.hp) []))).busGo s.busIdle

def execHpRead (dt : Nat) (cmd : Word) (crc : BitVec 16) (edges : Nat) (clocks : Bool) (s : State) :
    Host.Outcome State Fault Refusal :=
  s.answer (hpRead cmd crc edges clocks (s.busPass dt))

/-- HP_WRITE (R382). -/
def hpWrite (cmd : Word) (crc : BitVec 16) (data : List Word) (dataCrc : BitVec 16) (edges : Nat) (clocks : Bool)
    (es : List AccessEnv) (s : State) : State :=
  match s.hpCommand 2 cmd crc edges with
  | (t, false) => t
  | (t, true) =>
    let ws := (List.range (hpWords cmd)).map (fun i => data.getD i 0)
    let t := t.modHp (fun h => { h with
      write := true, clocks := clocks, crcOk := decide (dataCrc.toNat = crc16Words ws) })
    (t.hpKeep (t.txnRequest { t.newTxn false (hpAddr cmd) (hpArrived t.hp) ws with envs := es })).busGo s.busIdle

def execHpWrite (dt : Nat) (cmd : Word) (crc : BitVec 16) (data : List Word) (dataCrc : BitVec 16) (edges : Nat)
    (clocks : Bool) (envs : List AccessEnv) (s : State) : Host.Outcome State Fault Refusal :=
  s.answer (hpWrite cmd crc data dataCrc edges clocks envs (s.busPass dt))

/-- HP_WORD_READY (R383, R40, R340): a word that stalls at a holding register or at the window. -/
def hpWordReady (es : List AccessEnv) (s : State) : State :=
  match s.hp.run with
  | none => s
  | some x =>
    if !s.live then s
    else
      let (t, x) := s.txnResume .hp es x
      (t.hpKeep x).busGo s.busIdle

def execHpWordReady (dt : Nat) (envs : List AccessEnv) (s : State) : Host.Outcome State Fault Refusal :=
  s.answer (hpWordReady envs (s.busPass dt))

end Sys2Proof.Machine
end

