-- ==== Sys2Proof/Machine/Link.lean ====
section
/-! DEFINITION. The gate links: their cycles (R13 to R15), and register accesses that cross them (R36, R37). -/

namespace Sys2Proof.Machine

open Sys2Proof

/-! ### Link cycles (R13, R15) -/

/-- R15: the event window of a cycle that opens at `at_`: at most eight events detected before it, the earliest first. -/
def pickEvents (at_ : Nat) : Nat → List Event → List Event × List Event
  | 0, l => ([], l)
  | n + 1, l =>
    match firstEvent (l.filter (fun e => decide (e.time < at_))) with
    | none => ([], l)
    | some e =>
      let (a, b) := pickEvents at_ n (l.erase e)
      (e :: a, b)

/-- R13, Table 1.2: calibration status words that a cycle carries to LD, ahead of register read data: a word takes 36 of the
112 bits that the up lane has left. -/
def Die.takeCal (x : Die) : Die :=
  let l := x.calUp.take 3
  { x with
    calUp := x.calUp.drop 3, use := { x.use with up := x.use.up + 36 * l.length }
    calLD := l.foldl (fun a e => e :: a.filter (fun o => decide (o.1 ≠ e.1))) x.calLD }

/-- LINK_CYCLE (R13): a cycle of both lanes of a die's link opens, with the code errors that it meets: its event window carries
up to eight events to the fault manager, and its lanes take up what they carry next: ADC results (ADC_RESULT), edge groups
(GROUP_ARRIVAL), calibration status, and register data (CROSS_DOMAIN_RETURN), each within its payload of Table 1.2. -/
def linkCycle (d : DieId) (errs : Nat) (s : State) : State :=
  let x := s.dies[d]
  if !s.live || !s.hasDie d.val || x.linkLost then s
  else
    let at_ := s.nextBoundary usec x.linkAt
    let t := s.busPass (at_ - s.clock)
    let (up, rest) := pickEvents at_ 8 x.events
    let t := t.modDie d (fun x => { x with
      linkAt := at_, events := rest, use := { LinkUse.reset with cycle := at_, errs := errs } })
    let t := t.modDie d Die.takeCal
    let t := t.modFm (fun x => { x with inbox := t.fm.inbox ++ up })
    t.countN (if d = 0 then R.CLK_LINK0_ERR else R.CLK_LINK1_ERR) 16 errs

def execLinkCycle (d : DieId) (errs : Nat) (s : State) : Host.Outcome State Fault Refusal := s.answer (linkCycle d errs s)

/-! ### Register accesses (R36, R37) -/

/-- A transaction waits for the link: since when. -/
def Txn.onLink (x : Txn) : Option Nat := match x.wait with | .link t => some t | _ => none

/-- R36, R37: the oldest access of a requester that is on a link goes on as `f` says: a single access, the host port's
transaction, or that of the Ladder's message. -/
def State.onLink (s : State) (req : Req) (f : Txn → Nat → State × Txn) : State :=
  match s.findAccess req (fun x => x.onLink.isSome) with
  | some (b, x, a) =>
    let (t, x) := f x (x.onLink.getD 0)
    t.keepAccess b req x a
  | none =>
    match req with
    | .hp =>
      match s.hp.run.bind (fun x => x.onLink.map (fun t => (x, t))) with
      | none => s
      | some (x, since) =>
        let (t, x) := f x since
        t.hpKeep x
    | .ladder =>
      match s.ladder.run.bind (fun x => x.onLink.map (fun t => (x, t))), s.ladder.txns.head? with
      | some (x, since), some m =>
        let (t, x) := f x since
        t.ladderKeep m x
      | _, _ => s

/-- Table 1.2: bits of an access on the down lane (16 of address, 36 of data) and on the up lane; the remainder that the down
lane always has beside edge records (DEDUCED, log entry 102). -/
def Txn.downBits (x : Txn) : Nat := if x.read then 16 else 52
def Txn.upBits (x : Txn) : Nat := if x.read then 36 else 0
abbrev downRest : Nat := 288
abbrev upRest : Nat := 112

/-- R13, R36: the access of a transaction goes over the link and returns, within what its cycle has left. -/
def State.crossTxn (s : State) (d : DieId) (x : Txn) : State :=
  s.cross d s.clock (fun u => decide (u.down + x.downBits ≤ downRest) && decide (u.up + x.upBits ≤ upRest))
    (fun u => { u with down := u.down + x.downBits, up := u.up + x.upBits })

/-- CROSS_DOMAIN_RETURN (R36): the access returns within 10 µs of its start, over a link that works. -/
def crossDomainReturn (req : Req) (es : List AccessEnv) (s : State) : State :=
  if !s.live then s
  else (s.onLink req (fun x since =>
    match blockDie x.blk with
    | none => (s, x)
    | some d =>
      let t := s.crossTxn d x
      if t.clock < since + 5000 ∧ s.linked x.blk then t.txnReturn req es x else (s, x))).busGo s.busIdle

def execCrossDomainReturn (dt : Nat) (req : Req) (envs : List AccessEnv) (s : State) : Host.Outcome State Fault Refusal :=
  s.answer (crossDomainReturn req envs (s.busPass dt))

/-- CROSS_DOMAIN_TIMEOUT (R37). -/
def crossDomainTimeout (req : Req) (s : State) : State :=
  if !s.live then s else (s.onLink req (fun x since => s.txnTimeout since x)).busGo s.busIdle

def execCrossDomainTimeout (req : Req) (s : State) : Host.Outcome State Fault Refusal := s.answer (crossDomainTimeout req s)

end Sys2Proof.Machine
end

