-- ==== Sys2Proof/Machine/Dispatch.lean ====
section
/-! DEFINITION. Which meaning each command has (one arm per row of the table of operations and events). -/

namespace Sys2Proof.Machine

open Sys2Proof

/-- The effect of a command on everything but the queue. -/
def exec (i : Instr) (s : State) : Host.Outcome State Fault Refusal :=
  match i with
  | .linkCycle d errs => Sys2Proof.Machine.execLinkCycle d errs s
  | .faultRecord ringOk => Sys2Proof.Machine.execFaultRecord ringOk s
  | .registerWrite dt req addr data env => Sys2Proof.Machine.execRegisterWrite dt req addr data env s
  | .rhRead dt req addr => Sys2Proof.Machine.execRhRead dt req addr s
  | .crossDomainReturn dt req envs => Sys2Proof.Machine.execCrossDomainReturn dt req envs s
  | .crossDomainTimeout req => Sys2Proof.Machine.execCrossDomainTimeout req s
  | .stocktake dt req data => Sys2Proof.Machine.execStocktake dt req data s
  | .stocktakeCapture gd0 gd1 => Sys2Proof.Machine.execStocktakeCapture gd0 gd1 s
  | .stocktakeConfirm dt => Sys2Proof.Machine.execStocktakeConfirm dt s
  | .stocktakeMissing => Sys2Proof.Machine.execStocktakeMissing s
  | .timestampWrap => Sys2Proof.Machine.execTimestampWrap s
  | .reset dt data => Sys2Proof.Machine.execReset dt data s
  | .boot dt => Sys2Proof.Machine.execBoot dt s
  | .slotCheckEnd dt device => Sys2Proof.Machine.execSlotCheckEnd dt device s
  | .check dt => Sys2Proof.Machine.execCheck dt s
  | .apply dt => Sys2Proof.Machine.execApply dt s
  | .applySlotA dt => Sys2Proof.Machine.execApplySlotA dt s
  | .applySlotB dt => Sys2Proof.Machine.execApplySlotB dt s
  | .programA dt => Sys2Proof.Machine.execProgramA dt s
  | .programB dt => Sys2Proof.Machine.execProgramB dt s
  | .verifyA dt => Sys2Proof.Machine.execVerifyA dt s
  | .verifyB dt => Sys2Proof.Machine.execVerifyB dt s
  | .invAbort dt done => Sys2Proof.Machine.execInvAbort dt done s
  | .invCheckEnd dt device => Sys2Proof.Machine.execInvCheckEnd dt device s
  | .applyComplete dt device => Sys2Proof.Machine.execApplyComplete dt device s
  | .partialApplyComplete dt => Sys2Proof.Machine.execPartialApplyComplete dt s
  | .programComplete dt device => Sys2Proof.Machine.execProgramComplete dt device s
  | .gatePowerUpdate d mw vg => Sys2Proof.Machine.execGatePowerUpdate d mw vg s
  | .vgLow dt d vg => Sys2Proof.Machine.execVgLow dt d vg s
  | .vgRecover dt d vg => Sys2Proof.Machine.execVgRecover dt d vg s
  | .floatingSupplyLow dt l deep => Sys2Proof.Machine.execFloatingSupplyLow dt l deep s
  | .floatingSupplyReady dt l full => Sys2Proof.Machine.execFloatingSupplyReady dt l full s
  | .commandedEdge l rise => Sys2Proof.Machine.execCommandedEdge l rise s
  | .switchTurnOn l hi sensed => Sys2Proof.Machine.execSwitchTurnOn l hi sensed s
  | .gateTimeout l hi rising => Sys2Proof.Machine.execGateTimeout l hi rising s
  | .shortConfirm dt l hi gate => Sys2Proof.Machine.execShortConfirm dt l hi gate s
  | .softHoldEnd l hi => Sys2Proof.Machine.execSoftHoldEnd l hi s
  | .retryWaitEnd l hi => Sys2Proof.Machine.execRetryWaitEnd l hi s
  | .clearLeg dt q legs => Sys2Proof.Machine.execClearLeg dt q legs s
  | .wireTest dt q legs => Sys2Proof.Machine.execWireTest dt q legs s
  | .wireTestStepEnd owner low high => Sys2Proof.Machine.execWireTestStepEnd owner low high s
  | .wireTestEnd owner => Sys2Proof.Machine.execWireTestEnd owner s
  | .leakTest dt q legs => Sys2Proof.Machine.execLeakTest dt q legs s
  | .leakCheckHourly l hi => Sys2Proof.Machine.execLeakCheckHourly l hi s
  | .leakCheckEnd dt l hi rise fall => Sys2Proof.Machine.execLeakCheckEnd dt l hi rise fall s
  | .lgSave dt q ok => Sys2Proof.Machine.execLgSave dt q ok s
  | .relearn dt q legs => Sys2Proof.Machine.execRelearn dt q legs s
  | .readmit dt q legs => Sys2Proof.Machine.execReadmit dt q legs s
  | .lgAbort dt q => Sys2Proof.Machine.execLgAbort dt q s
  | .legCfgWrite dt l msk data => Sys2Proof.Machine.execLegCfgWrite dt l msk data s
  | .carrierReload n => Sys2Proof.Machine.execCarrierReload n s
  | .groupArrival dt n => Sys2Proof.Machine.execGroupArrival dt n s
  | .delayCalibration q cells temp => Sys2Proof.Machine.execDelayCalibration q cells temp s
  | .coarseTimeout q => Sys2Proof.Machine.execCoarseTimeout q s
  | .hallEdge dt ch h => Sys2Proof.Machine.execHallEdge dt ch h s
  | .tripLatch dt n level => Sys2Proof.Machine.execTripLatch dt n level s
  | .blankEnd d n => Sys2Proof.Machine.execBlankEnd d n s
  | .clearTrip dt q trips => Sys2Proof.Machine.execClearTrip dt q trips s
  | .pwSave dt q ok => Sys2Proof.Machine.execPwSave dt q ok s
  | .outcfgWrite dt l msk data => Sys2Proof.Machine.execOutcfgWrite dt l msk data s
  | .pclkLoss dt d => Sys2Proof.Machine.execPclkLoss dt d s
  | .pclkReturn dt d => Sys2Proof.Machine.execPclkReturn dt d s
  | .holdLimitExpiry n => Sys2Proof.Machine.execHoldLimitExpiry n s
  | .adcTrigger n => Sys2Proof.Machine.execAdcTrigger n s
  | .conversionEnd c raw => Sys2Proof.Machine.execConversionEnd c raw s
  | .housekeepingConversion dt c => Sys2Proof.Machine.execHousekeepingConversion dt c s
  | .hkPeriodEnd c => Sys2Proof.Machine.execHkPeriodEnd c s
  | .adcResult dt d => Sys2Proof.Machine.execAdcResult dt d s
  | .calZero dt d sel => Sys2Proof.Machine.execCalZero dt d sel s
  | .calFull dt d sel => Sys2Proof.Machine.execCalFull dt d sel s
  | .calClear dt d sel => Sys2Proof.Machine.execCalClear dt d sel s
  | .adcAbort dt d => Sys2Proof.Machine.execAdcAbort dt d s
  | .calComplete dt d => Sys2Proof.Machine.execCalComplete dt d s
  | .comparatorTick levels => Sys2Proof.Machine.execComparatorTick levels s
  | .comparatorActive dt j level => Sys2Proof.Machine.execComparatorActive dt j level s
  | .comparatorRelease dt j level => Sys2Proof.Machine.execComparatorRelease dt j level s
  | .audit dt all num => Sys2Proof.Machine.execAudit dt all num s
  | .autoAudit j => Sys2Proof.Machine.execAutoAudit j s
  | .auditEnd outs => Sys2Proof.Machine.execAuditEnd outs s
  | .cmpSave dt ok => Sys2Proof.Machine.execCmpSave dt ok s
  | .cmpAbort dt => Sys2Proof.Machine.execCmpAbort dt s
  | .cmpCfgWrite dt j msk data => Sys2Proof.Machine.execCmpCfgWrite dt j msk data s
  | .engineFrame => Sys2Proof.Machine.execEngineFrame s
  | .motionFrame env => Sys2Proof.Machine.execMotionFrame env s
  | .slotStart n bad corr => Sys2Proof.Machine.execSlotStart n bad corr s
  | .slotOverrun n done => Sys2Proof.Machine.execSlotOverrun n done s
  | .storeScrub dt corr bad => Sys2Proof.Machine.execStoreScrub dt corr bad s
  | .speedEstStale n => Sys2Proof.Machine.execSpeedEstStale n s
  | .winDataAccess dt data => Sys2Proof.Machine.execWinDataAccess dt data s
  | .applyCoef dt => Sys2Proof.Machine.execApplyCoef dt s
  | .coefBatchApply => Sys2Proof.Machine.execCoefBatchApply s
  | .discard dt => Sys2Proof.Machine.execDiscard dt s
  | .engAbort dt => Sys2Proof.Machine.execEngAbort dt s
  | .arm dt n => Sys2Proof.Machine.execArm dt n s
  | .cfReadyTimeout n => Sys2Proof.Machine.execCfReadyTimeout n s
  | .checkingEnd dt n => Sys2Proof.Machine.execCheckingEnd dt n s
  | .disarm dt n => Sys2Proof.Machine.execDisarm dt n s
  | .disarmRampEnd n => Sys2Proof.Machine.execDisarmRampEnd n s
  | .stop dt n => Sys2Proof.Machine.execStop dt n s
  | .qstop dt n => Sys2Proof.Machine.execQstop dt n s
  | .moveAbs dt n => Sys2Proof.Machine.execMoveAbs dt n s
  | .moveRel dt n => Sys2Proof.Machine.execMoveRel dt n s
  | .velocity dt n => Sys2Proof.Machine.execVelocity dt n s
  | .clear dt n => Sys2Proof.Machine.execClear dt n s
  | .unlatch dt n => Sys2Proof.Machine.execUnlatch dt n s
  | .reacquire dt n => Sys2Proof.Machine.execReacquire dt n s
  | .reacquireTimeout n => Sys2Proof.Machine.execReacquireTimeout n s
  | .learn dt n => Sys2Proof.Machine.execLearn dt n s
  | .learnEnd dt n => Sys2Proof.Machine.execLearnEnd dt n s
  | .align dt n => Sys2Proof.Machine.execAlign dt n s
  | .alignHoldEnd n => Sys2Proof.Machine.execAlignHoldEnd n s
  | .axisPreset dt n => Sys2Proof.Machine.execAxisPreset dt n s
  | .axisSave dt n ok => Sys2Proof.Machine.execAxisSave dt n ok s
  | .axisAbort dt n => Sys2Proof.Machine.execAxisAbort dt n s
  | .profileAtRest n => Sys2Proof.Machine.execProfileAtRest n s
  | .atTarget n => Sys2Proof.Machine.execAtTarget n s
  | .stopTimeout n => Sys2Proof.Machine.execStopTimeout n s
  | .standbyDelay n => Sys2Proof.Machine.execStandbyDelay n s
  | .holdSettle n => Sys2Proof.Machine.execHoldSettle n s
  | .transferDone n => Sys2Proof.Machine.execTransferDone n s
  | .quadratureEdge dt c a b z held => Sys2Proof.Machine.execQuadratureEdge dt c a b z held s
  | .toothEdge dt c held => Sys2Proof.Machine.execToothEdge dt c held s
  | .lineBreak dt c p => Sys2Proof.Machine.execLineBreak dt c p s
  | .lineBreakClear dt c p => Sys2Proof.Machine.execLineBreakClear dt c p s
  | .ssiRead c => Sys2Proof.Machine.execSsiRead c s
  | .ssiReadEnd dt c raw low => Sys2Proof.Machine.execSsiReadEnd dt c raw low s
  | .speedTimeout c => Sys2Proof.Machine.execSpeedTimeout c s
  | .clearSuspect dt c => Sys2Proof.Machine.execClearSuspect dt c s
  | .fbPreset dt c => Sys2Proof.Machine.execFbPreset dt c s
  | .fbSave dt c ok => Sys2Proof.Machine.execFbSave dt c ok s
  | .unref dt c => Sys2Proof.Machine.execUnref dt c s
  | .cpoArm dt outs => Sys2Proof.Machine.execCpoArm dt outs s
  | .cpoStop dt outs => Sys2Proof.Machine.execCpoStop dt outs s
  | .fire dt outs => Sys2Proof.Machine.execFire dt outs s
  | .cpoSave dt ok => Sys2Proof.Machine.execCpoSave dt ok s
  | .pulseEnd n => Sys2Proof.Machine.execPulseEnd n s
  | .compareLineArrival dt n => Sys2Proof.Machine.execCompareLineArrival dt n s
  | .start dt prog => Sys2Proof.Machine.execStart dt prog s
  | .hold dt => Sys2Proof.Machine.execHold dt s
  | .resume dt => Sys2Proof.Machine.execResume dt s
  | .plnSave dt ok => Sys2Proof.Machine.execPlnSave dt ok s
  | .plnAbort dt => Sys2Proof.Machine.execPlnAbort dt s
  | .blockRead dt => Sys2Proof.Machine.execBlockRead dt s
  | .override dt data => Sys2Proof.Machine.execOverride dt data s
  | .dwellEnd => Sys2Proof.Machine.execDwellEnd s
  | .waitIoTimeout => Sys2Proof.Machine.execWaitIoTimeout s
  | .programEnd dt => Sys2Proof.Machine.execProgramEnd dt s
  | .syncArrival dt => Sys2Proof.Machine.execSyncArrival dt s
  | .syncArmRepeat => Sys2Proof.Machine.execSyncArmRepeat s
  | .syncGo => Sys2Proof.Machine.execSyncGo s
  | .syncTimeout => Sys2Proof.Machine.execSyncTimeout s
  | .groupHoldInstant => Sys2Proof.Machine.execGroupHoldInstant s
  | .streamTimeout n => Sys2Proof.Machine.execStreamTimeout n s
  | .larderInit dt ok => Sys2Proof.Machine.execLarderInit dt ok s
  | .lineRead dt dist => Sys2Proof.Machine.execLineRead dt dist s
  | .scrubRead dist => Sys2Proof.Machine.execScrubRead dist s
  | .eccHour => Sys2Proof.Machine.execEccHour s
  | .refresh => Sys2Proof.Machine.execRefresh s
  | .dramTemp t0 t1 t2 => Sys2Proof.Machine.execDramTemp t0 t1 t2 s
  | .hoistWindowAccess dt req write => Sys2Proof.Machine.execHoistWindowAccess dt req write s
  | .pointerWrite dt hp data => Sys2Proof.Machine.execPointerWrite dt hp data s
  | .lineCommit dt hp dist => Sys2Proof.Machine.execLineCommit dt hp dist s
  | .gatherTimeout hp => Sys2Proof.Machine.execGatherTimeout hp s
  | .flush dt => Sys2Proof.Machine.execFlush dt s
  | .fill dt => Sys2Proof.Machine.execFill dt s
  | .copy dt => Sys2Proof.Machine.execCopy dt s
  | .crc dt => Sys2Proof.Machine.execCrc dt s
  | .hstAbort dt words => Sys2Proof.Machine.execHstAbort dt words s
  | .hoistOpEnd dt dist => Sys2Proof.Machine.execHoistOpEnd dt dist s
  | .ethernetFrame dt port leave f => Sys2Proof.Machine.execEthernetFrame dt port leave f s
  | .arp dt => Sys2Proof.Machine.execArp dt s
  | .icmpEcho dt => Sys2Proof.Machine.execIcmpEcho dt s
  | .arpAge => Sys2Proof.Machine.execArpAge s
  | .macAge => Sys2Proof.Machine.execMacAge s
  | .linkUp dt port gig => Sys2Proof.Machine.execLinkUp dt port gig s
  | .linkLost dt port => Sys2Proof.Machine.execLinkLost dt port s
  | .ptpSync dt => Sys2Proof.Machine.execPtpSync dt s
  | .ptpMessage dt => Sys2Proof.Machine.execPtpMessage dt s
  | .ptpSyncTimeout => Sys2Proof.Machine.execPtpSyncTimeout s
  | .ptpMasterSend => Sys2Proof.Machine.execPtpMasterSend s
  | .ladderFrame dt => Sys2Proof.Machine.execLadderFrame dt s
  | .discover dt => Sys2Proof.Machine.execDiscover dt s
  | .discoverResponse dt => Sys2Proof.Machine.execDiscoverResponse dt s
  | .status dt => Sys2Proof.Machine.execStatus dt s
  | .regRead dt => Sys2Proof.Machine.execRegRead dt s
  | .regWrite dt envs => Sys2Proof.Machine.execRegWrite dt envs s
  | .hoistRead dt => Sys2Proof.Machine.execHoistRead dt s
  | .hoistWrite dt => Sys2Proof.Machine.execHoistWrite dt s
  | .stream dt => Sys2Proof.Machine.execStream dt s
  | .syncArm dt => Sys2Proof.Machine.execSyncArm dt s
  | .event dt => Sys2Proof.Machine.execEvent dt s
  | .eventRepeat => Sys2Proof.Machine.execEventRepeat s
  | .stocktakeAt dt => Sys2Proof.Machine.execStocktakeAt dt s
  | .sessionExpiry => Sys2Proof.Machine.execSessionExpiry s
  | .partnerDiscover => Sys2Proof.Machine.execPartnerDiscover s
  | .heartbeat => Sys2Proof.Machine.execHeartbeat s
  | .partnerAbsent slot => Sys2Proof.Machine.execPartnerAbsent slot s
  | .quarantineExpiry => Sys2Proof.Machine.execQuarantineExpiry s
  | .endSession dt slot => Sys2Proof.Machine.execEndSession dt slot s
  | .clearQuar dt => Sys2Proof.Machine.execClearQuar dt s
  | .ladSave dt ok => Sys2Proof.Machine.execLadSave dt ok s
  | .ptpSecRead dt req => Sys2Proof.Machine.execPtpSecRead dt req s
  | .hpRead dt cmd crc edges clocks => Sys2Proof.Machine.execHpRead dt cmd crc edges clocks s
  | .hpWrite dt cmd crc data dataCrc edges clocks envs => Sys2Proof.Machine.execHpWrite dt cmd crc data dataCrc edges clocks envs s
  | .hpPing dt cmd crc edges => Sys2Proof.Machine.execHpPing dt cmd crc edges s
  | .hpWordReady dt envs => Sys2Proof.Machine.execHpWordReady dt envs s
  | .selectRelease dt => Sys2Proof.Machine.execSelectRelease dt s
  | .overclock dt => Sys2Proof.Machine.execOverclock dt s
  | .portStart dt p sel dir cmds units => Sys2Proof.Machine.execPortStart dt p sel dir cmds units s
  | .portDeferredStart dt p => Sys2Proof.Machine.execPortDeferredStart dt p s
  | .portXferEnd dt p rx => Sys2Proof.Machine.execPortXferEnd dt p rx s
  | .portRdyTimeout dt p rx => Sys2Proof.Machine.execPortRdyTimeout dt p rx s
  | .busyRetry p => Sys2Proof.Machine.execBusyRetry p s
  | .portFlush dt p => Sys2Proof.Machine.execPortFlush dt p s
  | .portSave dt p ok => Sys2Proof.Machine.execPortSave dt p ok s
  | .portAbort dt p rx => Sys2Proof.Machine.execPortAbort dt p rx s
  | .portDataAccess dt p data => Sys2Proof.Machine.execPortDataAccess dt p data s
  | .stepEdge dt c step dir held => Sys2Proof.Machine.execStepEdge dt c step dir held s
  | .enaEdge dt c high => Sys2Proof.Machine.execEnaEdge dt c high s
  | .hatchPairOpen dt c => Sys2Proof.Machine.execHatchPairOpen dt c s
  | .hatchPairValid dt c step dir => Sys2Proof.Machine.execHatchPairValid dt c step dir s
  | .cmdaCalZero dt inp => Sys2Proof.Machine.execCmdaCalZero dt inp s
  | .cmdaCalEnd dt sum => Sys2Proof.Machine.execCmdaCalEnd dt sum s
  | .hatSave dt ok => Sys2Proof.Machine.execHatSave dt ok s
  | .hatAbort dt => Sys2Proof.Machine.execHatAbort dt s
  | .prechargeStart dt => Sys2Proof.Machine.execPrechargeStart dt s
  | .prechargeDone dt => Sys2Proof.Machine.execPrechargeDone dt s
  | .prechargeTimeout => Sys2Proof.Machine.execPrechargeTimeout s
  | .vmReversed dt => Sys2Proof.Machine.execVmReversed dt s
  | .inletUnblock dt => Sys2Proof.Machine.execInletUnblock dt s
  | .brakeIneffective => Sys2Proof.Machine.execBrakeIneffective s
  | .brakeHeatSave ok => Sys2Proof.Machine.execBrakeHeatSave ok s
  | .stopInput dt b => Sys2Proof.Machine.execStopInput dt b s
  | .stopDelayEnd => Sys2Proof.Machine.execStopDelayEnd s
  | .stopbBackstop d => Sys2Proof.Machine.execStopbBackstop d s
  | .stopDiscrepancy => Sys2Proof.Machine.execStopDiscrepancy s
  | .trapdoorShortTimeout n => Sys2Proof.Machine.execTrapdoorShortTimeout n s
  | .gateLinkLoss d => Sys2Proof.Machine.execGateLinkLoss d s
  | .gateLinkReturn dt d => Sys2Proof.Machine.execGateLinkReturn dt d s
  | .replaceReasonClear dt reason => Sys2Proof.Machine.execReplaceReasonClear dt reason s
  | .pop dt => Sys2Proof.Machine.execPop dt s
  | .faultFlush dt => Sys2Proof.Machine.execFaultFlush dt s
  | .fltSave dt ok => Sys2Proof.Machine.execFltSave dt ok s
  | .keyDataWrite dt data => Sys2Proof.Machine.execKeyDataWrite dt data s
  | .keyProgram dt => Sys2Proof.Machine.execKeyProgram dt s
  | .keyProgramEnd dt flips => Sys2Proof.Machine.execKeyProgramEnd dt flips s
  | .ringDataAccess dt => Sys2Proof.Machine.execRingDataAccess dt s
  | .lifetimeUpdate dt ok => Sys2Proof.Machine.execLifetimeUpdate dt ok s
  | .powerUp dt => Sys2Proof.Machine.execPowerUp dt s
  | .pllLock dt => Sys2Proof.Machine.execPllLock dt s
  | .strongboxRead dt => Sys2Proof.Machine.execStrongboxRead dt s
  | .powerOff dt flips => Sys2Proof.Machine.execPowerOff dt flips s
  | .brownout dt => Sys2Proof.Machine.execBrownout dt s
  | .brownoutRecovery dt => Sys2Proof.Machine.execBrownoutRecovery dt s
  | .rstN dt => Sys2Proof.Machine.execRstN dt s
  | .resetEnd dt => Sys2Proof.Machine.execResetEnd dt s
  | .resetShortTimeout => Sys2Proof.Machine.execResetShortTimeout s
  | .pllLoss dt ref => Sys2Proof.Machine.execPllLoss dt ref s
  | .pllRelock dt => Sys2Proof.Machine.execPllRelock dt s
  | .pllLossTimeout => Sys2Proof.Machine.execPllLossTimeout s
  | .extest dt => Sys2Proof.Machine.execExtest dt s
  | .idcode dt => Sys2Proof.Machine.execIdcode dt s
  | .samplePreload dt => Sys2Proof.Machine.execSamplePreload dt s
  | .highz dt => Sys2Proof.Machine.execHighz dt s
  | .clamp dt => Sys2Proof.Machine.execClamp dt s
  | .debugHalt dt broken => Sys2Proof.Machine.execDebugHalt dt broken s
  | .debugRun dt => Sys2Proof.Machine.execDebugRun dt s
  | .bypass dt => Sys2Proof.Machine.execBypass dt s
  | .testLogicReset dt => Sys2Proof.Machine.execTestLogicReset dt s
  | .stopInputHigh dt b => Sys2Proof.Machine.execStopInputHigh dt b s
  | .vminBelow5v dt => Sys2Proof.Machine.execVminBelow5v dt s
  | .cmdaEdge dt inp high => Sys2Proof.Machine.execCmdaEdge dt inp high s

end Sys2Proof.Machine
end

