-- ==== Sys2Proof/Safety.lean ====
section
/-! DEFINITION. What counts as safe, in the terms that claims use: no leg with both switches on (R104), sparse stores in
canonical form, and a run that no command stops. -/

namespace Sys2Proof.Machine

open Sys2Proof

/-- R104: not both switches of the leg are on. -/
def Leg.safe (g : Leg) : Bool := !(g.hi.on && g.lo.on)

/-- R104: no leg has both switches on. -/
def State.legsSafe (s : State) : Bool := s.legs.toList.all Leg.safe

/-- The registers, the Larder's bytes and the flash slots are in canonical form. -/
def State.canonical (s : State) : Bool :=
  Cells.wf (resetWord s.variant) s.regs && Memory.wf s.larder.mem &&
    s.flash.toList.all (fun m => Cells.wf (fun _ => (0xFF : Byte)) m)

/-- Every register but those of `l` reads in `t` as in `s`. -/
def RegsBut (s t : State) (l : List Nat) : Prop := ∀ k, k ∉ l → t.reg k = s.reg k

/-- Every byte of the Larder reads in `t` as in `s`. -/
def SameBytes (s t : State) : Prop := ∀ a, Memory.read t.larder.mem a = Memory.read s.larder.mem a

/-- The state under the interlock of R104, which changes nothing in a state that is `legsSafe`. A claim that names what a
command may change says `t = { s.interlocked with … }`: everything not named there is as it was. -/
def State.interlocked (s : State) : State := { s with legs := s.legs.map Leg.interlock }

/-- A switch but for whether it is on, waits to turn on, and when it last turned. -/
def Switch.still (w : Switch) : Switch := { w with
  on := false, wait := none, offAt := 0, offSince := 0, onAt := 0, watched := false, stuck := false }

/-- A leg but for the turning of its switches and its both-on request. -/
def Leg.still (g : Leg) : Leg := { g with hi := g.hi.still, lo := g.lo.still, bothOn := false }

/-- A die but for its event buffer and its blanking windows. -/
def Die.still (d : Die) : Die := { d with events := [], blankEnd := [] }

/-- R104, R107, R146: `t` is `u` with legs having taken up their requests: switches have turned, both-on requests have been seen
(BOTH_ON of LEG_STAT and events of the dies), blanking windows have opened; nothing else differs. -/
def LegsFollow (u t : State) : Prop :=
  (∀ l : LegId, t.legs[l].still = u.legs[l].still) ∧ (∀ d : DieId, t.dies[d].still = u.dies[d].still) ∧
  (∀ d : DieId, u.dies[d].events <+: t.dies[d].events) ∧
  (∀ k, (∀ q m, k ≠ R.LG_LEG_STAT q m) → t.reg k = u.reg k) ∧
  (∀ (q : Quad) (m : Fin 8) (hi lo : Nat), hi < (F.LG_LEG_STAT_BOTH_ON q m).lo ∨ (F.LG_LEG_STAT_BOTH_ON q m).hi < lo →
    t.fld ⟨R.LG_LEG_STAT q m, hi, lo⟩ = u.fld ⟨R.LG_LEG_STAT q m, hi, lo⟩) ∧
  t = { u with legs := t.legs, dies := t.dies, regs := t.regs }

/-- Registers of SYS, CLK, INV, BOX, PRT, LAD, HST and LDC. -/
def outer (k : Nat) : Prop := k < 2048 ∨ (2560 ≤ k ∧ k < 4608)

/-- From `s` to `t` reactions of chapters 4, 8, 10 and 15 alone have run: legs, axes, the planner and what hangs on them may have
changed; no power state, no Inventory, no comparator, no bus access and no register of SYS, CLK, INV, BOX, PRT, LAD, HST
or LDC has. -/
def ReactionsOnly (s t : State) : Prop :=
  t = { s with
    clock := t.clock, free := t.free, regs := t.regs, fm := t.fm, box := t.box, dies := t.dies, legs := t.legs,
    regions := t.regions, carriers := t.carriers, wireTests := t.wireTests, leakTests := t.leakTests, pins := t.pins,
    engs := t.engs, engine := t.engine, axes := t.axes, chans := t.chans, larder := t.larder, ladder := t.ladder,
    planner := t.planner, comps := t.comps, hatch := t.hatch } ∧
  ∀ k, outer k → t.reg k = s.reg k

/-- R46, R455: `t` is the module in RESET, come from `e`, the state with the Trapdoor engaged on every axis: the PLL's status,
the Strongbox, the flash, the test access port, the policies of the dies and their backup clocks stand; every other register
but NEXT_BOOT (Table 3.25: `order`) and LEG_STAT reads its reset word; the time of R140 runs from now. -/
def ResetFrom (e t : State) (order : Nat) : Prop :=
  t.power = .reset ∧ t.seq.resetAt = e.clock ∧ t.seq.waitKey = false ∧ t.fld F.INV_NEXT_BOOT_NEXT_BOOT = order % 4 ∧
  t.flag F.CLK_PLL_STAT_LOCK = e.flag F.CLK_PLL_STAT_LOCK ∧ t.flag F.SYS_STATUS_PLL_LOCK = e.flag F.CLK_PLL_STAT_LOCK ∧
  t.flag F.CLK_PLL_STAT_BACKUP_GD0 = e.flag F.CLK_PLL_STAT_BACKUP_GD0 ∧
  t.flag F.CLK_PLL_STAT_BACKUP_GD1 = e.flag F.CLK_PLL_STAT_BACKUP_GD1 ∧
  (∀ l : LegId, t.legs[l].policy = e.legs[l].policy) ∧ (∀ d : DieId, t.dies[d].vgUp = e.dies[d].vgUp) ∧
  (∀ q : Quad, t.reg (R.PW_STATUS q) = if (e.dies[quadDie q]).onBackup then 16 else 0) ∧
  (∀ k, k ∉ [R.CLK_PLL_STAT, R.SYS_STATUS, R.INV_NEXT_BOOT] → (∀ q m, k ≠ R.LG_LEG_STAT q m) → (∀ q, k ≠ R.PW_STATUS q) →
    t.reg k = resetWord e.variant k) ∧
  t = { State.reset with
    regions := Vector.replicate 4 { Region.reset with coarseSince := e.clock }
    variant := e.variant, clock := e.clock, tsBase := e.clock, free := e.free, box := e.box, flash := e.flash, jtag := e.jtag,
    power := .reset, seq := t.seq, legs := t.legs, dies := t.dies, regs := t.regs, pending := e.pending }

/-- R452, R441, R423, R446, R120, R121, R473: `t` is `u` with the Strongbox read: the module loads, the key region is judged, the
kept reasons, BASE of every switch, the retired legs and the brake heat stand as before the power was lost, and every
comparator waits for its audit. -/
def BoxReadFrom (u t : State) : Prop :=
  t.power = .loading ∧ t.flag F.BOX_STATUS_READY = true ∧
  t.flag F.BOX_STATUS_KEY_SET = (decide (u.box.key ≠ 0) || u.box.mark) ∧
  t.flag F.INV_ACTIVE_KEY_BLANK = !(decide (u.box.key ≠ 0) || u.box.mark) ∧
  t.box.keyUnknown = (decide (u.box.key ≠ 0) && !u.box.mark) ∧
  t.reg R.SYS_REPLACE_WHY = BitVec.ofNat 36 (keptReasons u.box.reasons) ∧
  t.reg R.BOX_RING_COUNT = u.box.ringCount ∧ t.guard.heat = u.box.heat ∧ t.seq.counted = true ∧
  t.audit.todo = u.audit.todo ++ (List.range 64).map (fun j => (j, AuditBy.startUp)) ∧
  (∀ l : LegId, l.val ∈ u.box.retired → t.legState l = lgRetired) ∧
  (∀ k, k ∉ [R.BOX_STATUS, R.INV_ACTIVE, R.SYS_REPLACE_WHY, R.SYS_STATUS, R.FLT_STATUS, R.BOX_RING_COUNT, R.LAD_IP_ADDR,
    R.LAD_STATUS, R.LAD_PTP_STAT] → k ∉ u.box.leak.map Prod.fst → (∀ q m, k ≠ R.LG_LEG_STAT q m) → t.reg k = u.reg k) ∧
  t.box = { u.box with keyUnknown := t.box.keyUnknown, reasons := t.box.reasons, life := t.box.life } ∧
  t = { u.interlocked with
    power := .loading, clock := t.clock, regs := t.regs, fm := t.fm, box := t.box,
    guard := t.guard, seq := { u.seq with counted := true }, audit := t.audit, pending := t.pending }

/-- R326, R331, R337: from `s` to `t` one write of logical line `line` with the words `ws` has run: its codeword stands on its
physical line, every other byte is as it was, WSEQ has advanced and a POISONED mark of the line is gone. -/
def LineWritten (s t : State) (line : Nat) (ws : List Word) : Prop :=
  (∀ b, b < 48 → Memory.read t.larder.mem (48 * s.physLine line + b) =
    BitVec.ofNat 8 ((lineCode ws (line * 8) ((s.reg R.LDC_WSEQ).toNat % 2 ^ 18)).getD b 0)) ∧
  (∀ a, a < 48 * s.physLine line ∨ 48 * s.physLine line + 48 ≤ a → Memory.read t.larder.mem a = Memory.read s.larder.mem a) ∧
  t.reg R.LDC_WSEQ = s.reg R.LDC_WSEQ + 1 ∧ t.larder.poisoned = s.larder.poisoned.filter (· ≠ line)

/-- R328: logical line `line` of `s` reads without an error, and its words are `ws`. -/
def LineReads (s : State) (line : Nat) (ws : List Word) : Prop :=
  line ∉ s.larder.poisoned ∧ lineEcho (Memory.line s.larder.mem (s.physLine line)) = line * 8 ∧
  (rsSyndromes (Memory.line s.larder.mem (s.physLine line))).all (· = 0) = true ∧
  ws = lineWords (Memory.line s.larder.mem (s.physLine line))

/-- R355, R356, R360: the response to `m` has gone to the lowest transmit queue, if the session of `m` still stands. -/
def Responded (s t : State) (m : Msg) (status : Nat) (wrap : Bool) (ws : List Word) : Prop :=
  ∀ i e f, m.slot = some i → s.session i = some e → e.ip = m.ip → e.port = m.port →
    f = frameBytes true true m.typ m.seq ws.length status wrap 0 (packWords ws) →
    ∃ q ∈ t.ladder.sent, q.queue = 3 ∧
      q.body = .ladder e.ip e.port (f ++ tagOf e.keyOut s.myIp e.ip s.ladderDef.udpPort e.port.toNat f)

/-- A step that no command stops. -/
def State.goesOn (s : State) : Prop := ∃ t, step s = .next t

end Sys2Proof.Machine
end

