-- ==== Sys2Proof/Certificates/Slice0/Obligations.lean ====
section
/-! DEFINITION. The statements for the provers. -/

open Sys2Proof Sys2Proof.Machine

/-- R38, R40, R18, R42 (Table 2.14): a request for a Stocktake, while none is pending, names its instant T, 4000 PCLK later, and its
source; the confirmation of every present die completes it, and so does, at T + 20 µs, the silence of a die, which is named
MISSING; the module timestamp wraps with its flag.
The readings and choices of the model in it: log entry 201. -/
def Obligations.StocktakeRunsAndTimestampWraps : Prop :=
  (∀ (dt : Nat) (req : Req) (d : Word) (s : State), s.reach 0 = true → s.flag F.SYS_STOCK_DONE_PENDING = false →
    ∃ t, exec (.stocktake dt req d) s = .next t ∧ t.clock = s.clock + dt ∧ t.stock.due = s.clock + dt + 4000 ∧
      t.stock.caught = none ∧ t.reg R.SYS_STOCK_AT = s.stamp (s.clock + dt + 4000) ∧
      t.flag F.SYS_STOCK_DONE_PENDING = true ∧ t.flag F.SYS_STOCK_DONE_DONE = false ∧
      t.fld F.SYS_STOCK_DONE_SOURCE = (match req with | .hp => 1 | .ladder => 2) ∧
      RegsBut s t [R.SYS_STOCK_AT, R.SYS_STOCK_DONE] ∧
      t = { s.interlocked with regs := t.regs, clock := t.clock, stock := t.stock }) ∧
  (∀ (dt : Nat) (b : Bool) (s : State), s.live = true → s.flag F.SYS_STOCK_DONE_PENDING = true →
    s.stock.caught = some (true, b) → b = true ∨ s.hasDie 1 = false →
    ∃ t, exec (.stocktakeConfirm dt) s = .next t ∧ t.flag F.SYS_STOCK_DONE_DONE = true ∧
      t.flag F.SYS_STOCK_DONE_PENDING = false ∧ t.flag F.SYS_STOCK_DONE_MISSING_GD0 = s.flag F.SYS_STOCK_DONE_MISSING_GD0 ∧
      t.flag F.SYS_STOCK_DONE_MISSING_GD1 = s.flag F.SYS_STOCK_DONE_MISSING_GD1 ∧ RegsBut s t [R.SYS_STOCK_DONE] ∧
      t = { s.interlocked with regs := t.regs, clock := t.clock }) ∧
  (∀ (a b : Bool) (s : State), s.live = true → s.flag F.SYS_STOCK_DONE_PENDING = true → s.stock.caught = some (a, b) →
    a = false ∨ (b = false ∧ s.hasDie 1 = true) →
    ∃ t, exec .stocktakeMissing s = .next t ∧ t.clock = max s.clock (s.stock.due + 10000) ∧
      t.flag F.SYS_STOCK_DONE_DONE = true ∧ t.flag F.SYS_STOCK_DONE_PENDING = false ∧
      t.flag F.SYS_STOCK_DONE_MISSING_GD0 = !a ∧ t.flag F.SYS_STOCK_DONE_MISSING_GD1 = (!b && s.hasDie 1) ∧
      RegsBut s t [R.SYS_STOCK_DONE] ∧ t = { s.interlocked with regs := t.regs, clock := t.clock }) ∧
  (∀ s : State, s.live = true →
    ∃ t, exec .timestampWrap s = .next t ∧ t.clock = max s.clock (max s.stock.wrapAt s.tsBase + 2 ^ 36) ∧
      t.stock.wrapAt = max s.stock.wrapAt s.tsBase + 2 ^ 36 ∧ t.flag F.SYS_STATUS_TS_WRAP = true ∧
      RegsBut s t [R.SYS_STATUS] ∧ t = { s.interlocked with regs := t.regs, clock := t.clock, stock := t.stock })

/-- R39: a request made while a Stocktake is pending sets SYS.STATUS.STOCK_REFUSED and does nothing else, from HP, from the
Ladder, or at an instant of its own (STOCKTAKE_AT), which goes through `scheduleStock`. -/
def Obligations.PendingStocktakeRefusesRequests : Prop :=
  (∀ (dt : Nat) (req : Req) (d : Word) (s : State), s.reach 0 = true → s.flag F.SYS_STOCK_DONE_PENDING = true →
    ∃ t, exec (.stocktake dt req d) s = .next t ∧ t.flag F.SYS_STATUS_STOCK_REFUSED = true ∧
      (∀ f : Fld, f.key = R.SYS_STATUS → f.hi < F.SYS_STATUS_STOCK_REFUSED.lo ∨ F.SYS_STATUS_STOCK_REFUSED.hi < f.lo →
        t.fld f = s.fld f) ∧
      RegsBut s t [R.SYS_STATUS] ∧ t = { s.interlocked with regs := t.regs, clock := t.clock }) ∧
  (∀ (at_ source : Nat) (s : State), s.flag F.SYS_STOCK_DONE_PENDING = true →
    s.scheduleStock at_ source = (s.setFlag F.SYS_STATUS_STOCK_REFUSED true, false)) ∧
  (∀ (dt : Nat) (m : Msg) (rest : List Msg) (at_ : Int) (u s : State), s.ladder.txns = m :: rest → m.typ = 10 →
    u = { s with clock := s.clock + dt } → s.ptpLocked = true → s.flag F.SYS_STOCK_DONE_PENDING = true →
    u.instantAt ((unpackWords 1 m.body).getD 0 0) ((unpackWords 1 m.body).getD 1 0) = some at_ →
    (m.at_ : Int) + 4000 ≤ at_ → at_ ≤ (m.at_ : Int) + 50000000 → s.ladder.ending = none →
    ∃ t, exec (.stocktakeAt dt) s = .next t ∧ t.flag F.SYS_STATUS_STOCK_REFUSED = true ∧ t.stock = s.stock ∧
      RegsBut s t [R.SYS_STATUS])

/-- R38: at T the module copies every counter that has a holding register, on LD and on every die that captures, into that
register; SYS.TIME_H receives T; the holding registers of a die that does not capture keep their contents, and so does
every other register.
The readings and choices of the model in it: log entry 201. -/
def Obligations.StocktakeCopiesCounters : Prop :=
  ∀ (gd0 gd1 : Bool) (s : State), s.live = true → s.flag F.SYS_STOCK_DONE_PENDING = true → s.stock.caught = none →
    ∃ t, exec (.stocktakeCapture gd0 gd1) s = .next t ∧ t.clock = max s.clock s.stock.due ∧
      t.stock.caught = some (gd0 && !s.dies[0].linkLost, gd1 && s.hasDie 1 && !s.dies[1].linkLost) ∧
      t.reg R.SYS_TIME_H = s.stamp s.stock.due ∧
      (∀ (blk : Nat) (b : BlockSpec) (p : Nat × Nat),
        blk ∈ s.captured (gd0 && !s.dies[0].linkLost, gd1 && s.hasDie 1 && !s.dies[1].linkLost) →
        blockTable.find? (fun b => decide (b.num ≤ blk) && decide (blk < b.num + b.inst)) = some b → p ∈ holdingPairs b →
        t.reg (blk * 512 + p.1) = s.reg (blk * 512 + p.2)) ∧
      (∀ k, k ≠ R.SYS_TIME_H →
        (∀ (blk : Nat) (b : BlockSpec) (p : Nat × Nat),
          blk ∈ s.captured (gd0 && !s.dies[0].linkLost, gd1 && s.hasDie 1 && !s.dies[1].linkLost) →
          blockTable.find? (fun b => decide (b.num ≤ blk) && decide (blk < b.num + b.inst)) = some b → p ∈ holdingPairs b →
          k ≠ blk * 512 + p.1) → t.reg k = s.reg k) ∧
      t = { s.interlocked with regs := t.regs, clock := t.clock, stock := t.stock }

/-- R30, R32, Table 2.3: bit for bit, what a write makes of a register whose RW bits are `rw` and whose W1C bits are `w1c`: an
ordinary write replaces RW bits and clears W1C bits written 1; a masked write takes data bits [35:18] as a mask for bits
[17:0] and leaves bits [35:18] alone; every other bit stands. -/
def Obligations.WritesMergeByAccessCode : Prop :=
  ∀ (rw w1c : Nat) (msk : Bool) (old data : Word) (i : Nat), i < 36 → rw &&& w1c = 0 →
    (mergeWord rw w1c msk old data).getLsbD i =
      (if msk = false ∨ (i < 18 ∧ data.getLsbD (18 + i) = true) then
        (if rw.testBit i then data.getLsbD i else if w1c.testBit i then old.getLsbD i && !data.getLsbD i else old.getLsbD i)
      else old.getLsbD i)

/-- R30, R32, R23, R22: a write to SYS.SCRATCH (all RW), ordinary or masked, from either requester, completes within its access
over a bus on which nothing else waits, holds the bus for 2 BCLK and changes nothing else; while another request waits, a write
to any address waits for its grant too; of the requests that wait, the bus grants one that no other precedes: by 64 BCLK of
waiting and age, else by row 6 of Table 1.6.
The readings and choices of the model in it: log entries 103, 202. -/
def Obligations.RegisterWriteLoadsScratch : Prop :=
  (∀ (dt : Nat) (req : Req) (msk : Bool) (data : Word) (e : AccessEnv) (s : State), s.live = true → s.busIdle = true →
    ∃ t, exec (.registerWrite dt req (if msk then 0x20B else 0x00B) data e) s = .next t ∧
      t.reg R.SYS_SCRATCH = mergeWord (2 ^ 36 - 1) 0 msk (s.reg R.SYS_SCRATCH) data ∧
      t.access = { s.access with read := [], freeAt := 3 * (s.clock + dt) + 10 } ∧ t.clock = s.clock + dt ∧
      RegsBut s t [R.SYS_SCRATCH] ∧
      t = { s.interlocked with regs := t.regs, clock := t.clock, access := t.access }) ∧
  (∀ (dt : Nat) (req : Req) (addr : BitVec 16) (data : Word) (e : AccessEnv) (u s : State), u = s.busPass dt →
    u.live = true → u.busIdle = false →
    ∃ t x, exec (.registerWrite dt req addr data e) s = .next t ∧ t.access.open_ = u.access.open_ ++ [(req, x)] ∧
      x.wait = .bus u.clock ∧ x.blk = addr.toNat / 1024 ∧ x.read = false ∧ x.data = [data] ∧ x.left = 1 ∧
      t = { u.interlocked with clock := t.clock, access := { u.access with open_ := t.access.open_ }, pending := s.pending }) ∧
  (∀ (at_ : Nat) (l : List BusWant) (w : BusWant), bestWant at_ l = some w →
    w ∈ l ∧ ∀ v ∈ l, w = v ∨
      (if 3 * w.since + 320 ≤ at_ then 3 * v.since + 320 ≤ at_ → w.since ≤ v.since
       else ¬ 3 * v.since + 320 ≤ at_ ∧ w.rank ≤ v.rank))

/-- R29, R28: an access to an unimplemented block reads 0, ignores the write and sets SYS.STATUS.UNMAPPED, and such a block
counts as one with k = 9; a hole of an implemented block reads 0 and ignores writes, without UNMAPPED. The accesses run over a
bus on which nothing else waits (R23). -/
def Obligations.UnmappedAndHolesReadZero : Prop :=
  (∀ (dt : Nat) (req : Req) (addr : BitVec 16) (data : Word) (e : AccessEnv) (s : State), s.live = true → s.busIdle = true →
    s.implemented (addr.toNat / 1024) = false →
    s.blockK (addr.toNat / 1024) = 9 ∧
    ∃ t, exec (.registerWrite dt req addr data e) s = .next t ∧ t.flag F.SYS_STATUS_UNMAPPED = true ∧
      t.access.open_ = s.access.open_ ∧ RegsBut s t [R.SYS_STATUS] ∧
      t = { s.interlocked with regs := t.regs, clock := t.clock, access := t.access }) ∧
  (∀ (dt : Nat) (req : Req) (addr : BitVec 16) (s : State), s.live = true → s.busIdle = true →
    s.implemented (addr.toNat / 1024) = false → s.access.open_ = [] →
    ∃ t, exec (.rhRead dt req addr) s = .next t ∧ t.access.open_ = [] ∧ t.access.read = [0] ∧ t.flag F.SYS_STATUS_UNMAPPED = true ∧
      RegsBut s t [R.SYS_STATUS] ∧ t = { s.interlocked with regs := t.regs, clock := t.clock, access := t.access }) ∧
  (∀ (req : Req) (e : AccessEnv) (x : Txn) (s : State), s.implemented x.blk = true →
    s.specAt x.blk x.off = none → ¬ (x.blk = 7 ∧ x.off < 256) → s.txnAccess req e x = (s, x.moved (s.blockK x.blk) 0))

/-- R40, R41, R36, R37: a read of SYS.TIME_H stalls while a Stocktake is pending and T lies no more than 8 µs ahead, and returns
the held instant otherwise; an access to a GD die waits for the gate link, returns within 10 µs over a link that works, and
is ended after 10 µs with XD_TIMEOUT.
The readings and choices of the model in it: log entries 103, 202, 203. -/
def Obligations.StalledAccessesReturnOrTimeOut : Prop :=
  (∀ (dt : Nat) (req : Req) (s : State), s.live = true → s.busIdle = true → s.access.open_ = [] →
    ¬ (s.flag F.SYS_STOCK_DONE_PENDING = true ∧ s.stock.due ≤ s.clock + dt + 4000) →
    ∃ t, exec (.rhRead dt req 0x0006) s = .next t ∧
      t.access = { s.access with read := [s.reg R.SYS_TIME_H], freeAt := 3 * (s.clock + dt) + 10 } ∧
      t = { s.interlocked with clock := s.clock + dt, access := t.access }) ∧
  (∀ (dt : Nat) (req : Req) (s : State), s.live = true → s.busIdle = true → s.access.open_ = [] →
    s.flag F.SYS_STOCK_DONE_PENDING = true → s.stock.due ≤ s.clock + dt + 4000 →
    ∃ t x, exec (.rhRead dt req 0x0006) s = .next t ∧
      t.access = { s.access with open_ := [(req, x)], freeAt := 3 * (s.clock + dt) + 10 } ∧ x.wait = .held ∧ x.read = true ∧
      x.out = [] ∧ t = { s.interlocked with clock := s.clock + dt, access := t.access } ∧
      ∀ (dt' : Nat) (u : State), u.live = true → u.busIdle = true → u.access.open_ = [(req, x)] →
        u.flag F.SYS_STOCK_DONE_PENDING = false →
        ∃ v, exec (.rhRead dt' req 0x0006) u = .next v ∧
          v.access = { u.access with open_ := [], read := [u.reg R.SYS_TIME_H] } ∧
          v = { u.interlocked with clock := u.clock + dt', access := v.access }) ∧
  (∀ (dt : Nat) (req : Req) (addr : BitVec 16) (data : Word) (e : AccessEnv) (s : State), s.live = true → s.busIdle = true →
    s.power ≠ .bare → s.implemented (addr.toNat / 1024) = true → (blockDie (addr.toNat / 1024)).isSome = true →
    ∃ t x, exec (.registerWrite dt req addr data e) s = .next t ∧
      t.access = { s.access with open_ := s.access.open_ ++ [(req, x)], freeAt := 3 * (s.clock + dt) + 10 } ∧
      x.blk = addr.toNat / 1024 ∧ x.read = false ∧ x.data = [data] ∧ x.left = 1 ∧ x.wait = .link (s.clock + dt) ∧
      t = { s.interlocked with clock := s.clock + dt, access := t.access }) ∧
  (∀ (dt since : Nat) (req : Req) (es : List AccessEnv) (x : Txn) (rest : List (Req × Txn)) (r : RegSpec) (d : DieId) (s : State),
    s.live = true → s.busIdle = true →
    s.power ≠ .bare → s.access.open_ = (req, x) :: rest → x.wait = .link since → x.left = 1 → x.read = true → x.out = [] →
    blockDie x.blk = some d → s.implemented x.blk = true → s.linked x.blk = true →
    s.specAt x.blk x.off = some r → r.kind = .plain → s.clock + dt < since + 5000 →
    (s.linkUse d (s.clock + dt)).down + 16 ≤ 288 → (s.linkUse d (s.clock + dt)).up + 36 ≤ 112 →
    ∃ t, exec (.crossDomainReturn dt req es) s = .next t ∧
      t.access = { s.access with open_ := rest, read := [(s.pass dt).shownGD x.blk x.off] } ∧
      (0x24 ≤ x.blk → x.blk < 0x28 → 8 ≤ x.off → (s.pass dt).shownGD x.blk x.off = s.reg (x.blk * 512 + x.off)) ∧
      (∀ d' : DieId, t.dies[d'] = { s.dies[d'] with use := t.dies[d'].use }) ∧
      t = { s.interlocked with clock := s.clock + dt, access := t.access, dies := t.dies }) ∧
  (∀ (since : Nat) (req : Req) (x : Txn) (rest : List (Req × Txn)) (s : State), s.live = true → s.busIdle = true →
    s.access.open_ = (req, x) :: rest → x.wait = .link since → x.left = 1 → x.read = true → x.out = [] →
    ∃ t, exec (.crossDomainTimeout req) s = .next t ∧ t.access = { s.access with open_ := rest, read := [0] } ∧
      t.clock = max s.clock (since + 5000) ∧ t.flag F.SYS_STATUS_XD_TIMEOUT = true ∧ RegsBut s t [R.SYS_STATUS] ∧
      t = { s.interlocked with regs := t.regs, clock := t.clock, access := t.access })

/-- R13, R15, R21: one link cycle of a die whose link works: the window opens on the next multiple of 1 µs, carries at most eight
of the events detected before it, the earliest first, and loses none; both lanes' payload is free again, but for up to three
words of calibration status (Table 1.2), which reach LD; and code errors count. No register access waits meanwhile (R23).
The readings and choices of the model in it: log entry 205. -/
def Obligations.LinkCycleCarriesEarliestEvents : Prop :=
  ∀ (d : DieId) (errs : Nat) (s : State), s.live = true → s.busIdle = true → s.hasDie d.val = true →
    s.dies[d].linkLost = false →
    ∃ t up, exec (.linkCycle d errs) s = .next t ∧ t.fm.inbox = s.fm.inbox ++ up ∧ up.length ≤ 8 ∧
      (up ++ t.dies[d].events).Perm s.dies[d].events ∧
      s.dies[d].linkAt < t.dies[d].linkAt ∧ (t.dies[d].linkAt - s.tsBase) % 500 = 0 ∧ t.clock = max s.clock t.dies[d].linkAt ∧
      (∀ e ∈ up, e.time < t.dies[d].linkAt) ∧ up.Pairwise (fun e f => e.time ≤ f.time) ∧
      (∀ e ∈ up, ∀ f ∈ t.dies[d].events, f.time < t.dies[d].linkAt → e.time ≤ f.time) ∧
      (up.length < 8 → ∀ f ∈ t.dies[d].events, t.dies[d].linkAt ≤ f.time) ∧
      t.dies[d].calUp = s.dies[d].calUp.drop 3 ∧ (∀ e ∈ t.dies[d].calLD, e ∈ s.dies[d].calUp.take 3 ∨ e ∈ s.dies[d].calLD) ∧
      t.dies[d].use = { LinkUse.reset with cycle := t.dies[d].linkAt, errs := errs, up := 36 * (s.dies[d].calUp.take 3).length } ∧
      t.dies[d].adcUp = s.dies[d].adcUp ∧ t.dies[d].down = s.dies[d].down ∧
      (∀ n, (if d = 0 then R.CLK_LINK0_ERR else R.CLK_LINK1_ERR) = n →
        t.fld ⟨n, 15, 0⟩ = min (s.fld ⟨n, 15, 0⟩ + errs) 65535 ∧ RegsBut s t [n]) ∧
      t = { s.interlocked with regs := t.regs, clock := t.clock, fm := t.fm, dies := t.dies }

/-- A step takes the command at the front of the queue and runs it with the queue's rest; on an empty queue the module idles
(log entry 8, the model's choice). -/
def Obligations.StepRunsFrontCommand : Prop :=
  (∀ (c : Instr) (rest : List Instr) (s : State), s.pending = c :: rest → step s = exec c { s with pending := rest }) ∧
  (∀ s : State, s.pending = [] → step s = .next s)

/-- The state right after the power-on reset (R450, R452): START, no Inventory, every leg off, no memory cell, no fault, no command
waiting; and registers with the reset words of their tables (R8, R45, R47). The variant is the model's choice (log entry 4).
The readings and choices of the model in it: log entries 5, 6, 16. -/
def Obligations.ResetHoldsTableWords : Prop :=
  State.reset.variant = .lkm8836 ∧ State.reset.power = .start ∧ State.reset.clock = 0 ∧ State.reset.inv = none ∧
  State.reset.larder.mem = [] ∧ State.reset.fm.inbox = [] ∧ State.reset.fm.queue = [] ∧ State.reset.pending = [] ∧
  State.reset.access.open_ = [] ∧ (∀ l : LegId, State.reset.legs[l].hi.on = false ∧ State.reset.legs[l].lo.on = false) ∧
  State.reset.reg R.SYS_ID = 0x50d883611 ∧ State.reset.reg R.SYS_FEATURES = 0x7b8 ∧ State.reset.reg R.SYS_STATUS = 0 ∧
  State.reset.reg R.SYS_SCRATCH = 0 ∧ State.reset.reg R.CLK_POWER = 0xfb ∧ State.reset.reg R.CLK_PLL_STAT = 0 ∧
  State.reset.reg R.FLT_STOP_CFG = 0x201f4 ∧ State.reset.reg R.PLN_OVR = 0x400 ∧ State.reset.reg R.LAD_CFG = 0x503c ∧
  (∀ n : AxisId, State.reset.reg (R.AX_CUR n) = 0x7fffd0000 ∧ State.reset.reg (R.AX_CTRL n) = 0x51f4) ∧
  (∀ (q : Quad) (m : Fin 8), State.reset.reg (R.LG_LEG_CFG q m) = 0xfa1440000) ∧
  (∀ p : PortId, State.reset.reg (R.PRT_P_CFG p) = 0x3914)

/-- What every step keeps, from every state, in reach of a run or not: it answers a next state (no command stops the module), no
leg has both its switches on (R104), time never runs back (R18), and exactly the front command leaves the queue.
The readings and choices of the model in it: log entries 1, 406. -/
def Obligations.EveryStepKeepsLegsAndTime : Prop :=
  ∀ s : State, s.legsSafe = true →
    ∃ t, step s = .next t ∧ t.legsSafe = true ∧ s.clock ≤ t.clock ∧ t.pending = s.pending.drop 1

/-- The invariant of EveryStepKeepsLegsAndTime and the canonical form of registers, memory and flash hold right after reset. -/
def Obligations.ResetIsSafeAndCanonical : Prop :=
  State.reset.legsSafe = true ∧ State.reset.canonical = true

/-- R46, R454 to R456, R459, R443: what starts a reset, and what a reset leaves; a reset during KEY_PROGRAM engages the Trapdoor
and waits, and goes on at the end of KEY_PROGRAM.
The readings and choices of the model in it: log entries 204, 1506. -/
def Obligations.ResetsKeepWhatTheManualNames : Prop :=
  (∀ (dt : Nat) (s : State), s.reach 0 = true → s.opBusy R.BOX_OP_STAT = false →
    ∃ t, exec (.reset dt 0xC0DE) s = .next t ∧
      ResetFrom (s.pass dt).engageAll t (s.fld F.INV_NEXT_BOOT_NEXT_BOOT)) ∧
  (∀ (dt : Nat) (s : State), s.power ∉ [Power.off, Power.brownout, Power.reset] → s.opBusy R.BOX_OP_STAT = false →
    ∃ t, exec (.rstN dt) s = .next t ∧ ResetFrom (s.pass dt).engageAll t 0) ∧
  (∀ (dt : Nat) (s : State), s.power = .brownout → s.opBusy R.BOX_OP_STAT = false →
    ∃ t, exec (.brownoutRecovery dt) s = .next t ∧ ResetFrom (s.pass dt).engageAll t 0) ∧
  (∀ (t0 : Nat) (s : State), s.seq.lossAt = some t0 → s.flag F.CLK_PLL_STAT_LOCK = false → s.opBusy R.BOX_OP_STAT = false →
    ∃ t, exec .pllLossTimeout s = .next t ∧
      ResetFrom ((s.atLeast (t0 + 4000000)).modPower (fun p => { p with lossAt := none })).engageAll t 0) ∧
  (∀ (dt : Nat) (s : State), s.power ∉ [Power.off, Power.brownout, Power.reset] → s.opBusy R.BOX_OP_STAT = true →
    ∃ t, exec (.rstN dt) s = .next t ∧ t.power = .reset ∧ t.seq.waitKey = true ∧ t.seq.resetAt = s.clock + dt ∧
      t.opBusy R.BOX_OP_STAT = true ∧ t.box = (s.pass dt).engageAll.box) ∧
  (∀ (dt : Nat) (flips : BitVec 256) (s : State), s.opBusy R.BOX_OP_STAT = true → s.seq.waitKey = true →
    ∃ t, exec (.keyProgramEnd dt flips) s = .next t ∧ ResetFrom ((s.pass dt).keyEnd flips) t s.seq.order)

/-- R450, R452, R324, R460: power arrives, the PLL locks and the timestamp starts, the Strongbox is read (at start-up and
after a reset), the DRAM is ready or fails; the loss of VAUX leaves what the Strongbox and the flash hold.
The readings and choices of the model in it: log entries 6, 15, 16. -/
def Obligations.StartUpAndPowerOff : Prop :=
  (∀ (dt : Nat) (s : State), s.power = .off →
    ∃ t, exec (.powerUp dt) s = .next t ∧ t.clock = s.clock + dt ∧
      t = { State.reset with
        regions := Vector.replicate 4 { Region.reset with coarseSince := t.clock }
        variant := s.variant, clock := t.clock, tsBase := t.clock, free := s.free, box := s.box, flash := s.flash, pending := s.pending }) ∧
  (∀ (dt : Nat) (flips : BitVec 256) (s : State), s.power ≠ .off →
    ∃ t, exec (.powerOff dt flips) s = .next t ∧ t.clock = s.clock + dt ∧
      t.box = (if s.opBusy R.BOX_OP_STAT then { s.box with key := s.guard.keyNew ^^^ flips, mark := false } else s.box) ∧
      t = { State.reset with
        regions := Vector.replicate 4 { Region.reset with coarseSince := t.clock }
        power := .off, variant := s.variant, clock := t.clock, tsBase := t.clock, free := s.free, box := t.box, flash := s.flash,
        pending := s.pending }) ∧
  (∀ (dt : Nat) (s : State), s.power ∈ [Power.start, Power.reset] → s.flag F.CLK_PLL_STAT_LOCK = false → s.seq.waitKey = false →
    ∃ t, exec (.pllLock dt) s = .next t ∧ t.flag F.CLK_PLL_STAT_LOCK = true ∧ t.flag F.CLK_PLL_STAT_REF_PRESENT = true ∧
      t.flag F.SYS_STATUS_PLL_LOCK = true ∧ t.now = 0 ∧ RegsBut s t [R.CLK_PLL_STAT, R.SYS_STATUS] ∧
      t = { s.interlocked with clock := s.clock + dt, tsBase := s.clock + dt, regs := t.regs }) ∧
  (∀ (dt : Nat) (s : State), s.power = .start → s.flag F.CLK_PLL_STAT_LOCK = true →
    ∃ t, exec (.strongboxRead dt) s = .next t ∧ BoxReadFrom (s.pass dt) t) ∧
  (∀ (dt : Nat) (s : State), s.power = .reset → s.flag F.CLK_PLL_STAT_LOCK = true → s.seq.waitKey = false →
    ∃ t, exec (.resetEnd dt) s = .next t ∧ BoxReadFrom (s.pass dt) t) ∧
  (∀ (dt : Nat) (s : State), s.power = .loading → s.larderReady = false → s.flag F.LDC_STATUS_INIT_FAIL = false →
    ∃ t, exec (.larderInit dt true) s = .next t ∧ t.flag F.LDC_STATUS_READY = true ∧
      t.fld F.LDC_SPARES_USED = s.box.remap.length % 2 ^ 14 ∧ t.flag F.LDC_STATUS_SPARES_LOW = decide (6144 < s.box.remap.length) ∧
      t.larder.mem = [] ∧ RegsBut s t [R.LDC_STATUS, R.LDC_SPARES] ∧
      t = { s.interlocked with clock := s.clock + dt, regs := t.regs, larder := t.larder }) ∧
  (∀ (dt : Nat) (s : State), s.power = .loading → s.larderReady = false → s.flag F.LDC_STATUS_INIT_FAIL = false →
    ∃ t, exec (.larderInit dt false) s = .next t ∧ t.flag F.LDC_STATUS_INIT_FAIL = true ∧ t.power = .bare ∧
      t.flag F.SYS_STATUS_BARE = true ∧ t.inv = none ∧ (∀ l : LegId, t.legs[l].policy = some false) ∧
      (∀ d : DieId, t.dies[d].vgUp = false) ∧
      t.fm.inbox = s.fm.inbox ++ [⟨0x841, 0, 0, none, s.clock + dt, false⟩] ∧ SameBytes s t)

/-- R459, R152, R439, R153: what the loss of lock, of a die's PCLK and of a gate link does at once, and what their return does:
after a return every planned axis of the die that was switching takes its Trapdoor policy.
The readings and choices of the model in it: log entries 1506, 1501. -/
def Obligations.LostClocksAndLinksActByHaltClass : Prop :=
  (∀ (dt : Nat) (ref : Bool) (s : State), s.flag F.CLK_PLL_STAT_LOCK = true → s.power ≠ .off →
    ∃ t, exec (.pllLoss dt ref) s = .next t ∧ t.flag F.CLK_PLL_STAT_LOCK = false ∧ t.flag F.CLK_PLL_STAT_LOCK_LOST = true ∧
      t.flag F.CLK_PLL_STAT_REF_PRESENT = ref ∧ t.flag F.SYS_STATUS_PLL_LOCK = false ∧
      t.fld ⟨R.CLK_PLL_LOSS, 15, 0⟩ = min (s.fld ⟨R.CLK_PLL_LOSS, 15, 0⟩ + 1) 65535 ∧
      t.fm.inbox = s.fm.inbox ++ [⟨0xC21, 0, 0, none, s.clock + dt, false⟩] ∧ t.seq.lossAt = some (s.clock + dt) ∧
      (∀ d : DieId, s.hasDie d.val = true → t.dies[d].onBackup = true) ∧
      (∀ k, k ∉ [R.CLK_PLL_STAT, R.CLK_PLL_LOSS, R.SYS_STATUS] → (∀ q, k ≠ R.PW_STATUS q) → (∀ q m, k ≠ R.LG_LEG_STAT q m) →
        t.reg k = s.reg k) ∧
      t = { s with clock := s.clock + dt, regs := t.regs, fm := t.fm, seq := t.seq, dies := t.dies, legs := t.legs }) ∧
  (∀ (dt t0 : Nat) (s : State), s.seq.lossAt = some t0 → s.flag F.CLK_PLL_STAT_LOCK = false → s.clock + dt ≤ t0 + 4000000 →
    ∃ t, exec (.pllRelock dt) s = .next t ∧ t.clock = (s.pass dt).nextBoundary framePclk (s.clock + dt) ∧
      t.flag F.CLK_PLL_STAT_LOCK = true ∧ t.flag F.CLK_PLL_STAT_REF_PRESENT = true ∧ t.flag F.SYS_STATUS_PLL_LOCK = true ∧
      t.seq.lossAt = none ∧ t.larder = { s.larder with refreshAt := t.clock } ∧ RegsBut s t [R.CLK_PLL_STAT, R.SYS_STATUS] ∧
      t = { s.interlocked with clock := t.clock, regs := t.regs, seq := t.seq, larder := t.larder }) ∧
  (∀ (dt : Nat) (d : DieId) (s : State), s.hasDie d.val = true → s.dies[d].onBackup = false → s.power ≠ .off →
    ∃ t, exec (.pclkLoss dt d) s = .next t ∧ t.dies[d].onBackup = true ∧ t.dies[d].holdSince.isSome = true ∧
      (∃ e ∈ t.dies[d].events, e.code = 0x351 ∧ e.source = 16) ∧
      t.flag (if d.val = 0 then F.CLK_PLL_STAT_BACKUP_GD0 else F.CLK_PLL_STAT_BACKUP_GD1) = true ∧
      (∀ q, quadDie q = d → t.flag (F.PW_STATUS_ON_BACKUP q) = true) ∧
      (∀ k, k ≠ R.CLK_PLL_STAT → (∀ q, quadDie q = d → k ≠ R.PW_STATUS q) → (∀ q m, k ≠ R.LG_LEG_STAT q m) →
        t.reg k = s.reg k) ∧
      t = { s with clock := s.clock + dt, regs := t.regs, dies := t.dies, legs := t.legs }) ∧
  (∀ (d : DieId) (s : State), s.fmRuns = true → s.hasDie d.val = true → s.dies[d].linkLost = false →
    ∃ t, exec (.gateLinkLoss d) s = .next t ∧ t.clock = max s.clock (s.dies[d].linkAt + 5000) ∧ t.dies[d].linkLost = true ∧
      t.dies[d].holdSince.isSome = true ∧ t.fm.inbox = s.fm.inbox ++ [⟨0xC31, d.val, 0, none, t.clock, false⟩] ∧
      (∀ k, (∀ q, quadDie q = d → k ≠ R.PW_STATUS q) → (∀ q m, k ≠ R.LG_LEG_STAT q m) → t.reg k = s.reg k) ∧
      t = { s with clock := t.clock, regs := t.regs, fm := t.fm, dies := t.dies, legs := t.legs }) ∧
  (∀ (dt : Nat) (d : DieId) (s : State), s.dies[d].linkLost = true →
    ∃ t, exec (.gateLinkReturn dt d) s = .next t ∧ t.clock = s.clock + dt ∧ t.dies[d].linkLost = false ∧
      (∀ n ∈ s.dieAxes d, s.planned n.val = true → t.axisSt n ∈ [stDisabled, stFaulted, stLatched]) ∧
      (∀ n, n ∉ s.dieAxes d → s.axisSt n ≠ stRunning → t.axisSt n = s.axisSt n) ∧ ReactionsOnly s t) ∧
  (∀ (dt : Nat) (d : DieId) (s : State), s.dies[d].onBackup = true → s.flag F.CLK_PLL_STAT_LOCK = true →
    ∃ t, exec (.pclkReturn dt d) s = .next t ∧ t.clock = (s.pass dt).nextBoundary 500 (s.clock + dt) ∧
      t.dies[d].onBackup = false ∧
      t.flag (if d.val = 0 then F.CLK_PLL_STAT_BACKUP_GD0 else F.CLK_PLL_STAT_BACKUP_GD1) = false ∧
      (∀ n ∈ s.dieAxes d, s.planned n.val = true → t.axisSt n ∈ [stDisabled, stFaulted, stLatched]) ∧
      (∀ n, n ∉ s.dieAxes d → s.axisSt n ≠ stRunning → t.axisSt n = s.axisSt n) ∧
      (∀ k, outer k → k ≠ R.CLK_PLL_STAT → t.reg k = s.reg k)) ∧
  (∀ (n : AxisId) (l : LegId) (t0 : Nat) (s : State), s.dies[s.axisDie n].holdSince = some t0 → s.firstLeg n = some l →
    s.dies[s.axisDie n].haltActs = true → s.holdClass n = true → s.axisOn n = true → s.carriers[n].holdOff = false →
    ∃ t, exec (.holdLimitExpiry n) s = .next t ∧ t.clock = max s.clock (t0 + s.holdLimit n) ∧
      t.carriers[n] = { s.carriers[n] with holdOff := true } ∧ t.flag (F.PW_STATUS_HOLD_EXPIRED (legQ l)) = true ∧
      (∃ e ∈ t.dies[s.axisDie n].events, e.code = 0x353 ∧ e.source = 16 + (legQ l).val % 2) ∧
      (∀ m, m ≠ n → t.carriers[m] = s.carriers[m]) ∧
      (∀ k, k ≠ R.PW_STATUS (legQ l) → (∀ q, quadDie q = s.axisDie n → k ≠ R.PW_STATUS q) → (∀ q m, k ≠ R.LG_LEG_STAT q m) →
        t.reg k = s.reg k) ∧
      t = { s with clock := t.clock, regs := t.regs, carriers := t.carriers, dies := t.dies, legs := t.legs })

/-- R463: the test access port: each instruction comes into force and IDCODE loads the code of the variant; EXTEST, HIGHZ and CLAMP
hold INLET off and take every switch off; leaving them starts a reset; DEBUG_HALT and DEBUG_RUN (R151, R216) halt and free
the engine and the dies, and TEST_LOGIC_RESET frees them too.
The readings and choices of the model in it: log entries 1602, 705. -/
def Obligations.TestAccessPortInstructions : Prop :=
  (∀ (dt : Nat) (s : State), s.power ≠ .off → s.jtag.holdsOff = false →
    (∃ t, exec (.idcode dt) s = .next t ∧ t.jtag = ⟨.idcode, s.jtag.halted, idCode s.variant⟩ ∧
      t = { s.interlocked with clock := s.clock + dt, jtag := t.jtag }) ∧
    (∃ t, exec (.samplePreload dt) s = .next t ∧ t.jtag = { s.jtag with instr := .sample } ∧
      t = { s.interlocked with clock := s.clock + dt, jtag := t.jtag }) ∧
    (∃ t, exec (.bypass dt) s = .next t ∧ t.jtag = { s.jtag with instr := .bypass } ∧
      t = { s.interlocked with clock := s.clock + dt, jtag := t.jtag })) ∧
  (∀ (dt : Nat) (s : State), s.power ≠ .off → s.jtag.holdsOff = false → ∀ p ∈ [(Instr.extest dt, JtagInstr.extest),
      (Instr.highz dt, JtagInstr.highz), (Instr.clamp dt, JtagInstr.clamp)],
    ∃ t, exec p.1 s = .next t ∧ t.jtag = { s.jtag with instr := p.2 } ∧ (∀ l : LegId, t.legs[l].hi.on = false ∧ t.legs[l].lo.on = false) ∧
      t.inlet = 0 ∧ t.flag F.FLT_STATUS_INLET_ON = false ∧ t.flag F.FLT_STATUS_BRK_ON = false ∧
      (∀ k, k ∉ [R.FLT_SUPPLY, R.FLT_STATUS] → (∀ q m, k ≠ R.LG_LEG_STAT q m) → t.reg k = s.reg k) ∧
      t = { s with clock := s.clock + dt, jtag := t.jtag, regs := t.regs, legs := t.legs, dies := t.dies, guard := t.guard }) ∧
  (∀ (dt : Nat) (s : State), s.power ≠ .off → s.jtag.holdsOff = true → ∀ c ∈ [Instr.idcode dt, .samplePreload dt, .bypass dt],
    ∃ t, exec c s = .next t ∧ t.power = .reset) ∧
  (∀ (dt : Nat) (s : State), s.power ∉ [Power.off, Power.reset] → s.jtag.holdsOff = false → s.jtag.halted = false →
    ∃ t, exec (.debugHalt dt none) s = .next t ∧ t.jtag = { s.jtag with instr := .debugHalt, halted := true } ∧
      t.flag F.ENG_STATUS_HALTED = true ∧ (∀ d : DieId, s.hasDie d.val = true → t.dies[d].halted = true) ∧
      (∀ k, k ≠ R.ENG_STATUS → (∀ q, k ≠ R.PW_STATUS q) → (∀ q m, k ≠ R.LG_LEG_STAT q m) → t.reg k = s.reg k) ∧
      t = { s with clock := s.clock + dt, jtag := t.jtag, regs := t.regs, dies := t.dies, legs := t.legs }) ∧
  (∀ (dt : Nat) (s : State), s.power ≠ .off → s.jtag.holdsOff = false → s.jtag.halted = true →
    (∃ t, exec (.debugRun dt) s = .next t ∧ t.jtag = { s.jtag with instr := .debugRun, halted := false } ∧
      t.flag F.ENG_STATUS_HALTED = false ∧ (∀ d : DieId, s.hasDie d.val = true → t.dies[d].halted = false) ∧
      ∀ n : AxisId, t.engs[n].broken = none) ∧
    (∃ t, exec (.testLogicReset dt) s = .next t ∧ t.jtag = ⟨.idcode, false, idCode s.variant⟩ ∧
      t.flag F.ENG_STATUS_HALTED = false ∧ (∀ d : DieId, s.hasDie d.val = true → t.dies[d].halted = false) ∧
      ∀ n : AxisId, t.engs[n].broken = none))

/-- R443, R444, R446, R447, R473: the site key is collected, checked against KEY_CRC, programmed and read back; the ring's window
advances; the lifetime counters take over whole hours and kJ, or the write fails.
The readings and choices of the model in it: log entry 1505. -/
def Obligations.SiteKeyRingAndLifetime : Prop :=
  (∀ (dt : Nat) (w : Word) (s : State), s.reach 3 = true →
    ∃ t, exec (.keyDataWrite dt w) s = .next t ∧ t.guard.keyWords = w.toNat % 2 ^ 32 :: s.guard.keyWords ∧
      t = { s.interlocked with clock := s.clock + dt, guard := { s.guard with keyWords := t.guard.keyWords } }) ∧
  (∀ (dt : Nat) (s : State), s.reach 3 = true → s.opBusy R.BOX_OP_STAT = false → s.flag F.BOX_STATUS_KEY_SET = false →
    s.guard.keyWords.length = 8 → keyOf s.guard.keyWords ≠ 0 → s.allDisabled = true →
    keyCrc (keyOf s.guard.keyWords) = s.fld F.BOX_KEY_CRC_CRC →
    ∃ t, exec (.keyProgram dt) s = .next t ∧ t.opStat R.BOX_OP_STAT = 1 ∧ t.lastOp R.BOX_OP_STAT = 1 ∧
      t.guard = { s.guard with keyWords := [], keyNew := keyOf s.guard.keyWords, keyAt := s.clock + dt } ∧
      RegsBut s t [R.BOX_OP_STAT] ∧ t = { s.interlocked with clock := s.clock + dt, regs := t.regs, guard := t.guard }) ∧
  (∀ (dt : Nat) (s : State), s.reach 3 = true →
    s.opBusy R.BOX_OP_STAT = true ∨ s.flag F.BOX_STATUS_KEY_SET = true ∨ s.guard.keyWords.length ≠ 8 ∨ s.allDisabled = false →
    ∃ t, exec (.keyProgram dt) s = .next t ∧ t.flag F.BOX_STATUS_CMD_REFUSED = true ∧ t.guard.keyWords = [] ∧ t.box = s.box ∧
      RegsBut s t [R.BOX_STATUS]) ∧
  (∀ (dt : Nat) (flips : BitVec 256) (s : State), s.opBusy R.BOX_OP_STAT = true → s.seq.waitKey = false →
    ∃ t, exec (.keyProgramEnd dt flips) s = .next t ∧ t.box.key = s.guard.keyNew ^^^ flips ∧
      t.box.mark = decide (keyCrc (s.guard.keyNew ^^^ flips) = s.fld F.BOX_KEY_CRC_CRC) ∧ t.box.keyUnknown = !t.box.mark ∧
      t.flag F.BOX_STATUS_KEY_SET = true ∧ t.flag F.INV_ACTIVE_KEY_BLANK = false ∧
      t.opStat R.BOX_OP_STAT = (if t.box.mark then statDone else statErr) ∧
      t.fm.inbox = (if t.box.mark then s.fm.inbox else s.fm.inbox ++ [⟨0xC13, 0, 0, none, s.clock + dt, false⟩]) ∧
      RegsBut s t [R.BOX_STATUS, R.INV_ACTIVE, R.BOX_OP_STAT] ∧
      t = { s.interlocked with clock := s.clock + dt, regs := t.regs, fm := t.fm, box := t.box }) ∧
  (∀ (dt : Nat) (s : State), s.reach 3 = true →
    ∃ t, exec (.ringDataAccess dt) s = .next t ∧
      t.fld F.BOX_RING_SEL_WORD = (if s.fld F.BOX_RING_SEL_WORD = 1 then 2 else if s.fld F.BOX_RING_SEL_WORD = 2 then 0 else 1) ∧
      t.fld F.BOX_RING_SEL_AGE = (if s.fld F.BOX_RING_SEL_WORD = 2 then (s.fld F.BOX_RING_SEL_AGE + 1) % 1024 else s.fld F.BOX_RING_SEL_AGE) ∧
      RegsBut s t [R.BOX_RING_SEL] ∧ t = { s.interlocked with clock := s.clock + dt, regs := t.regs }) ∧
  (∀ (dt : Nat) (s : State), s.fmRuns = true →
    (∃ t, exec (.lifetimeUpdate dt true) s = .next t ∧
      (∀ v, s.box.life[0]? = some v → t.box.life[0]? = some (min (v + s.box.lifePart.getD 0 0 / 1800000000000) (2 ^ 36 - 1))) ∧
      t.box.lifePart.getD 0 0 = s.box.lifePart.getD 0 0 % 1800000000000 ∧ t.box.life.length = s.box.life.length ∧
      t = { s.interlocked with clock := s.clock + dt, box := { s.box with life := t.box.life, lifePart := t.box.lifePart } }) ∧
    (∃ t, exec (.lifetimeUpdate dt false) s = .next t ∧ t.flag F.BOX_STATUS_WRITE_FAIL = true ∧
      t.fm.inbox = s.fm.inbox ++ [⟨0xC12, 0, 0, none, s.clock + dt, false⟩] ∧ RegsBut s t [R.BOX_STATUS] ∧
      t = { s.interlocked with clock := s.clock + dt, regs := t.regs, fm := t.fm }))

/-- R418 to R424: the inlet's precharge, its end and its time limit, the reversed supply and its way back; the brake that does
nothing, and its heat kept. -/
def Obligations.InletAndBrake : Prop :=
  (∀ (dt : Nat) (s : State), s.inletEnabled = true → s.inlet = 0 → s.guard.inletWait = false →
    s.flag F.FLT_STATUS_VM_REVERSED = false →
    ∃ t, exec (.prechargeStart dt) s = .next t ∧ t.inlet = 1 ∧ t.flag F.FLT_STATUS_INLET_ON = false ∧
      t.guard = { s.guard with inletAt := s.clock + dt, inletWait := false } ∧
      RegsBut s t [R.FLT_SUPPLY, R.FLT_STATUS] ∧ t = { s.interlocked with clock := s.clock + dt, regs := t.regs, guard := t.guard }) ∧
  (∀ (dt : Nat) (s : State), s.inlet = 1 → s.clock + dt ≤ s.guard.inletAt + 100000000 →
    ∃ t, exec (.prechargeDone dt) s = .next t ∧ t.inlet = 2 ∧ t.flag F.FLT_STATUS_INLET_ON = true ∧
      RegsBut s t [R.FLT_SUPPLY, R.FLT_STATUS] ∧ t = { s.interlocked with clock := s.clock + dt, regs := t.regs }) ∧
  (∀ s : State, s.inlet = 1 →
    ∃ t, exec .prechargeTimeout s = .next t ∧ t.clock = max s.clock (s.guard.inletAt + 100000000) ∧ t.inlet = 0 ∧
      t.flag F.FLT_STATUS_INLET_ON = false ∧ t.guard = { s.guard with inletWait := true } ∧
      t.fm.inbox = s.fm.inbox ++ [⟨0x104, 0, 0, none, t.clock, false⟩] ∧ RegsBut s t [R.FLT_SUPPLY, R.FLT_STATUS] ∧
      t = { s.interlocked with clock := t.clock, regs := t.regs, guard := t.guard, fm := t.fm }) ∧
  (∀ (dt : Nat) (s : State),
    ∃ t, exec (.vminBelow5v dt) s = .next t ∧ t.guard.inletWait = false ∧
      t = { s.interlocked with clock := s.clock + dt, guard := { s.guard with inletWait := false } }) ∧
  (∀ (dt : Nat) (s : State), s.fmRuns = true → s.flag F.FLT_STATUS_VM_REVERSED = false →
    ∃ t, exec (.vmReversed dt) s = .next t ∧ t.flag F.FLT_STATUS_VM_REVERSED = true ∧ t.inlet = 3 ∧
      t.flag F.FLT_STATUS_INLET_ON = false ∧ t.fm.inbox = s.fm.inbox ++ [⟨0x103, 0, 0, none, s.clock + dt, false⟩] ∧
      RegsBut s t [R.FLT_SUPPLY, R.FLT_STATUS] ∧ t = { s.interlocked with clock := s.clock + dt, regs := t.regs, fm := t.fm }) ∧
  (∀ (dt : Nat) (s : State), s.inlet = 3 → s.inletEnabled = true →
    ∃ t, exec (.inletUnblock dt) s = .next t ∧ t.flag F.FLT_STATUS_VM_REVERSED = false ∧ t.inlet = 1 ∧
      t.guard = { s.guard with inletAt := s.clock + dt, inletWait := false } ∧
      RegsBut s t [R.FLT_SUPPLY, R.FLT_STATUS] ∧ t = { s.interlocked with clock := s.clock + dt, regs := t.regs, guard := t.guard }) ∧
  (∀ (t0 : Nat) (s : State), s.guard.brkSince = some t0 → s.guard.brkTold = false → s.cmpOut 58 = true →
    ∃ t, exec .brakeIneffective s = .next t ∧ t.clock = max s.clock (t0 + 50000000) ∧
      t.fm.inbox = s.fm.inbox ++ [⟨0x112, 0, 0, none, t.clock, false⟩] ∧
      t = { s.interlocked with clock := t.clock, fm := t.fm, guard := { s.guard with brkTold := true } }) ∧
  (∀ s : State, s.fmRuns = true →
    (∃ t, exec (.brakeHeatSave true) s = .next t ∧ t.clock = max s.clock (s.guard.heatAt + 500000000) ∧
      t = { s.interlocked with clock := t.clock, guard := { s.guard with heatAt := t.clock }, box := { s.box with heat := s.guard.heat } }) ∧
    (∃ t, exec (.brakeHeatSave false) s = .next t ∧ t.flag F.BOX_STATUS_WRITE_FAIL = true ∧
      t.fm.inbox = s.fm.inbox ++ [⟨0xC12, 0, 0, none, t.clock, false⟩] ∧ RegsBut s t [R.BOX_STATUS] ∧
      t = { s.interlocked with clock := t.clock, guard := { s.guard with heatAt := t.clock }, regs := t.regs, fm := t.fm }))

/-- R425 to R428: a stop input that goes low or high: its level, the stop reaction by STOP_CFG.MODE at the first falling edge,
the end of STOP_DELAY, the backstop of a die, and inputs that differ for STOP_DISC.
The readings and choices of the model in it: log entries 1502, 16. -/
def Obligations.StopInputsStopEveryAxis : Prop :=
  (∀ (dt : Nat) (b : Bool) (s : State), s.fmRuns = true → s.flag (stopFld b) = true → s.stopLow = false →
    ∃ t, exec (.stopInput dt b) s = .next t ∧ t.flag (stopFld b) = false ∧ t.flag (stopFld !b) = true ∧
      (∃ e ∈ t.fm.inbox, e.code = 0x121 ∧ e.time = s.clock + dt ∧ e.acted = true) ∧
      (∀ n : AxisId, s.planned n.val = true → s.regBit R.FLT_STOP_CFG 17 = false ∨ s.axisSt n ∉ [stRunning, stStopping] →
        t.axisSt n ∈ [stDisabled, stFaulted, stLatched]) ∧
      (s.regBit R.FLT_STOP_CFG 17 = true → t.guard.stopAt = some (s.clock + dt) ∧
        ∀ n : AxisId, s.axisSt n ∈ [stRunning, stStopping] → t.axisSt n = stStopping) ∧
      ReactionsOnly { s with guard := t.guard } t) ∧
  (∀ (dt : Nat) (b : Bool) (s : State), s.fmRuns = true → s.flag (stopFld b) = true → s.stopLow = true →
    ∃ t, exec (.stopInput dt b) s = .next t ∧ t.flag (stopFld b) = false ∧ t.guard.discLow = true ∧ t.guard.differAt = none ∧
      RegsBut s t [R.FLT_STATUS] ∧ t = { s.interlocked with clock := s.clock + dt, regs := t.regs, guard := t.guard, dies := t.dies }) ∧
  (∀ (dt : Nat) (b : Bool) (s : State), s.fmRuns = true → s.flag (stopFld b) = false →
    ∃ t, exec (.stopInputHigh dt b) s = .next t ∧ t.flag (stopFld b) = true ∧
      (b = true → ∀ d : DieId, t.dies[d].backstop = false ∧ t.dies[d].stopbLowAt = none) ∧
      t.flag F.FLT_STATUS_STOP_DISC = (s.flag F.FLT_STATUS_STOP_DISC && !(s.flag (stopFld !b) && s.guard.discLow)) ∧
      (∀ k, k ≠ R.FLT_STATUS → (∀ q m, k ≠ R.LG_LEG_STAT q m) → t.reg k = s.reg k) ∧
      t = { s with clock := s.clock + dt, regs := t.regs, guard := t.guard, dies := t.dies, legs := t.legs }) ∧
  (∀ (t0 : Nat) (s : State), s.guard.stopAt = some t0 →
    ∃ t, exec .stopDelayEnd s = .next t ∧ t.clock = max s.clock (t0 + s.stopDelay) ∧ t.guard = { s.guard with stopAt := none } ∧
      (∀ n : AxisId, s.planned n.val = true → s.faultStopping n = true → t.axisSt n ∈ [stFaulted, stLatched]) ∧
      ReactionsOnly { s with guard := t.guard } t) ∧
  (∀ (d : DieId) (t0 : Nat) (s : State), s.dies[d].stopbLowAt = some t0 → s.dies[d].backstop = false → s.hasDie d.val = true →
    ∃ t, exec (.stopbBackstop d) s = .next t ∧ t.clock = max s.clock (t0 + (12 + s.dies[d].stopDelay) * 500000) ∧
      t.dies[d].backstop = true ∧ (∀ l : LegId, legDie l = d → t.legs[l].hi.on = false ∧ t.legs[l].lo.on = false) ∧
      ReactionsOnly s t) ∧
  (∀ (t0 : Nat) (v : Inventory) (s : State), s.guard.differAt = some t0 → s.inv = some v → s.flag F.FLT_STATUS_STOP_DISC = false →
    ∃ t, exec .stopDiscrepancy s = .next t ∧ t.clock = max s.clock (t0 + v.prot.stopDisc * 500000) ∧
      t.flag F.FLT_STATUS_STOP_DISC = true ∧ t.guard = { s.guard with discLow := false } ∧
      t.fm.inbox = s.fm.inbox ++ [⟨0x122, 0, 0, none, t.clock, false⟩] ∧ RegsBut s t [R.FLT_STATUS] ∧
      t = { s.interlocked with clock := t.clock, regs := t.regs, fm := t.fm, guard := t.guard })

/-- R130, R157, R185, R260, R287, R288, R315, R374, R400, R416, R445: SAVE stores the registers its group names with INV.IMAGE_ID as the one record of that
group; a write that fails changes no record and reports it. A SAVE of a block with an operation status completes at once.
The readings and choices of the model in it: log entry 12. -/
def Obligations.SaveStoresARecordOfItsGroup : Prop :=
  (∀ (dt : Nat) (q : Quad) (n c : AxisId) (p : PortId) (s : State),
    ∀ r ∈ ([((fun ok => .pwSave dt q ok), 0x24 + q.val, pwSaveKeys q), ((fun ok => .axisSave dt n ok), 0x10 + n.val, axisSaveKeys n),
      ((fun ok => .fbSave dt c ok), 0x18 + c.val, [R.FB_CFG c]), ((fun ok => .cpoSave dt ok), 0xd, cpoSaveKeys),
      ((fun ok => .plnSave dt ok), 9, plnSaveKeys), ((fun ok => .ladSave dt ok), 6, [R.LAD_CFG, R.LAD_RATE]),
      ((fun ok => .portSave dt p ok), 5, prtSaveKeys), ((fun ok => .fltSave dt ok), 4, fltSaveKeys)] : List ((Bool → Instr) × Nat × List Nat)),
    s.reach r.2.1 = true → s.planned n.val = true →
    (∃ t, exec (r.1 true) s = .next t ∧
      t.box.saves = (r.2.1, s.reg R.INV_IMAGE_ID, r.2.2.map (fun k => (k, s.reg k))) :: s.box.saves.filter (fun e => e.1 ≠ r.2.1) ∧
      t = { s.interlocked with clock := s.clock + dt, box := { s.box with saves := t.box.saves } }) ∧
    (∃ t, exec (r.1 false) s = .next t ∧ t.flag F.BOX_STATUS_WRITE_FAIL = true ∧
      t.fm.inbox = s.fm.inbox ++ [⟨0xC12, 0, 0, none, s.clock + dt, false⟩] ∧ RegsBut s t [R.BOX_STATUS] ∧
      t = { s.interlocked with clock := s.clock + dt, regs := t.regs, fm := t.fm })) ∧
  (∀ (dt : Nat) (q : Quad) (s : State),
    ∀ r ∈ ([((fun ok => .lgSave dt q ok), 0x20 + q.val, R.LG_OP_STAT q, 4, lgSaveKeys q),
      ((fun ok => .cmpSave dt ok), 0xb, R.CMP_OP_STAT, 2, cmpSaveKeys),
      ((fun ok => .hatSave dt ok), 0xc, R.HAT_OP_STAT, 2, hatSaveKeys)] : List ((Bool → Instr) × Nat × Nat × Nat × List Nat)),
    s.reach r.2.1 = true → s.opBusy r.2.2.1 = false →
    (∃ t, exec (r.1 true) s = .next t ∧ t.opStat r.2.2.1 = statDone ∧ t.lastOp r.2.2.1 = r.2.2.2.1 ∧
      t.box.saves = (r.2.1, s.reg R.INV_IMAGE_ID, r.2.2.2.2.map (fun k => (k, s.reg k))) :: s.box.saves.filter (fun e => e.1 ≠ r.2.1) ∧
      RegsBut s t [r.2.2.1] ∧
      t = { s.interlocked with clock := s.clock + dt, regs := t.regs, box := { s.box with saves := t.box.saves } }) ∧
    (∃ t, exec (r.1 false) s = .next t ∧ t.opStat r.2.2.1 = statDone ∧ t.flag F.BOX_STATUS_WRITE_FAIL = true ∧
      t.fm.inbox = s.fm.inbox ++ [⟨0xC12, 0, 0, none, s.clock + dt, false⟩] ∧ RegsBut s t [R.BOX_STATUS, r.2.2.1] ∧
      t = { s.interlocked with clock := s.clock + dt, regs := t.regs, fm := t.fm }))

/-- R21, R435 to R437, R440, R442: the fault manager takes the event that comes first: a record of its own in its place by
timestamp, one more occurrence of a record that stands for the same, or the overflow record of a queue with 63 records; the
ring takes every record; ALL_TRAP and ALL_LATCH faults act on every axis. POP and FLUSH remove records, and a REPLACE reason
whose condition holds is cleared.
The readings and choices of the model in it: log entries 11, 1501. -/
def Obligations.FaultManagerQueuesEventsAndReasons : Prop :=
  (∀ (e : Event) (s : State), firstEvent s.fm.inbox = some e → s.fmRuns = true → s.earlierOnDie e = false →
    (e ∈ s.fm.inbox ∧ ∀ f ∈ s.fm.inbox, e.time ≤ f.time) ∧
    ∃ t, exec (.faultRecord true) s = .next t ∧ (s.fm.inbox.erase e) <+: t.fm.inbox ∧
      (s.fm.queue.any (fun x => x.same (s.recordOf e)) = true →
        t.fm.queue = s.fm.queue.map (fun x => if x.same (s.recordOf e) then x.again else x)) ∧
      (s.fm.queue.any (fun x => x.same (s.recordOf e)) = false → s.fm.queue.length < 63 →
        t.fm.queue = insertRec (s.recordOf e) s.fm.queue) ∧
      (s.fm.queue.any (fun x => x.same (s.recordOf e)) = false → 63 ≤ s.fm.queue.length →
        s.fm.queue.any (fun x => decide (x.code = 0xC11)) = false →
        t.fm.queue = s.fm.queue ++ [overflowRec (s.recordOf e)] ∧ t.flag F.FLT_STATUS_OVF = true ∧
        t.fld ⟨R.FLT_OVERFLOW, 15, 0⟩ = min (s.fld ⟨R.FLT_OVERFLOW, 15, 0⟩ + 1) 65535) ∧
      t.reg R.FLT_Q_LEVEL = BitVec.ofNat 36 t.fm.queue.length ∧ t.flag F.SYS_STATUS_FAULT_PENDING = !t.fm.queue.isEmpty ∧
      t.reg R.FLT_REC0 = (t.fm.queue.head?).elim 0 FaultRec.rec0 ∧ t.reg R.FLT_REC1 = (t.fm.queue.head?).elim 0 (·.time) ∧
      (s.ringRecent.length < 999 → t.fm.ringTimes.length ≤ s.ringRecent.length + 2 ∧ s.clock ∈ t.fm.ringTimes ∧
        ∃ w, (({ s.recordOf e with rep := 0 }).rec0, s.stamp e.time, w) ∈ t.box.ring.take 2) ∧
      (∀ i, reasonOf e.code = some i → bitOf (t.reg R.SYS_REPLACE_WHY).toNat i = true) ∧
      (e.acted = false → e.code ∈ classAllTrap → ∀ n : AxisId, s.planned n.val = true →
        t.axisSt n ∈ [stDisabled, stFaulted, stLatched]) ∧
      (e.acted = false → e.code ∈ classAllLatch → ∀ n : AxisId, s.planned n.val = true → t.axisSt n = stLatched) ∧
      (e.acted = true → ∀ n : AxisId, s.axisSt n ≠ stRunning → t.axisSt n = s.axisSt n)) ∧
  (∀ (dt : Nat) (s : State), s.reach 4 = true →
    ∀ p ∈ [(Instr.pop dt, s.fm.queue.drop 1), (Instr.faultFlush dt, [])],
    ∃ t, exec p.1 s = .next t ∧ t.fm = { s.fm with queue := p.2 } ∧ t.reg R.FLT_Q_LEVEL = BitVec.ofNat 36 p.2.length ∧
      t.reg R.FLT_REC0 = (p.2.head?).elim 0 FaultRec.rec0 ∧ t.reg R.FLT_REC1 = (p.2.head?).elim 0 (·.time) ∧
      t.flag F.SYS_STATUS_FAULT_PENDING = !p.2.isEmpty ∧
      RegsBut s t [R.FLT_Q_LEVEL, R.FLT_REC0, R.FLT_REC1, R.SYS_STATUS] ∧
      t = { s.interlocked with clock := s.clock + dt, regs := t.regs, fm := t.fm }) ∧
  (∀ (dt : Nat) (i : Fin 7) (s : State), s.fmRuns = true → bitOf (s.reg R.SYS_REPLACE_WHY).toNat i.val = true →
    (s.pass dt).reasonOver i.val = true →
    ∃ t, exec (.replaceReasonClear dt i) s = .next t ∧
      t.reg R.SYS_REPLACE_WHY = BitVec.ofNat 36 ((s.reg R.SYS_REPLACE_WHY).toNat - 2 ^ i.val) ∧
      t.flag F.SYS_STATUS_REPLACE = decide ((s.reg R.SYS_REPLACE_WHY).toNat ≠ 2 ^ i.val) ∧
      t.flag F.FLT_STATUS_REPLACE = t.flag F.SYS_STATUS_REPLACE ∧ t.box.reasons = (s.reg R.SYS_REPLACE_WHY).toNat - 2 ^ i.val ∧
      RegsBut s t [R.SYS_REPLACE_WHY, R.SYS_STATUS, R.FLT_STATUS] ∧
      t = { s.interlocked with clock := s.clock + dt, regs := t.regs, box := { s.box with reasons := t.box.reasons } })

/-- R431, R455, R456: a SHORT without a sign change for t_K turns OPEN; a SHORT held through a reset turns OPEN 2 s after it; a
brownout engages the Trapdoor, empties the Larder and stores what waits in the Strongbox.
The readings and choices of the model in it: log entries 1505, 1506. -/
def Obligations.TrapdoorTimeLimitsAndBrownout : Prop :=
  (∀ (n : AxisId) (s : State), s.planned n.val = true → s.shorted n = true →
    ∃ t, exec (.trapdoorShortTimeout n) s = .next t ∧ t.clock = max s.clock (s.axes[n].signAt + s.shortLimit n) ∧
      t.shorted n = false ∧ (∀ l ∈ s.axisLegs n, t.legs[l].policy = some false ∧ t.legs[l].hi.on = false ∧ t.legs[l].lo.on = false) ∧
      (∀ l, l ∉ s.axisLegs n → t.legs[l] = s.interlocked.legs[l]) ∧
      (∀ k, k ≠ R.FLT_TRAP_STAT → (∀ q m, k ≠ R.LG_LEG_STAT q m) → t.reg k = s.reg k) ∧
      t = { s with clock := t.clock, regs := t.regs, legs := t.legs, dies := t.dies }) ∧
  (∀ s : State, s.seq.shorts ≠ [] →
    ∃ t, exec .resetShortTimeout s = .next t ∧ t.clock = max s.clock (s.seq.resetAt + 1000000000) ∧
      t.seq = { s.seq with shorts := [] } ∧
      (∀ l : LegId, t.legs[l].policy =
        if s.legs[l].policy = some true ∧ (s.legAxis l).any (fun n => s.shorted n) = false then some false else s.legs[l].policy) ∧
      (∀ k, (∀ q m, k ≠ R.LG_LEG_STAT q m) → t.reg k = s.reg k) ∧
      t = { s with clock := t.clock, seq := t.seq, regs := t.regs, legs := t.legs, dies := t.dies }) ∧
  (∀ (dt : Nat) (s : State), s.power ≠ .off → s.power ≠ .brownout →
    ∃ t, exec (.brownout dt) s = .next t ∧ t.clock = s.clock + dt ∧ t.power = .brownout ∧ t.larder = Larder.reset ∧
      t.flag F.LDC_STATUS_READY = false ∧ t.inlet = 0 ∧ t.flag F.FLT_STATUS_INLET_ON = false ∧ t.flag F.FLT_STATUS_BRK_ON = false ∧
      t.guard.brkWant = false ∧ (∀ n : AxisId, s.planned n.val = true → t.trapped n = true) ∧
      (s.flag F.BOX_STATUS_READY = true → t.fm.inbox = [] ∧ t.box.heat = s.guard.heat) ∧
      t.inv = s.inv ∧ t.flash = s.flash ∧ t.jtag = s.jtag ∧ t.seq = s.seq ∧
      (∀ k, outer k → k ∉ [R.LDC_STATUS, R.BOX_RING_COUNT, R.BOX_DROP_COUNT] → t.reg k = s.reg k))

/-- R175 to R178: at a comparator tick mode changes take effect, and at the end of the window each SAMPLED comparator decides on
its input (`levels`) against its threshold; QUAL + 1 ticks in a row change it; a CONTINUOUS comparator changes once it has
qualified for QUAL + 1 steps of 20 ns, and the system comparators raise the faults of their functions; a changed threshold
settles first.
The readings and choices of the model in it: log entries 604, 605. -/
def Obligations.ComparatorsQualifyAndAct : Prop :=
  (∀ (levels : List Nat) (s : State), s.live = true →
    ∃ t, exec (.comparatorTick levels) s = .next t ∧
      t.clock = s.nextBoundary 500 s.clock + (if cmpIds.any (fun j => s.cmpWanted j = .sampled) then 100 else 0) ∧
      (∀ j : Fin 64, t.cmps[j].mode = s.cmpWanted j) ∧
      (∀ j : Fin 64, s.cmpWanted j = .off → s.underAudit j = false → t.cmpOut j = false) ∧
      (∀ j : Fin 64, s.cmpWanted j = .sampled → s.underAudit j = false → s.cmps[j].settle ≤ t.clock →
        s.cmpRaw j (levels.getD j.val 0) = s.cmpOut j → t.cmps[j].run = 0 ∧ t.cmpOut j = s.cmpOut j) ∧
      (∀ (j : Fin 64) (r : Nat), s.cmpWanted j = .sampled → s.underAudit j = false → s.cmps[j].settle ≤ t.clock →
        s.cmpRaw j (levels.getD j.val 0) ≠ s.cmpOut j →
        (s.cmps[j].mode = .sampled → r = s.cmps[j].run) → (s.cmps[j].mode ≠ .sampled → r = 0) →
        (r < s.fld (F.CMP_CFG_QUAL j) → t.cmps[j].run = r + 1 ∧ t.cmpOut j = s.cmpOut j) ∧
        (s.fld (F.CMP_CFG_QUAL j) ≤ r → t.cmps[j].run = 0 ∧ t.cmpOut j = s.cmpRaw j (levels.getD j.val 0))) ∧
      (∀ j : Fin 64, s.underAudit j = true ∨ t.clock < s.cmps[j].settle → s.cmpWanted j ≠ .off → t.cmpOut j = s.cmpOut j) ∧
      ReactionsOnly { s with cmps := t.cmps } t) ∧
  (∀ (dt level : Nat) (j : Fin 64) (s : State), s.cmpContinuous j = true → s.cmpOut j = false → s.cmpRaw j level = true →
    ∃ t, exec (.comparatorActive dt j level) s = .next t ∧
      t.clock = max (s.clock + dt) s.cmps[j].settle + 10 * (s.fld (F.CMP_CFG_QUAL j) + 1) ∧ t.cmpOut j = true ∧
      (∀ i : Fin 64, i ≠ j → t.cmpOut i = s.cmpOut i) ∧
      t.fld ⟨R.CMP_EVT_COUNT, 15, 0⟩ = min (s.fld ⟨R.CMP_EVT_COUNT, 15, 0⟩ + 1) 65535 ∧
      (isSystem j = false → s.fld (F.CMP_CFG_ACTION j) = 1 →
        t.fm.inbox = s.fm.inbox ++ [⟨0x421, j.val, 0, (s.cmpOwner j).map (·.val), t.clock, false⟩]) ∧
      (∀ p ∈ [(60, 0x105), (61, 0x106), (62, 0x413), (63, 0x413)], j.val = p.1 →
        t.fm.inbox = s.fm.inbox ++ [⟨p.2, p.1, 0, none, t.clock, false⟩]) ∧
      (j.val = 58 → t.guard.brkWant = true) ∧ (j.val = 59 → t.guard.brkWant = false) ∧
      ReactionsOnly { s with guard := t.guard } t) ∧
  (∀ (dt level : Nat) (j : Fin 64) (s : State), s.cmpContinuous j = true → s.cmpOut j = true → s.cmpRaw j level = false →
    ∃ t, exec (.comparatorRelease dt j level) s = .next t ∧
      t.clock = max (s.clock + dt) s.cmps[j].settle + 10 * (s.fld (F.CMP_CFG_QUAL j) + 1) ∧ t.cmpOut j = false ∧
      (∀ i : Fin 64, i ≠ j → t.cmpOut i = s.cmpOut i) ∧ ReactionsOnly s t)

/-- R179 to R181, R185: audits join those that wait; the end of one judges its six steps, names a failure, starts the next that may
still be made and completes the command with the last of its own; ABORT ends those of the command; a write of CMP.CFGj
takes effect on a free comparator.
The readings and choices of the model in it: log entry 605. -/
def Obligations.ComparatorAuditsAndSettings : Prop :=
  (∀ (dt : Nat) (all : Bool) (num : Fin 64) (s : State), s.reach 0xb = true → s.opBusy R.CMP_OP_STAT = false →
    (if all then cmpIds.any (fun j => s.auditAllowed j) else s.auditAllowed num) = true →
    ∃ t, exec (.audit dt all num) s = .next t ∧ t.opStat R.CMP_OP_STAT = statBusy ∧ t.lastOp R.CMP_OP_STAT = 1 ∧
      t.audit.todo = s.audit.todo ++
        (if all then (cmpIds.filter (fun j => s.auditAllowed j)).map (·.val) else [num.val]).map (fun j => (j, AuditBy.command)) ∧
      t.audit.firstFault = 0 ∧ RegsBut s t [R.CMP_OP_STAT] ∧
      t = { s.interlocked with clock := s.clock + dt, regs := t.regs, audit := t.audit }) ∧
  (∀ (j : Fin 64) (s : State), s.reach 0xb = true → s.flag F.CMP_AUDIT_CFG_AUTO = true → s.autoAuditable j = true →
    s.audit.todo.any (fun e => e.1 == j.val) = false →
    ∃ t, exec (.autoAudit j) s = .next t ∧ t.clock = max s.clock (s.cmps[j].auditAt + s.auditPeriod) ∧
      t.audit.todo = s.audit.todo ++ [(j.val, AuditBy.auto)] ∧ t.audit.firstFault = s.audit.firstFault ∧
      t = { s.interlocked with clock := t.clock, audit := t.audit }) ∧
  (∀ (outs : BitVec 6) (j : Fin 64) (by_ : AuditBy) (rest : List (Nat × AuditBy)) (code : Nat) (s : State),
    s.audit.todo = (j.val, by_) :: rest →
    code = (if outs ≠ 0b001001#6 ∧ by_ = .command ∧ s.audit.firstFault = 0 then 0x431 else s.audit.firstFault) →
    ∃ t, exec (.auditEnd outs) s = .next t ∧ t.clock = max s.clock (s.audit.startAt + 1500) ∧ t.audit.todo = s.nextAudits rest ∧
      t.audit.startAt = t.clock ∧ t.cmps[j].auditAt = t.clock ∧
      t.cmpFailed j = decide (outs ≠ 0b001001#6) ∧ (∀ i : Fin 64, i ≠ j → t.cmpFailed i = s.cmpFailed i) ∧
      t.fm.inbox = (if outs = 0b001001#6 then s.fm.inbox
        else s.fm.inbox ++ [⟨0x431, j.val, 0, (s.cmpOwner j).map (·.val), t.clock, false⟩]) ∧
      (s.cmdAudits = true → (s.nextAudits rest).any (fun e => e.2 == .command) = false →
        t.opStat R.CMP_OP_STAT = statDone ∧ t.audit.firstFault = 0 ∧ t.fld ⟨R.CMP_OP_STAT, 31, 20⟩ = code % 4096) ∧
      (s.cmdAudits = false ∨ (s.nextAudits rest).any (fun e => e.2 == .command) = true →
        t.reg R.CMP_OP_STAT = s.reg R.CMP_OP_STAT ∧ t.audit.firstFault = code) ∧
      RegsBut s t [R.CMP_FAILED_LO, R.CMP_FAILED_HI, R.CMP_OP_STAT] ∧
      t = { s.interlocked with clock := t.clock, regs := t.regs, fm := t.fm, cmps := t.cmps, audit := t.audit }) ∧
  (∀ (dt : Nat) (s : State), s.reach 0xb = true → s.opBusy R.CMP_OP_STAT = true →
    ∃ t, exec (.cmpAbort dt) s = .next t ∧ t.opStat R.CMP_OP_STAT = statAborted ∧
      t.audit.todo = s.audit.todo.filter (fun e => e.2 ≠ .command) ∧ t.audit.firstFault = s.audit.firstFault ∧
      RegsBut s t [R.CMP_OP_STAT] ∧ t = { s.interlocked with clock := s.clock + dt, regs := t.regs, audit := t.audit }) ∧
  (∀ (dt : Nat) (j : Fin 64) (msk : Bool) (w : Word) (s : State), s.reach 0xb = true → isSystem j = false →
    msk = true ∨ (∀ n, s.cmpOwner j = some n → s.axisSt n = stDisabled) →
    ∃ t, exec (.cmpCfgWrite dt j msk w) s = .next t ∧ t.clock = s.clock + dt ∧
      t.reg (R.CMP_CFG j) = BitVec.ofNat 36 (bitsPut (writtenWord msk (s.reg (R.CMP_CFG j)) w).toNat 20 15 0) ∧
      (∀ i : Fin 64, i ≠ j → t.reg (R.CMP_CFG i) = s.reg (R.CMP_CFG i)) ∧
      t.cmps[j] = { s.cmps[j] with
        settle := if t.fld (F.CMP_CFG_THRESH j) = s.fld (F.CMP_CFG_THRESH j) then s.cmps[j].settle else s.clock + dt + 500 } ∧
      (∀ i : Fin 64, i ≠ j → t.cmps[i] = s.cmps[i]) ∧ ReactionsOnly { s with cmps := t.cmps } t) ∧
  (∀ (dt : Nat) (j : Fin 64) (w : Word) (n : AxisId) (s : State), s.reach 0xb = true → isSystem j = false →
    s.cmpOwner j = some n → s.axisSt n ≠ stDisabled →
    ∃ t, exec (.cmpCfgWrite dt j false w) s = .next t ∧ t.flag F.CMP_OP_STAT_CMD_REFUSED = true ∧
      t.reg (R.CMP_CFG j) = s.reg (R.CMP_CFG j))

/-- R161 to R171, R14: a trigger queues the conversions of its axes; the end of a conversion shows RESULT, sends its record up, adds
up a running calibration and starts the next; housekeeping converts what is due, then what a calibration needs, on an idle core
and drops what its period leaves; a result reaches LD within 250 PCLK of its end, and LD calibrates the results in order.
The readings and choices of the model in it: log entries 602, 9. -/
def Obligations.ConversionsQueueRunAndArrive : Prop :=
  (∀ (n : AxisId) (s : State), s.live = true → s.planned n.val = true →
    ∃ t, exec (.adcTrigger n) s = .next t ∧ t.clock = max s.clock (s.trigInstant n) ∧
      (∀ m : AxisId, t.seqs[m] = if m ∈ s.sameTrigger n then { s.seqs[m] with trigAt := s.trigInstant n } else s.seqs[m]) ∧
      (∀ (c : CoreId) (i : Nat), (c.val, i) ∈ s.seqs[n].reads →
        (∃ r ∈ t.cores[c].queue, r.input = i ∧ r.trig = s.trigInstant n) ∨
        (∃ r a, t.cores[c].busy = some (r, a) ∧ r.input = i ∧ r.trig = s.trigInstant n)) ∧
      (∀ c : CoreId, s.cores[c].busy.isSome = true → t.cores[c].busy = s.cores[c].busy) ∧
      ReactionsOnly { s with seqs := t.seqs, cores := t.cores } t) ∧
  (∀ (c : CoreId) (raw : BitVec 18) (r : ConvReq) (at0 : Nat) (s : State), s.cores[c].busy = some (r, at0) → r.input < 8 →
    ∃ t, exec (.conversionEnd c raw) s = .next t ∧ t.clock = max s.clock (at0 + 200) ∧
      (∀ k, k = R.AD_RESULT (coreDie c) ⟨(c.val % 4 * 8 + r.input) % 32, Nat.mod_lt _ (by decide)⟩ →
        t.reg k = BitVec.ofNat 36 ((s.stamp at0).toNat % 65536 * 2 ^ 20 + 2 ^ 19 + bit (overRange raw) * 2 ^ 18 + raw.toNat) ∧
        RegsBut s t [k]) ∧
      t.dies[coreDie c].adcUp = s.dies[coreDie c].adcUp ++
        [⟨c.val, r.input, r.hk, if r.hk then at0 else r.trig, at0, at0 + 200, raw.toInt⟩] ∧
      (∀ x, s.calRuns[coreDie c] = some x → t.calRuns[coreDie c] =
        if r.cal = true ∧ x.core = c.val ∧ x.since ≤ at0 then some { x with left := x.left - 1, sum := x.sum + raw.toInt } else some x) ∧
      (s.calRuns[coreDie c] = none → t.calRuns = s.calRuns) ∧
      (s.cores[c].queue = [] → t.cores[c] = { s.cores[c] with busy := none }) ∧
      (∀ q rest, s.cores[c].queue = q :: rest →
        t.cores[c] = { s.cores[c] with busy := some (q, max t.clock q.trig), queue := rest }) ∧
      (∀ c', c' ≠ c → t.cores[c'] = s.cores[c']) ∧
      t = { s.interlocked with clock := t.clock, regs := t.regs, dies := t.dies, cores := t.cores, calRuns := t.calRuns }) ∧
  (∀ (dt : Nat) (c : CoreId) (i : Nat) (rest : List Nat) (s : State), s.live = true → s.cores[c].due = i :: rest →
    s.cores[c].busy = none → s.cores[c].queue = [] → (∀ x, (s.pass dt).nextTrigger c = some x → s.clock + dt + 200 ≤ x) →
    ∃ t, exec (.housekeepingConversion dt c) s = .next t ∧
      t.cores[c] = { s.cores[c] with busy := some (⟨i, true, false, s.clock + dt, 0⟩, s.clock + dt), due := rest } ∧
      (∀ c', c' ≠ c → t.cores[c'] = s.cores[c']) ∧ t = { s.interlocked with clock := s.clock + dt, cores := t.cores }) ∧
  (∀ (dt : Nat) (c : CoreId) (x : CalRun) (s : State), s.live = true → s.cores[c].due = [] →
    s.cores[c].busy = none → s.cores[c].queue = [] → (∀ x, (s.pass dt).nextTrigger c = some x → s.clock + dt + 200 ≤ x) →
    s.calRuns[coreDie c] = some x → x.core = c.val → 0 < x.left →
    ∃ t, exec (.housekeepingConversion dt c) s = .next t ∧
      t.cores[c] = { s.cores[c] with busy := some (⟨x.input, true, true, s.clock + dt, 0⟩, s.clock + dt) } ∧
      (∀ c', c' ≠ c → t.cores[c'] = s.cores[c']) ∧ t = { s.interlocked with clock := s.clock + dt, cores := t.cores }) ∧
  (∀ (c : CoreId) (s : State), s.live = true → s.hasDie (coreDie c).val = true → s.cores[c].hkPeriod ≠ 0 → c.val % 4 ≠ 0 →
    ∃ t, exec (.hkPeriodEnd c) s = .next t ∧
      t.clock = s.nextBoundary 50000 (s.cores[c].hkAt + s.cores[c].hkPeriod * 50000 - 1) ∧
      t.cores[c] = { s.cores[c] with due := hkList s.cores[c].hkInputs, hkAt := t.clock } ∧
      t.fld ⟨R.AD_HK_MISS (coreDie c), 15, 0⟩ = min (s.fld ⟨R.AD_HK_MISS (coreDie c), 15, 0⟩ + s.cores[c].due.length) 65535 ∧
      RegsBut s t [R.AD_HK_MISS (coreDie c)] ∧ t = { s.interlocked with clock := t.clock, regs := t.regs, cores := t.cores }) ∧
  (∀ (dt : Nat) (d : DieId) (v : Conv) (rest : List Conv) (s : State), s.live = true → s.dies[d].linkLost = false →
    s.dies[d].adcUp = v :: rest → v.core < 8 → (s.linkUse d s.clock).errs = 0 →
    (s.linkUse d (max s.clock (min (s.clock + dt) (v.done + 250)))).adc < 10 →
    ∃ t, exec (.adcResult dt d) s = .next t ∧ t.clock = max s.clock (min (s.clock + dt) (v.done + 250)) ∧ t.dies[d].adcUp = rest ∧
      t.meas[measIx v.core v.input].hist = (⟨v.trig, v.sampled,
        calibrate (s.calNow v.core v.input).1 (s.calNow v.core v.input).2 v.raw, overRange (BitVec.ofInt 18 v.raw)⟩ ::
          s.meas[measIx v.core v.input].hist).take 64 ∧
      (∀ i, i ≠ measIx v.core v.input → t.meas[i] = s.meas[i]) ∧
      (∀ k, outer k → k ∉ [R.CLK_TEMP_GD0, R.CLK_TEMP_GD1] → t.reg k = s.reg k) ∧
      t = { s.interlocked with
        clock := t.clock, regs := t.regs, fm := t.fm, dies := t.dies, cores := t.cores, meas := t.meas, axes := t.axes,
        guard := t.guard })

/-- R171 to R173: a calibration of 1024 conversions starts, is stored with the die's temperature or refused once they are made, is
cleared, or is aborted.
The readings and choices of the model in it: log entry 601. -/
def Obligations.CalibrationsStoreOrFail : Prop :=
  (∀ (dt : Nat) (d : DieId) (sel : BitVec 6) (core input set : Nat) (s : State), calSel d sel.toNat = (core, input, set) →
    s.reach (0x28 + d.val) = true → s.opBusy (R.AD_OP_STAT d) = false → (s.calDef core input).isSome = true →
    s.inputInUse core input = false →
    (∀ p ∈ [(Instr.calZero dt d sel, 1), (Instr.calFull dt d sel, 2)],
      ∃ t, exec p.1 s = .next t ∧ t.opStat (R.AD_OP_STAT d) = statBusy ∧ t.lastOp (R.AD_OP_STAT d) = p.2 ∧
        t.calRuns[d] = some ⟨p.2, core, input, set, s.clock + dt, 1024, 0⟩ ∧ RegsBut s t [R.AD_OP_STAT d] ∧
        t = { s.interlocked with clock := s.clock + dt, regs := t.regs, calRuns := t.calRuns }) ∧
    (∃ t, exec (.calClear dt d sel) s = .next t ∧ t.opStat (R.AD_OP_STAT d) = statDone ∧ t.lastOp (R.AD_OP_STAT d) = 3 ∧
      (∀ o g fs, s.keptCal core input set = some (o, g, fs) → t.keptCal core input set =
        some (BitVec.ofNat 36 (bitsPut o.toNat 18 18 0), BitVec.ofNat 36 (bitsPut g.toNat 18 18 0), fs)) ∧
      RegsBut s t [R.AD_OP_STAT d] ∧
      t = { s.interlocked with clock := s.clock + dt, regs := t.regs, box := { s.box with cals := t.box.cals } })) ∧
  (∀ (dt : Nat) (d : DieId) (s : State), s.reach (0x28 + d.val) = true → s.opBusy (R.AD_OP_STAT d) = true →
    ∃ t, exec (.adcAbort dt d) s = .next t ∧ t.opStat (R.AD_OP_STAT d) = statAborted ∧ t.calRuns[d] = none ∧
      RegsBut s t [R.AD_OP_STAT d] ∧ t = { s.interlocked with clock := s.clock + dt, regs := t.regs, calRuns := t.calRuns }) ∧
  (∀ (dt : Nat) (d : DieId) (r : CalRun) (cd : CalDef) (s : State), s.calRuns[d] = some r → r.left = 0 →
    s.calDef r.core r.input = some cd →
    (r.op = 1 → ∃ t, exec (.calComplete dt d) s = .next t ∧ t.opStat (R.AD_OP_STAT d) = statDone ∧ t.calRuns[d] = none ∧
      (∃ g, t.calSet r.core r.input r.set =
        some (calWord (s.dieTemp d) (clampInt (-131072) 131071 (roundDiv r.sum 1024)) true, g) ∧ bitOf g.toNat 18 = false) ∧
      RegsBut s t [R.AD_OP_STAT d] ∧
      t = { s.interlocked with clock := s.clock + dt, regs := t.regs, calRuns := t.calRuns, box := { s.box with cals := t.box.cals } }) ∧
    (r.op = 2 → ∀ (g : Int) (o w : Word), s.fullGain r cd r.sum = some g → s.calSet r.core r.input r.set = some (o, w) →
      ∃ t, exec (.calComplete dt d) s = .next t ∧ t.opStat (R.AD_OP_STAT d) = statDone ∧ t.calRuns[d] = none ∧
        t.calSet r.core r.input r.set = some (o, calWord (s.dieTemp d) g true) ∧ RegsBut s t [R.AD_OP_STAT d]) ∧
    (r.op = 2 → s.fullGain r cd r.sum = none →
      ∃ t, exec (.calComplete dt d) s = .next t ∧ t.opStat (R.AD_OP_STAT d) = statErr ∧ t.calRuns[d] = none ∧ t.box = s.box ∧
        t.fm.inbox = s.fm.inbox ++ [⟨0x401, 20 + r.core % 4, d.val + 1, none, s.clock + dt, false⟩] ∧
        RegsBut s t [R.AD_OP_STAT d]))

/-- R83, R85, R88 to R90, R92, R472 (INV.CMD, boot): which operations start, which a busy module or a running axis turns away, and where
the boot begins.
The readings and choices of the model in it: log entry 310. -/
def Obligations.InventoryOperationsStart : Prop :=
  (∀ (dt : Nat) (s : State), s.reach 2 = true → s.opBusy R.INV_OP_STAT = false → s.larderReady = true →
    s.srcAddr < s.variant.rbase → s.allQuiet = true →
    ∀ p ∈ [(Instr.check dt, 1), (Instr.apply dt, 2), (Instr.programA dt, 5), (Instr.programB dt, 6)],
    ∃ t n, exec p.1 s = .next t ∧ t.opStat R.INV_OP_STAT = statBusy ∧ t.lastOp R.INV_OP_STAT = p.2 ∧ t.reg R.INV_ERR_AT = 0 ∧
      t.fld F.INV_PROGRESS_WORD = 0 ∧ t.invOp.range = some (s.srcAddr, n) ∧ t.inv = s.inv ∧ t.power = s.power) ∧
  (∀ (dt : Nat) (s : State), s.reach 2 = true → s.opBusy R.INV_OP_STAT = false → s.larderReady = true →
    s.allQuiet = true → ∀ p ∈ [(Instr.applySlotA dt, 3, 1), (Instr.applySlotB dt, 4, 2)],
    ∃ t, exec p.1 s = .next t ∧ t.opStat R.INV_OP_STAT = statBusy ∧ t.lastOp R.INV_OP_STAT = p.2.1 ∧ t.reg R.INV_ERR_AT = 0 ∧
      t.fld F.PRT_BOOT_STAT_ACTIVE = p.2.2 ∧ t.invOp.affected = [0, 1, 2, 3, 4, 5, 6, 7] ∧ t.inv = s.inv ∧ t.power = s.power) ∧
  (∀ (dt : Nat) (s : State), s.reach 2 = true → s.opBusy R.INV_OP_STAT = false → s.larderReady = true →
    s.allQuiet = false → ∀ p ∈ [(Instr.applySlotA dt, 3), (Instr.applySlotB dt, 4)],
    ∃ t, exec p.1 s = .next t ∧ t.opStat R.INV_OP_STAT = statErr ∧ t.fld F.INV_OP_STAT_ERR_CODE = 0xB40 ∧
      t.lastOp R.INV_OP_STAT = p.2 ∧ t.inv = s.inv) ∧
  (∀ (dt : Nat) (s : State), s.reach 2 = true → s.opBusy R.INV_OP_STAT = false →
    ∀ p ∈ [(Instr.verifyA dt, 7, 1), (Instr.verifyB dt, 8, 2)],
    ∃ t, exec p.1 s = .next t ∧ t.opStat R.INV_OP_STAT = statBusy ∧ t.lastOp R.INV_OP_STAT = p.2.1 ∧ t.reg R.INV_ERR_AT = 0 ∧
      t.fld F.PRT_BOOT_STAT_ACTIVE = p.2.2 ∧ t.inv = s.inv ∧ t.flash = s.flash ∧ t.power = s.power) ∧
  (∀ (dt : Nat) (s : State), s.reach 2 = true → s.opBusy R.INV_OP_STAT = true →
    ∀ c ∈ [Instr.check dt, .apply dt, .applySlotA dt, .applySlotB dt, .programA dt, .programB dt, .verifyA dt, .verifyB dt],
    ∃ t, exec c s = .next t ∧ t.flag F.INV_OP_STAT_CMD_REFUSED = true ∧ t.opStat R.INV_OP_STAT = s.opStat R.INV_OP_STAT ∧
      RegsBut s t [R.INV_OP_STAT] ∧ t = { s.interlocked with clock := s.clock + dt, regs := t.regs }) ∧
  (∀ (dt : Nat) (s : State), s.power = .loading → s.live = true → s.larderReady = true → s.opBusy R.INV_OP_STAT = false →
    ∃ t, exec (.boot dt) s = .next t ∧ t.clock = s.clock + dt ∧ t.fld F.INV_NEXT_BOOT_NEXT_BOOT = 0 ∧
      (∀ p ∈ [(0, [0, 1], 1), (1, [1], 2)], s.fld F.INV_NEXT_BOOT_NEXT_BOOT = p.1 →
        t.power = .loading ∧ t.invOp.boot = some p.2.1 ∧ t.opStat R.INV_OP_STAT = statBusy ∧ t.fld F.PRT_BOOT_STAT_ACTIVE = p.2.2) ∧
      (2 ≤ s.fld F.INV_NEXT_BOOT_NEXT_BOOT → t.power = .bare ∧ t.flag F.SYS_STATUS_BARE = true ∧ t.opStat R.INV_OP_STAT = statDone))

/-- R83 to R85, R88 to R90, R92, R93 (INV.CMD, boot): how operations and the boot's slot checks end: DONE with the image taken over, or ERR with the
first failure and nothing taken over; ABORT ends what runs.
The readings and choices of the model in it: log entries 301, 309, 310, 312. -/
def Obligations.InventoryOperationsEnd : Prop :=
  (∀ (dt : Nat) (dev : Bool) (s u : State) (e : Nat × Nat × Nat), s.invRuns [1, 7, 8] = true →
    (s.pass dt).invCheck (s.lastOp R.INV_OP_STAT) dev = (u, .error e) →
    ∃ t, exec (.invCheckEnd dt dev) s = .next t ∧ t.opStat R.INV_OP_STAT = statErr ∧
      t.fld F.INV_OP_STAT_ERR_CODE = e.2.1 % 4096 ∧ t.reg R.INV_ERR_AT = errAtWord e.1 e.2.2 ∧
      (s.lastOp R.INV_OP_STAT ≠ 1 → t.flag (slotOk (opSlot (s.lastOp R.INV_OP_STAT))) = false) ∧ t.inv = s.inv ∧ t.power = s.power) ∧
  (∀ (dt : Nat) (dev : Bool) (s u : State) (c : Checked) (ws : List Word), s.invRuns [1, 7, 8] = true →
    (s.pass dt).invCheck (s.lastOp R.INV_OP_STAT) dev = (u, .ok (c, ws)) →
    ∃ t, exec (.invCheckEnd dt dev) s = .next t ∧ t.opStat R.INV_OP_STAT = statDone ∧
      t.fld F.INV_PROGRESS_WORD = ws.length % 2 ^ 23 ∧
      (s.lastOp R.INV_OP_STAT ≠ 1 → t.flag (slotOk (opSlot (s.lastOp R.INV_OP_STAT))) = true) ∧ t.inv = s.inv ∧ t.power = s.power) ∧
  (∀ (dt : Nat) (dev : Bool) (s u : State) (c : Checked) (ws : List Word), s.invRuns [2, 3, 4] = true → s.invOp.partialImg = false →
    (s.pass dt).invCheck (s.lastOp R.INV_OP_STAT) dev = (u, .ok (c, ws)) →
    ∃ t, exec (.applyComplete dt dev) s = .next t ∧ t.opStat R.INV_OP_STAT = statDone ∧ t.power = .configured ∧
      t.inv = some c.inv ∧ t.reg R.INV_IMAGE_ID = c.inv.imageId ∧
      t.fld F.INV_ACTIVE_SOURCE = (if s.lastOp R.INV_OP_STAT = 2 then 3 else s.lastOp R.INV_OP_STAT - 2) ∧
      (s.lastOp R.INV_OP_STAT ≠ 2 → t.flag (slotOk (opSlot (s.lastOp R.INV_OP_STAT))) = true) ∧
      t.flag F.SYS_STATUS_INV_OK = true ∧ t.flag F.SYS_STATUS_BARE = false ∧ (∀ n : AxisId, t.axisSt n = stDisabled) ∧ t.flash = s.flash) ∧
  (∀ (dt : Nat) (dev : Bool) (s u : State) (e : Nat × Nat × Nat), s.invRuns [2, 3, 4] = true → s.invOp.partialImg = false →
    (s.pass dt).invCheck (s.lastOp R.INV_OP_STAT) dev = (u, .error e) →
    ∃ t, exec (.applyComplete dt dev) s = .next t ∧ t.opStat R.INV_OP_STAT = statErr ∧
      (s.lastOp R.INV_OP_STAT ≠ 2 → t.flag (slotOk (opSlot (s.lastOp R.INV_OP_STAT))) = false) ∧
      t.reg R.INV_ERR_AT = errAtWord e.1 e.2.2 ∧ t.inv = s.inv ∧ t.power = s.power ∧ t.engs = s.engs) ∧
  (∀ (dt : Nat) (s u : State) (c : Checked) (ws : List Word) (l : List (Nat × List Nat)), s.invRuns [2] = true →
    s.invOp.partialImg = true → (s.pass dt).invCheck 2 true = (u, .ok (c, ws)) → u.places c = some l →
    ∃ t, exec (.partialApplyComplete dt) s = .next t ∧ t.opStat R.INV_OP_STAT = statDone ∧ t.inv = some c.inv ∧
      t.flag F.INV_ACTIVE_PARTIAL_APPLIED = true ∧ t.power = s.power ∧
      (∀ n : AxisId, n.val ∉ c.loops → t.engs[n].prog = s.engs[n].prog ∧ t.engs[n].coef = s.engs[n].coef ∧ t.engs[n].base = s.engs[n].base)) ∧
  (∀ (dt : Nat) (s u : State) (c : Checked) (ws : List Word), s.invRuns [5, 6] = true →
    (s.pass dt).invCheck (s.lastOp R.INV_OP_STAT) true = (u, .ok (c, ws)) →
    (∃ t, exec (.programComplete dt true) s = .next t ∧ t.opStat R.INV_OP_STAT = statDone ∧
      t.flash[opSlot (s.lastOp R.INV_OP_STAT)] = slotOf ws ∧ t.flag (slotOk (opSlot (s.lastOp R.INV_OP_STAT))) = true ∧ t.inv = s.inv) ∧
    (∃ t, exec (.programComplete dt false) s = .next t ∧ t.opStat R.INV_OP_STAT = statErr ∧
      t.fld F.INV_OP_STAT_ERR_CODE = 0xB41 ∧ t.flash = s.flash ∧ t.inv = s.inv)) ∧
  (∀ (dt done : Nat) (s : State), s.reach 2 = true → s.opBusy R.INV_OP_STAT = true → s.invOp.boot = none →
    s.lastOp R.INV_OP_STAT ∈ [1, 7, 8] →
    ∃ t, exec (.invAbort dt done) s = .next t ∧ t.opStat R.INV_OP_STAT = statAborted ∧
      t.fld F.INV_PROGRESS_WORD = done % 2 ^ 23 ∧ t.inv = s.inv ∧ t.flash = s.flash ∧ t.power = s.power) ∧
  (∀ (dt : Nat) (dev : Bool) (s u : State) (k : Fin 2) (rest : List Nat) (ws : List Word) (c : Checked), s.live = true →
    s.power = .loading → s.invOp.boot = some (k.val :: rest) → (s.pass dt).readSlot k dev = (u, .ok ws) →
    (s.pass dt).checkImage .slot true ws = .ok c →
    ∃ t, exec (.slotCheckEnd dt dev) s = .next t ∧ t.power = .configured ∧ t.inv = some c.inv ∧ t.flag (slotOk k) = true ∧
      t.opStat R.INV_OP_STAT = statDone ∧ t.fld F.INV_ACTIVE_SOURCE = k.val + 1 ∧ t.invOp.boot = none) ∧
  (∀ (dt : Nat) (s : State) (k : Fin 2) (rest : List Nat), s.live = true → s.power = .loading → s.invOp.boot = some (k.val :: rest) →
    ∃ t, exec (.slotCheckEnd dt false) s = .next t ∧ t.flag (slotOk k) = false ∧ t.inv = (if rest = [] then none else s.inv) ∧
      t.power = (if rest = [] then .bare else .loading) ∧ t.invOp.boot = (if rest = [] then none else some rest) ∧
      (s.fm.inbox ++ [⟨0xB41, 0, 0, none, s.clock + dt, false⟩] <+: t.fm.inbox) ∧
      (∀ j l, rest = j :: l → t.fld F.PRT_BOOT_STAT_ACTIVE = (j + 1) % 4) ∧
      (rest = [] → t.opStat R.INV_OP_STAT = statErr))

/-- R98 to R100: the gate-drive power of a die each 1 ms, its supply VG that falls or comes back, and the floating supply of a leg that
is no longer ready, falls too low, or is ready again; switches that lose their supply turn off.
The readings and choices of the model in it: log entries 401, 9. -/
def Obligations.GateSuppliesEnableSwitches : Prop :=
  (∀ (d : DieId) (mw vg : Nat) (s : State), s.live = true → s.hasDie d.val = true →
    ∃ t, exec (.gatePowerUpdate d mw vg) s = .next t ∧ t.clock = max s.clock (s.dies[d].pgAt + 500000) ∧
      t.dies[d].pg = (mw :: s.dies[d].pg).take 1000 ∧ t.dies[d].pgAt = t.clock ∧
      (∀ q ∈ dieQuads d, t.fld (F.LG_SUPPLY_PG_MEAS q) = t.dies[d].pg.sum / t.dies[d].pg.length / 10 % 1024 ∧
        t.fld (F.LG_SUPPLY_VG_MEAS q) = vg % 256) ∧
      t.dies[d].pgHigh = decide (3000 * t.dies[d].pg.length < t.dies[d].pg.sum) ∧
      (t.dies[d].pgHigh = true → s.dies[d].pgHigh = false → ∃ e ∈ t.dies[d].events, e.code = 0x224 ∧ e.source = 18) ∧
      (∀ d' : DieId, d' ≠ d → t.dies[d'] = s.dies[d']) ∧ (∀ k, (∀ q, k ≠ R.LG_SUPPLY q) → t.reg k = s.reg k) ∧
      t = { s.interlocked with clock := t.clock, regs := t.regs, dies := t.dies }) ∧
  (∀ (dt : Nat) (d : DieId) (vg : Nat) (s : State), s.dies[d].vgUp = true → s.dies[d].vgLow = false → vg + 25 < s.vgSel d →
    ∃ t, exec (.vgLow dt d vg) s = .next t ∧ t.dies[d].vgLow = true ∧
      (∀ l : LegId, legDie l = d → t.legs[l].hi.on = false ∧ t.legs[l].lo.on = false) ∧
      (∃ e ∈ t.dies[d].events, e.code = 0x223 ∧ e.source = 18) ∧
      LegsFollow ((((s.pass dt).setSupply d F.LG_SUPPLY_VG_MEAS vg).setSupply d F.LG_SUPPLY_VG_LOW 1).raiseGD d 0x223 18 none
        |>.modDie d (fun x => { x with vgLow := true })) t) ∧
  (∀ (dt : Nat) (d : DieId) (vg : Nat) (s : State), s.dies[d].vgLow = true → s.vgSel d < vg + 15 →
    ∃ t, exec (.vgRecover dt d vg) s = .next t ∧ t.dies[d].vgLow = false ∧
      LegsFollow (((s.pass dt).setSupply d F.LG_SUPPLY_VG_MEAS vg).setSupply d F.LG_SUPPLY_VG_LOW 0
        |>.modDie d (fun x => { x with vgLow := false })) t) ∧
  (∀ (dt : Nat) (l : LegId) (s : State), (s.legAxis l).isSome = true → s.legs[l].cfLow = false →
    ∃ t, exec (.floatingSupplyLow dt l true) s = .next t ∧ t.legs[l].cfLow = true ∧ t.legs[l].hi.on = false ∧
      t.flag (F.LG_LEG_STAT_CF_LOW (legQ l) (legM l)) = true ∧ t.cfReady l = false ∧
      (∃ e ∈ t.dies[legDie l].events, e.code = 0x221 ∧ e.source = legSource l) ∧
      LegsFollow (((((s.pass dt).modLeg l (fun g => { g with cfLow := true })).raiseGD (legDie l) 0x221 (legSource l)
        ((s.legAxis l).map (·.val))).setFlag (F.LG_LEG_STAT_CF_LOW (legQ l) (legM l)) true).setCfReady l false) t) ∧
  (∀ (dt : Nat) (l : LegId) (s : State), (s.legAxis l).isSome = true → s.legs[l].cfLow = false →
    ∃ t, exec (.floatingSupplyLow dt l false) s = .next t ∧ t.cfReady l = false ∧
      RegsBut s t [R.LG_LEG_STAT (legQ l) (legM l), R.LG_SUPPLY (legQ l)] ∧
      t = { s.interlocked with clock := s.clock + dt, regs := t.regs }) ∧
  (∀ (dt : Nat) (l : LegId) (n : AxisId) (s : State), s.legAxis l = some n → s.dies[legDie l].vgUp = true →
    (∃ t, exec (.floatingSupplyReady dt l false) s = .next t ∧ t.legs[l].cfLow = false ∧
      LegsFollow ((s.pass dt).modLeg l (fun g => { g with cfLow := false })) t) ∧
    (∃ t, exec (.floatingSupplyReady dt l true) s = .next t ∧ t.cfReady l = true ∧ t.legs[l].cfLow = false ∧
      (s.checkOf n = none → LegsFollow (((s.pass dt).modLeg l (fun g => { g with cfLow := false })).setCfReady l true) t)))

/-- R104 to R106, R109, R132, R135, R111: a commanded edge changes what a leg asks for; a waiting switch turns on no earlier than its edge,
the dead time and the handshake allow, the other switch off; and SOFT_HOLD ends in the 0.5 A discharge.
The readings and choices of the model in it: log entries 407, 501. -/
def Obligations.GateEdgesKeepDeadTimeAndHandshake : Prop :=
  (∀ (l : LegId) (rise : Bool) (n : AxisId) (s : State), s.legAxis l = some n → s.carriers[n].active.isSome = true →
    s.carriers[n].next.isSome = true → (if rise then s.legs[l].riseDue else s.legs[l].fallDue && !s.legs[l].riseDue) = true →
    ∃ t e tap, exec (.commandedEdge l rise) s = .next t ∧
      e = (let es := pwmEdges (s.flag (F.PW_OUTCFG_ALIGN (legQ l) (legM l))) (framePclk * s.carriers[n].m) (s.dutyOf l)
        if rise then es.1 else es.2) ∧
      tap = s.carriers[n].start * 32 + placeEdge (s.flag (F.PW_CAL_STAT_COARSE (legQ l))) s.dies[legDie l].onBackup e ∧
      t.clock = max s.clock (tap / 32) ∧ t.legs[l].cmdHigh = rise ∧ (if rise then t.legs[l].riseDue else t.legs[l].fallDue) = false ∧
      t.legs[l].cell = cellOf (s.regions[legQ l]).map (e % 32) ∧ (∀ l' : LegId, l' ≠ l → t.legs[l'] = s.legs[l'].interlock) ∧
      RegsBut s t [R.LG_LEG_STAT (legQ l) (legM l)] ∧ t = { s with clock := t.clock, regs := t.regs, legs := t.legs, dies := t.dies }) ∧
  (∀ (l : LegId) (hi : Bool) (sensed cmd : Nat) (s : State), (s.legs[l].sw hi).wait = some cmd → s.requested l hi = true →
    (s.legs[l].sw !hi).on = false → s.requested l !hi = false →
    ∃ t dead edge at_, exec (.switchTurnOn l hi sensed) s = .next t ∧ dead = (s.legs[l].sw !hi).offAt + 32 * s.deadTime l ∧
      edge = ceilDiv (sensed + 1) 32 * 32 ∧ at_ = max (max cmd dead) edge ∧
      (t.legs[l].sw hi).on = true ∧ (t.legs[l].sw hi).wait = none ∧ (t.legs[l].sw hi).onAt = at_ ∧
      (t.legs[l].sw !hi).on = false ∧ t.clock = max s.clock (at_ / 32) ∧
      t.fld (F.LG_HS_STRETCH_COUNT (legQ l)) = (if max cmd dead < edge then min (s.fld (F.LG_HS_STRETCH_COUNT (legQ l)) + 1) 65535
        else s.fld (F.LG_HS_STRETCH_COUNT (legQ l))) ∧
      (∀ l' : LegId, l' ≠ l → t.legs[l'] = s.legs[l'].interlock) ∧ RegsBut s t [R.LG_HS_STRETCH (legQ l)] ∧
      t = { s with clock := t.clock, regs := t.regs, legs := t.legs, dies := t.dies }) ∧
  (∀ (l : LegId) (hi : Bool) (t0 : Nat) (s : State), (s.legs[l].sw hi).soft = .hold t0 →
    ∃ t, exec (.softHoldEnd l hi) s = .next t ∧ t.clock = max s.clock (t0 + s.softHold l) ∧
      t.legs[l] = (s.legs[l].setSw hi { s.legs[l].sw hi with soft := .discharge (t0 + s.softHold l) }).interlock ∧
      (∀ l' : LegId, l' ≠ l → t.legs[l'] = s.legs[l'].interlock) ∧ t = { s with clock := t.clock, legs := t.legs })

/-- R108, R110 to R112, R116: a gate that does not move in time latches its leg; a confirmed short turns its switch off, by the soft
sequence where R111 and R112 have it, counts, and either waits for its retry or latches the leg; the wait's end makes the
switch available again.
The readings and choices of the model in it: log entries 405, 407. -/
def Obligations.ShortsRetryAndLatch : Prop :=
  (∀ (l : LegId) (hi rising : Bool) (due : Nat) (s : State), (s.legAxis l).isSome = true →
    (s.legs[l].sw hi).on = rising → (s.legs[l].sw hi).watched = true →
    (rising = true → (∀ t0, (s.legs[l].sw hi).soft ≠ .hold t0) ∧ due = (s.legs[l].sw hi).onAt / 32 + s.hsTimeout l) →
    (rising = false → ((s.legs[l].sw hi).soft = .none ∧ due = (s.legs[l].sw hi).offAt / 32 + s.hsTimeout l) ∨
      ∃ t0, (s.legs[l].sw hi).soft = .discharge t0 ∧ due = t0 + 2000) →
    ∃ t, exec (.gateTimeout l hi rising) s = .next t ∧ t.clock = max s.clock due ∧
      t.legState l = (if s.legState l ∈ [lgLatched, lgRetired] then s.legState l else lgLatched) ∧
      t.flag (if hi then F.LG_LEG_STAT_GATE_H_FAIL (legQ l) (legM l) else F.LG_LEG_STAT_GATE_L_FAIL (legQ l) (legM l)) = true ∧
      t.legs[l].hi.on = false ∧ t.legs[l].lo.on = false ∧
      (s.legState l ∉ [lgLatched, lgRetired] → t.legs[l].hi.retryAt = none ∧ t.legs[l].lo.retryAt = none) ∧
      (∃ e ∈ t.dies[legDie l].events, e.code = (if rising then 0x214 else 0x213) ∧ e.source = legSource l) ∧
      (∀ l' : LegId, l' ≠ l → t.legs[l'] = s.legs[l'].interlock) ∧ RegsBut s t [R.LG_LEG_STAT (legQ l) (legM l)] ∧
      t = { s with clock := t.clock, regs := t.regs, legs := t.legs, dies := t.dies }) ∧
  (∀ (dt : Nat) (l : LegId) (hi : Bool) (gate : GateLevel) (s : State), s.senseActive l hi gate = true →
    (s.legAxis l).isSome = true →
    ∃ t, exec (.shortConfirm dt l hi gate) s = .next t ∧
      t.flag (if hi then F.LG_LEG_STAT_SC_H (legQ l) (legM l) else F.LG_LEG_STAT_SC_L (legQ l) (legM l)) = true ∧
      t.fld (F.LG_SC_COUNT_COUNT (legQ l)) = min (s.fld (F.LG_SC_COUNT_COUNT (legQ l)) + 1) 65535 ∧
      t.box = (s.lifeAdd 3 1).box ∧ (t.legs[l].sw hi).on = false ∧
      ((s.legs[l].sw hi).on = true ∨ gate = .high → (t.legs[l].sw hi).soft = .hold (s.clock + dt)) ∧
      ((s.legs[l].sw hi).on = false → gate ≠ .high → (t.legs[l].sw hi).soft = (s.legs[l].sw hi).soft) ∧
      (∃ e ∈ t.dies[legDie l].events, e.code = (if hi then 0x201 else 0x202) ∧ e.source = legSource l) ∧
      (s.legState l ∉ [lgLatched, lgRetired] → (s.pass dt).retriesNow l < (s.retryRules l).2.1 →
        (t.legs[l].sw hi).heldShort = true ∧ (t.legs[l].sw hi).retryAt = some (s.clock + dt + (s.retryRules l).1) ∧
        t.legState l = (if s.legState l = lgForcedOff then lgForcedOff else lgHeld)) ∧
      (s.legState l ∉ [lgLatched, lgRetired] → (s.retryRules l).2.1 ≤ (s.pass dt).retriesNow l →
        t.legState l = lgLatched ∧ t.legs[l].hi.on = false ∧ t.legs[l].lo.on = false ∧
        (∃ e ∈ t.dies[legDie l].events, e.code = 0x203 ∧ e.source = legSource l)) ∧
      (s.legState l ∈ [lgLatched, lgRetired] → t.legState l = s.legState l ∧ (t.legs[l].sw hi).retryAt = none) ∧
      (∀ l' : LegId, l' ≠ l → t.legs[l'] = s.legs[l'].interlock) ∧
      RegsBut s t [R.LG_LEG_STAT (legQ l) (legM l), R.LG_SC_COUNT (legQ l)] ∧
      t = { s with clock := s.clock + dt, regs := t.regs, legs := t.legs, dies := t.dies, box := t.box }) ∧
  (∀ (l : LegId) (hi : Bool) (t0 : Nat) (s : State), (s.legs[l].sw hi).retryAt = some t0 →
    ∃ t, exec (.retryWaitEnd l hi) s = .next t ∧ t.clock = max s.clock t0 ∧ (t.legs[l].sw hi).heldShort = false ∧
      (t.legs[l].sw hi).retryAt = none ∧ (t.legs[l].sw hi).soft = .none ∧ t.legs[l].retries = t.clock :: s.legs[l].retries ∧
      t.fld (F.LG_RETRY_COUNT_COUNT (legQ l)) = min (s.fld (F.LG_RETRY_COUNT_COUNT (legQ l)) + 1) 65535 ∧
      (s.legState l = lgHeld → (s.legs[l].sw !hi).heldShort = false → ∀ n, s.legAxis l = some n →
        t.legState l = if s.axisOn n then lgActive else lgIdle) ∧
      (s.legState l ≠ lgHeld ∨ (s.legs[l].sw !hi).heldShort = true → t.legState l = s.legState l) ∧
      (∀ l' : LegId, l' ≠ l → t.legs[l'] = s.legs[l'].interlock) ∧
      RegsBut s t [R.LG_LEG_STAT (legQ l) (legM l), R.LG_RETRY_COUNT (legQ l)] ∧
      t = { s with clock := t.clock, regs := t.regs, legs := t.legs, dies := t.dies })

/-- R117, R121, R129, R130, R120 (LGq.CMD, LGq.LEG_CFGm): CLEAR_LEG, RELEARN and READMIT on the selected legs, ABORT of a test, and a
write of a leg's settings, which only a free leg takes.
The readings and choices of the model in it: log entry 402. -/
def Obligations.LegCommandsActOnFreeLegs : Prop :=
  (∀ (dt : Nat) (q : Quad) (legs : BitVec 8) (s : State), s.reach (0x20 + q.val) = true → s.opBusy (R.LG_OP_STAT q) = false →
    (lgLegs q legs).all (fun l => s.legFree l) = true →
    (∃ t, exec (.clearLeg dt q legs) s = .next t ∧ t.opStat (R.LG_OP_STAT q) = statDone ∧ t.lastOp (R.LG_OP_STAT q) = 1 ∧
      (∀ l ∈ lgLegs q legs, s.legState l = lgLatched → t.legs[l].retries = [] ∧ t.legs[l].hi.soft = .none ∧
        t.legs[l].lo.soft = .none ∧ t.legState l = s.restState l) ∧
      (∀ l : LegId, l ∉ lgLegs q legs ∨ s.legState l ≠ lgLatched → t.legs[l] = s.legs[l].interlock ∧ t.legState l = s.legState l) ∧
      (∀ k, k ≠ R.LG_OP_STAT q → (∀ m, k ≠ R.LG_LEG_STAT q m) → t.reg k = s.reg k) ∧
      t = { s with clock := s.clock + dt, regs := t.regs, legs := t.legs, dies := t.dies }) ∧
    (∃ t, exec (.relearn dt q legs) s = .next t ∧ t.opStat (R.LG_OP_STAT q) = statDone ∧ t.lastOp (R.LG_OP_STAT q) = 5 ∧
      (∀ l ∈ lgLegs q legs, ∀ hi, t.regBit (leakKey l hi) 17 = false ∧ (t.legs[l].sw hi).learnSum = 0 ∧ (t.legs[l].sw hi).learnN = 0) ∧
      (∀ l : LegId, l ∉ lgLegs q legs → t.legs[l] = s.legs[l].interlock) ∧
      (∀ k, k ≠ R.LG_OP_STAT q → (∀ l ∈ lgLegs q legs, ∀ hi, k ≠ leakKey l hi) → t.reg k = s.reg k) ∧
      t = { s with clock := s.clock + dt, regs := t.regs, legs := t.legs, box := { s.box with leak := t.box.leak } }) ∧
    (∃ t, exec (.readmit dt q legs) s = .next t ∧ t.opStat (R.LG_OP_STAT q) = statDone ∧ t.lastOp (R.LG_OP_STAT q) = 6 ∧
      (∀ l ∈ lgLegs q legs, s.legState l = lgRetired → l.val ∉ t.box.retired ∧ t.legState l = s.restState l ∧
        ∀ hi, t.regBit (leakKey l hi) 17 = false) ∧
      (∀ l : LegId, l ∉ lgLegs q legs ∨ s.legState l ≠ lgRetired → t.legs[l] = s.legs[l].interlock ∧ t.legState l = s.legState l) ∧
      (∀ k, k ≠ R.LG_OP_STAT q → (∀ m, k ≠ R.LG_LEG_STAT q m) → (∀ l ∈ lgLegs q legs, ∀ hi, k ≠ leakKey l hi) → t.reg k = s.reg k) ∧
      t = { s with
        clock := s.clock + dt, regs := t.regs, legs := t.legs, dies := t.dies,
        box := { s.box with leak := t.box.leak, retired := t.box.retired } })) ∧
  (∀ (dt : Nat) (q : Quad) (s : State), s.reach (0x20 + q.val) = true → s.opBusy (R.LG_OP_STAT q) = true →
    ∃ t, exec (.lgAbort dt q) s = .next t ∧ t.opStat (R.LG_OP_STAT q) = statAborted ∧
      t.wireTests = s.wireTests.filter (fun w => w.owner ≠ TestOwner.cmd q.val) ∧
      t.leakTests = s.leakTests.filter (fun w => w.owner ≠ TestOwner.cmd q.val) ∧ t.axes = s.axes ∧ t.clock = s.clock + dt) ∧
  (∀ (dt : Nat) (l : LegId) (msk : Bool) (data : Word) (s : State), s.reach (0x20 + (legQ l).val) = true →
    (s.legFree l = true → ∃ t, exec (.legCfgWrite dt l msk data) s = .next t ∧
      t.reg (R.LG_LEG_CFG (legQ l) (legM l)) = writtenWord msk (s.reg (R.LG_LEG_CFG (legQ l) (legM l))) data ∧
      RegsBut s t [R.LG_LEG_CFG (legQ l) (legM l)] ∧ t = { s.interlocked with clock := s.clock + dt, regs := t.regs }) ∧
    (s.legFree l = false → ∃ t, exec (.legCfgWrite dt l msk data) s = .next t ∧ t.flag (F.LG_OP_STAT_CMD_REFUSED (legQ l)) = true ∧
      RegsBut s t [R.LG_OP_STAT (legQ l)] ∧ t = { s.interlocked with clock := s.clock + dt, regs := t.regs }))

/-- R123 to R125, Tables 4.7 and 4.8: the wiring test: its start, or NOT_COMPLETED where VM lies outside its window; a step that reads
the nodes; and the end with the result of every leg.
The readings and choices of the model in it: log entry 404. -/
def Obligations.WiringTestRunsItsSteps : Prop :=
  (∀ (dt : Nat) (q : Quad) (legs : BitVec 8) (axes : List AxisId) (s : State), s.reach (0x20 + q.val) = true →
    s.opBusy (R.LG_OP_STAT q) = false → (lgLegs q legs).all (fun l => s.legFree l) = true →
    axes = axisIds.filter (fun n => (lgLegs q legs).any (fun l => s.legAxis l == some n)) → axes ≠ [] →
    (∀ n ∈ axes, s.shorted n = false) →
    (s.vmInWindow = true → ∃ t, exec (.wireTest dt q legs) s = .next t ∧ t.opStat (R.LG_OP_STAT q) = statBusy ∧
      t.lastOp (R.LG_OP_STAT q) = 2 ∧
      t.wireTests = s.wireTests ++ [⟨.cmd q.val, axes.map (·.val), 0, s.clock + dt, [], false, 0⟩] ∧
      (∀ n ∈ axes, ∀ l ∈ s.axisLegs n, s.legState l ∈ [lgIdle, lgHeld] → t.legState l = lgTesting) ∧
      (∀ k, k ≠ R.LG_OP_STAT q → (∀ q m, k ≠ R.LG_LEG_STAT q m) → t.reg k = s.reg k) ∧
      t = { s with clock := s.clock + dt, regs := t.regs, legs := t.legs, dies := t.dies, wireTests := t.wireTests }) ∧
    (s.vmInWindow = false → ∃ t, exec (.wireTest dt q legs) s = .next t ∧ t.opStat (R.LG_OP_STAT q) = statErr ∧
      t.lastOp (R.LG_OP_STAT q) = 2 ∧ t.fld (F.LG_OP_STAT_ERR_CODE q) = 0x235 ∧ t.wireTests = s.wireTests ∧
      ∀ n ∈ axes, ∀ l ∈ s.axisLegs n, t.fld ⟨R.LG_WIRE_RESULT (legQ l), 4 * (legM l).val + 3, 4 * (legM l).val⟩ = wrNotDone)) ∧
  (∀ (r : TestRef) (low high : BitVec 32) (w : WireTest) (s : State), s.wireTests.find? (fun w => w.owner == ownerOf r) = some w →
    s.wireOver w = false →
    ∃ t, exec (.wireTestStepEnd r low high) s = .next t ∧ t.clock = max s.clock (w.since + 5000000) ∧
      (∃ w' ∈ t.wireTests, w'.owner = w.owner ∧ w'.axes = w.axes ∧ w'.step = w.step + 1 ∧ w'.since = t.clock ∧
        ∀ e, e ∈ w'.fails ↔ e ∈ w.fails ∨ ((∃ n ∈ axesIn w.axes, w.step < wireSteps (s.motor n) ∧
          e ∈ wireStep (s.motor n) w.step (s.axisLegs n) (fun l => low.getLsbD l.val) (fun l => high.getLsbD l.val)) ∧
          ∀ g ∈ w.fails, g.1 ≠ e.1)) ∧
      t = { s.interlocked with clock := t.clock, wireTests := t.wireTests }) ∧
  (∀ (q : Quad) (w : WireTest) (s : State), s.wireTests.find? (fun w => w.owner == .cmd q.val) = some w → s.wireOver w = true →
    ∃ t, exec (.wireTestEnd (.quadrant q)) s = .next t ∧ t.opStat (R.LG_OP_STAT q) = (if w.missed then statErr else statDone) ∧
      t.wireTests = s.wireTests.filter (fun w => w.owner ≠ .cmd q.val) ∧
      (∀ n ∈ axesIn w.axes, ∀ l ∈ s.axisLegs n,
        (∀ e, w.fails.find? (fun e => decide (e.1 = l.val)) = some e →
          t.fld ⟨R.LG_WIRE_RESULT (legQ l), 4 * (legM l).val + 3, 4 * (legM l).val⟩ = e.2 % 16 ∧
          ∃ f ∈ t.dies[legDie l].events, f.code = wireFault e.2 ∧ f.source = legSource l) ∧
        (w.fails.find? (fun e => decide (e.1 = l.val)) = none →
          t.fld ⟨R.LG_WIRE_RESULT (legQ l), 4 * (legM l).val + 3, 4 * (legM l).val⟩ = wrPass)) ∧
      t = { s with regs := t.regs, legs := t.legs, dies := t.dies, wireTests := t.wireTests }) ∧
  (∀ (n : AxisId) (w : WireTest) (s : State), s.wireTests.find? (fun w => w.owner == .axis n.val) = some w → s.wireOver w = true →
    s.planned n.val = true → s.axisSt n = stChecking → ∃ t, exec (.wireTestEnd (.arming n)) s = .next t ∧
      (s.wireFirst w = 0 → t.axisSt n = stChecking ∧ t.axes[n].check = s.axes[n].check.map (fun c => { c with stage := 4 })) ∧
      (s.wireFirst w ≠ 0 → t.axisSt n ∈ [stFaulted, stLatched]))

/-- R119 to R121: the gate-leakage check: LEAK_TEST, the hourly check of a switch of a DISABLED axis, and the end of a check, which
reports I_L, learns BASE, warns, and retires the leg.
The readings and choices of the model in it: log entry 403. -/
def Obligations.LeakageChecksLearnAndRetire : Prop :=
  (∀ (dt : Nat) (q : Quad) (legs : BitVec 8) (todo : List (Nat × Bool)) (s : State), s.reach (0x20 + q.val) = true →
    s.opBusy (R.LG_OP_STAT q) = false → (lgLegs q legs).all (fun l => s.legFree l) = true →
    todo = s.leakable ((lgLegs q legs).filter (fun l => (s.legAxis l).isSome)) →
    (todo ≠ [] → ∃ t, exec (.leakTest dt q legs) s = .next t ∧ t.opStat (R.LG_OP_STAT q) = statBusy ∧
      t.lastOp (R.LG_OP_STAT q) = 3 ∧ (⟨.cmd q.val, todo, 0⟩ : LeakTest) ∈ t.leakTests ∧
      (∀ k ∈ s.leakTests, k.todo ≠ [] → (∀ e ∈ k.todo, e ∉ todo) → k ∈ t.leakTests) ∧
      (∀ k, k ≠ R.LG_OP_STAT q → (∀ q m, k ≠ R.LG_LEG_STAT q m) → t.reg k = s.reg k) ∧
      t = { s with clock := s.clock + dt, regs := t.regs, legs := t.legs, dies := t.dies, leakTests := t.leakTests }) ∧
    (todo = [] → ∃ t, exec (.leakTest dt q legs) s = .next t ∧ t.opStat (R.LG_OP_STAT q) = statDone ∧
      t.lastOp (R.LG_OP_STAT q) = 3 ∧ RegsBut s t [R.LG_OP_STAT q])) ∧
  (∀ (l : LegId) (hi : Bool) (s : State), s.live = true → (s.legAxis l).isSome = true → s.legFree l = true → s.leakEn l = true →
    (s.legs[l].sw hi).on = false → s.switchBusy l hi = false →
    ∃ t, exec (.leakCheckHourly l hi) s = .next t ∧
      t.clock = max s.clock (max (max (s.legs[l].sw hi).leakAt s.tsBase + 3600 * 500000000)
        ((s.legs[l].sw hi).offSince + 500000)) ∧
      t.leakTests = s.leakTests ++ [⟨.hourly, [(l.val, hi)], 0⟩] ∧
      t.legState l = (if s.legState l = lgIdle then lgTesting else s.legState l) ∧
      (∀ k, k ≠ R.LG_LEG_STAT (legQ l) (legM l) → t.reg k = s.reg k) ∧
      t = { s with clock := t.clock, regs := t.regs, legs := t.legs, dies := t.dies, leakTests := t.leakTests }) ∧
  (∀ (dt now : Nat) (l : LegId) (hi : Bool) (rise fall : Option Nat) (k : LeakTest) (s : State),
    s.leakTests.find? (fun k => decide ((l.val, hi) ∈ k.todo)) = some k → (∀ m, k.owner ≠ .axis m) → now = leakNow rise fall →
    ∃ t, exec (.leakCheckEnd dt l hi rise fall) s = .next t ∧ t.clock = s.clock + dt ∧ t.fld ⟨leakKey l hi, 13, 0⟩ = now ∧
      (t.legs[l].sw hi).leakAt = t.clock ∧
      (s.leakOver l now = true → t.legState l = lgRetired ∧ l.val ∈ t.box.retired ∧
        (t.legs[l].sw hi).on = false ∧ ∃ e ∈ t.dies[legDie l].events, e.code = 0x242 ∧ e.source = legSource l) ∧
      (s.leakDrift l hi now = true → ∃ e ∈ t.dies[legDie l].events, e.code = 0x241 ∧ e.source = legSource l) ∧
      (s.regBit (leakKey l hi) 17 = false → (s.legs[l].sw hi).learnN = 7 → t.regBit (leakKey l hi) 17 = true ∧
        t.fld ⟨leakKey l hi, 31, 18⟩ = (roundDiv (((s.legs[l].sw hi).learnSum + now : Nat) : Int) 8).toNat % 16384) ∧
      (s.regBit (leakKey l hi) 17 = false → (s.legs[l].sw hi).learnN < 7 → t.regBit (leakKey l hi) 17 = false ∧
        (t.legs[l].sw hi).learnN = (s.legs[l].sw hi).learnN + 1 ∧
        (t.legs[l].sw hi).learnSum = (s.legs[l].sw hi).learnSum + now) ∧
      (∀ q : Quad, k.owner = .cmd q.val → k.todo = [(l.val, hi)] → t.opStat (R.LG_OP_STAT q) = statDone) ∧
      t = { s with clock := t.clock, regs := t.regs, legs := t.legs, dies := t.dies, box := t.box, leakTests := t.leakTests }) ∧
  (∀ (dt now : Nat) (l : LegId) (hi : Bool) (rise fall : Option Nat) (k : LeakTest) (n : AxisId) (s : State),
    s.leakTests.find? (fun k => decide ((l.val, hi) ∈ k.todo)) = some k → k.owner = .axis n.val → now = leakNow rise fall →
    s.planned n.val = true → s.axisSt n = stChecking → (s.axes[n].check).isSome = true →
    ∃ t, exec (.leakCheckEnd dt l hi rise fall) s = .next t ∧
      (s.leakOver l now = true → t.axisSt n ∈ [stFaulted, stLatched]) ∧
      (s.leakOver l now = false → s.legState l ≠ lgRetired → k.todo = [(l.val, hi)] → s.vmInWindow = true →
        t.axisSt n = stChecking ∧ t.axes[n].check = s.axes[n].check.map (fun c => { c with stage := 3 })))

/-- R131, R132, R134 to R136, R138 to R140: at a carrier reload the active registers of the legs take the shadow group, and the
Trapdoor is released with the first; groups arrive, late ones counted; delay lines are measured, and told when coarse too long.
The readings and choices of the model in it: log entries 501, 502. -/
def Obligations.CarriersTakeGroupsAndCalibrate : Prop :=
  (∀ (n : AxisId) (t0 m : Nat) (g : Group) (s : State), s.carriers[n].next = some t0 → m = s.wantedM n → s.groupFor n t0 = some g →
    ∃ t, exec (.carrierReload n) s = .next t ∧ t.clock = max s.clock t0 ∧
      t.carriers[n] = { s.carriers[n] with
        next := some (t0 + 6250 * m), start := t0, m := m, shadow := none, active := some g, release := false } ∧
      (∀ e ∈ (s.axisLegs n).zip g.duties, t.fld (F.PW_DUTY_DUTY (legQ e.1) (legM e.1)) = min e.2 (32 * 6250 * m) % 2 ^ 22 ∧
        t.flag (F.PW_OUTCFG_REV (legQ e.1) (legM e.1)) = g.rev ∧ t.fld (F.PW_OUTCFG_SEL (legQ e.1) (legM e.1)) = g.sel % 8) ∧
      (∀ l ∈ s.axisLegs n, t.fld (F.PW_OUTCFG_M_MINUS1 (legQ l) (legM l)) = (m - 1) % 16) ∧
      (s.carriers[n].release = true → t.regBit R.FLT_TRAP_STAT (8 + n.val) = false ∧
        t.regBit R.FLT_TRAP_STAT (16 + n.val) = false ∧ ∀ l ∈ s.axisLegs n, t.legs[l].policy = none) ∧
      (∀ n' : AxisId, n' ≠ n → t.carriers[n'] = s.carriers[n'] ∧ t.axes[n'] = s.axes[n']) ∧
      (∀ l : LegId, l ∉ s.axisLegs n → t.legs[l] = s.legs[l].interlock) ∧
      (∀ k, k ≠ R.FLT_TRAP_STAT → (∀ q m, k ∉ [R.PW_DUTY q m, R.PW_OUTCFG q m, R.LG_LEG_STAT q m]) →
        (∀ q, k ≠ R.LG_BOTHON_COUNT q) → t.reg k = s.reg k) ∧
      t = { s with clock := t.clock, regs := t.regs, legs := t.legs, dies := t.dies, carriers := t.carriers, axes := t.axes }) ∧
  (∀ (n : AxisId) (t0 m : Nat) (s : State), s.carriers[n].next = some t0 → m = s.wantedM n → s.groupFor n t0 = none →
    ∃ t, exec (.carrierReload n) s = .next t ∧ t.clock = max s.clock t0 ∧
      t.carriers[n] = { s.carriers[n] with next := some (t0 + 6250 * m), start := t0, m := m } ∧
      (∀ l ∈ s.axisLegs n, t.reg (R.PW_OUTCFG (legQ l) (legM l)) =
        BitVec.ofNat 36 (bitsPut (s.reg (R.PW_OUTCFG (legQ l) (legM l))).toNat 17 14 (m - 1))) ∧
      (∀ k, (∀ l ∈ s.axisLegs n, k ≠ R.PW_OUTCFG (legQ l) (legM l)) → (∀ q m, k ≠ R.LG_LEG_STAT q m) → (∀ q, k ≠ R.LG_BOTHON_COUNT q) → t.reg k = s.reg k) ∧
      t = { s with clock := t.clock, regs := t.regs, legs := t.legs, dies := t.dies, carriers := t.carriers }) ∧
  (∀ (n : AxisId) (t0 : Nat) (g : Group) (s : State), s.groupFor n t0 = some g ↔
    s.withoutLD n = false ∧ s.carriers[n].shadow = some g ∧ g.came < t0) ∧
  (∀ (dt a : Nat) (n : AxisId) (g : Group) (l : LegId) (s : State), s.live = true →
    s.dies[s.axisDie n].linkLost = false → s.dies[s.axisDie n].down.find? (fun g => g.axis == n.val) = some g →
    s.firstLeg n = some l → a = s.lands (s.axisDie n) g.at_ 250 dt →
    ∃ t, exec (.groupArrival dt n) s = .next t ∧
      t.clock = (if (s.linkUse (s.axisDie n) a).legs + g.duties.length ≤ 16 then a else s.cycleAt a + 500) ∧
      ((s.linkUse (s.axisDie n) s.clock).errs = 0 → a ≤ max s.clock (g.at_ + 250)) ∧
      t.carriers[n] = { s.carriers[n] with shadow := some { g with came := t.clock } } ∧
      t.dies[s.axisDie n].down = s.dies[s.axisDie n].down.erase g ∧
      (g.target ≤ t.clock → (∃ e ∈ t.dies[s.axisDie n].events, e.code = 0x311 ∧ e.source = 16 + (legQ l).val % 2) ∧
        t.fld (F.PW_LATE_COUNT_COUNT (legQ l)) = min (s.fld (F.PW_LATE_COUNT_COUNT (legQ l)) + 1) 65535) ∧
      (t.clock < g.target → t.regs = s.regs ∧ t.dies[s.axisDie n].events = s.dies[s.axisDie n].events) ∧
      (∀ n' : AxisId, n' ≠ n → t.carriers[n'] = s.carriers[n']) ∧ RegsBut s t [R.PW_LATE_COUNT (legQ l)] ∧
      t = { s.interlocked with clock := t.clock, regs := t.regs, dies := t.dies, carriers := t.carriers }) ∧
  (∀ (q : Quad) (cells : Nat) (temp : Int) (s : State), s.flag F.CLK_PLL_STAT_LOCK = true → s.hasDie (quadDie q).val = true →
    s.dies[quadDie q].onBackup = false →
    ∃ t, exec (.delayCalibration q cells temp) s = .next t ∧ t.clock = max s.clock (s.nextBoundary 50000 s.regions[q].calAt) ∧
      t.regions[q].calAt = t.clock ∧ t.regions[q].map = s.regions[q].map ∧
      t.fld (F.PW_CAL_STAT_CELLS q) = cells % 128 ∧ (∀ q' ∈ dieQuads (quadDie q), t.fld (F.PW_CAL_STAT_TEMP q') = unsigned 12 temp) ∧
      (cells < 32 ∨ 64 < cells → t.regions[q].next = some (true, 1) ∧ t.regions[q].mapNext = s.regions[q].mapNext ∧ t.regions[q].goodRun = 0) ∧
      (32 ≤ cells → cells ≤ 64 → t.regions[q].mapNext = some cells ∧ t.regions[q].goodRun = s.regions[q].goodRun + 1 ∧
        t.regions[q].hot = t.hotterBy q (if s.regions[q].hot then 280 else 320) ∧
        (t.regions[q].hot = true → t.regions[q].next = some (true, 2)) ∧
        (t.regions[q].hot = false → s.flag (F.PW_CAL_STAT_COARSE q) = true →
          s.fld (F.PW_CAL_STAT_CAUSE q) = 3 ∨ 16 ≤ t.regions[q].goodRun → t.regions[q].next = some (false, 0))) ∧
      (∀ q', q' ≠ q → t.regions[q'] = s.regions[q']) ∧ (∀ k, (∀ q', k ≠ R.PW_CAL_STAT q') → t.reg k = s.reg k) ∧
      t.dies[quadDie q].calUp = s.dies[quadDie q].calUp ++ [(q.val, t.reg (R.PW_CAL_STAT q))] ∧
      t = { s.interlocked with
        clock := t.clock, regs := t.regs, regions := t.regions,
        dies := s.dies.set (quadDie q) { s.dies[quadDie q] with calUp := t.dies[quadDie q].calUp } }) ∧
  (∀ (q : Quad) (s : State), s.live = true → s.hasDie (quadDie q).val = true → s.flag (F.PW_CAL_STAT_COARSE q) = true →
    s.regions[q].told = false →
    ∃ t, exec (.coarseTimeout q) s = .next t ∧ t.clock = max s.clock (s.regions[q].coarseSince + 600 * 500000000) ∧
      t.regions[q] = { s.regions[q] with told := true } ∧
      (∃ e ∈ t.dies[quadDie q].events, e.code = 0x342 ∧ e.source = 16 + q.val % 2) ∧
      t = { s.interlocked with clock := t.clock, dies := t.dies, regions := t.regions })

/-- R143, R147, R148, R150, R156: trips: the level of a trip pin, the end of a blanking window, CLEAR_TRIP, and a write of OUTCFG, which
copies the settings that the legs of an axis share.
The readings and choices of the model in it: log entries 405, 503. -/
def Obligations.TripsLatchPerQuadrant : Prop :=
  (∀ (dt i : Nat) (n : Fin 8) (level : Bool) (s : State), s.pinOf 3 n.val = some i → level ≠ s.pinInvert i →
    ∃ t, exec (.tripLatch dt n level) s = .next t ∧ t.clock = s.clock + dt ∧ bitOf t.pins.xio i = level ∧
      (∀ q, s.hasDie (quadDie q).val = true → t.regBit (R.PW_TRIP_STAT q) (8 + n.val) = true ∧
        (s.fld (F.PW_TRIP_CFG_LEGS q n) ≠ 0 → (s.dies[quadDie q].blankEnd[n.val]?).getD 0 ≤ s.clock + dt →
          t.regBit (R.PW_TRIP_STAT q) n.val = true ∧
          (s.regBit (R.PW_TRIP_STAT q) n.val = false →
            (∃ e ∈ t.dies[quadDie q].events, e.code = (if q.val % 2 = 0 then 0x321 else 0x322) ∧ e.source = 24 + n.val) ∧
            ∀ l : LegId, legQ l = q → bitOf (s.fld (F.PW_TRIP_CFG_LEGS q n)) (legM l).val = true → t.legs[l].hi.on = false ∧
              (s.flag (F.PW_TRIP_CFG_ACTION q n) = false → s.legs[l].policy ≠ some true → t.legs[l].lo.on = false))) ∧
        (s.clock + dt < (s.dies[quadDie q].blankEnd[n.val]?).getD 0 →
          t.regBit (R.PW_TRIP_STAT q) n.val = s.regBit (R.PW_TRIP_STAT q) n.val)) ∧
      (∀ k, (∀ q, k ≠ R.PW_TRIP_STAT q) → (∀ q m, k ≠ R.LG_LEG_STAT q m) → t.reg k = s.reg k) ∧
      t = { s with clock := t.clock, pins := { s.pins with xio := t.pins.xio }, regs := t.regs, legs := t.legs, dies := t.dies }) ∧
  (∀ (dt i : Nat) (n : Fin 8) (level : Bool) (s : State), s.pinOf 3 n.val = some i → level = s.pinInvert i →
    (s.pins.tripCmp[n.val]?).getD [] = [] →
    ∃ t, exec (.tripLatch dt n level) s = .next t ∧ bitOf t.pins.xio i = level ∧
      (∀ q, s.hasDie (quadDie q).val = true → t.regBit (R.PW_TRIP_STAT q) (8 + n.val) = false) ∧
      (∀ q, t.fld (F.PW_TRIP_STAT_LATCH q) = s.fld (F.PW_TRIP_STAT_LATCH q)) ∧
      (∀ k, (∀ q, k ≠ R.PW_TRIP_STAT q) → t.reg k = s.reg k) ∧
      t = { s.interlocked with clock := s.clock + dt, regs := t.regs, pins := { s.pins with xio := t.pins.xio } }) ∧
  (∀ (d : DieId) (n : Fin 8) (s : State), s.hasDie d.val = true → s.tripActive n = true →
    ∃ t, exec (.blankEnd d n) s = .next t ∧ t.clock = max s.clock ((s.dies[d].blankEnd[n.val]?).getD 0) ∧
      (∀ q ∈ dieQuads d, s.fld (F.PW_TRIP_CFG_LEGS q n) ≠ 0 → t.regBit (R.PW_TRIP_STAT q) n.val = true) ∧
      (∀ q, q ∉ dieQuads d → t.reg (R.PW_TRIP_STAT q) = s.reg (R.PW_TRIP_STAT q)) ∧
      (∀ k, (∀ q, k ≠ R.PW_TRIP_STAT q) → (∀ q m, k ≠ R.LG_LEG_STAT q m) → t.reg k = s.reg k) ∧
      t = { s with clock := t.clock, regs := t.regs, legs := t.legs, dies := t.dies }) ∧
  (∀ (dt : Nat) (q : Quad) (trips : BitVec 8) (s : State), s.reach (0x24 + q.val) = true →
    ∃ t, exec (.clearTrip dt q trips) s = .next t ∧
      (∀ n : Fin 8, t.regBit (R.PW_TRIP_STAT q) n.val =
        (s.regBit (R.PW_TRIP_STAT q) n.val && (!trips.getLsbD n.val || s.tripActive n))) ∧
      ((∃ n : Fin 8, trips.getLsbD n.val = true ∧ s.regBit (R.PW_TRIP_STAT q) n.val = true ∧ s.tripActive n = true) →
        t.flag (F.PW_TRIP_STAT_TRIP_STILL q) = true) ∧
      (∀ k, k ≠ R.PW_TRIP_STAT q → (∀ m, k ≠ R.LG_LEG_STAT q m) → t.reg k = s.reg k) ∧
      t = { s with clock := s.clock + dt, regs := t.regs, legs := t.legs, dies := t.dies }) ∧
  (∀ (dt : Nat) (l : LegId) (msk : Bool) (data : Word) (s : State), s.reach (0x24 + (legQ l).val) = true →
    (s.legFree l = true → ∃ t, exec (.outcfgWrite dt l msk data) s = .next t ∧
      (∀ l' : LegId, l' = l ∨ (∃ n, s.legAxis l = some n ∧ s.legAxis l' = some n) → t.reg (R.PW_OUTCFG (legQ l') (legM l')) =
        copyOutcfg (writtenWord msk (s.reg (R.PW_OUTCFG (legQ l) (legM l))) data) (s.reg (R.PW_OUTCFG (legQ l') (legM l')))) ∧
      (∀ k, (∀ l' : LegId, (l' = l ∨ (∃ n, s.legAxis l = some n ∧ s.legAxis l' = some n)) →
        k ≠ R.PW_OUTCFG (legQ l') (legM l')) → t.reg k = s.reg k) ∧
      t = { s.interlocked with clock := s.clock + dt, regs := t.regs }) ∧
    (s.legFree l = false → ∃ t, exec (.outcfgWrite dt l msk data) s = .next t ∧ t.flag (F.PW_STATUS_CMD_REFUSED (legQ l)) = true ∧
      RegsBut s t [R.PW_STATUS (legQ l)] ∧ t = { s.interlocked with clock := s.clock + dt, regs := t.regs }))

/-- R263, R266, R267, R269, R270, R272, R273, R280: a quadrature edge, a tooth edge and a hall edge move the count of their channel,
a reference mark stands in REF_POS, and SPEED_TIMEOUT shows standstill.
The readings and choices of the model in it: log entries 901, 902. -/
def Obligations.CountsFollowTheirEdges : Prop :=
  (∀ (dt held : Nat) (c : AxisId) (f : FeedDef) (a b z : Bool) (d x : Int) (s : State), s.filterPasses c held = true → s.feedOfChan c.val = some f → f.kind ∈ [0, 1, 5] →
    s.live = true → s.chanBroken c = false → (a ≠ s.chans[c].a ↔ b = s.chans[c].b) →
    d = (if (quadPlace a b + 4 - quadPlace s.chans[c].a s.chans[c].b) % 4 = 1 then 1 else -1) →
    x = f.tickNum * (if f.dirInv then -d else d) + s.chans[c].rem →
    (f.kind = 1 ∨ z = s.flag (F.FB_CFG_Z_POL c) →
      ∃ t, exec (.quadratureEdge dt c a b z held) s = .next t ∧ t.clock = s.clock + dt ∧
        t.reg (R.FB_COUNT c) = s.reg (R.FB_COUNT c) + posWord d ∧
        t.reg (R.FB_POS c) = s.reg (R.FB_POS c) + posWord (x / max 1 f.tickDen) ∧
        t.chans[c].rem = (x % max 1 f.tickDen).toNat ∧ t.flag (F.FB_STATUS_DIR c) = decide (d < 0) ∧
        t.reg (R.FB_EDGE_TS c) = t.now ∧ t.chans[c].ivlAt = t.clock ∧ t.chans[c].a = a ∧ t.chans[c].b = b ∧
        (∀ c' : AxisId, c' ≠ c → t.chans[c'] = s.chans[c']) ∧
        (∀ k, k / 512 ≠ 24 + c.val → k / 512 ≠ 13 → t.reg k = s.reg k) ∧
        t = { s.interlocked with
          clock := t.clock, regs := t.regs, chans := t.chans, compares := t.compares, larder := t.larder }) ∧
    (f.kind ≠ 1 → z ≠ s.flag (F.FB_CFG_Z_POL c) → s.chans[c].zDone = false → 2 * bit a + bit b = s.fld (F.FB_CFG_Z_GATE c) →
      s.chans[c].refLast = none →
      ∃ t, exec (.quadratureEdge dt c a b z held) s = .next t ∧ t.reg (R.FB_COUNT c) = s.reg (R.FB_COUNT c) + posWord d ∧
        t.flag (F.FB_STATUS_REFERENCED c) = true ∧
        t.reg (R.FB_REF_POS c) = s.reg (R.FB_POS c) + posWord (x / max 1 f.tickDen) ∧
        t.chans[c].refLast = some (t.reg (R.FB_COUNT c)) ∧ t.chans[c].indexNew = true ∧ t.chans[c].zDone = true)) ∧
  (∀ (dt held : Nat) (c : AxisId) (f : FeedDef) (s : State), s.filterPasses c held = true → s.feedOfChan c.val = some f → f.kind = 2 → s.live = true →
    s.chanBroken c = false →
    (0 < s.chans[c].extra → ∃ t, exec (.toothEdge dt c held) s = .next t ∧ t.chans[c] = { s.chans[c] with extra := s.chans[c].extra - 1 } ∧
      t = { s.interlocked with clock := s.clock + dt, chans := t.chans }) ∧
    (s.chans[c].extra = 0 → s.chans[c].extraGroup = false → s.chans[c].toothEdges < 2 → ∃ t, exec (.toothEdge dt c held) s = .next t ∧
      t.reg (R.FB_COUNT c) = s.reg (R.FB_COUNT c) + posWord (if s.wheelBack c then -1 else 1) ∧
      t.chans[c].toothAt = some (s.clock + dt) ∧ t.flag (F.FB_STATUS_DIR c) = s.wheelBack c ∧
      (∀ k, k / 512 ≠ 24 + c.val → k / 512 ≠ 13 → t.reg k = s.reg k)) ∧
    (∀ t0 j : Nat, s.chans[c].extra = 0 → s.chans[c].extraGroup = false → 2 ≤ s.chans[c].toothEdges → s.wheelBack c = s.chans[c].toothBack →
      s.chans[c].toothAt = some t0 → s.chans[c].toothIvl = some j → f.refKind = 0 → s.chans[c].refLast = none →
      3 * (f.refTeeth + 1) * j < 4 * (s.clock + dt - t0) → ∃ t, exec (.toothEdge dt c held) s = .next t ∧
      t.reg (R.FB_COUNT c) = s.reg (R.FB_COUNT c) + posWord (if s.wheelBack c then -(f.refTeeth + 1 : Int) else f.refTeeth + 1) ∧
      t.flag (F.FB_STATUS_REFERENCED c) = true)) ∧
  (∀ (dt held : Nat) (c : AxisId) (a b z : Bool) (s : State), held < 2 ^ s.fld (F.FB_CFG_FILTER c) →
    exec (.quadratureEdge dt c a b z held) s = .next { s.interlocked with clock := s.clock + dt } ∧
      exec (.toothEdge dt c held) s = .next { s.interlocked with clock := s.clock + dt }) ∧
  (∀ (dt : Nat) (c : AxisId) (h : BitVec 3) (old : Nat) (s : State), s.live = true → s.chanKind c = 3 → s.hallsFitted c = true →
    s.pins.hall.getD c.val 0 = old → hallSector old ≠ 7 → hallSector h.toNat ≠ 7 →
    (sectorStep (hallSector old) (hallSector h.toNat)).natAbs = 1 →
    ∃ t, exec (.hallEdge dt c h) s = .next t ∧
      t.reg (R.FB_COUNT c) = s.reg (R.FB_COUNT c) + posWord (sectorStep (hallSector old) (hallSector h.toNat)) ∧
      t.fld (F.FB_INDEX_INFO_HALL c) = h.toNat ∧ t.fld (F.FB_INDEX_INFO_SECTOR c) = hallSector h.toNat ∧
      t.flag (F.FB_STATUS_HALL_BAD c) = false ∧ t.pins.hall = s.pins.hall.set c.val h.toNat ∧
      t.fm = s.fm ∧ t.axes = s.axes) ∧
  (∀ (c : AxisId) (f : FeedDef) (t0 : Nat) (w : Word) (s : State), s.feedOfChan c.val = some f →
    s.chans[c].run.head? = some (t0, w) →
    ∃ t, exec (.speedTimeout c) s = .next t ∧ t.clock = max s.clock (t0 + f.speedTimeout * 500) ∧ t.reg (R.FB_SPEED c) = 0 ∧
      t.flag (F.FB_STATUS_STANDSTILL c) = true ∧ t.flag (F.FB_STATUS_SPEED_VALID c) = false ∧
      t.flag (F.FB_STATUS_SPEED_EST c) = false ∧ t.chans[c].run = [] ∧ RegsBut s t [R.FB_SPEED c, R.FB_STATUS c] ∧
      (∀ c' : AxisId, c' ≠ c → t.chans[c'] = s.chans[c']) ∧
      t = { s.interlocked with clock := t.clock, regs := t.regs, chans := t.chans })

/-- R262, R264, R265, R266, R272, R273, R275 to R278: broken lines, skipped and invalid states and rejected readings mark a channel
SUSPECT; SSI readings start and end; CLEAR_SUSPECT, FB_PRESET and UNREF.
The readings and choices of the model in it: log entries 901, 902, 903. -/
def Obligations.FeedbackFaultsReadingsAndCommands : Prop :=
  (∀ (dt : Nat) (c : AxisId) (p : Fin 3) (s : State), watched (s.chanKind c) p.val = true → s.live = true → s.flag (lbFld c p) = false →
    ∃ t, exec (.lineBreak dt c p) s = .next t ∧ t.flag (lbFld c p) = true ∧ t.flag (F.FB_STATUS_LB_SEEN c) = true ∧
      t.flag (F.FB_STATUS_SUSPECT c) = true ∧
      (s.fm.inbox ++ [⟨0x601, c.val, 0, (s.chanAxis c).map (·.val), s.clock + dt, false⟩] <+: t.fm.inbox)) ∧
  (∀ (dt : Nat) (c : AxisId) (p : Fin 3) (s : State),
    ∃ t, exec (.lineBreakClear dt c p) s = .next t ∧ t.flag (lbFld c p) = false ∧
      t = { s.interlocked with clock := s.clock + dt, regs := (s.setFlag (lbFld c p) false).regs }) ∧
  (∀ (dt held : Nat) (c : AxisId) (a b z : Bool) (s : State), s.filterPasses c held = true → s.chanKind c ∈ [0, 1, 5] → s.live = true → s.chanBroken c = false →
    a ≠ s.chans[c].a → b ≠ s.chans[c].b →
    ∃ t, exec (.quadratureEdge dt c a b z held) s = .next t ∧ t.flag (F.FB_STATUS_TRANS_ERR c) = true ∧
      t.flag (F.FB_STATUS_SUSPECT c) = true ∧ t.reg (R.FB_COUNT c) = s.reg (R.FB_COUNT c) ∧
      t.fld ⟨R.FB_TRANS_ERR_COUNT c, 15, 0⟩ = min (s.fld ⟨R.FB_TRANS_ERR_COUNT c, 15, 0⟩ + 1) 65535 ∧
      (s.fm.inbox ++ [⟨0x602, c.val, 0, (s.chanAxis c).map (·.val), s.clock + dt, false⟩] <+: t.fm.inbox)) ∧
  (∀ (dt : Nat) (c : AxisId) (h : BitVec 3) (s : State), s.live = true → s.chanKind c = 3 → s.hallsFitted c = true →
    s.pins.hall.getD c.val 0 ≠ h.toNat → hallSector h.toNat = 7 →
    ∃ t, exec (.hallEdge dt c h) s = .next t ∧ t.flag (F.FB_STATUS_HALL_BAD c) = true ∧ t.flag (F.FB_STATUS_SUSPECT c) = true ∧
      (∀ n ∈ s.hallMaskAxes c, ∀ l ∈ s.axisLegs n, t.flag (F.PW_STATUS_HALL_BAD (legQ l)) = true ∧
        (s.firstLeg n = some l → ∃ e ∈ t.dies[legDie l].events, e.code = 0x331 ∧ e.source = 16 + (legQ l).val % 2)) ∧ t.reg (R.FB_COUNT c) = s.reg (R.FB_COUNT c) ∧
      (s.fm.inbox ++ [⟨0x631, c.val, 0, (s.chanAxis c).map (·.val), s.clock + dt, false⟩] <+: t.fm.inbox)) ∧
  (∀ (c : AxisId) (p : PortId) (f : FeedDef) (s : State), s.ssiPort c = some (p, f) → s.live = true → s.portOn p = true →
    s.prt[p].ssi = none → s.prt[p].run = none →
    ∃ t, exec (.ssiRead c) s = .next t ∧ t.clock = max s.clock (max (s.ssiNext p c f) s.prt[p].freeAt) ∧
      t.prt[p] = { s.prt[p] with
        ssi := some (c.val, t.clock), read := (c.val, t.clock) :: s.prt[p].read.filter (fun e => e.1 ≠ c.val) } ∧
      (∀ p' : PortId, p' ≠ p → t.prt[p'] = s.prt[p']) ∧ RegsBut s t [R.PRT_P_STAT p] ∧
      t = { s.interlocked with clock := t.clock, regs := t.regs, prt := t.prt }) ∧
  (∀ (dt raw since r : Nat) (low : Bool) (c : AxisId) (p : PortId) (f : FeedDef) (s : State), s.ssiPort c = some (p, f) →
    s.live = true → s.prt[p].ssi = some (c.val, since) → r = raw % 2 ^ (f.ssiBits + s.fld (F.FB_CFG_SSI_EXTRA c)) →
    ∃ t, exec (.ssiReadEnd dt c raw low) s = .next t ∧ t.clock = max (s.clock + dt) (since + s.portTime p (s.ssiLen c f)) ∧
      t.prt[p].ssi = none ∧ t.prt[p].freeAt = t.clock + s.ssiPause p ∧ t.reg (R.FB_SSI_RAW c) = BitVec.ofNat 36 r ∧
      (low = true → t.flag (F.FB_STATUS_SSI_REJ c) = true ∧ t.reg (R.FB_COUNT c) = s.reg (R.FB_COUNT c) ∧
        t.chans[c].ssiBad = s.chans[c].ssiBad + 1 ∧ (s.chans[c].ssiBad = 2 → t.flag (F.FB_STATUS_SUSPECT c) = true) ∧
        (s.fm.inbox ++ [⟨0x641, c.val, 0, (s.chanAxis c).map (·.val), t.clock, false⟩] <+: t.fm.inbox)) ∧
      (∀ v, low = false → s.flag (F.FB_CFG_SSI_ERRBIT c) = false → s.chans[c].ssiLast = none →
        v = (if s.flag (F.FB_CFG_SSI_GRAY c) then grayBits f.ssiBits (r / 2 ^ s.fld (F.FB_CFG_SSI_EXTRA c))
          else r / 2 ^ s.fld (F.FB_CFG_SSI_EXTRA c)) →
        t.reg (R.FB_COUNT c) = BitVec.ofNat 36 v ∧ t.chans[c].ssiLast = some v ∧ t.chans[c].ssiBad = 0 ∧ t.fm = s.fm)) ∧
  (∀ (dt : Nat) (c : AxisId) (s : State), s.reach (0x18 + c.val) = true → s.chanFree c = true →
    (s.chanBroken c = false → ∃ t, exec (.clearSuspect dt c) s = .next t ∧ t.flag (F.FB_STATUS_SUSPECT c) = false ∧
      t.flag (F.FB_STATUS_REFERENCED c) = false ∧ t.reg (R.FB_SPEED c) = 0 ∧ t.flag (F.FB_STATUS_STANDSTILL c) = true ∧
      t.flag (F.FB_STATUS_SPEED_VALID c) = false ∧ t.chans[c].run = [] ∧ t.chans[c].refLast = none ∧ t.chans[c].ssiLast = none ∧
      (∀ n, s.chanAxis c = some n → s.chanKind c ≠ 4 → t.flag (F.AX_COMM_VALID n) = false) ∧
      (∀ k, k ∉ [R.FB_STATUS c, R.FB_SPEED c] → (∀ n, s.chanAxis c = some n → k ≠ R.AX_COMM n) → t.reg k = s.reg k) ∧
      (∀ c' : AxisId, c' ≠ c → t.chans[c'] = s.chans[c']) ∧
      t = { s.interlocked with clock := s.clock + dt, regs := t.regs, chans := t.chans }) ∧
    (∃ t, exec (.fbPreset dt c) s = .next t ∧ t.reg (R.FB_POS c) = s.reg (R.FB_PRESET_VAL c) ∧
      t.flag (F.FB_STATUS_REFERENCED c) = false ∧ t.chans[c] = { s.chans[c] with
        refLast := none,
        ssiGood := s.chans[c].ssiGood.map (fun r => (r.1, r.2 + (s.reg (R.FB_PRESET_VAL c) - s.reg (R.FB_POS c)))) } ∧
      (∀ c' : AxisId, c' ≠ c → t.chans[c'] = s.chans[c']) ∧
      RegsBut s t [R.FB_POS c, R.FB_STATUS c] ∧ t = { s.interlocked with clock := s.clock + dt, regs := t.regs, chans := t.chans }) ∧
    (∃ t, exec (.unref dt c) s = .next t ∧ t.flag (F.FB_STATUS_REFERENCED c) = false ∧
      t.chans[c] = { s.chans[c] with refLast := none } ∧ RegsBut s t [R.FB_STATUS c] ∧
      t = { s.interlocked with clock := s.clock + dt, regs := t.regs, chans := t.chans }))

/-- R282 to R284, R288: position compare outputs: ARM, STOP and FIRE of the selected outputs, the end of a pulse, and the arrival of
a line of entries.
The readings and choices of the model in it: log entry 904. -/
def Obligations.CompareOutputsArmAndFire : Prop :=
  (∀ (dt : Nat) (outs : BitVec 8) (s : State), s.reach 0xd = true →
    (∃ t, exec (.cpoArm dt outs) s = .next t ∧
      (∀ n : AxisId, outs.getLsbD n.val = true → s.cpoCanArm n = true → t.cpoArmed n = true ∧ t.fld (F.CPO_PTR_INDEX n) = 0 ∧
        t.compares[n].held = [] ∧ t.compares[n].crossAt = s.reg (R.FB_POS (Fin.ofNat 8 (s.fld (F.CPO_CFG_SRC n)))) ∧
        (⟨3, .compare n.val, [s.fld (F.CPO_LIST_ADDR n) / 8], []⟩ : LineReq) ∈ t.larder.reqs) ∧
      ((∃ n : AxisId, outs.getLsbD n.val = true ∧ s.hasAxis n.val = true ∧ s.cpoCanArm n = false) → t.flag F.CPO_STATUS_CMD_REFUSED = true) ∧
      (∀ n : AxisId, outs.getLsbD n.val = false ∨ s.cpoCanArm n = false →
        t.cpoArmed n = s.cpoArmed n ∧ t.compares[n] = s.compares[n] ∧ t.reg (R.CPO_PTR n) = s.reg (R.CPO_PTR n)) ∧
      (∀ k, k ≠ R.CPO_STATUS → (∀ n, k ≠ R.CPO_PTR n) → t.reg k = s.reg k) ∧
      t = { s.interlocked with
        clock := s.clock + dt, regs := t.regs, compares := t.compares,
        larder := { s.larder with reqs := t.larder.reqs, arrived := t.larder.arrived } }) ∧
    (∃ t, exec (.cpoStop dt outs) s = .next t ∧
      (∀ n : AxisId, outs.getLsbD n.val = true → s.hasAxis n.val = true → t.cpoArmed n = false ∧ t.compares[n].held = [] ∧
        (∀ r ∈ t.larder.reqs, r.user ≠ .compare n.val) ∧ ∀ d ∈ t.larder.arrived, d.user ≠ .compare n.val) ∧
      (∀ n : AxisId, outs.getLsbD n.val = false ∨ s.hasAxis n.val = false →
        t.cpoArmed n = s.cpoArmed n ∧ t.compares[n] = s.compares[n]) ∧
      RegsBut s t [R.CPO_STATUS] ∧
      t = { s.interlocked with
        clock := s.clock + dt, regs := t.regs, compares := t.compares,
        larder := { s.larder with reqs := t.larder.reqs, arrived := t.larder.arrived } }) ∧
    (∃ t, exec (.fire dt outs) s = .next t ∧
      (∀ n : AxisId, outs.getLsbD n.val = true → s.hasAxis n.val = true →
        t.compares[n] = { s.compares[n] with pulseEnd := some (s.clock + dt + max 1 (s.fld (F.CPO_CFG_WIDTH n))) }) ∧
      (∀ n : AxisId, outs.getLsbD n.val = false ∨ s.hasAxis n.val = false → t.compares[n] = s.compares[n]) ∧
      t = { s.interlocked with clock := s.clock + dt, compares := t.compares })) ∧
  (∀ (n : AxisId) (e : Nat) (s : State), s.compares[n].pulseEnd = some e →
    ∃ t, exec (.pulseEnd n) s = .next t ∧ t.clock = max s.clock e ∧ t.compares[n] = { s.compares[n] with pulseEnd := none } ∧
      (∀ n' : AxisId, n' ≠ n → t.compares[n'] = s.compares[n']) ∧ t = { s.interlocked with clock := t.clock, compares := t.compares }) ∧
  (∀ (dt : Nat) (n : AxisId) (d : Delivered) (s : State), s.larder.arrived.find? (fun d => d.user == .compare n.val) = some d →
    s.cpoArmed n = true →
    (d.lines = none → ∃ t, exec (.compareLineArrival dt n) s = .next t ∧ t.cpoArmed n = false ∧ t.compares[n].held = []) ∧
    (∀ (a j len : Nat) (ws : List Word), d.lines = some [(a, ws)] → s.compares[n].held ≠ [] →
      len = max 1 (s.fld (F.CPO_PTR_LEN n)) → j = (s.fld (F.CPO_PTR_INDEX n) + s.compares[n].held.length) % len →
      ∃ t, exec (.compareLineArrival dt n) s = .next t ∧ t.cpoArmed n = true ∧
        t.compares[n].held = s.compares[n].held ++ (ws.drop (j % 8)).take (len - j) ∧
        t.reg (R.CPO_NEXT n) = s.compares[n].held.headD 0 ∧ RegsBut s t [R.CPO_NEXT n]) ∧
    (∀ (a j len dir : Nat) (x : Word) (ws l : List Word), d.lines = some [(a, ws)] → s.compares[n].held = [] →
      len = max 1 (s.fld (F.CPO_PTR_LEN n)) → j = s.fld (F.CPO_PTR_INDEX n) % len → (ws.drop (j % 8)).take (len - j) = x :: l →
      dir = crossing x s.compares[n].crossAt (s.reg (R.FB_POS (Fin.ofNat 8 (s.fld (F.CPO_CFG_SRC n))))) →
      ∃ t, exec (.compareLineArrival dt n) s = .next t ∧
        (dir = 0 → t.cpoArmed n = true ∧ t.compares[n].held = x :: l ∧ t.reg (R.CPO_NEXT n) = x) ∧
        (dir ≠ 0 → bitOf (s.fld (F.CPO_CFG_DIR n)) (dir - 1) = true → t.regBit R.CPO_STATUS n.val = true ∧
          (s.fm.inbox ++ [⟨0x661, n.val, 0, none, s.clock + dt, false⟩] <+: t.fm.inbox))))

/-- R391 to R394, R396: the peripheral ports: a start, a deferred start, the end of a transfer, a busy device, RDY held low, ABORT,
FLUSH and the data FIFOs.
The readings and choices of the model in it: log entries 1303, 1304. -/
def Obligations.PortsTransferUnits : Prop :=
  (∀ (dt : Nat) (p : PortId) (sel : Fin 4) (dir : Bool) (cmds : Fin 16) (units : Fin 256) (x : PortXfer) (s : State),
    s.reach 5 = true → x = ⟨sel.val, dir, cmds.val, units.val, [], 0, 0, none⟩ →
    (s.startBad p x = true → ∃ t, exec (.portStart dt p sel dir cmds units) s = .next t ∧
      t.flag (F.PRT_P_STAT_CMD_REFUSED p) = true ∧ RegsBut s t [R.PRT_P_STAT p] ∧
      t = { s.interlocked with clock := s.clock + dt, regs := t.regs }) ∧
    (s.startBad p x = false → s.ssiChans p = [] → ∃ t, exec (.portStart dt p sel dir cmds units) s = .next t ∧
      t.opStat (R.PRT_P_STAT p) = statBusy ∧ t.fld (F.PRT_P_STAT_RETRIES p) = 0 ∧ t.fld (F.PRT_P_STAT_TX_LEVEL p) = 0 ∧
      t.prt[p] = { s.prt[p] with
        tx := [], deferred := none, run := some { x with kept := s.prt[p].tx, since := max (s.clock + dt) s.prt[p].freeAt } } ∧
      (∀ p' : PortId, p' ≠ p → t.prt[p'] = s.prt[p']) ∧ RegsBut s t [R.PRT_P_STAT p] ∧
      t = { s.interlocked with clock := s.clock + dt, regs := t.regs, prt := t.prt })) ∧
  (∀ (dt : Nat) (p : PortId) (x : PortXfer) (s : State), s.prt[p].deferred = some x → s.live = true →
    (s.pass dt).ssiClear p (max (s.clock + dt) s.prt[p].freeAt) (s.xferTime p x) = true →
    ∃ t, exec (.portDeferredStart dt p) s = .next t ∧ t.clock = max (s.clock + dt) s.prt[p].freeAt ∧
      t.prt[p] = { s.prt[p] with deferred := none, run := some { x with since := t.clock } } ∧ RegsBut s t [R.PRT_P_STAT p] ∧
      t = { s.interlocked with clock := t.clock, regs := t.regs, prt := t.prt }) ∧
  (∀ (dt : Nat) (p : PortId) (rx l : List Word) (x : PortXfer) (s : State), s.live = true → s.prt[p].run = some x → x.retryAt = none →
    l = (if x.dir then unitsIn (s.unitBits p) x.dataUnits rx else []) →
    (s.flag (F.PRT_P_CFG_BUSY_EN p) = false ∨ x.dir = false ∨ s.busyMatch p l = false →
      ∃ t, exec (.portXferEnd dt p rx) s = .next t ∧ t.clock = max (s.clock + dt) (x.since + s.xferTime p x) ∧
        t.opStat (R.PRT_P_STAT p) = statDone ∧
        t.prt[p] = { s.prt[p] with rx := s.prt[p].rx ++ l, run := none, deferred := none, freeAt := t.clock + s.portGap p } ∧
        RegsBut s t [R.PRT_P_STAT p] ∧ t = { s.interlocked with clock := t.clock, regs := t.regs, prt := t.prt }) ∧
    (s.flag (F.PRT_P_CFG_BUSY_EN p) = true → x.dir = true → s.busyMatch p l = true →
      ∃ t, exec (.portXferEnd dt p rx) s = .next t ∧ t.clock = max (s.clock + dt) (x.since + s.xferTime p x) ∧
        (x.retries < s.fld (F.PRT_P_CFG_RETRY_MAX p) → t.opStat (R.PRT_P_STAT p) = s.opStat (R.PRT_P_STAT p) ∧
          t.prt[p] = { s.prt[p] with
            run := some { x with retryAt := some (t.clock + (s.fld (F.PRT_P_CFG_RETRY_DELAY p) + 1) * 5000) },
            freeAt := t.clock + s.portGap p } ∧ t.fm = s.fm) ∧
        (s.fld (F.PRT_P_CFG_RETRY_MAX p) ≤ x.retries → t.opStat (R.PRT_P_STAT p) = statErr ∧
          t.flag (F.PRT_P_STAT_BUSY_GAVEUP p) = true ∧ t.prt[p].run = none ∧ t.prt[p].rx = s.prt[p].rx ∧
          t.fm.inbox = s.fm.inbox ++ [⟨0xA12, p.val, 0, none, t.clock, false⟩]))) ∧
  (∀ (p : PortId) (x : PortXfer) (at_ : Nat) (s : State), s.live = true → s.prt[p].run = some x → x.retryAt = some at_ →
    ∃ t, exec (.busyRetry p) s = .next t ∧ t.clock = max s.clock (max at_ s.prt[p].freeAt) ∧
      t.prt[p] = { s.prt[p] with run := some { x with retryAt := none, retries := x.retries + 1, since := t.clock } } ∧
      t.fld ⟨R.PRT_P_RETRY_COUNT p, 15, 0⟩ = min (s.fld ⟨R.PRT_P_RETRY_COUNT p, 15, 0⟩ + 1) 65535 ∧
      RegsBut s t [R.PRT_P_STAT p, R.PRT_P_RETRY_COUNT p] ∧ t = { s.interlocked with clock := t.clock, regs := t.regs, prt := t.prt }) ∧
  (∀ (dt : Nat) (p : PortId) (rx : List Word) (x : PortXfer) (s : State), s.live = true → s.prt[p].run = some x → x.retryAt = none →
    s.flag (F.PRT_P_CFG_RDY_EN p) = true →
    ∃ t, exec (.portRdyTimeout dt p rx) s = .next t ∧ t.clock = max (s.clock + dt) (x.since + 500000) ∧
      t.opStat (R.PRT_P_STAT p) = statErr ∧ t.flag (F.PRT_P_STAT_RDY_TIMEOUT p) = true ∧ t.prt[p].run = none ∧
      t.prt[p].rx = s.prt[p].rx ++ (if x.dir then unitsIn (s.unitBits p) x.dataUnits rx else []) ∧
      t.fm.inbox = s.fm.inbox ++ [⟨0xA11, p.val, 0, none, t.clock, false⟩] ∧ RegsBut s t [R.PRT_P_STAT p] ∧
      t = { s.interlocked with clock := t.clock, regs := t.regs, prt := t.prt, fm := t.fm }) ∧
  (∀ (dt : Nat) (p : PortId) (rx : List Word) (s : State), s.reach 5 = true →
    (s.portBusy p = true → ∃ t, exec (.portAbort dt p rx) s = .next t ∧ t.opStat (R.PRT_P_STAT p) = statAborted ∧
      t.prt[p].run = none ∧ t.prt[p].deferred = none ∧ t.prt[p].tx = [] ∧ t.prt[p].freeAt = s.clock + dt + s.portGap p ∧
      (s.prt[p].rx <+: t.prt[p].rx) ∧ RegsBut s t [R.PRT_P_STAT p] ∧
      t = { s.interlocked with clock := s.clock + dt, regs := t.regs, prt := t.prt }) ∧
    (s.portBusy p = false → ∃ t, exec (.portFlush dt p) s = .next t ∧ t.prt[p] = { s.prt[p] with tx := [], rx := [] } ∧
      t.fld (F.PRT_P_STAT_TX_LEVEL p) = 0 ∧ t.fld (F.PRT_P_STAT_RX_LEVEL p) = 0 ∧ RegsBut s t [R.PRT_P_STAT p] ∧
      t = { s.interlocked with clock := s.clock + dt, regs := t.regs, prt := t.prt }) ∧
    (∀ w, s.prt[p].tx.length < s.fifoDepth p → ∃ t, exec (.portDataAccess dt p (some w)) s = .next t ∧
      t.prt[p] = { s.prt[p] with tx := s.prt[p].tx ++ [w] } ∧ RegsBut s t [R.PRT_P_STAT p] ∧
      t = { s.interlocked with clock := s.clock + dt, regs := t.regs, prt := t.prt }) ∧
    (∀ w l, s.prt[p].rx = w :: l → ∃ t, exec (.portDataAccess dt p none) s = .next t ∧
      t.prt[p] = { s.prt[p] with rx := l } ∧ RegsBut s t [R.PRT_P_STAT p] ∧
      t = { s.interlocked with clock := s.clock + dt, regs := t.regs, prt := t.prt }) ∧
    (s.prt[p].rx = [] → ∃ t, exec (.portDataAccess dt p none) s = .next t ∧ t.flag (F.PRT_P_STAT_CMD_REFUSED p) = true ∧
      RegsBut s t [R.PRT_P_STAT p] ∧ t = { s.interlocked with clock := s.clock + dt, regs := t.regs }))

/-- R19, R191, R192, R213 to R215, R217, R218, R248, R138: the frames and slots of the engine: a frame boundary advances the set-points
of switching axes, a motion frame takes the settings and measures, and a slot runs its program to the end or is stopped.
The readings and choices of the model in it: log entries 704, 705, 809. -/
def Obligations.EngineFramesAndSlotsRun : Prop :=
  (∀ s : State, s.live = true →
    ∃ t, exec .engineFrame s = .next t ∧ t.clock = max s.clock (s.nextBoundary 6250 s.lastEngine) ∧ t.lastEngine = t.clock ∧
      t.frame = (t.clock - s.tsBase) / 6250 ∧ t.engine.endNow = 0 ∧ t.fld F.ENG_LOAD_LAST_END = s.engine.endNow % 8192 ∧
      (∀ n : AxisId, s.axisOn n = false ∨ s.jtag.halted = true → t.axes[n] = s.axes[n] ∧ t.reg (R.AX_SET_POS n) = s.reg (R.AX_SET_POS n)) ∧
      (∀ n : AxisId, s.planned n.val = true → s.axisOn n = true → s.jtag.halted = false → t.axes[n].k = s.axes[n].k + 1 ∧
        t.axes[n].mo = s.axes[n].path.at_ (s.axes[n].k + 1) ∧ t.axes[n].path = s.axes[n].path ∧
        t.reg (R.AX_SET_VEL n) = posWord (velReg t.axes[n].mo.v) ∧
        (s.compDef n = none → t.reg (R.AX_SET_POS n) = posWord (tickOf t.axes[n].mo.p))) ∧
      (∀ q b c, s.regions[q].next = some (b, c) → t.flag (F.PW_CAL_STAT_COARSE q) = b ∧ t.fld (F.PW_CAL_STAT_CAUSE q) = c % 4 ∧
        t.regions[q].next = none) ∧
      (∀ q : Quad, t.regions[q].map = s.regions[q].mapNext.getD s.regions[q].map ∧ t.regions[q].mapNext = none) ∧
      t = { s.interlocked with
        clock := t.clock, lastEngine := t.lastEngine, frame := t.frame, regs := t.regs, engine := t.engine, engs := t.engs,
        comps := t.comps, larder := t.larder, regions := t.regions, dies := t.dies, axes := t.axes, chans := t.chans,
        fm := t.fm }) ∧
  (∀ (e : MotionEnv) (s : State), s.live = true →
    ∃ t, exec (.motionFrame e) s = .next t ∧ t.clock = max s.clock (s.nextBoundary 50000 s.lastMotion) ∧
      t.lastMotion = s.tsBase + (t.clock - s.tsBase) / 50000 * 50000 ∧
      t.fld F.CLK_TEMP_LD_VALUE = unsigned 16 e.tempLd ∧ t.fld F.CLK_VAUX_VALUE = e.vaux % 65536 ∧
      t.inv = s.inv ∧ t.power = s.power ∧
      ∀ n : AxisId, s.planned n.val = true → t.axes[n].cfg = s.cfgRegs n) ∧
  (∀ (n : AxisId) (bad : Option Nat) (corr k : Nat) (u : State) (s : State), s.slotDue n = true →
    u = (s.openSlot n).storeCorr corr → k = (bad.getD (progOf s.engs[n].prog).length) → k ≤ (progOf s.engs[n].prog).length →
    ∃ t, exec (.slotStart n bad corr) s = .next t ∧ t.clock = max s.clock (s.slotAt n) ∧ t.engs[n].ranAt = some s.lastEngine ∧
      t.engine.endNow = s.slotAt n + s.fld (F.ENG_SLOT_D n) - s.lastEngine ∧ t.free = s.free + 1 ∧
      t.engs[n].st = (u.runSteps n k).st ∧ t.engs[n].omega = (u.runSteps n k).omega ∧
      (∀ j, bad = some j → j < (progOf s.engs[n].prog).length → t.flag F.ENG_STATUS_STORE_ERR = true ∧
        ∃ e ∈ t.fm.inbox, e.code = 0x501 ∧ e.source = n.val)) ∧
  (∀ (n : AxisId) (done : Nat) (s : State), s.slotDue n = true →
    ∃ t, exec (.slotOverrun n done) s = .next t ∧ t.clock = max s.clock (s.slotAt n) ∧ t.engs[n].ranAt = some s.lastEngine ∧
      t.engine.endNow = s.slotAt n + (s.fld (F.ENG_SLOT_D n) + 1) - s.lastEngine ∧ t.flag F.ENG_STATUS_OVERRUN = true ∧
      t.fld F.ENG_OVERRUN_COUNT = min (s.fld F.ENG_OVERRUN_COUNT + 1) 65535 ∧
      t.engs[n].st = ((s.openSlot n).runSteps n (min done ((progOf s.engs[n].prog).length - 1))).st ∧
      (∃ e ∈ t.fm.inbox, e.code = 0x511 ∧ e.source = n.val) ∧
      (3 ≤ t.engs[n].overruns.length → ∃ e ∈ t.fm.inbox, e.code = 0x512 ∧ e.source = n.val)) ∧
  (∀ (dt corr : Nat) (bad : Option AxisId) (s : State), s.live = true → (∀ n, bad = some n → s.planned n.val = true) →
    ∃ t, exec (.storeScrub dt corr bad) s = .next t ∧
      t.fld F.ENG_STORE_CORR_COUNT = min (s.fld F.ENG_STORE_CORR_COUNT + corr) 65535 ∧
      (∀ n, bad = some n → t.flag F.ENG_STATUS_STORE_ERR = true ∧
        t.fm.inbox = s.fm.inbox ++ [⟨0x501, n.val, 0, some n.val, s.clock + dt, false⟩]) ∧ (bad = none → t.fm = s.fm) ∧
      RegsBut s t [R.ENG_STORE_CORR, R.ENG_STATUS] ∧ t = { s.interlocked with clock := s.clock + dt, regs := t.regs, fm := t.fm }) ∧
  (∀ (n : AxisId) (s : State), s.live = true → s.planned n.val = true → s.flag (F.ENG_SUPV_STALE n) = false →
    ∃ t, exec (.speedEstStale n) s = .next t ∧
      t.clock = max s.clock (s.tsBase + (s.engs[n].speedFrame + 2 * 2 ^ s.fld (F.ENG_SLOT_LOG2L n)) * 6250) ∧
      t.flag (F.ENG_SUPV_STALE n) = true ∧ t.fld (F.ENG_SUPV_SPEED_EST n) = s.fld (F.ENG_SUPV_SPEED_EST n) ∧
      RegsBut s t [R.ENG_SUPV n] ∧ t = { s.interlocked with clock := t.clock, regs := t.regs })

/-- R220, R222, R223 (ENG.WIN_DATA, ENG.CMD): the window reads and stages words, and refuses a seventeenth; APPLY_COEF runs until the
next engine frame boundary, which writes every staged word, or refuses them all with 0x502 against the axis of the first word that
it may not write; DISCARD and ABORT drop them.
The readings and choices of the model in it: log entry 707. -/
def Obligations.CoefficientsAreStagedAndApplied : Prop :=
  (∀ (dt : Nat) (s : State), s.reach 0xA = true →
    (∃ t, exec (.winDataAccess dt none) s = .next t ∧
      t.fld F.ENG_WIN_SEL_OFFSET = (s.fld F.ENG_WIN_SEL_OFFSET + 1) % 16384 ∧
      RegsBut s t [R.ENG_WIN_SEL] ∧ t = { s.interlocked with clock := s.clock + dt, regs := t.regs }) ∧
    (∀ w : Word, ∃ t, exec (.winDataAccess dt (some w)) s = .next t ∧
      t.fld F.ENG_WIN_SEL_OFFSET = (s.fld F.ENG_WIN_SEL_OFFSET + 1) % 16384 ∧
      (s.fld F.ENG_WIN_SEL_OFFSET < s.winSection.length → s.fld F.ENG_WIN_SEL_SECTION = 1 → s.engine.staged.length < 16 →
        t.engine = { s.engine with staged := s.engine.staged ++ [(s.winAxis.val, s.fld F.ENG_WIN_SEL_OFFSET, w)] } ∧
        t.fld F.ENG_OP_STAT_STAGED = s.engine.staged.length + 1 ∧ t.engs = s.engs ∧
        RegsBut s t [R.ENG_WIN_SEL, R.ENG_OP_STAT]) ∧
      (s.fld F.ENG_WIN_SEL_OFFSET < s.winSection.length → s.fld F.ENG_WIN_SEL_SECTION = 1 → 16 ≤ s.engine.staged.length →
        t.engine = s.engine ∧ t.engs = s.engs ∧ t.flag F.ENG_STATUS_CMD_REFUSED = true ∧
        t.flag F.ENG_STATUS_WIN_REFUSED = true ∧ RegsBut s t [R.ENG_WIN_SEL, R.ENG_STATUS]) ∧
      (s.fld F.ENG_WIN_SEL_OFFSET < s.winSection.length → s.fld F.ENG_WIN_SEL_SECTION = 3 → s.axisSt s.winAxis = stDisabled →
        t.engs[s.winAxis].tables = s.engs[s.winAxis].tables.set (s.fld F.ENG_WIN_SEL_OFFSET) w ∧
        (∀ n : AxisId, n ≠ s.winAxis → t.engs[n] = s.engs[n]) ∧ t.engine = s.engine ∧ RegsBut s t [R.ENG_WIN_SEL]) ∧
      (s.winSection.length ≤ s.fld F.ENG_WIN_SEL_OFFSET ∨ s.fld F.ENG_WIN_SEL_SECTION = 0 ∨ s.fld F.ENG_WIN_SEL_SECTION = 2 ∨
          (s.fld F.ENG_WIN_SEL_SECTION = 3 ∧ s.axisSt s.winAxis ≠ stDisabled) →
        t.engine = s.engine ∧ t.engs = s.engs ∧ t.flag F.ENG_STATUS_WIN_REFUSED = true ∧
        RegsBut s t [R.ENG_WIN_SEL, R.ENG_STATUS]) ∧
      t = { s.interlocked with clock := s.clock + dt, regs := t.regs, engine := t.engine, engs := t.engs }) ∧
    (s.opBusy R.ENG_OP_STAT = false →
      (∃ t, exec (.applyCoef dt) s = .next t ∧ t.opStat R.ENG_OP_STAT = statBusy ∧ t.lastOp R.ENG_OP_STAT = 1 ∧
        RegsBut s t [R.ENG_OP_STAT] ∧ t = { s.interlocked with clock := s.clock + dt, regs := t.regs }) ∧
      (∃ t, exec (.discard dt) s = .next t ∧ t.opStat R.ENG_OP_STAT = statDone ∧ t.lastOp R.ENG_OP_STAT = 2 ∧
        t.engine = { s.engine with staged := [] } ∧ t.fld F.ENG_OP_STAT_STAGED = 0 ∧ RegsBut s t [R.ENG_OP_STAT] ∧
        t = { s.interlocked with clock := s.clock + dt, regs := t.regs, engine := t.engine })) ∧
    (s.opBusy R.ENG_OP_STAT = true →
      (∃ t, exec (.engAbort dt) s = .next t ∧ t.opStat R.ENG_OP_STAT = statAborted ∧
        t.engine = { s.engine with staged := [] } ∧ t.fld F.ENG_OP_STAT_STAGED = 0 ∧ RegsBut s t [R.ENG_OP_STAT] ∧
        t = { s.interlocked with clock := s.clock + dt, regs := t.regs, engine := t.engine }) ∧
      (∀ i ∈ [Instr.applyCoef dt, Instr.discard dt], ∃ t, exec i s = .next t ∧ t.flag F.ENG_STATUS_CMD_REFUSED = true ∧
        RegsBut s t [R.ENG_STATUS] ∧ t = { s.interlocked with clock := s.clock + dt, regs := t.regs }))) ∧
  (∀ s : State, s.live = true → s.opBusy R.ENG_OP_STAT = true → s.lastOp R.ENG_OP_STAT = 1 →
    ∃ t, exec .coefBatchApply s = .next t ∧ t.clock = max s.clock (s.nextBoundary 6250 s.lastEngine) ∧
      t.engine = { s.engine with staged := [] } ∧ t.fld F.ENG_OP_STAT_STAGED = 0 ∧ RegsBut s t [R.ENG_OP_STAT] ∧
      (s.engine.staged.all (fun x => s.stagedOk x) = true → t.opStat R.ENG_OP_STAT = statDone ∧ t.fm = s.fm ∧
        ∀ n : AxisId, t.engs[n] = { s.engs[n] with
          coef := (s.engine.staged.filter (fun e => decide (e.1 = n.val))).foldl (fun c e => c.set e.2.1 e.2.2) s.engs[n].coef }) ∧
      (∀ x, s.engine.staged.find? (fun x => !s.stagedOk x) = some x → t.opStat R.ENG_OP_STAT = statErr ∧
        t.fld F.ENG_OP_STAT_ERR_CODE = 0x502 ∧ t.engs = s.engs ∧
        t.fm = { s.fm with inbox := s.fm.inbox ++ [⟨0x502, x.1, 0, some x.1, t.clock, false⟩] }) ∧
      t = { s.interlocked with clock := t.clock, regs := t.regs, engine := t.engine, engs := t.engs, fm := t.fm }) ∧
  (∀ (s : State) (n : AxisId) (off : Nat) (w : Word), s.stagedOk (n.val, off, w) = true ↔
    ∀ i ∈ progOf (s.engs[n]).prog, i.cbase = off →
      (i.op = opLutg → bitsOf w.toNat 35 30 < (s.engs[n]).tables.length / 64) ∧
      (i.op = opSine → bitsOf w.toNat 35 35 = 1 → bitsOf w.toNat 29 0 % 8 = 0 ∧ bitsOf w.toNat 29 0 + 1024 ≤ s.variant.rbase))

/-- R91, R126, R226, R243, R244, R255 (AXn.CMD): ARM, REACQUIRE, LEARN and ALIGN bring an axis into CHECKING with all its switches off; the
leg checks or the 100 ms of the floating supplies fail it into FAULTED or LATCHED; the checks passed, it is ARMED.
The readings and choices of the model in it: log entries 603, 804, 805, 1507. -/
def Obligations.ArmingChecksComeFirst : Prop :=
  (∀ (dt : Nat) (n : AxisId) (s : State), s.reach (0x10 + n.val) = true → s.planned n.val = true →
    ∀ p ∈ [(Instr.arm dt n, Purpose.arm, decide (s.axisSt n = stDisabled) && !s.stopLow && !s.guard.armBar, 0),
      (.reacquire dt n, .reacquire, decide (s.axisSt n = stFaulted) && decide (s.axes[n].cause = 0x541), 0xA),
      (.learn dt n, .learn, decide (s.axisSt n = stDisabled) && s.learnOk n, 0xB),
      (.align dt n, .align, decide (s.axisSt n = stDisabled) && (s.axisChan n).isSome, 0xC)],
    p.2.2.1 = true → p.2.1 = .reacquire ∨ s.applyBars n = false →
    ((∀ l ∈ s.axisLegs n, s.legState l ∉ [lgForcedOff, lgLatched, lgRetired] ∧
        s.fld (F.LG_LEG_CFG_SC_THRESH_H (legQ l) (legM l)) ≠ 0 ∧ s.fld (F.LG_LEG_CFG_SC_THRESH_L (legQ l) (legM l)) ≠ 0) →
      s.supplyReady n = false →
      ∃ t, exec p.1 s = .next t ∧ t.axisSt n = stChecking ∧ t.axes[n].check = some ⟨p.2.1, 1, s.clock + dt⟩ ∧
        (∀ l ∈ s.axisLegs n, t.legs[l].hi.on = false ∧ t.legs[l].lo.on = false) ∧
        (p.2.2.2 ≠ 0 → t.opStat (R.AX_OP_STAT n) = statBusy ∧ t.lastOp (R.AX_OP_STAT n) = p.2.2.2) ∧
        (∀ k, outer k → t.reg k = s.reg k)) ∧
    ((∃ l ∈ s.axisLegs n, s.legState l ∈ [lgForcedOff, lgLatched, lgRetired]) →
      ∃ t, exec p.1 s = .next t ∧ t.axisSt n ∈ [stFaulted, stLatched] ∧
        ∃ l ∈ s.axisLegs n, ∃ e ∈ t.dies[legDie l].events, e.code = 0x205 ∧ e.source = legSource l)) ∧
  (∀ (dt : Nat) (n : AxisId) (s : State), s.reach (0x10 + n.val) = true → s.planned n.val = true → s.axisSt n = stDisabled →
    (s.stopLow = false → s.guard.armBar = false → s.applyBars n = true →
      ∃ t, exec (.arm dt n) s = .next t ∧ t.flag (F.AX_EVENTS_CMD_REFUSED n) = true ∧ t.axisSt n = stDisabled ∧
        t.fm.inbox = s.fm.inbox ++ [⟨0xB44, n.val, 0, some n.val, s.clock + dt, false⟩] ∧ RegsBut s t [R.AX_EVENTS n] ∧
        t = { s.interlocked with clock := s.clock + dt, regs := t.regs, fm := t.fm }) ∧
    (∀ p ∈ [(Instr.learn dt n, s.learnOk n, 0xB, 0x561), (.align dt n, (s.axisChan n).isSome, 0xC, 0x562)],
      s.applyBars n = false → p.2.1 = false →
      ∃ t, exec p.1 s = .next t ∧ t.opStat (R.AX_OP_STAT n) = statErr ∧ t.lastOp (R.AX_OP_STAT n) = p.2.2.1 ∧
        t.fld ⟨R.AX_OP_STAT n, 31, 20⟩ = p.2.2.2 ∧ t.axisSt n = stDisabled ∧
        t.fm.inbox = s.fm.inbox ++ [⟨p.2.2.2, n.val, 0, some n.val, s.clock + dt, false⟩] ∧ RegsBut s t [R.AX_OP_STAT n] ∧
        t = { s.interlocked with clock := s.clock + dt, regs := t.regs, fm := t.fm })) ∧
  (∀ (n : AxisId) (c : Check) (s : State), s.planned n.val = true → s.checkOf n = some c → c.stage = 1 → s.supplyReady n = false →
    ∃ t, exec (.cfReadyTimeout n) s = .next t ∧ t.clock = max s.clock (c.since + 50000000) ∧ t.axisSt n ∈ [stFaulted, stLatched] ∧
      ∃ l ∈ s.axisLegs n, s.cfReady l = false ∧ ∃ e ∈ t.dies[legDie l].events, e.code = 0x222 ∧ e.source = legSource l) ∧
  (∀ (dt : Nat) (n : AxisId) (c : Check) (s : State), s.checkOf n = some c → c.stage = 4 → s.startUpAudits = false →
    (s.markedCmp n = none → s.paramsOk n = true →
      ∃ t, exec (.checkingEnd dt n) s = .next t ∧ t.axisSt n = stArmed ∧ t.axes[n].check = none ∧
        t.carriers[n].next = some ((s.pass dt).nextBoundary 6250 (s.clock + dt)) ∧ t.carriers[n].release = true ∧
        t.engs[n].readyAt = (s.pass dt).nextBoundary 6250 (s.clock + dt) + 6250 ∧ t.engs[n].st = s.engs[n].init ∧
        t.axes[n].mo = ⟨s.axes[n].mo.p, 0, 0⟩ ∧ t.axes[n].cfg = s.cfgRegs n ∧
        (c.purpose = .reacquire → t.axes[n].reacquire = some none) ∧ (c.purpose = .learn → t.axes[n].learn.isSome = true) ∧
        (c.purpose = .align → t.axes[n].align.isSome = true ∧ t.opStat (R.AX_OP_STAT n) = statBusy)) ∧
    (s.planned n.val = true → s.markedCmp n ≠ none ∨ s.paramsOk n = false →
      ∃ t, exec (.checkingEnd dt n) s = .next t ∧ t.axisSt n ∈ [stFaulted, stLatched] ∧
        ∃ e ∈ t.fm.inbox, e.code = (if s.markedCmp n = none then 0x530 else 0x432) ∧ e.axis = some n.val))

/-- R224, R228, R229, R434 (AXn.CMD): DISARM, STOP, QSTOP, CLEAR, UNLATCH and ABORT, and the ends of a disarm ramp and of a stop, in
every state of the axis that takes them.
The readings and choices of the model in it: log entries 802, 803. -/
def Obligations.StopsAndReleasesOfAnAxis : Prop :=
  (∀ (dt : Nat) (n : AxisId) (s : State), s.reach (0x10 + n.val) = true → s.planned n.val = true →
    (s.axisSt n = stArmed → ∃ t, exec (.disarm dt n) s = .next t ∧ t.axisSt n = stArmed ∧ t.axes[n].disarm = some 0 ∧
      t.axes[n].amp = s.axes[n].amp.down ∧ t.axes[n].ilim = s.axes[n].ilim.down ∧
      (s.opBusy (R.AX_OP_STAT n) = true → t.opStat (R.AX_OP_STAT n) = statAborted)) ∧
    (s.axisSt n = stRunning → ∃ t, exec (.disarm dt n) s = .next t ∧ t.axisSt n = stStopping ∧ t.axes[n].thenDisable = true ∧
      t.axes[n].req = some (.stop false)) ∧
    (s.axisSt n = stStopping → s.faultStopping n = false → ∃ t, exec (.disarm dt n) s = .next t ∧ t.axisSt n = stStopping ∧
      t.axes[n].thenDisable = true) ∧
    (∀ p ∈ [(Instr.stop dt n, false), (.qstop dt n, true)], s.axisSt n = stRunning →
      ∃ t, exec p.1 s = .next t ∧ t.axisSt n = stStopping ∧ t.axes[n].req = some (.stop p.2) ∧ t.axes[n].quick = p.2 ∧
        t.flag (F.AX_STATE_FAULT_STOP n) = false ∧ t.axes[n].stopAt = s.clock + dt ∧
        t.axes[n].thenDisable = s.axes[n].learn.isSome ∧
        (s.opBusy (R.AX_OP_STAT n) = true → t.opStat (R.AX_OP_STAT n) = statAborted) ∧ ReactionsOnly s t) ∧
    (∀ p ∈ [(Instr.stop dt n, [stRunning]), (.clear dt n, [stFaulted]), (.unlatch dt n, [stLatched])], s.axisSt n ∉ p.2 →
      ∃ t, exec p.1 s = .next t ∧ t.flag (F.AX_EVENTS_CMD_REFUSED n) = true ∧ RegsBut s t [R.AX_EVENTS n] ∧
        t = { s.interlocked with clock := s.clock + dt, regs := t.regs }) ∧
    (s.axisSt n = stFaulted → s.stopLow = false → ∃ t, exec (.clear dt n) s = .next t ∧ t.axisSt n = stDisabled ∧
      (∀ m : AxisId, m ≠ n → t.axisSt m = s.axisSt m) ∧ ReactionsOnly s t) ∧
    (s.axisSt n = stLatched → s.flag F.FLT_STATUS_VM_REVERSED = false → s.flag F.FLT_STATUS_STOP_DISC = false →
      ∃ t, exec (.unlatch dt n) s = .next t ∧ t.axisSt n = stDisabled ∧ (∀ m : AxisId, m ≠ n → t.axisSt m = s.axisSt m) ∧
        ReactionsOnly s t) ∧
    (s.opBusy (R.AX_OP_STAT n) = true → ∃ t, exec (.axisAbort dt n) s = .next t ∧ t.opStat (R.AX_OP_STAT n) = statAborted ∧
      (s.lastOp (R.AX_OP_STAT n) = 0xA → t.axisSt n = stFaulted ∧ t.axes[n].cause = 0x541) ∧
      (s.lastOp (R.AX_OP_STAT n) ∈ [0xB, 0xC] → s.axisSt n = stChecking → t.axisSt n = stDisabled) ∧
      (s.lastOp (R.AX_OP_STAT n) = 0xB → s.axisSt n = stRunning → t.axisSt n = stStopping ∧ t.axes[n].thenDisable = true) ∧
      (s.lastOp (R.AX_OP_STAT n) = 0xC → s.axisSt n = stArmed → t.axes[n].amp = s.axes[n].amp.down ∧
        t.axes[n].align = s.axes[n].align.map (fun x => { x with phase := 2 })) ∧
      (s.lastOp (R.AX_OP_STAT n) ∈ [5, 6] → s.axisSt n = stRunning → t.axisSt n = stStopping ∧ t.axes[n].req = some (.stop false)) ∧
      ReactionsOnly s t)) ∧
  (∀ (n : AxisId) (k : Nat) (s : State), s.axes[n].disarm = some k → 8 ≤ k → s.axisSt n = stArmed →
    ∃ t, exec (.disarmRampEnd n) s = .next t ∧ t.axisSt n = stDisabled ∧ t.axes[n].disarm = none ∧
      (∀ m : AxisId, m ≠ n → t.axisSt m = s.axisSt m) ∧ ReactionsOnly s t) ∧
  (∀ (n : AxisId) (s : State), s.axisSt n = stStopping → s.profileOver n = true → s.planned n.val = true →
    ∃ t, exec (.profileAtRest n) s = .next t ∧
      (s.flag (F.AX_STATE_FAULT_STOP n) = true → t.axisSt n ∈ [stFaulted, stLatched]) ∧
      (s.flag (F.AX_STATE_FAULT_STOP n) = false → s.axes[n].thenDisable = true → t.axisSt n = stDisabled) ∧
      (s.flag (F.AX_STATE_FAULT_STOP n) = false → s.axes[n].thenDisable = false → t.axisSt n = stArmed ∧
        t.axes[n].mo = ⟨s.axes[n].mo.p, 0, 0⟩ ∧ t.axes[n].restSince = s.clock) ∧ ReactionsOnly s t) ∧
  (∀ (n : AxisId) (s : State), s.axisSt n = stStopping → s.profileOver n = false → s.planned n.val = true →
    ∃ t, exec (.stopTimeout n) s = .next t ∧ t.clock = max s.clock (s.axes[n].stopAt + s.axes[n].cfg.stopTimeout) ∧
      t.axisSt n ∈ [stFaulted, stLatched] ∧ (∃ e ∈ t.fm.inbox, e.code = 0x554 ∧ e.source = n.val ∧ e.acted = true) ∧
      ReactionsOnly s t)

/-- R228, R232, R234, R248, R251 to R253: MOVE_ABS, MOVE_REL and VELOCITY on a RUNNING axis, as a start on a known rotor, and refused on
an unknown one; the arrival at the target; PRESET; and the waits of an axis at rest.
The readings and choices of the model in it: log entries 801, 802, 812. -/
def Obligations.MovesStartOnAKnownRotor : Prop :=
  (∀ (dt : Nat) (n : AxisId) (s : State), s.reach (0x10 + n.val) = true → s.planned n.val = true → s.moveAllowed n = true →
    (∀ p ∈ [(Instr.moveAbs dt n, 5, s.reg (R.AX_TARGET_POS n)), (.moveRel dt n, 6, s.reg (R.AX_SET_POS n) + s.reg (R.AX_TARGET_POS n))],
      (s.axisSt n = stRunning → ∃ t x, exec p.1 s = .next t ∧ t.axes[n] = { s.axes[n] with req := some (.toPos x), target := x, learn := none } ∧
        posWord x = p.2.2 ∧ t.axisSt n = stRunning ∧ t.opStat (R.AX_OP_STAT n) = statBusy ∧ t.lastOp (R.AX_OP_STAT n) = p.2.1 ∧
        t.flag (F.AX_STATE_AT_TARGET n) = false ∧ (∀ m : AxisId, m ≠ n → t.axes[m] = s.axes[m]) ∧
        RegsBut s t [R.AX_OP_STAT n, R.AX_STATE n] ∧ t = { s.interlocked with clock := s.clock + dt, regs := t.regs, axes := t.axes }) ∧
      (s.axisSt n = stArmed → s.axes[n].align = none → s.needsAlign n = false → s.rotor n ≠ 0 →
        ∃ t x, exec p.1 s = .next t ∧ t.axisSt n = stRunning ∧ t.axes[n].req = some (.toPos x) ∧ posWord x = p.2.2 ∧
          t.axes[n].mo = s.rotorMotion n (s.rotor n) ∧ t.fld (F.AX_STATE_ROTOR n) = s.rotor n ∧
          t.opStat (R.AX_OP_STAT n) = statBusy ∧ t.lastOp (R.AX_OP_STAT n) = p.2.1 ∧ ReactionsOnly s t)) ∧
    (s.axisSt n = stRunning → ∃ t, exec (.velocity dt n) s = .next t ∧
      t.axes[n] = { s.axes[n] with req := some (.toVel (s.sfld (F.AX_TARGET_VEL_TARGET n))), learn := none } ∧ t.axisSt n = stRunning ∧
      (s.opBusy (R.AX_OP_STAT n) = true → t.opStat (R.AX_OP_STAT n) = statAborted) ∧
      RegsBut s t [R.AX_OP_STAT n, R.AX_STATE n] ∧ t = { s.interlocked with clock := s.clock + dt, regs := t.regs, axes := t.axes }) ∧
    (∀ c ∈ [Instr.moveAbs dt n, .moveRel dt n, .velocity dt n], s.axisSt n = stArmed →
      s.axes[n].align ≠ none ∨ s.needsAlign n = true ∨ (s.rotor n = 0 ∧ s.flag (F.AX_PROF_CTRL_FORCE n) = false) →
      ∃ t, exec c s = .next t ∧ t.axisSt n = stArmed ∧ t.axes = s.axes ∧ t.flag (F.AX_EVENTS_START_REFUSED n) = true ∧
        t.fm.inbox = s.fm.inbox ++ [⟨0x531, n.val, 0, some n.val, s.clock + dt, false⟩])) ∧
  (∀ (n : AxisId) (s : State), s.axisSt n = stRunning → s.profileOver n = true → s.axes[n].mo.a = 0 →
    s.opBusy (R.AX_OP_STAT n) = true → s.lastOp (R.AX_OP_STAT n) ∈ [5, 6] →
    ∃ t, exec (.atTarget n) s = .next t ∧ t.axisSt n = stArmed ∧ t.flag (F.AX_STATE_AT_TARGET n) = true ∧
      t.opStat (R.AX_OP_STAT n) = statDone ∧ t.axes[n].mo = ⟨s.axes[n].mo.p, 0, 0⟩ ∧ t.axes[n].restSince = s.clock ∧
      t.clock = s.clock ∧ ReactionsOnly s t) ∧
  (∀ (dt : Nat) (n : AxisId) (s : State), s.reach (0x10 + n.val) = true → s.planned n.val = true →
    s.axisSt n = stDisabled ∨ s.armedRest n = true →
    ∃ t, exec (.axisPreset dt n) s = .next t ∧ t.reg (R.AX_SET_POS n) = s.reg (R.AX_TARGET_POS n) ∧
      t.axes[n].angSet = s.axes[n].angSet ∧ t.axes[n].mo.v = 0 ∧ t.axes[n].mo.a = 0 ∧
      t.axes[n].mo.p = s.axes[n].mo.p + posDiff (s.reg (R.AX_TARGET_POS n)) (s.reg (R.AX_SET_POS n)) * uTick ∧
      (∀ m : AxisId, m ≠ n → t.axes[m] = s.axes[m]) ∧ RegsBut s t [R.AX_SET_POS n] ∧
      t = { s.interlocked with clock := s.clock + dt, regs := t.regs, axes := t.axes, comps := t.comps }) ∧
  (∀ (n : AxisId) (s : State), s.armedRest n = true → s.axes[n].cfg.autoStandby = true → s.regime n ≠ 2 →
    ∃ t, exec (.standbyDelay n) s = .next t ∧ t.clock = max s.clock (s.axes[n].restSince + s.axes[n].cfg.standbyDelay) ∧
      t.axes[n] = { s.axes[n] with regime := 2 } ∧ (∀ m : AxisId, m ≠ n → t.axes[m] = s.axes[m]) ∧
      t = { s.interlocked with clock := t.clock, axes := t.axes }) ∧
  (∀ (n : AxisId) (t0 : Nat) (s : State), s.axes[n].holdSince = some t0 → s.axisOn n = true → s.drive n = 0 → s.locked n = false →
    ∃ t, exec (.holdSettle n) s = .next t ∧ t.clock = max s.clock (t0 + s.axes[n].cfg.holdSettle) ∧
      t.axes[n] = { s.axes[n] with settled := true } ∧ (∀ m : AxisId, m ≠ n → t.axes[m] = s.axes[m]) ∧
      t = { s.interlocked with clock := t.clock, axes := t.axes })

/-- R239, R243, R244, R255: what ends ALIGN, LEARN, REACQUIRE and a transfer: the second hold gives COMM_OFS or fault 0x562, the table is
written or fault 0x561 raised, no lock in 100 ms is fault 0x542, and the new drive holds.
The readings and choices of the model in it: log entries 804, 805, 810. -/
def Obligations.AxisOperationsEnd : Prop :=
  (∀ (n : AxisId) (x : Align) (s : State), s.axes[n].align = some x → s.axisSt n = stArmed →
    (x.phase = 0 → ∃ t, exec (.alignHoldEnd n) s = .next t ∧ t.clock = max s.clock (x.since + 125000000) ∧
      t.axes[n] = { s.axes[n] with
        align := some { x with phase := 1, since := t.clock, theta1 := (s.axisChan n).elim 0 (fun c => s.chans[c].ang) },
        angSet := 65536, angRem := 0, amp := .off } ∧
      (∀ m : AxisId, m ≠ n → t.axes[m] = s.axes[m]) ∧ t = { s.interlocked with clock := t.clock, axes := t.axes }) ∧
    (∀ d : Int, x.phase = 1 → d = angDiff ((s.axisChan n).elim 0 (fun c => s.chans[c].ang)) x.theta1 →
      ∃ t, exec (.alignHoldEnd n) s = .next t ∧ t.clock = max s.clock (x.since + 125000000) ∧
        t.axes[n].align = some { x with phase := 2 } ∧ t.axes[n].amp = s.axes[n].amp.down ∧ t.axisSt n = stArmed ∧
        ((d - 65536).natAbs ≤ 8192 → t.flag (F.AX_COMM_VALID n) = true ∧
          t.fld (F.AX_COMM_COMM_OFS n) = unsigned 18 (roundDiv (2 * angDiff 0 x.theta1 + 65536 - d) 2) ∧ t.fm = s.fm ∧
          RegsBut s t [R.AX_COMM n]) ∧
        (8192 < (d - 65536).natAbs → t.flag (F.AX_COMM_VALID n) = false ∧
          t.fm.inbox = s.fm.inbox ++ [⟨0x562, n.val, 0, some n.val, t.clock, false⟩] ∧
          (s.opBusy (R.AX_OP_STAT n) = true → t.opStat (R.AX_OP_STAT n) = statErr ∧ t.fld ⟨R.AX_OP_STAT n, 31, 20⟩ = 0x562)))) ∧
  (∀ (dt : Nat) (n : AxisId) (l : Learn) (s : State), s.axes[n].learn = some l → s.axisSt n = stRunning → l.back = true →
    s.profileOver n = true → s.opBusy (R.AX_OP_STAT n) = true →
    ∃ t, exec (.learnEnd dt n) s = .next t ∧ t.axisSt n = stDisabled ∧ t.axes[n].learn = none ∧
      ((learnTable l.points).isSome = true → t.opStat (R.AX_OP_STAT n) = statDone) ∧
      (learnTable l.points = none → t.opStat (R.AX_OP_STAT n) = statErr ∧ t.fld ⟨R.AX_OP_STAT n, 31, 20⟩ = 0x561 ∧
        (s.fm.inbox ++ [⟨0x561, n.val, 0, some n.val, s.clock + dt, false⟩] <+: t.fm.inbox) ∧ SameBytes s t)) ∧
  (∀ (n : AxisId) (t0 : Nat) (s : State), s.axes[n].reacquire = some (some t0) → s.axisSt n = stArmed → s.locked n = false →
    s.planned n.val = true →
    ∃ t, exec (.reacquireTimeout n) s = .next t ∧ t.clock = max s.clock (t0 + 50000000) ∧ t.axisSt n ∈ [stFaulted, stLatched] ∧
      t.axes[n].reacquire = none ∧ (∃ e ∈ t.fm.inbox, e.code = 0x542 ∧ e.source = n.val ∧ e.acted = true) ∧
      (s.opBusy (R.AX_OP_STAT n) = true → t.opStat (R.AX_OP_STAT n) = statErr ∧ t.fld ⟨R.AX_OP_STAT n, 31, 20⟩ = 0x542) ∧
      ReactionsOnly s t) ∧
  (∀ (n : AxisId) (x : Xfer) (s : State), s.axes[n].xfer = some x → x.steps ≤ x.k → x.quiet = false →
    ∃ t, exec (.transferDone n) s = .next t ∧ t.axes[n].xfer = none ∧ t.axes[n].track = false ∧
      t.fld (F.AX_STATE_DRIVE n) = x.drive % 4 ∧ t.flag (F.AX_STATE_XFER n) = false ∧ t.flag (F.AX_EVENTS_XFER_DONE n) = true ∧
      t.fld ⟨R.AX_XFER_COUNT n, 15, 0⟩ = min (s.fld ⟨R.AX_XFER_COUNT n, 15, 0⟩ + 1) 65535 ∧
      (∀ m : AxisId, m ≠ n → t.axes[m] = s.axes[m]) ∧ RegsBut s t [R.AX_STATE n, R.AX_EVENTS n, R.AX_XFER_COUNT n] ∧
      t = { s.interlocked with regs := t.regs, axes := t.axes })

/-- R289 to R291, R295, R305, R307 to R309 (PLN.CMD, PLN.OVR): START sets every axis of a program RUNNING or refuses it, HOLD, RESUME, ABORT
and OVERRIDE act on the path, lines arrive, dwells and waits end, and END arms the axes again.
The readings and choices of the model in it: log entry 1003. -/
def Obligations.ProgramsStartHoldAndEnd : Prop :=
  (∀ (dt : Nat) (j : Fin 64) (axes : List Nat) (line : Nat) (s : State), s.reach 9 = true → s.planOn = false →
    axes = maskAxes (s.fld (F.PLN_PROG_AXES j)) → line = s.fld (F.PLN_PROG_LINE j) →
    (s.flag (F.PLN_PROG_VALID j) = true → axes ≠ [] → s.lineOk line = true →
      (∀ n ∈ idsOf axes, (s.axisRec n.val).any (fun r => decide (r.source = 0)) = true ∧ s.axisSt n = stArmed ∧
        s.opBusy (R.AX_OP_STAT n) = false ∧ s.axes[n].align = none ∧ s.needsAlign n = false ∧ s.rotor n ≠ 0) →
      ∃ t, exec (.start dt j) s = .next t ∧ t.opStat R.PLN_OP_STAT = statBusy ∧ t.lastOp R.PLN_OP_STAT = 1 ∧
        t.fld F.PLN_OP_STAT_PROG = j.val ∧ t.planner.axes = axes ∧ t.planner.line = line ∧ t.planOn = true ∧
        (∀ n ∈ idsOf axes, t.axisSt n = stRunning) ∧ (∀ n : AxisId, n ∉ idsOf axes → t.axisSt n = s.axisSt n)) ∧
    (s.flag (F.PLN_PROG_VALID j) = false ∨ axes = [] ∨ s.lineOk line = false →
      ∃ t, exec (.start dt j) s = .next t ∧ t.opStat R.PLN_OP_STAT = statErr ∧ t.fld F.PLN_OP_STAT_ERR_CODE = 0x703 ∧
        t.axes = s.axes ∧ t.planner = s.planner ∧ ∃ e ∈ t.fm.inbox, e.code = 0x703)) ∧
  (∀ (dt : Nat) (s : State), s.reach 9 = true → s.planOn = true →
    (∀ j, ∃ t, exec (.start dt j) s = .next t ∧ t.flag F.PLN_STATUS_CMD_REFUSED = true ∧ RegsBut s t [R.PLN_STATUS] ∧
      t = { s.interlocked with clock := s.clock + dt, regs := t.regs }) ∧
    (s.planner.aborting = false → s.fld F.PLN_EXEC_GROUP = 0 →
      (∃ t, exec (.hold dt) s = .next t ∧
        (s.planner.wait ≠ .sync → t.fld F.PLN_EXEC_STATE = (if s.heldNow then 3 else 2) ∧ t.fld F.PLN_EXEC_CAUSE = 7) ∧
        RegsBut s t [R.PLN_EXEC, R.PLN_EXEC_ADDR, R.PLN_LA_STAT, R.PLN_PATH_VEL] ∧
        t = { s.interlocked with clock := s.clock + dt, regs := t.regs, planner := { s.planner with hold := true } }) ∧
      (s.planner.hold = true ∨ s.planner.groupHold = true → s.planner.late = false → ∃ t, exec (.resume dt) s = .next t ∧
        RegsBut s t [R.PLN_EXEC, R.PLN_EXEC_ADDR, R.PLN_LA_STAT, R.PLN_PATH_VEL] ∧
        t = { s.interlocked with
          clock := s.clock + dt, regs := t.regs, planner := { s.planner with hold := false, groupHold := false } }) ∧
      (∀ w, ∃ t, exec (.override dt w) s = .next t ∧ t.fld F.PLN_OVR_OVERRIDE = w.toNat % 4096 ∧
        RegsBut s t [R.PLN_OVR, R.PLN_EXEC, R.PLN_EXEC_ADDR, R.PLN_LA_STAT, R.PLN_PATH_VEL] ∧
        t = { s.interlocked with
          clock := s.clock + dt, regs := t.regs, planner := { s.planner with overrideHeld := t.overrideHold } })) ∧
    (s.opBusy R.PLN_OP_STAT = true → ∃ t, exec (.plnAbort dt) s = .next t ∧ t.opStat R.PLN_OP_STAT = statAborted ∧
      t.planner = { s.planner with aborting := true, wait := .none, open_ := none } ∧ t.fld F.PLN_EXEC_STATE = 5 ∧
      (∀ n ∈ idsOf s.planner.velAxes, s.axisSt n = stRunning → t.axisSt n = stStopping) ∧ ReactionsOnly s t)) ∧
  (∀ (dt : Nat) (d : Delivered) (s : State), s.live = true → s.planOn = true → s.planner.aborting = false → s.planner.err = none →
    s.planner.open_ = none → s.larder.arrived.find? (fun d => d.user == .planner) = some d →
    (d.lines = none → ∃ t, exec (.blockRead dt) s = .next t ∧ t.planner.err = some (0x721, s.planner.line) ∧ t.planner.halted = true) ∧
    (∀ line ws rest, d.lines = some ((line, ws) :: rest) →
      (s.blockOk ws = false → ∃ t, exec (.blockRead dt) s = .next t ∧ t.planner.err = some (0x722, line) ∧
        t.planner.queue = s.planner.queue) ∧
      (s.blockOk ws = true → fieldOf (ws.getD 0 0) 35 32 = 7 → ∃ t, exec (.blockRead dt) s = .next t ∧
        t.planner.line = line + 1 ∧ t.planner.queue = s.planner.queue ++ [⟨line, fieldOf (ws.getD 0 0) 17 0, s.planner.stack.length,
          .setIo (fieldOf (ws.getD 1 0) 31 0) (fieldOf (ws.getD 2 0) 31 0)⟩]) ∧
      (s.blockOk ws = true → fieldOf (ws.getD 0 0) 35 32 = 14 → ∃ t q, exec (.blockRead dt) s = .next t ∧
        t.planner.halted = true ∧ t.planner.queue = q ++ [⟨line, fieldOf (ws.getD 0 0) 17 0, s.planner.stack.length, .fin⟩]))) ∧
  (∀ s : State, s.planner.wait = .dwell 0 →
    ∃ t, exec .dwellEnd s = .next t ∧ t.planner.wait = .none ∧
      (s.planner.open_ = none → t.planner.queue = s.planner.queue.drop 1) ∧
      t.fld F.PLN_BLOCK_COUNT_COUNT = min (s.fld F.PLN_BLOCK_COUNT_COUNT + 1) (2 ^ 32 - 1) ∧ t.axes = s.axes ∧ t.clock = s.clock) ∧
  (∀ (k addr lineNo depth m v timeout : Nat) (goal : Option Nat) (rest : List PlanItem) (s : State), s.planner.wait = .io k →
    s.planner.queue = ⟨addr, lineNo, depth, .waitIo m v timeout goal⟩ :: rest → timeout ≠ 0 → timeout ≤ k →
    ∃ t, exec .waitIoTimeout s = .next t ∧ t.flag F.PLN_STATUS_WAIT_TIMEOUT = true ∧
      (∀ line, goal = some line → t.planner.wait = .none ∧ t.planner.line = line ∧ t.axes = s.axes ∧
        (s.planner.open_ = none → t.planner.queue = rest)) ∧
      (goal = none → s.programRest = true → s.planner.velAxes = [] → t.opStat R.PLN_OP_STAT = statErr ∧
        t.fld F.PLN_OP_STAT_ERR_CODE = 0x731 ∧ t.planner.axes = [] ∧ t.fld F.PLN_ERR_ADDR_ADDR = addr % 2 ^ 27 ∧
        (s.fm.inbox ++ [⟨0x731, 0, 0, none, s.clock, false⟩] <+: t.fm.inbox) ∧
        ∀ n ∈ idsOf s.planner.axes, s.axisSt n = stRunning → t.axisSt n = stArmed) ∧
      (goal = none → s.programRest = false → t.planner.err = some (0x731, addr) ∧ t.planner.queue = [] ∧ t.planner.wait = .none ∧
        t.planner.halted = true ∧ t.planner.axes = s.planner.axes ∧ t.fm = s.fm ∧
        ∀ n ∈ idsOf s.planner.velAxes, s.axisSt n = stRunning → t.axisSt n = stStopping)) ∧
  (∀ (dt : Nat) (i : PlanItem) (s : State), s.planner.queue.head? = some i → i.op = .fin → s.programRest = true →
    ∃ t, exec (.programEnd dt) s = .next t ∧ t.planner.axes = [] ∧ t.planner.queue = [] ∧
      (s.opBusy R.PLN_OP_STAT = true → t.opStat R.PLN_OP_STAT = statDone) ∧
      (∀ n ∈ idsOf s.planner.axes, s.axisSt n = stRunning → t.axisSt n = stArmed) ∧
      (∀ n : AxisId, n ∉ idsOf s.planner.axes → t.axisSt n = s.axisSt n) ∧
      t.fld F.PLN_BLOCK_COUNT_COUNT = min (s.fld F.PLN_BLOCK_COUNT_COUNT + 1) (2 ^ 32 - 1) ∧ ReactionsOnly s t)

/-- R315, R317 to R319, R369: a program waits at SYNC, repeats its SYNC_ARM, goes when every partner has armed or holds its group, tells when
it waits too long, and takes a group hold at its instant; a STREAM axis without set-points stops.
The readings and choices of the model in it: log entries 1004, 1207. -/
def Obligations.ModulesWaitAndHoldTogether : Prop :=
  (∀ (dt addr lineNo depth modules id timeout : Nat) (rest : List PlanItem) (s : State),
    s.planner.queue = ⟨addr, lineNo, depth, .sync modules id timeout⟩ :: rest → s.pathRest = true → s.planner.wait = .none →
    ∃ t, exec (.syncArrival dt) s = .next t ∧ t.planner.wait = .sync ∧ t.planner.arrived = s.clock + dt ∧ t.planner.late = false ∧
      (s.planner.open_ = none → t.planner.queue = s.planner.queue) ∧
      (s.ptpLocked = false → t.planner.ta = 0 ∧ t.fm.inbox = s.fm.inbox ++ [⟨0x741, 0, 0, none, s.clock + dt, false⟩]) ∧
      (s.ptpLocked = true → t.planner.ta = (s.pass dt).ptpNow ∧ t.planner.repeatAt = s.clock + dt + 500000) ∧ t.axes = s.axes) ∧
  (∀ (addr lineNo depth modules id timeout : Nat) (rest : List PlanItem) (s : State),
    s.planner.queue = ⟨addr, lineNo, depth, .sync modules id timeout⟩ :: rest → s.planner.wait = .sync →
    (s.planner.ta ≠ 0 → ∃ t, exec .syncArmRepeat s = .next t ∧ t.clock = max s.clock s.planner.repeatAt ∧
      t.planner = { s.planner with repeatAt := t.clock + 500000 } ∧ t.axes = s.axes ∧
      t.ladder = ((s.atLeast s.planner.repeatAt).sendSyncArm modules id (s.heldMask modules id) s.planner.ta).ladder) ∧
    (∀ (g : Nat) (missing : List Nat), s.planner.tgo = some g →
      missing = (s.otherModules modules).filter (fun m => (s.slotOfModule m).isNone ||
        !s.planner.held.any (fun h => h.module == m && h.id == id && h.modules == modules && h.held &&& modules == modules)) →
      ∃ t, exec .syncGo s = .next t ∧ t.clock = max s.clock (s.ladder.ptp.map.edge g).toNat ∧
        (missing = [] → t.planner.wait = .none ∧ t.planner.lastNs = g ∧ t.planner.ta = 0 ∧ t.planner.tgo = none ∧
          (s.planner.open_ = none → t.planner.queue = rest) ∧ t.fld F.PLN_EXEC_GROUP = modules % 16 ∧ t.fm = s.fm) ∧
        (missing ≠ [] → t.planner.wait = .sync ∧ t.planner.tgo = none ∧ t.planner.late = true ∧ t.planner.groupHold = true ∧
          t.flag F.PLN_STATUS_PARTNER_LOST = true ∧ t.flag F.PLN_STATUS_GROUP_HOLD = true ∧
          t.fm.inbox = s.fm.inbox ++ missing.map (fun m => ⟨0x743, m, 0, none, t.clock, false⟩))) ∧
    (timeout ≠ 0 → s.planner.late = false → ∃ t, exec .syncTimeout s = .next t ∧
      t.clock = max s.clock (s.planner.arrived + timeout * 50000) ∧ t.planner = { s.planner with late := true, tgo := none } ∧
      t.flag F.PLN_STATUS_SYNC_LATE = true ∧ t.fm.inbox = s.fm.inbox ++ [⟨0x742, 0, 0, none, t.clock, false⟩] ∧
      RegsBut s t [R.PLN_STATUS, R.PLN_EXEC, R.PLN_EXEC_ADDR, R.PLN_LA_STAT, R.PLN_PATH_VEL] ∧
      t = { s.interlocked with clock := t.clock, regs := t.regs, fm := t.fm, planner := t.planner })) ∧
  (∀ (ns : Nat) (resume : Bool) (s : State), s.planner.groupAt = some (ns, resume) → s.planOn = true →
    ∃ t, exec .groupHoldInstant s = .next t ∧ t.clock = max s.clock (s.ladder.ptp.map.edge ns).toNat ∧
      (resume = true → t.planner = { s.planner with groupAt := none, groupHold := false, hold := false }) ∧
      (resume = false → t.planner = { s.planner with groupAt := none, groupHold := true } ∧
        t.flag F.PLN_STATUS_GROUP_HOLD = true) ∧
      RegsBut s t [R.PLN_STATUS, R.PLN_EXEC, R.PLN_EXEC_ADDR, R.PLN_LA_STAT, R.PLN_PATH_VEL] ∧
      t = { s.interlocked with clock := t.clock, regs := t.regs, planner := t.planner }) ∧
  (∀ (n : AxisId) (s : State), (s.axisRec n.val).any (fun r => decide (r.source = 2)) = true → s.axisSt n = stRunning →
    max 1 (s.fld F.PLN_STREAM_CFG_TIMEOUT) ≤ s.streamMissed n →
    ∃ t, exec (.streamTimeout n) s = .next t ∧ t.axisSt n = stStopping ∧ t.axes[n].req = some (.stop false) ∧
      t.flag F.PLN_STATUS_STREAM_MISS = true ∧ t.planner.points = s.planner.points.filter (fun e => e.1 ≠ n.val) ∧
      (s.fm.inbox ++ [⟨0x751, 0, 0, some n.val, s.clock, false⟩] <+: t.fm.inbox) ∧
      (∀ m : AxisId, m ≠ n → t.axisSt m = s.axisSt m) ∧ ReactionsOnly s t)

/-- R328, R330, R331, R333 (Table 11.5): the controller reads the line of the next grant; clean data is delivered, one to three bad
bytes are corrected and written back, and an uncorrectable line is POISONED on a spare line.
The readings and choices of the model in it: log entries 1103, 1105. -/
def Obligations.LinesAreReadCorrectedOrLost : Prop :=
  (∀ (dt line : Nat) (dist : List Disturb) (r : LineReq) (got : List Nat) (s : State), s.larderReady = true →
    s.larder.grant = some r → r.lines = [line] → r.cls < 5 → (∀ hp, r.user ≠ .window hp) → (∀ n, r.user ≠ .image n) →
    got = flipBytes (Memory.line s.larder.mem (s.physLine line)) (disturbOf dist line).1 →
    (∀ c, line ∉ s.larder.poisoned → rsDecode got = some (c, []) → lineEcho c = line * 8 →
      ∃ t, exec (.lineRead dt dist) s = .next t ∧
        t = { s.interlocked with
          clock := s.clock + dt, larder := { s.larder with
            reqs := s.larder.reqs.erase r, arrived := s.larder.arrived ++ [⟨r.user, some (r.got ++ [(line, lineWords c)])⟩]
            runs := min 9 (s.larder.runs + 1) } }) ∧
    (∀ c pos, line ∉ s.larder.poisoned → rsDecode got = some (c, pos) → pos ≠ [] → lineEcho c = line * 8 →
      ∃ t, exec (.lineRead dt dist) s = .next t ∧ t.flag F.LDC_STATUS_CORR = true ∧
        t.larder.arrived = s.larder.arrived ++ [⟨r.user, some (r.got ++ [(line, lineWords c)])⟩] ∧
        (∀ b, b < c.length → Memory.read t.larder.mem (48 * s.physLine line + b) = BitVec.ofNat 8 (c.getD b 0)) ∧
        t.larder.hourCount = s.larder.hourCount + 1 ∧
        (max 1 (s.fld F.LDC_ECC_CFG_RATE_LIMIT) < s.larder.hourCount + 1 → s.larder.hourTold = false →
          t.flag F.LDC_STATUS_RATE_HIGH = true ∧ ∃ e ∈ t.fm.inbox, e.code = 0x821) ∧
        (s.larder.hourCount + 1 ≤ max 1 (s.fld F.LDC_ECC_CFG_RATE_LIMIT) →
          (rsSyndromes (flipBytes c (disturbOf dist line).2)).all (· = 0) = true → t.fm = s.fm) ∧
        ((rsSyndromes (flipBytes c (disturbOf dist line).2)).all (· = 0) = true → t.box = s.box ∧
          t.fld F.LDC_CORR_COUNT_COUNT = min (s.fld F.LDC_CORR_COUNT_COUNT + 1) (2 ^ 32 - 1) ∧
          ∀ a, a < 48 * s.physLine line ∨ 48 * s.physLine line + c.length ≤ a →
            Memory.read t.larder.mem a = Memory.read s.larder.mem a) ∧
        ((rsSyndromes (flipBytes c (disturbOf dist line).2)).all (· = 0) = false → s.box.remap.length < 8192 →
          t.box = { s.box with remap := s.box.remap ++ [line] } ∧ t.flag F.LDC_STATUS_REMAPPED = true ∧
          t.fld F.LDC_SPARES_USED = s.box.remap.length + 1 ∧ (∃ e ∈ t.fm.inbox, e.code = 0x801 ∧ e.source = r.cls) ∧
          (∀ b, b < c.length → Memory.read t.larder.mem (48 * (s.variant.rbase / 8 + s.box.remap.length) + b) =
            BitVec.ofNat 8 (c.getD b 0))) ∧
        RegsBut s t [R.LDC_STATUS, R.LDC_LAST_ERR, R.LDC_LAST_INFO, R.LDC_LAST_POS, R.LDC_CORR_COUNT, R.LDC_SPARES] ∧
        t = { s.interlocked with clock := s.clock + dt, regs := t.regs, larder := t.larder, fm := t.fm, box := t.box }) ∧
    (∀ echo : Bool, (echo = false → line ∈ s.larder.poisoned ∨ rsDecode got = none) →
      (echo = true → line ∉ s.larder.poisoned ∧ ∃ c pos, rsDecode got = some (c, pos) ∧ lineEcho c ≠ line * 8) →
      ∃ t, exec (.lineRead dt dist) s = .next t ∧ t.larder.arrived = s.larder.arrived ++ [⟨r.user, none⟩] ∧
        t.flag (if echo then F.LDC_STATUS_ECHO_ERR else F.LDC_STATUS_UNCORR) = true ∧
        t.fld F.LDC_UNCORR_COUNT_COUNT = min (s.fld F.LDC_UNCORR_COUNT_COUNT + 1) 65535 ∧
        (∃ e ∈ t.fm.inbox, e.code = (if echo then 0x812 else 0x811) ∧ e.source = r.cls) ∧
        (line ∈ s.larder.poisoned → t.box = s.box ∧ t.larder.mem = s.larder.mem) ∧
        (line ∉ s.larder.poisoned → s.box.remap.length < 8192 →
          t.larder.poisoned = s.larder.poisoned ++ [line] ∧ t.box = { s.box with remap := s.box.remap ++ [line] }) ∧
        (line ∉ s.larder.poisoned → 8192 ≤ s.box.remap.length → t.larder.poisoned = s.larder.poisoned ∧ t.box = s.box ∧
          t.larder.mem = s.larder.mem ∧ t.flag F.LDC_STATUS_SPARES_OUT = true ∧
          (s.flag F.LDC_STATUS_SPARES_OUT = false → ∃ e ∈ t.fm.inbox, e.code = 0x803)) ∧
        RegsBut s t [R.LDC_STATUS, R.LDC_LAST_ERR, R.LDC_LAST_INFO, R.LDC_LAST_POS, R.LDC_UNCORR_COUNT, R.LDC_SPARES] ∧
        t = { s.interlocked with clock := s.clock + dt, regs := t.regs, larder := t.larder, fm := t.fm, box := t.box })) ∧
  (∀ (dt line : Nat) (hp : Bool) (c : List Nat) (r : LineReq) (s : State), s.larderReady = true →
    s.larder.grant = some r → r.lines = [line] → r.cls = 5 → r.user = .window hp →
    s.larder.hp.closing = [] → s.larder.lad.closing = [] → line ∉ s.larder.poisoned →
    rsDecode (Memory.line s.larder.mem (s.physLine line)) = some (c, []) → lineEcho c = line * 8 →
    ∃ t, exec (.lineRead dt []) s = .next t ∧ t.larder.runs = 0 ∧ t.larder.lastHp = hp ∧ t.larder.mem = s.larder.mem ∧
      (t.ptr hp).present.find? (fun e => e.1 == line) = some (line, some (lineWords c)) ∧ t.ptr (!hp) = s.ptr (!hp) ∧
      RegsBut s t [R.HST_STATUS] ∧ t = { s.interlocked with clock := s.clock + dt, regs := t.regs, larder := t.larder })

/-- R333 to R335 (Table 11.4): the scrub reads the lines in rising order, an hour of operation ends and the next begins, refresh
is issued, and the hottest device's temperature chooses the refresh interval.
The readings and choices of the model in it: log entry 1103. -/
def Obligations.LarderScrubsAndRefreshes : Prop :=
  (∀ (dist : List Disturb) (s : State), s.live = true → s.larderReady = true → s.flag F.LDC_SCRUB_CFG_EN = true →
    s.fld F.LDC_SCRUB_POS_LINE < s.variant.dramLines →
    ∃ t, exec (.scrubRead dist) s = .next t ∧ t.clock = max s.clock (s.larder.scrubAt + s.scrubEvery) ∧
      t.larder.scrubAt = t.clock ∧
      t.fld F.LDC_SCRUB_POS_LINE = (if s.fld F.LDC_SCRUB_POS_LINE + 1 = s.variant.dramLines then 0
        else s.fld F.LDC_SCRUB_POS_LINE + 1) ∧
      (s.scrubLine (s.fld F.LDC_SCRUB_POS_LINE) = none ∨
        (∃ l c, s.scrubLine (s.fld F.LDC_SCRUB_POS_LINE) = some l ∧ l ∉ s.larder.poisoned ∧ disturbOf dist l = ([], []) ∧
          rsDecode (Memory.line s.larder.mem (s.physLine l)) = some (c, []) ∧ lineEcho c = l * 8) →
        RegsBut s t [R.LDC_SCRUB_POS] ∧
        t = { s.interlocked with clock := t.clock, regs := t.regs, larder := { s.larder with scrubAt := t.clock } })) ∧
  (∀ s : State, s.live = true → s.larderReady = true →
    (∃ t, exec .eccHour s = .next t ∧ t.clock = max s.clock (s.larder.hourAt + 3600 * second) ∧
      t.flag F.LDC_STATUS_RATE_HIGH = s.larder.hourTold ∧ RegsBut s t [R.LDC_STATUS] ∧
      t = { s.interlocked with
        clock := t.clock, regs := t.regs, larder := { s.larder with
          hourAt := t.clock, hourCount := 0, hourTold := false, lastTold := s.larder.hourTold
          goodHours := if s.larder.hourCount ≤ max 1 (s.fld F.LDC_ECC_CFG_RATE_LIMIT) then s.larder.goodHours + 1 else 0 } }) ∧
    (∃ t, exec .refresh s = .next t ∧
      t.clock = max s.clock (s.larder.refreshAt + (if s.fld F.LDC_STATUS_REFRESH = 0 then 3900
        else if s.fld F.LDC_STATUS_REFRESH = 1 then 1950 else 975)) ∧ RegsBut s t [] ∧
      t = { s.interlocked with clock := t.clock, larder := { s.larder with refreshAt := t.clock } })) ∧
  (∀ (t0 t1 t2 : BitVec 16) (m : Int) (s : State), s.live = true → m = max t0.toInt (max t1.toInt t2.toInt) →
    ∃ t, exec (.dramTemp t0 t1 t2) s = .next t ∧ t.clock = max s.clock (s.larder.tempAt + 500000) ∧
      (BitVec.ofNat 16 (t.fld F.LDC_TEMP_VALUE)).toInt = m ∧
      (∀ d, d = t.fld F.LDC_TEMP_DEVICE → d < 3 ∧ ([t0, t1, t2].getD d 0).toInt = m) ∧
      (840 < m → t.fld F.LDC_STATUS_REFRESH = 2) ∧ (680 < m → m ≤ 816 → t.fld F.LDC_STATUS_REFRESH = 1) ∧
      (m ≤ 656 → t.fld F.LDC_STATUS_REFRESH = 0) ∧
      (816 < m → m ≤ 840 → t.fld F.LDC_STATUS_REFRESH = (if s.fld F.LDC_STATUS_REFRESH = 2 then 2 else 1)) ∧
      (656 < m → m ≤ 680 → t.fld F.LDC_STATUS_REFRESH = (if s.fld F.LDC_STATUS_REFRESH = 0 then 0 else 1)) ∧
      RegsBut s t [R.LDC_TEMP, R.LDC_STATUS] ∧
      t = { s.interlocked with clock := t.clock, regs := t.regs, larder := { s.larder with tempAt := t.clock } })

/-- R338 to R340 (R35): a window access acts on the word at its requester's pointer and moves the pointer on, or stalls until the line
is present, or is refused outside the user area; a pointer gathers the words of a line, and its commit writes them.
The readings and choices of the model in it: log entries 103, 1101, 1305. -/
def Obligations.PointersGatherAndCommit : Prop :=
  (∀ (dt : Nat) (req : Req) (hp : Bool) (a : Nat) (s : State), s.live = true → s.busIdle = true → hp = (req == Req.hp) →
    a = s.ptrAddr hp →
    (∀ x ∈ s.access.open_, x.1 ≠ req) →
    (s.hoistOk true a = true → (∀ g, (s.ptr hp).gather = some g → g.1 = a / 8) →
      ∀ (w : Word) (old : List (Nat × Word)), old = (s.ptr hp).gather.elim [] (·.2) →
      ∃ t, exec (.hoistWindowAccess dt req (some w)) s = .next t ∧ t.ptrAddr hp = a + 1 ∧
        (a % 8 ≠ 7 → (t.ptr hp).gather = some (a / 8, (a % 8, w) :: old) ∧ (t.ptr hp).closing = (s.ptr hp).closing) ∧
        (a % 8 = 7 → (t.ptr hp).gather = none ∧
          (t.ptr hp).closing = (s.ptr hp).closing ++ [(a / 8, (a % 8, w) :: old)]) ∧
        t.flag (if hp then F.HST_STATUS_PEND_HP else F.HST_STATUS_PEND_LAD) = decide (a % 8 ≠ 7) ∧
        t.ptr (!hp) = s.ptr (!hp) ∧ t.larder.mem = s.larder.mem ∧
        t.fld F.HST_WORD_COUNT_COUNT = min (s.fld F.HST_WORD_COUNT_COUNT + 1) (2 ^ 32 - 1) ∧
        RegsBut s t [ptrKey hp, R.HST_STATUS, R.HST_WORD_COUNT] ∧
        t = { s.interlocked with
          clock := s.clock + dt, regs := t.regs, larder := t.larder,
          access := ⟨s.access.open_, [], 3 * (s.clock + dt) + 10, s.access.inner⟩ }) ∧
    (s.hoistOk false a = true → (s.ptr hp).gather = none →
      (∀ ws, (s.ptr hp).present.find? (fun e => e.1 == a / 8) = some (a / 8, ws) →
        ∃ t, exec (.hoistWindowAccess dt req none) s = .next t ∧ t.ptrAddr hp = a + 1 ∧
          t.access = ⟨s.access.open_, [ws.elim 0 (·.getD (a % 8) 0)], 3 * (s.clock + dt) + 10, s.access.inner⟩ ∧
          (ws = none → t.flag F.HST_STATUS_UNCORR = true ∧ t.fld F.HST_ERR_ADDR_ADDR = a) ∧
          RegsBut s t [ptrKey hp, R.HST_STATUS, R.HST_WORD_COUNT, R.HST_ERR_ADDR] ∧ t.larder.mem = s.larder.mem ∧
          t = { s.interlocked with clock := s.clock + dt, regs := t.regs, larder := t.larder, access := t.access }) ∧
      ((s.ptr hp).present.find? (fun e => e.1 == a / 8) = none → s.larder.reqs = [] →
        ∃ t x, exec (.hoistWindowAccess dt req none) s = .next t ∧ t.access.open_ = s.access.open_ ++ [(req, x)] ∧
          x.wait = .window ∧ t.ptr hp = s.ptr hp ∧ (∃ r ∈ t.larder.reqs, r.cls = 5 ∧ r.user = .window hp ∧ r.lines = [a / 8]) ∧
          RegsBut s t [] ∧ t = { s.interlocked with
            clock := s.clock + dt, regs := t.regs, larder := { s.larder with reqs := t.larder.reqs }, access := t.access })) ∧
    (∀ write : Option Word, s.hoistOk write.isSome a = false →
      ∃ t, exec (.hoistWindowAccess dt req write) s = .next t ∧ t.flag F.HST_STATUS_RANGE = true ∧
        t.fld F.HST_ERR_ADDR_ADDR = a ∧ t.access = ⟨s.access.open_, if write.isSome then [] else [0], 3 * (s.clock + dt) + 10, s.access.inner⟩ ∧
        t.fm.inbox = s.fm.inbox ++ [⟨0x851, 5, 0, none, s.clock + dt, false⟩] ∧ RegsBut s t [R.HST_STATUS, R.HST_ERR_ADDR] ∧
        t = { s.interlocked with
          clock := s.clock + dt, regs := t.regs, access := t.access, fm := { s.fm with inbox := t.fm.inbox } })) ∧
  (∀ (dt : Nat) (hp : Bool) (w : Word) (s : State), s.reach 7 = true → (s.ptr hp).closing = [] →
    ((s.ptr hp).gather = none → ∃ t, exec (.pointerWrite dt hp w) s = .next t ∧ t.ptrAddr hp = w.toNat % 2 ^ 30 ∧
      t.larder.mem = s.larder.mem ∧ (∀ e ∈ (t.ptr hp).present, e.1 = t.ptrAddr hp / 8 ∨ e.1 = t.ptrAddr hp / 8 + 1) ∧
      t.ptr (!hp) = s.ptr (!hp) ∧ RegsBut s t [ptrKey hp, R.HST_STATUS] ∧
      t = { s.interlocked with clock := s.clock + dt, regs := t.regs, larder := t.larder }) ∧
    (∀ line l, (s.ptr hp).gather = some (line, l) → (∀ i, i < 8 → ∃ e ∈ l, e.1 = i) →
      (∀ i, i < 8 → s.hoistOk true (line * 8 + i) = true) → (∀ e ∈ l, e.1 < 8) →
      (∃ t, exec (.pointerWrite dt hp w) s = .next t ∧ t.ptrAddr hp = w.toNat % 2 ^ 30 ∧ (t.ptr hp).gather = none ∧
        LineWritten s t line (mergeWords (List.replicate 8 0) l) ∧
        RegsBut s t [ptrKey hp, R.HST_STATUS, R.LDC_WSEQ, R.LDC_STATUS] ∧
        t = { s.interlocked with clock := s.clock + dt, regs := t.regs, larder := t.larder }) ∧
      (∃ t, exec (.gatherTimeout hp) s = .next t ∧ t.clock = max s.clock ((s.ptr hp).lastWrite + 5000) ∧
        (t.ptr hp).gather = none ∧ LineWritten s t line (mergeWords (List.replicate 8 0) l) ∧
        RegsBut s t [R.HST_STATUS, R.LDC_WSEQ, R.LDC_STATUS] ∧
        t = { s.interlocked with clock := t.clock, regs := t.regs, larder := t.larder }))) ∧
  (∀ (dt : Nat) (hp : Bool) (dist : List Disturb) (line : Nat) (l : List (Nat × Word)) (rest : List (Nat × List (Nat × Word)))
    (s : State), s.live = true → (s.ptr hp).closing = (line, l) :: rest → (∀ e ∈ l, e.1 < 8) → l ≠ [] →
    (∀ i, i < 8 → s.hoistOk true (line * 8 + i) = true) →
    (∀ ws, LineReads s line ws → disturbOf dist line = ([], []) ∨ (∀ i, i < 8 → ∃ e ∈ l, e.1 = i) →
      ∃ t, exec (.lineCommit dt hp dist) s = .next t ∧ (t.ptr hp).closing = rest ∧ LineWritten s t line (mergeWords ws l) ∧
        RegsBut s t [R.HST_STATUS, R.LDC_WSEQ, R.LDC_STATUS] ∧
        t = { s.interlocked with clock := s.clock + dt, regs := t.regs, larder := t.larder }) ∧
    (line ∈ s.larder.poisoned → (∃ i, i < 8 ∧ ∀ e ∈ l, e.1 ≠ i) →
      ∃ t, exec (.lineCommit dt hp dist) s = .next t ∧ (t.ptr hp).closing = rest ∧
        LineWritten s t line (mergeWords (List.replicate 8 0) l) ∧ t.flag F.HST_STATUS_UNCORR = true ∧
        t.fld F.HST_ERR_ADDR_ADDR = line * 8 % 2 ^ 30 ∧ ∃ e ∈ t.fm.inbox, e.code = 0x811 ∧ e.source = 5))

/-- R341 (Table 11.6), R44: FLUSH commits at once; FILL, COPY and CRC start over ranges of the user area or end with 0x852, run and
end DONE with their effect; one started while another runs is refused; ABORT leaves what is written.
The readings and choices of the model in it: log entry 1102. -/
def Obligations.HoistOperationsRunAndEnd : Prop :=
  (∀ (dt : Nat) (hp : Bool) (s : State), s.reach 7 = true → (s.ptr hp).closing = [] → (s.ptr (!hp)).closing = [] →
    (s.ptr (!hp)).gather = none →
    ((s.ptr hp).gather = none → ∃ t, exec (.flush dt) s = .next t ∧ t = { s.interlocked with clock := s.clock + dt }) ∧
    (∀ line l, (s.ptr hp).gather = some (line, l) → (∀ i, i < 8 → ∃ e ∈ l, e.1 = i) → (∀ e ∈ l, e.1 < 8) →
      (∀ i, i < 8 → s.hoistOk true (line * 8 + i) = true) →
      ∃ t, exec (.flush dt) s = .next t ∧ (t.ptr hp).gather = none ∧ LineWritten s t line (mergeWords (List.replicate 8 0) l) ∧
        RegsBut s t [R.HST_STATUS, R.LDC_WSEQ, R.LDC_STATUS] ∧
        t = { s.interlocked with clock := s.clock + dt, regs := t.regs, larder := t.larder })) ∧
  (∀ (dt : Nat) (s : State), s.reach 7 = true → ∀ c op, (c, op) ∈ [(Instr.fill dt, 2), (Instr.copy dt, 3), (Instr.crc dt, 4)] →
    ∀ src dst len, src = s.fld F.HST_SRC_ADDR → dst = s.fld F.HST_DST_ADDR → len = s.fld F.HST_LEN_ADDR →
    (s.larder.op = none → s.hoistOpOk op src dst len = true →
      ∃ t, exec c s = .next t ∧ t.opStat R.HST_OP_STAT = statBusy ∧ t.lastOp R.HST_OP_STAT = op ∧
        RegsBut s t [R.HST_OP_STAT] ∧
        t = { s.interlocked with
          clock := s.clock + dt, regs := t.regs
          larder := { s.larder with op := some ⟨op, src, dst, len, s.reg R.HST_VALUE⟩ } }) ∧
    (s.larder.op = none → len = 0 ∨ (op ≠ 2 ∧ s.variant.rbase < src + len) ∨ (op ≠ 4 ∧ s.variant.rbase < dst + len) ∨
        s.larderReady = false →
      ∃ t, exec c s = .next t ∧ t.opStat R.HST_OP_STAT = statErr ∧ t.fld F.HST_OP_STAT_ERR_CODE = 0x852 ∧
        RegsBut s t [R.HST_OP_STAT] ∧ t = { s.interlocked with
          clock := s.clock + dt, regs := t.regs
          fm := { s.fm with inbox := s.fm.inbox ++ [⟨0x852, 5, 0, none, s.clock + dt, false⟩] } }) ∧
    (s.larder.op ≠ none → ∃ t, exec c s = .next t ∧ t.flag F.HST_STATUS_CMD_REFUSED = true ∧ RegsBut s t [R.HST_STATUS] ∧
      t = { s.interlocked with clock := s.clock + dt, regs := t.regs })) ∧
  (∀ (dt words : Nat) (o : HoistOp) (s : State), s.reach 7 = true →
    (s.larder.op = some o → ∃ t, exec (.hstAbort dt words) s = .next t ∧ t.opStat R.HST_OP_STAT = statAborted ∧
      t.larder.op = none ∧ (words = 0 ∨ o.op = 4 → RegsBut s t [R.HST_OP_STAT] ∧
        t = { s.interlocked with clock := s.clock + dt, regs := t.regs, larder := { s.larder with op := none } })) ∧
    (s.larder.op = none → ∃ t, exec (.hstAbort dt words) s = .next t ∧
      (bitOf (s.opStat R.HST_OP_STAT) 1 = true → bitOf (t.opStat R.HST_OP_STAT) 3 = true ∧ RegsBut s t [R.HST_OP_STAT]) ∧
      (bitOf (s.opStat R.HST_OP_STAT) 1 = false → RegsBut s t []) ∧
      t = { s.interlocked with clock := s.clock + dt, regs := t.regs })) ∧
  (∀ (dt line : Nat) (o : HoistOp) (s : State), s.live = true → s.larder.op = some o → s.larder.hp.closing = [] →
    s.larder.lad.closing = [] → s.hoistOpOk o.op o.src o.dst o.len = true → o.len = 8 →
    (o.op = 2 → o.dst = line * 8 → ∃ t, exec (.hoistOpEnd dt []) s = .next t ∧ t.opStat R.HST_OP_STAT = statDone ∧
      t.larder.op = none ∧ LineWritten s t line (List.replicate 8 o.value) ∧
      RegsBut s t [R.HST_OP_STAT, R.LDC_WSEQ, R.LDC_STATUS] ∧
      t = { s.interlocked with clock := s.clock + dt, regs := t.regs, larder := t.larder }) ∧
    (∀ from_ ws, o.src = from_ * 8 → LineReads s from_ ws →
      (o.op = 3 → o.dst = line * 8 → ∃ t, exec (.hoistOpEnd dt []) s = .next t ∧ t.opStat R.HST_OP_STAT = statDone ∧
        t.larder.op = none ∧ LineWritten s t line ws ∧ RegsBut s t [R.HST_OP_STAT, R.LDC_WSEQ, R.LDC_STATUS] ∧
        t = { s.interlocked with clock := s.clock + dt, regs := t.regs, larder := t.larder }) ∧
      (o.op = 4 → ∃ t, exec (.hoistOpEnd dt []) s = .next t ∧ t.opStat R.HST_OP_STAT = statDone ∧
        t.reg R.HST_VALUE = BitVec.ofNat 36 (crc32Words ws) ∧ RegsBut s t [R.HST_OP_STAT, R.HST_VALUE] ∧
        t = { s.interlocked with clock := s.clock + dt, regs := t.regs, larder := { s.larder with op := none } }))) ∧
  (∀ (dt : Nat) (dist : List Disturb) (o : HoistOp) (s : State), s.live = true → s.larder.op = some o →
    s.larder.hp.closing = [] → s.larder.lad.closing = [] → s.hoistOpOk o.op o.src o.dst o.len = true →
    ∃ t, exec (.hoistOpEnd dt dist) s = .next t ∧ t.opStat R.HST_OP_STAT = statDone ∧ t.larder.op = none ∧
      RegsBut s t [R.HST_OP_STAT, R.HST_STATUS, R.HST_ERR_ADDR, R.HST_VALUE, R.LDC_STATUS, R.LDC_LAST_ERR, R.LDC_LAST_INFO,
        R.LDC_LAST_POS, R.LDC_SPARES, R.LDC_WSEQ, R.LDC_CORR_COUNT, R.LDC_UNCORR_COUNT] ∧
      t = { s.interlocked with clock := s.clock + dt, regs := t.regs, larder := t.larder, fm := t.fm, box := t.box })

/-- R345, R346, R348, R349, R363, R373: a good frame is learnt, forwarded and taken in; ARP answers and resolves, an echo request is
answered, ages lapse, and a port that comes up sends a gratuitous ARP.
The readings and choices of the model in it: log entries 1201, 1202. -/
def Obligations.SwitchForwardsAndAnswers : Prop :=
  (∀ (dt : Nat) (port : Fin 2) (leave : Nat) (f : Frame) (s : State), s.live = true →
    port.val ∈ s.ports → s.portUp port.val = true →
    (f.vlan = true ∨ f.body = .pause ∨ 1518 < f.bytes ∨ f.fcsOk = false → ∃ t, exec (.ethernetFrame dt port leave f) s = .next t ∧
      t = { s.interlocked with clock := s.clock + dt }) ∧
    (f.vlan = false → f.body ≠ .pause → f.bytes ≤ 1518 → f.fcsOk = true → ∀ (onward : Bool) (queued : Nat),
      onward = (decide (1 - port.val ∈ s.ports) && s.portUp (1 - port.val) && f.dstMac != s.myMac) →
      queued = ((s.ladder.fwd.getD (1 - port.val) []).filter (fun at_ => decide (s.clock + dt < at_))).length →
      ∃ t, exec (.ethernetFrame dt port leave f) s = .next t ∧
        t.ladder.fdb = ((f.srcMac, port.val, s.clock + dt) :: s.ladder.fdb.filter (fun e => e.1 ≠ f.srcMac)).take 64 ∧
        t.ladder.rx = s.ladder.rx ++ (if s.takesIn f then [(port.val, s.clock + dt, f)] else []) ∧
        (onward = false → t.ladder.sent = s.ladder.sent ∧ t.ladder.fwd = s.ladder.fwd) ∧
        (onward = true → queued < 32 → (∀ h m, f.body ≠ .ptp h m) →
          t.ladder.sent = s.ladder.sent ++ [⟨3, [1 - port.val], .forward f⟩]) ∧
        (∀ h m, onward = true → queued < 32 → f.body = .ptp h m → m.kind = .followUp →
          t.ladder.sent = s.ladder.sent ++
            [⟨3, [1 - port.val], .forward { f with body := .ptp h { m with corr := m.corr + s.residOf m.source m.seq true } }⟩]) ∧
        (∀ h m, onward = true → queued < 32 → f.body = .ptp h m → m.kind = .sync →
          t.residOf m.source m.seq true = leave / 4 * 8) ∧
        (onward = true → 32 ≤ queued → t.ladder.sent = s.ladder.sent ∧
          t.fld F.LAD_FWD_DROP_COUNT = min (s.fld F.LAD_FWD_DROP_COUNT + 1) 65535) ∧
        RegsBut s t (if onward && decide (32 ≤ queued) then [R.LAD_FWD_DROP] else []) ∧
        t = { s.interlocked with clock := s.clock + dt, regs := t.regs, ladder := t.ladder })) ∧
  (∀ (s : State), s.live = true →
    (∀ m p at_, s.ladder.fdb.getLast? = some (m, p, at_) → ∃ t, exec .macAge s = .next t ∧
      t.clock = max s.clock (at_ + 300 * second) ∧ (m, p, at_) ∉ t.ladder.fdb ∧ t = { s.interlocked with
        clock := t.clock, ladder := { s.ladder with
          fdb := s.ladder.fdb.filter (fun e => decide (t.clock < e.2.2 + 300 * second)) } }) ∧
    (∀ ip mac at_, s.ladder.arp.getLast? = some (ip, mac, at_) → ∃ t, exec .arpAge s = .next t ∧
      t.clock = max s.clock (at_ + 60 * second) ∧ (ip, mac, at_) ∉ t.ladder.arp ∧ t = { s.interlocked with
        clock := t.clock, ladder := { s.ladder with
          arp := s.ladder.arp.filter (fun e => decide (t.clock < e.2.2 + 60 * second)) } })) ∧
  (∀ (dt port at_ : Nat) (pre post : List (Nat × Nat × Frame)) (f : Frame) (s : State), s.ladder.rx = pre ++ (port, at_, f) :: post →
    (∀ request smac sip target, (∀ e ∈ pre, ∀ r m i g, e.2.2.body ≠ .arp r m i g) → f.body = .arp request smac sip target →
      (∀ b, bucketTake 200 200 (s.clock + dt) s.ladder.arpTokens = some b → ∃ t, exec (.arp dt) s = .next t ∧
        (sip ≠ s.myIp → t.ladder = { s.ladder with
            rx := pre ++ post, arpTokens := b
            arp := if target = s.myIp then ((sip, smac, s.clock + dt) :: s.ladder.arp.filter (fun e => e.1 ≠ sip)).take 32
              else s.ladder.arp
            sent := s.ladder.sent ++ (if target = s.myIp ∧ request then [⟨3, [port], .arp false smac sip⟩] else []) } ∧
          RegsBut s t [] ∧ t = { s.interlocked with clock := s.clock + dt, ladder := t.ladder }) ∧
        (sip = s.myIp → smac ≠ s.myMac → t.flag F.LAD_STATUS_ADDR_CONFLICT = true ∧ RegsBut s t [R.LAD_STATUS] ∧
          t = { s.interlocked with
            clock := s.clock + dt, regs := t.regs, ladder := { s.ladder with rx := pre ++ post, arpTokens := b }
            fm := { s.fm with inbox := s.fm.inbox ++ [⟨0x931, 0, 0, none, s.clock + dt, false⟩] } })) ∧
      (bucketTake 200 200 (s.clock + dt) s.ladder.arpTokens = none → ∃ t, exec (.arp dt) s = .next t ∧
        t.fld F.LAD_RX_RATE_DROP_COUNT = min (s.fld F.LAD_RX_RATE_DROP_COUNT + 1) 65535 ∧ RegsBut s t [R.LAD_RX_RATE_DROP] ∧
        t = { s.interlocked with clock := s.clock + dt, regs := t.regs, ladder := { s.ladder with rx := pre ++ post } })) ∧
    (∀ h echo data, (∀ e ∈ pre, ∀ h e' d, e.2.2.body ≠ .icmp h e' d) → f.body = .icmp h echo data →
      (∀ b, ({ s with clock := s.clock + dt } : State).quarantined h.src = false →
        bucketTake 2000 64 (s.clock + dt) s.ladder.shared = some b → ∃ t, exec (.icmpEcho dt) s = .next t ∧
          t = { s.interlocked with
            clock := s.clock + dt, ladder := { s.ladder with
              rx := pre ++ post, shared := b, sent := s.ladder.sent ++ [⟨3, s.portsOf h.src, .icmpReply h.src data⟩] } }) ∧
      (({ s with clock := s.clock + dt } : State).quarantined h.src = true → ∃ t, exec (.icmpEcho dt) s = .next t ∧
        t.fld F.LAD_QUAR_DROP_COUNT = min (s.fld F.LAD_QUAR_DROP_COUNT + 1) 65535 ∧ RegsBut s t [R.LAD_QUAR_DROP] ∧
        t = { s.interlocked with clock := s.clock + dt, regs := t.regs, ladder := { s.ladder with rx := pre ++ post } }))) ∧
  (∀ (dt : Nat) (port : Fin 2) (gig : Bool) (s : State), s.live = true →
    (port.val ∈ s.ports → s.portUp port.val = false → s.regBit R.CLK_POWER port.val = true →
      ∃ t, exec (.linkUp dt port gig) s = .next t ∧ t.portUp port.val = true ∧ t.regBit R.LAD_PORT_STAT (2 * port.val + 1) = gig ∧
        t.ladder.sent = s.ladder.sent ++ [⟨3, [port.val], .arp true (BitVec.allOnes 48) s.myIp⟩] ∧
        t.fm.inbox = s.fm.inbox ++ (if gig then [] else [⟨0x902, port.val, 0, none, s.clock + dt, false⟩]) ∧
        t.fld F.LAD_PTP_STAT_STATE = (if s.fld F.LAD_PTP_STAT_STATE = 0 then 1 else s.fld F.LAD_PTP_STAT_STATE) ∧
        RegsBut s t [R.LAD_PORT_STAT, R.LAD_PTP_STAT] ∧
        t = { s.interlocked with
          clock := s.clock + dt, regs := t.regs, fm := { s.fm with inbox := t.fm.inbox }
          ladder := { s.ladder with sent := t.ladder.sent, ptp := t.ladder.ptp } }) ∧
    (s.portUp port.val = true → ∃ t, exec (.linkLost dt port) s = .next t ∧ t.portUp port.val = false ∧
      t.regBit R.LAD_PORT_STAT (2 * port.val + 1) = false ∧ RegsBut s t [R.LAD_PORT_STAT] ∧
      t = { s.interlocked with
        clock := s.clock + dt, regs := t.regs
        fm := { s.fm with inbox := s.fm.inbox ++ [⟨0x901, port.val, 0, none, s.clock + dt, false⟩] } }))

/-- R351, R353 (Tables 12.8, 12.9): a Sync with its Follow_Up gives the offset and the map; 16 good ones lock the clock, two beyond 1 µs or
three intervals without one lose the lock with 0x911; the module follows a master, or is one, and a read latches PTP time.
The readings and choices of the model in it: log entries 1203, 1204. -/
def Obligations.PtpFollowsAndLocks : Prop :=
  (∀ (dt port at_ p2 t2 : Nat) (pre post : List (Nat × Nat × Frame)) (f g : Frame) (h h2 : IpHdr) (m x : PtpMsg) (r : ClockRank)
    (offset : Int) (s : State),
    s.ladder.rx = pre ++ (port, at_, f) :: post → (∀ e ∈ pre, ∀ h y, e.2.2.body = .ptp h y → y.kind ≠ .followUp) →
    f.body = .ptp h m → m.kind = .followUp → (p2, t2, g) ∈ pre ++ post → g.body = .ptp h2 x → x.kind = .sync → x.source = m.source →
    x.seq = m.seq → (∀ e ∈ pre ++ post, ∀ h y, e.2.2.body = .ptp h y → y.kind = .sync → y.source = m.source → e = (p2, t2, g)) →
    s.ladder.ptp.master = some (m.source, r) → s.fld F.LAD_PTP_STAT_STATE ≠ ptpMaster →
    offset = (s.ladder.ptp.map.at (t2 / 4 * 4) : Int) - (m.time + (m.corr + x.corr) + s.ladder.ptp.delay) →
    ∃ t, exec (.ptpSync dt) s = .next t ∧
      (-(2 ^ 35) ≤ offset → offset < 2 ^ 35 → (t.reg R.LAD_PTP_OFFSET).toInt = offset) ∧
      t.ladder.ptp.map = s.ladder.ptp.map.update (m.time + (m.corr + x.corr) + s.ladder.ptp.delay) (t2 / 4 * 4) ∧
      t.ladder.ptp.lastSync = s.clock + dt ∧ t.ladder.ptp.interval = second / 2 ^ x.log ∧
      t.ladder.ptp.reqAt = some (s.clock + dt) ∧ (∃ q ∈ t.ladder.sent, ∃ y, q.body = .ptp y ∧ y.kind = .delayReq ∧
        y.seq = t.ladder.ptp.reqSeq) ∧
      (s.ptpLocked = false → 200 < offset.natAbs → t.ptpLocked = false ∧ t.ladder.ptp.good = 0) ∧
      (s.ptpLocked = false → offset.natAbs ≤ 200 → s.ladder.ptp.good ≠ 15 → t.ptpLocked = false ∧
        t.ladder.ptp.good = s.ladder.ptp.good + 1) ∧
      (s.ptpLocked = false → offset.natAbs ≤ 200 → s.ladder.ptp.good = 15 → t.ptpLocked = true ∧
        t.flag F.LAD_PTP_STAT_LOCKED = true ∧ t.fld F.LAD_PTP_STAT_STATE = ptpSlave) ∧
      (s.ptpLocked = true → 1000 < offset.natAbs → s.ladder.ptp.bad = 1 → t.ptpLocked = false ∧
        t.flag F.LAD_PTP_STAT_LOCKED = false ∧ t.flag F.LAD_STATUS_LOCK_LOST = true ∧
        t.fm.inbox = s.fm.inbox ++ [⟨0x911, 0, 0, none, s.clock + dt, false⟩]) ∧
      (s.ptpLocked = true → 1000 < offset.natAbs → s.ladder.ptp.bad ≠ 1 → t.ptpLocked = true ∧
        t.ladder.ptp.bad = s.ladder.ptp.bad + 1) ∧
      (s.ptpLocked = true → offset.natAbs ≤ 1000 → t.ptpLocked = true ∧ t.ladder.ptp.bad = 0) ∧
      RegsBut s t [R.LAD_PTP_OFFSET, R.LAD_STATUS, R.LAD_PTP_STAT] ∧
      t = { s.interlocked with
        clock := s.clock + dt, regs := t.regs, fm := t.fm, ladder := t.ladder, planner := t.planner }) ∧
  (∀ s : State, s.live = true → s.ptpLocked = true → s.fld F.LAD_PTP_STAT_STATE = ptpSlave →
    ∃ t, exec .ptpSyncTimeout s = .next t ∧ t.clock = max s.clock (s.ladder.ptp.lastSync + 3 * s.ladder.ptp.interval) ∧
      t.ptpLocked = false ∧ t.flag F.LAD_PTP_STAT_LOCKED = false ∧ t.flag F.LAD_STATUS_LOCK_LOST = true ∧
      t.fld F.LAD_PTP_STAT_STATE = ptpUncalibrated ∧ RegsBut s t [R.LAD_STATUS, R.LAD_PTP_STAT] ∧
      t = { s.interlocked with
        clock := t.clock, regs := t.regs, ladder := { s.ladder with ptp := { s.ladder.ptp with good := 0, bad := 0 } }
        fm := { s.fm with inbox := s.fm.inbox ++ [⟨0x911, 0, 0, none, t.clock, false⟩] } }) ∧
  (∀ (dt port at_ : Nat) (pre post : List (Nat × Nat × Frame)) (f : Frame) (h : IpHdr) (m : PtpMsg) (s : State),
    s.ladder.rx = pre ++ (port, at_, f) :: post →
    (∀ e ∈ pre, ∀ h y, e.2.2.body = .ptp h y → y.kind = .sync ∨ y.kind = .followUp) → f.body = .ptp h m →
    (m.kind = .announce → s.ladder.ptp.master = none → s.ladderDef.ptpRole = 0 → s.fld F.LAD_PTP_STAT_STATE ≠ ptpMaster →
      s.fld F.LAD_PTP_STAT_STATE ≠ ptpSlave → ∃ t, exec (.ptpMessage dt) s = .next t ∧
        t.fld F.LAD_PTP_STAT_STATE = ptpUncalibrated ∧ RegsBut s t [R.LAD_PTP_STAT] ∧
        t = { s.interlocked with
          clock := s.clock + dt, regs := t.regs, ladder := { s.ladder with
            rx := pre ++ post, ptp := { s.ladder.ptp with
              master := some (m.source, m.master), lastAnnounce := s.clock + dt } } }) ∧
    (∀ t3, m.kind = .delayResp → s.ladder.ptp.reqAt = some t3 → m.answers = s.ptpId → m.seq = s.ladder.ptp.reqSeq →
      ∃ t, exec (.ptpMessage dt) s = .next t ∧ t = { s.interlocked with
        clock := s.clock + dt, ladder := { s.ladder with
          rx := pre ++ post, ptp := { s.ladder.ptp with
            reqAt := none
            delay := roundDiv (s.ladder.ptp.delay + ((m.time : Int) - m.corr - s.ladder.ptp.map.at (t3 / 4 * 4))) 2 } } }) ∧
    (m.kind = .delayReq → s.fld F.LAD_PTP_STAT_STATE = ptpMaster → ∃ t, exec (.ptpMessage dt) s = .next t ∧
      t = { s.interlocked with
        clock := s.clock + dt, ladder := { s.ladder with
          rx := pre ++ post, sent := s.ladder.sent ++ [⟨3, s.ports, .ptp ⟨.delayResp, s.ladderDef.ptpDomain, s.ptpId, m.seq,
            s.ladder.ptp.map.at (at_ / 4 * 4), m.corr, m.source, ⟨[]⟩, 3⟩⟩] } }) ∧
    (m.kind = .other → ∃ t, exec (.ptpMessage dt) s = .next t ∧
      t = { s.interlocked with clock := s.clock + dt, ladder := { s.ladder with rx := pre ++ post } })) ∧
  (∀ s : State, s.live = true → s.ladderDef.ptpRole = 1 →
    (s.fld F.LAD_PTP_STAT_STATE = ptpMaster → s.ladder.ptp.nextSync ≤ s.ladder.ptp.nextAnnounce →
      ∃ t, exec .ptpMasterSend s = .next t ∧ t.clock = max s.clock s.ladder.ptp.nextSync ∧
        t.ladder.ptp.nextSync = s.ladder.ptp.nextSync + 62500000 ∧
        (∃ a ∈ t.ladder.sent, a.queue = 0 ∧ ∃ y, a.body = .ptp y ∧ y.kind = .sync ∧ y.seq = (s.ladder.ptp.seq + 1) % 65536) ∧
        (∃ a ∈ t.ladder.sent, ∃ y, a.body = .ptp y ∧ y.kind = .followUp ∧ y.seq = (s.ladder.ptp.seq + 1) % 65536 ∧
          y.time = s.ladder.ptp.map.at (t.clock / 4 * 4)) ∧ RegsBut s t [] ∧
        t = { s.interlocked with clock := t.clock, ladder := { s.ladder with sent := t.ladder.sent, ptp := t.ladder.ptp } }) ∧
    (s.fld F.LAD_PTP_STAT_STATE ≠ 0 → s.fld F.LAD_PTP_STAT_STATE ≠ ptpMaster → ∃ t, exec .ptpMasterSend s = .next t ∧
      t.clock = max s.clock (s.ladder.ptp.lastAnnounce + 3 * second) ∧ t.ptpLocked = true ∧
      t.fld F.LAD_PTP_STAT_STATE = ptpMaster ∧ t.reg R.LAD_PTP_OFFSET = 0 ∧ t.ladder.ptp.master = none ∧
      (∃ a ∈ t.ladder.sent, ∃ y, a.body = .ptp y ∧ y.kind = .announce ∧ y.master.rank.take 3 = [128, 248, 0xFE]) ∧
      RegsBut s t [R.LAD_STATUS, R.LAD_PTP_STAT, R.LAD_PTP_OFFSET] ∧
      t = { s.interlocked with clock := t.clock, regs := t.regs, ladder := t.ladder, planner := t.planner })) ∧
  (∀ (dt : Nat) (req : Req) (ns : Nat) (s : State), s.reach 6 = true → ns = s.ladder.ptp.map.at (s.clock + dt) →
    ns / 1000000000 < 2 ^ 36 → ∃ t, exec (.ptpSecRead dt req) s = .next t ∧
      (t.reg R.LAD_PTP_SEC).toNat * 1000000000 + t.fld F.LAD_PTP_NS_NS = ns ∧ t.fld F.LAD_PTP_NS_NS < 1000000000 ∧
      RegsBut s t [R.LAD_PTP_SEC, R.LAD_PTP_NS] ∧ t = { s.interlocked with clock := s.clock + dt, regs := t.regs })

/-- R357, R358, R361, R362, R364, R365: the checks of a received frame in their order, each with its counter; an accepted frame goes to its
type or to the transaction queue, and 16 bad frames within 10 s quarantine their source.
The readings and choices of the model in it: log entries 1205, 1206. -/
def Obligations.FramesPassTheirChecks : Prop :=
  ∀ (dt port at_ : Nat) (pre post : List (Nat × Nat × Frame)) (f : Frame) (ip : IpHdr) (sport dport : BitVec 16) (sumOk : Bool)
    (payload : List Byte) (l : List Nat) (h : Header) (u s : State),
    s.ladder.rx = pre ++ (port, at_, f) :: post → (∀ e ∈ pre, ∀ i a b c d, e.2.2.body ≠ .udp i a b c d) →
    f.body = .udp ip sport dport sumOk payload → l = payload.map (fun b => b.toNat) → h = headerOf l →
    u = { s with clock := s.clock + dt } → (∀ i e, s.session i = some e → e.sent < 2 ^ 48 - 1) →
    (u.quarantined ip.src = true → ∃ t, exec (.ladderFrame dt) s = .next t ∧
      t.fld F.LAD_QUAR_DROP_COUNT = min (s.fld F.LAD_QUAR_DROP_COUNT + 1) 65535 ∧ RegsBut s t [R.LAD_QUAR_DROP] ∧
      t = { s.interlocked with clock := s.clock + dt, regs := t.regs, ladder := { s.ladder with rx := pre ++ post } }) ∧
    (u.quarantined ip.src = false → u.frameToken ip.src sport = none → ∃ t, exec (.ladderFrame dt) s = .next t ∧
      t.fld F.LAD_RX_RATE_DROP_COUNT = min (s.fld F.LAD_RX_RATE_DROP_COUNT + 1) 65535 ∧ RegsBut s t [R.LAD_RX_RATE_DROP] ∧
      t = { s.interlocked with clock := s.clock + dt, regs := t.regs, ladder := { s.ladder with rx := pre ++ post } }) ∧
    (u.quarantined ip.src = false → u.frameToken ip.src sport ≠ none →
      (l.length < 16 ∨ h.ver ≠ 1 ∨ lengthAgrees l h = false → ∃ t, exec (.ladderFrame dt) s = .next t ∧
        t.fld F.LAD_MALFORMED_COUNT = min (s.fld F.LAD_MALFORMED_COUNT + 1) 65535 ∧ RegsBut s t [R.LAD_MALFORMED] ∧
        t.ladder.rx = pre ++ post ∧ t = { s.interlocked with
          clock := s.clock + dt, regs := t.regs, ladder := { s.ladder with
            rx := t.ladder.rx, slots := t.ladder.slots, shared := t.ladder.shared } }) ∧
      (16 ≤ l.length → h.ver = 1 → lengthAgrees l h = true →
        ((h.auth = false ∧ h.typ ≠ 1) ∨ (h.auth = true ∧ ∀ e, (∃ i, s.session i = some e) ∨ e ∈ s.ladder.pendings →
            e.ip = ip.src → e.port = sport → tagOk e.keyIn ip.src ip.dst sport.toNat s.ladderDef.udpPort l = false) →
          ∀ bad, bad = s.ladder.bad.filter (fun e => decide (s.clock + dt < e.2 + 10 * second)) →
          ∃ t, exec (.ladderFrame dt) s = .next t ∧ t.fld F.LAD_AUTH_FAIL_COUNT = min (s.fld F.LAD_AUTH_FAIL_COUNT + 1) 65535 ∧
            t.ladder.msgs = s.ladder.msgs ∧ t.ladder.txns = s.ladder.txns ∧
            ((bad.filter (fun e => e.1 == ip.src)).length < 15 → t.ladder.bad = (ip.src, s.clock + dt) :: bad ∧
              RegsBut s t [R.LAD_AUTH_FAIL] ∧ t = { s.interlocked with
                clock := s.clock + dt, regs := t.regs, ladder := { s.ladder with
                  rx := pre ++ post, slots := t.ladder.slots, shared := t.ladder.shared, bad := t.ladder.bad } }) ∧
            (15 ≤ (bad.filter (fun e => e.1 == ip.src)).length → (∃ e ∈ t.ladder.quar, e.1 = ip.src ∧ e.2 = s.clock + dt +
                max 1 (s.fld F.LAD_CFG_QUAR_TIME) * second) ∧ t.flag F.LAD_STATUS_QUARANTINE = true ∧
              (∃ e ∈ t.fm.inbox, e.code = 0x922) ∧ ∀ i e, i < 16 → t.session i = some e → e.ip ≠ ip.src)) ∧
        (∀ i e body m, h.auth = true → h.resp = false → s.sessionOf ip.src sport = some i → s.session i = some e →
          tagOk e.keyIn ip.src ip.dst sport.toNat s.ladderDef.udpPort l = true → 0 < h.seq → h.seq < 2 ^ 48 - 1 →
          body = (l.drop 16).take (l.length - 32) →
          m = ⟨ip.src, sport, some i, h.typ, false, h.seq, h.arg, h.words, body, h.status, s.clock + dt⟩ →
          (h.seq ≤ e.high → 63 < e.high - h.seq ∨ bitOf e.seen (e.high - h.seq) = true → ∃ t, exec (.ladderFrame dt) s = .next t ∧
            t.fld F.LAD_REPLAY_COUNT = min (s.fld F.LAD_REPLAY_COUNT + 1) 65535 ∧ t.ladder.msgs = s.ladder.msgs ∧
            t.ladder.txns = s.ladder.txns) ∧
          (e.high < h.seq ∨ (e.high - h.seq ≤ 63 ∧ bitOf e.seen (e.high - h.seq) = false) →
            ∃ t, exec (.ladderFrame dt) s = .next t ∧ (∃ e', t.session i = some e' ∧ e'.high = max e.high h.seq ∧
              bitOf e'.seen (e'.high - h.seq) = true ∧ e'.heard = s.clock + dt ∧ e'.present = s.namedSlot i ∧
              e'.ip = e.ip ∧ e'.port = e.port ∧ e'.keyIn = e.keyIn ∧ e'.keyOut = e.keyOut ∧ e'.sent = e.sent) ∧
            (∀ j, j ≠ i → t.session j = s.session j) ∧
            (malformed h body = true → t.fld F.LAD_MALFORMED_COUNT = min (s.fld F.LAD_MALFORMED_COUNT + 1) 65535 ∧
              t.ladder.msgs = s.ladder.msgs ∧ t.ladder.txns = s.ladder.txns ∧ (answered h.typ = true → Responded s t m 1 false [])) ∧
            (malformed h body = false → RegsBut s t [] ∧
              (queuedType h.typ = false → t.ladder.msgs = s.ladder.msgs ++ [m] ∧ t.ladder.txns = s.ladder.txns) ∧
              (queuedType h.typ = true → t.ladder.msgs = s.ladder.msgs ∧
                (s.ladder.txns.length < 16 → t.ladder.txns = s.ladder.txns ++ [m]) ∧
                (16 ≤ s.ladder.txns.length → t.ladder.txns = s.ladder.txns ∧ Responded s t m 2 false []))) ∧
            t = { s.interlocked with clock := s.clock + dt, regs := t.regs, ladder := t.ladder })) ∧
        (∀ i e, h.auth = true → h.resp = false → s.sessionOf ip.src sport = none → s.ladder.pendings = [e] → e.ip = ip.src →
          e.port = sport → s.clock + dt < e.since + second → e.sent < 2 ^ 48 - 1 → e.high < h.seq → h.seq < 2 ^ 48 - 1 →
          tagOk e.keyIn ip.src ip.dst sport.toNat s.ladderDef.udpPort l = true → u.slotFor ip.src sport = some i →
          i < s.ladder.slots.length → ∃ t e', exec (.ladderFrame dt) s = .next t ∧ t.session i = some e' ∧ e'.keyIn = e.keyIn ∧
            e'.keyOut = e.keyOut ∧ e'.ip = e.ip ∧ e'.port = e.port ∧ e'.since = s.clock + dt ∧ e'.high = h.seq ∧
            t.ladder.pendings = [] ∧ t = { s.interlocked with clock := s.clock + dt, regs := t.regs, ladder := t.ladder }) ∧
        (∀ m, h.auth = false → h.typ = 1 → m = ⟨ip.src, sport, none, 1, h.resp, h.seq, h.arg, h.words, l.drop 16, h.status,
            s.clock + dt⟩ → malformed h (l.drop 16) = false → ∃ t, exec (.ladderFrame dt) s = .next t ∧
          t.ladder.msgs = s.ladder.msgs ++ [m] ∧ RegsBut s t [] ∧ t = { s.interlocked with
            clock := s.clock + dt, ladder := { s.ladder with
              rx := pre ++ post, slots := t.ladder.slots, shared := t.ladder.shared, msgs := t.ladder.msgs } })))

/-- R359, R361, R364, R370, R371 (Table 12.10): a DISCOVER opens a pending session or is answered FULL, the answer to the module's own opens
one, partners are asked and get heartbeats, and sessions, presence and quarantines lapse or end by command.
The readings and choices of the model in it: log entries 1205, 1206. -/
def Obligations.SessionsOpenAndEnd : Prop :=
  (∀ (dt : Nat) (pre post : List Msg) (m : Msg) (open_ : List Session) (u s : State), s.ladder.msgs = pre ++ m :: post →
    u = { s with clock := s.clock + dt } → open_ = s.ladder.pendings.filter (fun e => decide (s.clock + dt < e.since + second)) →
    m.typ = 1 →
    (m.resp = false → (∀ x ∈ pre, x.typ ≠ 1 ∨ x.resp = true) →
      (4 ≤ open_.length ∨ u.slotFor m.ip m.port = none → ∃ t, exec (.discover dt) s = .next t ∧ t.ladder.pendings = open_ ∧
        t.ladder.msgs = pre ++ post ∧ (∃ q ∈ t.ladder.sent, q.queue = 3 ∧
          q.body = .ladder m.ip m.port (frameBytes true false 1 m.seq 0 4 false 0 [])) ∧ RegsBut s t [] ∧
        t = { s.interlocked with clock := s.clock + dt, ladder := { s.ladder with
          pendings := open_, msgs := t.ladder.msgs, sent := t.ladder.sent } }) ∧
      (open_.length < 4 → u.slotFor m.ip m.port ≠ none → ∀ nr ws, nr = beBytes 16 (Config.nonce s.ladder.drawn).toNat →
        ws = packWords s.discoverWords → ∃ t e, exec (.discover dt) s = .next t ∧ t.ladder.pendings = open_ ++ [e] ∧
        e.ip = m.ip ∧ e.port = m.port ∧ e.since = s.clock + dt ∧ e.high = 0 ∧ e.sent = 0 ∧
        e.keyIn = s.sessionKey labelIr m.body nr ∧ e.keyOut = s.sessionKey labelRi m.body nr ∧ t.ladder.slots = s.ladder.slots ∧
        (∃ q ∈ t.ladder.sent, q.queue = 3 ∧ q.body = .ladder m.ip m.port
          (frameBytes true false 1 m.seq 4 0 false 0 (nr ++ ws ++ s.proof m.body nr ws))) ∧ RegsBut s t [] ∧
        t = { s.interlocked with clock := s.clock + dt, ladder := { s.ladder with
          pendings := t.ladder.pendings, msgs := pre ++ post, sent := t.ladder.sent, drawn := s.ladder.drawn + 1 } })) ∧
    (∀ i n ni nr ws, m.resp = true → (∀ x ∈ pre, x.typ ≠ 1 ∨ x.resp = false) → s.partnerSlot m.ip m.port = some i →
      s.ladder.asked.find? (fun a => decide (a.1 = i)) = some (i, n) → i < s.ladder.slots.length → ni = beBytes 16 n →
      nr = m.body.take 16 → ws = (m.body.drop 16).take 18 →
      (m.status = 0 → m.body.length = 50 → m.body.drop 34 = s.proof ni nr ws → ∃ t e, exec (.discoverResponse dt) s = .next t ∧
        t.session i = some e ∧ e.ip = m.ip ∧ e.port = m.port ∧ e.keyIn = s.sessionKey labelRi ni nr ∧
        e.keyOut = s.sessionKey labelIr ni nr ∧ e.sent = 1 ∧ (∀ j, j ≠ i → t.session j = s.session j) ∧
        t.ladder.asked = s.ladder.asked.filter (fun a => a.1 ≠ i) ∧
        (∃ q ∈ t.ladder.sent, q.queue = 1 ∧ ∃ bytes, q.body = .ladder m.ip m.port bytes ∧ bytes.getD 1 0 = 9) ∧ RegsBut s t [] ∧
        t = { s.interlocked with clock := s.clock + dt, ladder := t.ladder }) ∧
      (m.status ≠ 0 ∨ m.body.length ≠ 50 ∨ m.body.drop 34 ≠ s.proof ni nr ws → ∃ t, exec (.discoverResponse dt) s = .next t ∧
        t = { s.interlocked with clock := s.clock + dt, ladder := { s.ladder with msgs := pre ++ post } }))) ∧
  (∀ s : State, s.live = true → s.toAsk ≠ [] → ∃ t, exec .partnerDiscover s = .next t ∧
    t.clock = max s.clock s.ladder.askedAt ∧ t.ladder.askedAt = t.clock + second ∧ t.ladder.asked.map (·.1) = s.toAsk ∧
    (∀ i ∈ s.toAsk, ∃ ni seq, (i, beNat ni) ∈ t.ladder.asked ∧ ni.length = 16 ∧ ∃ q ∈ t.ladder.sent, q.body =
      .ladder (BitVec.ofNat 32 (s.ladderDef.partners.getD i (0, 0)).1) (BitVec.ofNat 16 (s.ladderDef.partners.getD i (0, 0)).2)
        (frameBytes false false 1 seq 0 0 false 0 ni)) ∧ RegsBut s t [] ∧
    t = { s.interlocked with clock := t.clock, ladder := { s.ladder with
      askedAt := t.ladder.askedAt, asked := t.ladder.asked, sent := t.ladder.sent, drawn := s.ladder.drawn + s.toAsk.length } }) ∧
  (∀ (e : Session) (rest : List Session) (s : State), s.ladder.pendings = e :: rest → ∃ t, exec .sessionExpiry s = .next t ∧
    t.clock = max s.clock (e.since + second) ∧ e ∉ t.ladder.pendings ∧ t = { s.interlocked with
      clock := t.clock, ladder := { s.ladder with
        pendings := s.ladder.pendings.filter (fun e => decide (t.clock < e.since + second)) } }) ∧
  (∀ s : State, s.namedValid ≠ [] → (∀ i e, s.session i = some e → e.sent < 2 ^ 48 - 2) → ∃ t, exec .heartbeat s = .next t ∧
    t.clock = max s.clock s.ladder.heartAt ∧ t.ladder.heartAt = t.clock + max 4 (s.fld F.LAD_CFG_PARTNER_TIMEOUT) * 500000 / 4 ∧
    (∀ i ∈ s.namedValid, ∀ e, s.session i = some e → t.session i = some { e with sent := e.sent + 1 } ∧
      ∃ q ∈ t.ladder.sent, q.queue = 1 ∧ ∃ bytes, q.body = .ladder e.ip e.port bytes ∧ bytes.getD 1 0 = 9) ∧
    (∀ i, i ∉ s.namedValid → t.session i = s.session i) ∧ RegsBut s t [] ∧
    t = { s.interlocked with clock := t.clock, ladder := t.ladder }) ∧
  (∀ (slot : Fin 16) (e : Session) (s : State), s.session slot.val = some e → e.present = true → s.planOn = false →
    ∃ t, exec (.partnerAbsent slot) s = .next t ∧ t.clock = max s.clock (e.heard + max 4 (s.fld F.LAD_CFG_PARTNER_TIMEOUT) * 500000) ∧
      t.session slot.val = some { e with present := false } ∧ (∀ j, j ≠ slot.val → t.session j = s.session j) ∧
      t.flag F.LAD_STATUS_PARTNER_LOST = true ∧ RegsBut s t [R.LAD_STATUS] ∧ t = { s.interlocked with
        clock := t.clock, regs := t.regs, ladder := { s.ladder with slots := t.ladder.slots }
        fm := { s.fm with inbox := s.fm.inbox ++ [⟨0x921, slot.val, 0, none, t.clock, false⟩] } }) ∧
  (∀ (e : BitVec 32 × Nat) (s : State), e ∈ s.ladder.quar → (∀ x ∈ s.ladder.quar, e.2 ≤ x.2) →
    ∃ t, exec .quarantineExpiry s = .next t ∧ t.clock = max s.clock e.2 ∧ e ∉ t.ladder.quar ∧ t = { s.interlocked with
      clock := t.clock, ladder := { s.ladder with quar := s.ladder.quar.filter (fun e => decide (t.clock < e.2)) } }) ∧
  (∀ (dt : Nat) (slot : Fin 16) (e : Session) (s : State), s.reach 6 = true → s.session slot.val = some e → s.planOn = false →
    ∃ t, exec (.endSession dt slot) s = .next t ∧ t.session slot.val = none ∧ (∀ j, j ≠ slot.val → t.session j = s.session j) ∧
      (e.present = false → t.fm = s.fm ∧ RegsBut s t []) ∧
      (e.present = true → t.fm = { s.fm with inbox := s.fm.inbox ++ [⟨0x921, slot.val, 0, none, s.clock + dt, false⟩] } ∧
        RegsBut s t [R.LAD_STATUS]) ∧
      t = { s.interlocked with
        clock := s.clock + dt, regs := t.regs, fm := t.fm, ladder := { s.ladder with slots := t.ladder.slots } }) ∧
  (∀ (dt : Nat) (s : State), s.reach 6 = true → ∃ t, exec (.clearQuar dt) s = .next t ∧
    t = { s.interlocked with clock := s.clock + dt, ladder := { s.ladder with quar := [] } })

/-- R359, R319, R368 to R370, R317: STATUS is answered with its 14 words, a STREAM record becomes a set-point of its axis or is rejected, a
SYNC_ARM is held for its sender, an event is acted on once and each of the module's own is sent three times.
The readings and choices of the model in it: log entries 1207, 1208, 90. -/
def Obligations.MessagesAct : Prop :=
  (∀ (dt : Nat) (pre post : List Msg) (m : Msg) (u s : State), s.ladder.msgs = pre ++ m :: post → m.resp = false →
    (∀ x ∈ pre, x.typ ≠ m.typ ∨ x.resp = true) → u = { s with clock := s.clock + dt } →
    (m.typ = 2 → ∃ t, exec (.status dt) s = .next t ∧ u.statusWords.length = 14 ∧ Responded s t m 0 false u.statusWords ∧
      RegsBut s t [] ∧ t = { s.interlocked with
        clock := s.clock + dt, ladder := { s.ladder with msgs := pre ++ post, sent := t.ladder.sent } }) ∧
    (m.typ = 7 → ∀ ws, ws = (unpackWords ((m.words + 1) / 2) m.body).take m.words →
      (s.ptpLocked = false ∨ (∃ r ∈ streamRecs (ws.drop 2), (s.axisRec r.1.val).any (fun a => decide (a.source = 2)) = false) →
        ∃ t, exec (.stream dt) s = .next t ∧ t.fld F.LAD_STREAM_REJECT_COUNT = min (s.fld F.LAD_STREAM_REJECT_COUNT + 1) 65535 ∧
          RegsBut s t [R.LAD_STREAM_REJECT] ∧ t = { s.interlocked with
            clock := s.clock + dt, regs := t.regs, ladder := { s.ladder with msgs := pre ++ post } }) ∧
      (∀ (n : AxisId) (p v at_ : Int), s.ptpLocked = true → streamRecs (ws.drop 2) = [(n, p, v)] →
        (s.axisRec n.val).any (fun a => decide (a.source = 2)) = true → u.instantAt (ws.getD 0 0) (ws.getD 1 0) = some at_ →
        (s.axisOn n = true → s.ladder.owners.getD n.val none = none ∨ s.ladder.owners.getD n.val none = some (m.ip, m.port)) →
        ∃ t, exec (.stream dt) s = .next t ∧
          (s.axisOn n = true → n.val < s.ladder.owners.length → t.ladder.owners.getD n.val none = some (m.ip, m.port)) ∧
          ((s.clock + dt : Nat) - 50000 ≤ at_ → RegsBut s t [] ∧
            t.planner = { s.planner with points := s.planner.points ++ [(n.val, at_.toNat, p, v)] }) ∧
          (at_ < ((s.clock + dt : Nat) : Int) - 50000 → t.planner = s.planner ∧ RegsBut s t [R.PLN_LATE_SP_COUNT] ∧
            t.fld F.PLN_LATE_SP_COUNT_COUNT = min (s.fld F.PLN_LATE_SP_COUNT_COUNT + 1) 65535) ∧
          t = { s.interlocked with
            clock := s.clock + dt, regs := t.regs, planner := t.planner
            ladder := { s.ladder with msgs := pre ++ post, owners := t.ladder.owners } })) ∧
    (∀ n ns w, m.typ = 8 → s.senderModule m = some n → w = ((unpackWords 2 m.body).getD 0 0).toNat →
      instantOf u.ptpNow ((unpackWords 2 m.body).getD 1 0) ((unpackWords 2 m.body).getD 2 0) = some ns →
      ∃ t, exec (.syncArm dt) s = .next t ∧ t.planner.held = ⟨n, w % 2 ^ 16, bitsOf w 19 16, bitsOf w 23 20, ns⟩ ::
        s.planner.held.filter (fun x => x.module ≠ n) ∧ (s.planner.wait ≠ .sync → t.planner.tgo = s.planner.tgo) ∧ RegsBut s t [] ∧
        t = { s.interlocked with
          clock := s.clock + dt, planner := { s.planner with held := t.planner.held, tgo := t.planner.tgo }
          ladder := { s.ladder with msgs := pre ++ post } }) ∧
    (∀ ws w, m.typ = 9 → ws = unpackWords ((m.words + 1) / 2) m.body → w = (ws.getD 0 0).toNat →
      ((∃ a ∈ s.ladder.acted, a.1 = m.ip ∧ a.2 = w % 2 ^ 16) → ∃ t, exec (.event dt) s = .next t ∧
        t = { s.interlocked with clock := s.clock + dt, ladder := { s.ladder with msgs := pre ++ post } }) ∧
      ((∀ a ∈ s.ladder.acted, a.1 = m.ip → a.2 ≠ w % 2 ^ 16) →
        (w / 2 ^ 32 = 0 → ∃ t, exec (.event dt) s = .next t ∧ t = { s.interlocked with
          clock := s.clock + dt, ladder := { s.ladder with
            msgs := pre ++ post, acted := ((m.ip, w % 2 ^ 16) :: s.ladder.acted).take 256 } }) ∧
        (∀ n ns, w / 2 ^ 32 = 1 ∨ w / 2 ^ 32 = 2 → s.senderModule m = some n →
          instantOf u.ptpNow (ws.getD 1 0) (ws.getD 2 0) = some ns → bitOf (bitsOf w 19 16) s.ladderDef.moduleNo = true →
          s.planOn = true → s.fld F.PLN_EXEC_GROUP ≠ 0 → ∃ t, exec (.event dt) s = .next t ∧ t = { s.interlocked with
            clock := s.clock + dt, planner := { s.planner with groupAt := some (ns, decide (w / 2 ^ 32 = 2)) }
            ladder := { s.ladder with
              msgs := pre ++ post, acted := ((m.ip, w % 2 ^ 16) :: s.ladder.acted).take 256 } })))) ∧
  (∀ (e : EventOut) (s : State), e ∈ s.ladder.events → (∀ x ∈ s.ladder.events, x ≠ e → e.next < x.next) →
    ∃ t, exec .eventRepeat s = .next t ∧ t.clock = max s.clock e.next ∧
      t.ladder.events = s.ladder.events.filterMap (fun x => if x = e then
        (if e.left ≤ 1 then none else some { x with left := x.left - 1, next := x.next + 50000 }) else some x) ∧
      (∀ n i p, n ∈ s.otherModules e.modules → s.slotOfModule n = some i → s.session i = some p → p.sent < 2 ^ 48 - 1 →
        t.session i = some { p with sent := p.sent + 1 } ∧ ∃ q ∈ t.ladder.sent, q.queue = 1 ∧ ∃ bytes,
          q.body = .ladder p.ip p.port bytes ∧ bytes.getD 1 0 = 9) ∧ RegsBut s t [] ∧
      t = { s.interlocked with
        clock := t.clock, ladder := { s.ladder with
          events := t.ladder.events, slots := t.ladder.slots, sent := t.ladder.sent } })

/-- R365 to R367, R372 (R36, R339, R340): the head of the transaction queue runs: a register transaction answers when its last word is done or
stalls, a Hoist message moves words through PTR_LAD or ends with RANGE, and STOCKTAKE_AT schedules a capture or is refused.
The readings and choices of the model in it: log entries 103, 202, 1208. -/
def Obligations.LadderTransactionsRun : Prop :=
  (∀ (dt : Nat) (m : Msg) (rest : List Msg) (x : Txn) (b : Access) (u s : State), s.live = true → s.ladder.txns = m :: rest →
    m.words = 1 → s.ladder.run = none → s.ladder.ending = none → u = { s with clock := s.clock + dt } →
    b = { s.access with freeAt := 3 * (s.clock + dt) + 10 } →
    (m.typ = 3 → s.busIdle = true → x = s.newTxn true (BitVec.ofNat 16 m.arg) 1 [] →
      (s.implemented x.blk = false → ∃ t, exec (.regRead dt) s = .next t ∧ t.ladder.txns = rest ∧ t.flag F.SYS_STATUS_UNMAPPED = true ∧
        Responded s t m 0 false [0] ∧ RegsBut s t [R.SYS_STATUS] ∧ t = { s.interlocked with
          clock := s.clock + dt, regs := t.regs, access := b
          ladder := { s.ladder with txns := rest, sent := t.ladder.sent } }) ∧
      (∀ r, s.implemented x.blk = true → blockDie x.blk = none → s.power ≠ .bare → ¬ (x.blk = 7 ∧ x.off < 256) →
        s.specAt x.blk x.off = some r → heldKind x.blk x.off r = false →
        x.blk * 512 + x.off ∉ [R.LAD_PTP_SEC, R.ENG_WIN_DATA] → ¬ (x.blk = 5 ∧ 16 ≤ x.off ∧ x.off % 8 = 2) →
        ∃ t, exec (.regRead dt) s = .next t ∧ t.ladder.txns = rest ∧ Responded s t m 0 false [u.shownLD x.blk x.off] ∧
          RegsBut s t [] ∧ t = { s.interlocked with
            clock := s.clock + dt, access := b, ladder := { s.ladder with txns := rest, sent := t.ladder.sent } }) ∧
      (s.implemented x.blk = true → (blockDie x.blk).isSome = true → s.power ≠ .bare → ∃ t, exec (.regRead dt) s = .next t ∧
        t = { s.interlocked with
          clock := s.clock + dt, access := b
          ladder := { s.ladder with run := some { x with wait := .link (s.clock + dt) } } })) ∧
    (∀ msk w, m.typ = 4 → s.busIdle = true → m.arg = (if msk then 0x20B else 0x00B) → (unpackWords 1 m.body).getD 0 0 = w →
      (unpackWords 1 m.body).length = 2 → ∀ es, ∃ t, exec (.regWrite dt es) s = .next t ∧
        t.reg R.SYS_SCRATCH = mergeWord (2 ^ 36 - 1) 0 msk (s.reg R.SYS_SCRATCH) w ∧ t.ladder.txns = rest ∧
        Responded s t m 0 false [] ∧ RegsBut s t [R.SYS_SCRATCH] ∧ t = { s.interlocked with
          clock := s.clock + dt, regs := t.regs, access := b, ladder := { s.ladder with txns := rest, sent := t.ladder.sent } }) ∧
    (∀ a, bitOf m.arg 31 = false → a = s.ptrAddr false → (s.ptr false).gather = none → (s.ptr false).closing = [] →
      (m.typ = 5 → s.hoistOk false a = true →
        (∀ ws, (s.ptr false).present.find? (fun e => e.1 == a / 8) = some (a / 8, some ws) →
          ∃ t, exec (.hoistRead dt) s = .next t ∧ t.ladder.txns = rest ∧ t.ptrAddr false = a + 1 ∧
            Responded s t m 0 false [ws.getD (a % 8) 0] ∧ RegsBut s t [R.HST_PTR_LAD, R.HST_STATUS, R.HST_WORD_COUNT] ∧
            t = { s.interlocked with
              clock := s.clock + dt, regs := t.regs, larder := t.larder
              ladder := { s.ladder with txns := rest, sent := t.ladder.sent } }) ∧
        ((s.ptr false).present.find? (fun e => e.1 == a / 8) = none → ∃ t y, exec (.hoistRead dt) s = .next t ∧
          t.ladder.run = some y ∧ y.left = 1 ∧ y.wait = .window ∧ t.ladder.sent = s.ladder.sent ∧ t.ladder.txns = s.ladder.txns ∧
          RegsBut s t [] ∧ t = { s.interlocked with clock := s.clock + dt, regs := t.regs, larder := t.larder, ladder := t.ladder })) ∧
      (∀ w, m.typ = 6 → s.hoistOk true a = true → (unpackWords 1 m.body).getD 0 0 = w → (unpackWords 1 m.body).length = 2 →
        ∃ t, exec (.hoistWrite dt) s = .next t ∧ t.ladder.txns = rest ∧ t.ptrAddr false = a + 1 ∧
          (a % 8 ≠ 7 → (t.ptr false).gather = some (a / 8, [(a % 8, w)])) ∧
          (a % 8 = 7 → (t.ptr false).closing = [(a / 8, [(a % 8, w)])]) ∧ t.larder.mem = s.larder.mem ∧
          Responded s t m 0 false [] ∧ RegsBut s t [R.HST_PTR_LAD, R.HST_STATUS, R.HST_WORD_COUNT] ∧
          t = { s.interlocked with
            clock := s.clock + dt, regs := t.regs, larder := t.larder
            ladder := { s.ladder with txns := rest, sent := t.ladder.sent } }) ∧
      (∀ (c : Instr), (c, m.typ) ∈ [(Instr.hoistRead dt, 5), (Instr.hoistWrite dt, 6)] → s.hoistOk (decide (m.typ = 6)) a = false →
        ∃ t, exec c s = .next t ∧ t.ladder.txns = rest ∧ t.ptrAddr false = a ∧ t.flag F.HST_STATUS_RANGE = true ∧
          Responded s t m 5 false [] ∧ t.fm = { s.fm with
            inbox := s.fm.inbox ++ [⟨0x851, 5, 0, none, s.clock + dt, false⟩] } ∧
          RegsBut s t [R.HST_STATUS, R.HST_ERR_ADDR] ∧ t = { s.interlocked with
            clock := s.clock + dt, regs := t.regs, fm := t.fm
            ladder := { s.ladder with txns := rest, sent := t.ladder.sent } }))) ∧
  (∀ (dt : Nat) (m : Msg) (rest : List Msg) (u s : State), s.ladder.txns = m :: rest → m.typ = 10 → s.ladder.ending = none →
    u = { s with clock := s.clock + dt } →
    (∀ at_, s.ptpLocked = true → u.instantAt ((unpackWords 1 m.body).getD 0 0) ((unpackWords 1 m.body).getD 1 0) = some at_ →
      (m.at_ : Int) + 4000 ≤ at_ → at_ ≤ (m.at_ : Int) + 50000000 → s.flag F.SYS_STOCK_DONE_PENDING = false →
      ∃ t, exec (.stocktakeAt dt) s = .next t ∧ t.ladder.txns = rest ∧ Responded s t m 0 false [s.stamp at_.toNat] ∧
        t.reg R.SYS_STOCK_AT = s.stamp at_.toNat ∧ t.flag F.SYS_STOCK_DONE_PENDING = true ∧
        t.stock = { s.stock with due := at_.toNat, caught := none } ∧ RegsBut s t [R.SYS_STOCK_AT, R.SYS_STOCK_DONE] ∧
        t = { s.interlocked with
          clock := s.clock + dt, regs := t.regs, stock := t.stock
          ladder := { s.ladder with txns := rest, run := none, sent := t.ladder.sent } }) ∧
    (s.ptpLocked = false ∨ s.flag F.SYS_STOCK_DONE_PENDING = true ∨ (∀ at_,
        u.instantAt ((unpackWords 1 m.body).getD 0 0) ((unpackWords 1 m.body).getD 1 0) = some at_ →
          at_ < (m.at_ : Int) + 4000 ∨ (m.at_ : Int) + 50000000 < at_) →
      ∃ t, exec (.stocktakeAt dt) s = .next t ∧ t.ladder.txns = rest ∧ Responded s t m 3 false [] ∧ t.stock = s.stock ∧
        RegsBut s t [R.SYS_STATUS] ∧ t = { s.interlocked with
          clock := s.clock + dt, regs := t.regs, ladder := { s.ladder with txns := rest, run := none, sent := t.ladder.sent } }))

/-- R377, R379 to R388 (Tables 13.2 to 13.5): HP accepts or rejects a command; a READ sends its words, their CRC and the trailer, a WRITE writes
its words and judges the data CRC, a PING sends the trailer; an early release and extra edges are told.
The readings and choices of the model in it: log entries 103, 1301, 1302. -/
def Obligations.HostPortTransacts : Prop :=
  (∀ (dt : Nat) (cmd : Word) (crc : BitVec 16) (edges : Nat) (b : Access) (u s : State), s.live = true → s.busIdle = true →
    s.hp.phase ≠ .running → u = { s with clock := s.clock + dt } → b = { s.access with freeAt := 3 * (s.clock + dt) + 10 } →
    (∀ c, c = Instr.hpPing dt cmd crc edges ∨ (∃ k, c = .hpRead dt cmd crc edges k) ∨
        (∃ d dc k es, c = .hpWrite dt cmd crc d dc edges k es) →
      (edges < 26 → ∃ t, exec c s = .next t ∧ t.hp.phase = .running ∧ t.hp.run = none ∧ t.hp.words = 0 ∧ RegsBut s t [] ∧
        t = { s.interlocked with clock := s.clock + dt, hp := t.hp }) ∧
      (∀ i, 26 ≤ edges → (i = 0 ∧ crc.toNat ≠ crc16Words [cmd]) ∨ (i = 1 ∧ crc.toNat = crc16Words [cmd] ∧ hpBad cmd = true) →
        ∃ t, exec c s = .next t ∧ t.hp.phase = .rejected ∧ t.hp.trailer = none ∧ t.regBit R.PRT_HP_STAT (4 + i) = true ∧
          t.fld F.PRT_CMD_ERR_COUNT_COUNT = min (s.fld F.PRT_CMD_ERR_COUNT_COUNT + 1) 65535 ∧
          (s.hp.told.getD i none = none → t.fm = { s.fm with
            inbox := s.fm.inbox ++ [⟨0xA01 + i, 8, 0, none, s.clock + dt, false⟩] }) ∧
          (∀ at_, s.hp.told.getD i none = some at_ → s.clock + dt < at_ + 50000000 → t.fm = s.fm) ∧
          RegsBut s t [R.PRT_HP_STAT, R.PRT_CMD_ERR_COUNT] ∧
          t = { s.interlocked with clock := s.clock + dt, regs := t.regs, fm := t.fm, hp := t.hp })) ∧
    (∀ (before : Nat), crc.toNat = crc16Words [cmd] → hpBad cmd = false →
      before = bit s.hp.isOver * 2 ^ 11 + bit s.hp.abort * 2 ^ 10 →
      (hpOpcode cmd = 3 → 54 ≤ edges → ∃ t, exec (.hpPing dt cmd crc edges) s = .next t ∧ t.hp.phase = .ended ∧
        t.hp.trailer = some (BitVec.ofNat 36 (0x6 * 2 ^ 32 + before)) ∧ t.hp.sent = [] ∧ t.hp.sentCrc = none ∧ RegsBut s t [] ∧
        t = { s.interlocked with clock := s.clock + dt, hp := t.hp }) ∧
      (∀ lanes x, lanes = hpLanes cmd → hpWords cmd = 1 → 54 + ceilDiv 36 lanes + 16 / lanes ≤ edges →
        (hpOpcode cmd = 1 → x = s.newTxn true (hpAddr cmd) 1 [] →
          (∀ r, s.implemented x.blk = true → blockDie x.blk = none → s.power ≠ .bare → ¬ (x.blk = 7 ∧ x.off < 256) →
            s.specAt x.blk x.off = some r → heldKind x.blk x.off r = false →
            x.blk * 512 + x.off ∉ [R.LAD_PTP_SEC, R.ENG_WIN_DATA] → ¬ (x.blk = 5 ∧ 16 ≤ x.off ∧ x.off % 8 = 2) → ∀ k,
            ∃ t, exec (.hpRead dt cmd crc edges k) s = .next t ∧ t.hp.phase = .ended ∧
              t.hp.sent = [u.shownLD x.blk x.off] ∧ t.hp.sentCrc = some (crc16Words [u.shownLD x.blk x.off]) ∧
              t.hp.trailer = some (BitVec.ofNat 36 (0x6 * 2 ^ 32 + before)) ∧ RegsBut s t [] ∧
              t = { s.interlocked with clock := s.clock + dt, access := b, hp := t.hp }) ∧
          (s.implemented x.blk = true → (blockDie x.blk).isSome = true → s.power ≠ .bare → ∃ t y,
            exec (.hpRead dt cmd crc edges false) s = .next t ∧ t.hp.phase = .running ∧ t.hp.run = some y ∧
              y.wait = .link (s.clock + dt) ∧ y.out = [] ∧ t.hp.sent = [] ∧ RegsBut s t [] ∧
              t = { s.interlocked with clock := s.clock + dt, access := b, hp := t.hp })) ∧
        (∀ msk w dcrc k es, hpOpcode cmd = 2 → hpAddr cmd = (if msk then 0x20B else 0x00B) → 56 + ceilDiv 36 lanes + 16 / lanes ≤ edges →
          ∃ t, exec (.hpWrite dt cmd crc [w] dcrc edges k es) s = .next t ∧
            t.reg R.SYS_SCRATCH = mergeWord (2 ^ 36 - 1) 0 msk (s.reg R.SYS_SCRATCH) w ∧ t.hp.phase = .ended ∧
            (dcrc.toNat = crc16Words [w] → t.hp.trailer = some (BitVec.ofNat 36 (0x6 * 2 ^ 32 + before)) ∧ t.fm = s.fm ∧
              RegsBut s t [R.SYS_SCRATCH]) ∧
            (dcrc.toNat ≠ crc16Words [w] → t.hp.trailer = some (BitVec.ofNat 36 (0x6 * 2 ^ 32 + before + 2 ^ 4)) ∧
              t.flag F.PRT_HP_STAT_DATA_CRC = true ∧
              t.fld F.PRT_DATA_CRC_COUNT_COUNT = min (s.fld F.PRT_DATA_CRC_COUNT_COUNT + 1) 65535 ∧
              (s.hp.told.getD 2 none = none → t.fm = { s.fm with
                inbox := s.fm.inbox ++ [⟨0xA03, 8, 0, none, s.clock + dt, false⟩] }) ∧
              RegsBut s t [R.SYS_SCRATCH, R.PRT_HP_STAT, R.PRT_DATA_CRC_COUNT]) ∧
            t = { s.interlocked with clock := s.clock + dt, regs := t.regs, fm := t.fm, access := b, hp := t.hp })))) ∧
  (∀ (dt : Nat) (es : List AccessEnv) (x : Txn) (s : State), s.live = true → s.busIdle = true → s.hp.run = some x → x.wait = .held → x.read = true →
    x.left = 1 → x.blk = 0 → x.off = 6 → s.hp.write = false →
    (({ s with clock := s.clock + dt } : State).stockHolds = false →
      ∃ t, exec (.hpWordReady dt es) s = .next t ∧ t.hp.run = none ∧
        t.hp.sent = (x.out ++ [s.reg R.SYS_TIME_H]).take ((s.hp.edges - 28) * s.hp.lanes / 36) ∧
        (hpAllEdges s.hp ≤ s.hp.edges → t.hp.phase = .ended ∧ t.hp.trailer.isSome = true) ∧ RegsBut s t [] ∧
        t = { s.interlocked with clock := s.clock + dt, hp := t.hp }) ∧
    (({ s with clock := s.clock + dt } : State).stockHolds = true → ∃ t y, exec (.hpWordReady dt es) s = .next t ∧ t.hp.run = some y ∧ y.wait = .held ∧ y.left = 1 ∧
      RegsBut s t [R.PRT_HP_STAT] ∧ t = { s.interlocked with clock := s.clock + dt, regs := t.regs, hp := t.hp })) ∧
  (∀ (dt : Nat) (s : State), s.live = true →
    (s.hp.phase = .rejected → ∃ t, exec (.selectRelease dt) s = .next t ∧
      t = { s.interlocked with clock := s.clock + dt, hp := { s.hp with phase := .idle } }) ∧
    (s.hp.phase ≠ .rejected → ∃ t, exec (.selectRelease dt) s = .next t ∧ t.hp.phase = .idle ∧ t.hp.abort = true ∧ t.hp.run = none ∧
      t.flag F.PRT_HP_STAT_FRAME_ABORT = true ∧
      t.fld F.PRT_ABORT_COUNT_COUNT = min (s.fld F.PRT_ABORT_COUNT_COUNT + 1) 65535 ∧
      (s.hp.told.getD 3 none = none → t.fm = { s.fm with
        inbox := s.fm.inbox ++ [⟨0xA04, 8, 0, none, s.clock + dt, false⟩] }) ∧
      (s.hp.phase ≠ .running ∨ s.hp.run = none → t.access = s.access) ∧
      (∀ x, s.hp.phase = .running → s.hp.run = some x →
        t.access = { s.access with open_ := s.access.open_ ++ [(.hp, { x with
          silent := x.read, left := if x.read then 1 else x.left })] }) ∧
      RegsBut s t [R.PRT_HP_STAT, R.PRT_ABORT_COUNT] ∧
      t = { s.interlocked with clock := s.clock + dt, regs := t.regs, fm := t.fm, hp := t.hp, access := t.access }) ∧
    (s.hp.phase = .ended → s.hp.isOver = false → ∃ t, exec (.overclock dt) s = .next t ∧ t.flag F.PRT_HP_STAT_OVERCLOCK = true ∧
      t.fld F.PRT_OVERCLOCK_COUNT_COUNT = min (s.fld F.PRT_OVERCLOCK_COUNT_COUNT + 1) 65535 ∧
      (s.hp.told.getD 4 none = none → t.fm = { s.fm with
        inbox := s.fm.inbox ++ [⟨0xA05, 8, 0, none, s.clock + dt, false⟩] }) ∧
      RegsBut s t [R.PRT_HP_STAT, R.PRT_OVERCLOCK_COUNT] ∧
      t = { s.interlocked with
        clock := s.clock + dt, regs := t.regs, fm := t.fm, hp := { s.hp with isOver := true, told := t.hp.told } }))

/-- R403 to R406, R409, R411, R412, R414: a step moves COUNT by one and TARGET by TICKS_PER_STEP while the axis takes targets, an enable edge issues
ARM or DISARM, an open pair stops counting, and a speed input is timed and calibrated.
The readings and choices of the model in it: log entries 1401, 1402, 1403. -/
def Obligations.HatchCountsEnablesAndCalibrates : Prop :=
  (∀ (dt : Nat) (c n : AxisId) (step dir : Bool) (held : Nat) (r : HtRec) (old : StepChan) (d : Int) (s : State), s.reach 0xc = true →
    s.flag F.CLK_POWER_HATCH_EN = true → s.htRec c = some r → r.used = true → s.htAxis c = some n → s.pairOpen c = false →
    old = s.hatch.steps[c] →
    (held < 4 * 2 ^ r.filter → ∃ t, exec (.stepEdge dt c step dir held) s = .next t ∧
      t = { s.interlocked with clock := s.clock + dt }) ∧
    (4 * 2 ^ r.filter ≤ held →
    (r.mode = 0 → (step = false ∨ old.a = true) → ∃ t, exec (.stepEdge dt c step dir held) s = .next t ∧ RegsBut s t [] ∧
      t = { s.interlocked with clock := s.clock + dt, hatch := { s.hatch with
        steps := s.hatch.steps.set c.val { old with a := step, b := dir } } }) ∧
    (r.mode = 0 → step = true → old.a = false → d = (if old.b != s.flag (F.HAT_HT_CFG_DIR_INV c) then 1 else -1) →
      (s.axisSt n = stRunning → ∃ t, exec (.stepEdge dt c step dir held) s = .next t ∧
        t.reg (R.HAT_HT_COUNT c) = s.reg (R.HAT_HT_COUNT c) + BitVec.ofInt 36 d ∧
        t.reg (R.HAT_HT_TARGET c) = s.reg (R.HAT_HT_TARGET c) + BitVec.ofInt 36 (d * r.ticksPerStep) ∧
        (dir ≠ old.b → t.fld F.HAT_DIR_RACE_COUNT_COUNT = min (s.fld F.HAT_DIR_RACE_COUNT_COUNT + 1) 65535) ∧
        (dir = old.b → t.reg R.HAT_DIR_RACE_COUNT = s.reg R.HAT_DIR_RACE_COUNT) ∧
        RegsBut s t [R.HAT_HT_COUNT c, R.HAT_HT_TARGET c, R.AX_EVENTS n, R.HAT_DIR_RACE_COUNT] ∧
        t = { s.interlocked with
          clock := s.clock + dt, regs := t.regs, hatch := { s.hatch with
            steps := s.hatch.steps.set c.val { old with a := step, b := dir } } }) ∧
      (s.axisSt n = stDisabled → ∃ t, exec (.stepEdge dt c step dir held) s = .next t ∧
        t.reg (R.HAT_HT_COUNT c) = s.reg (R.HAT_HT_COUNT c) + BitVec.ofInt 36 d ∧
        t.fld F.HAT_LOST_COUNT_COUNT = min (s.fld F.HAT_LOST_COUNT_COUNT + 1) 65535 ∧
        RegsBut s t [R.HAT_HT_COUNT c, R.AX_EVENTS n, R.HAT_DIR_RACE_COUNT, R.HAT_LOST_COUNT] ∧
        t = { s.interlocked with
          clock := s.clock + dt, regs := t.regs, hatch := { s.hatch with
            steps := s.hatch.steps.set c.val { old with a := step, b := dir } } })) ∧
    (r.mode = 1 → s.axisSt n = stRunning → step = true → dir = true → old.a = false → old.b = false →
      ∃ t, exec (.stepEdge dt c step dir held) s = .next t ∧ t.reg (R.HAT_HT_COUNT c) = s.reg (R.HAT_HT_COUNT c) ∧
        t.reg (R.HAT_HT_TARGET c) = s.reg (R.HAT_HT_TARGET c) ∧
        t.fld F.HAT_COLLIDE_COUNT_COUNT = min (s.fld F.HAT_COLLIDE_COUNT_COUNT + 1) 65535) ∧
    (2 ≤ r.mode → step ≠ old.a → dir ≠ old.b → ∃ t, exec (.stepEdge dt c step dir held) s = .next t ∧
      t.flag F.HAT_STATUS_TRANS_SEEN = true ∧ RegsBut s t [R.HAT_STATUS] ∧
      t.fm = { s.fm with inbox := s.fm.inbox ++ [⟨0xA23, c.val, 0, some n.val, s.clock + dt, false⟩] }) ∧
    (2 ≤ r.mode → step ≠ old.a → dir = old.b → s.axisSt n = stRunning →
      d = (if (step == dir) == s.flag (F.HAT_HT_CFG_DIR_INV c) then -1 else 1) → ∃ t, exec (.stepEdge dt c step dir held) s = .next t ∧
        t.reg (R.HAT_HT_COUNT c) = s.reg (R.HAT_HT_COUNT c) + BitVec.ofInt 36 d ∧
        t.reg (R.HAT_HT_TARGET c) = s.reg (R.HAT_HT_TARGET c) + BitVec.ofInt 36 (d * r.ticksPerStep)))) ∧
  (∀ (dt : Nat) (c : AxisId) (high was now : Bool) (v s : State), s.reach 0xc = true →
    was = s.enaActive c (s.hatch.steps[c]).ena → now = s.enaActive c high →
    v = ({ s with clock := s.clock + dt } : State).setRegBit R.HAT_STATUS (28 + c.val) now →
    ∀ w : State, w = { v with hatch := { s.hatch with steps := s.hatch.steps.set c.val { s.hatch.steps[c] with ena := high } } } →
    (now = was ∨ s.enaAxis c = none → ∃ t, exec (.enaEdge dt c high) s = .next t ∧ t.regBit R.HAT_STATUS (28 + c.val) = now ∧
      RegsBut s t [R.HAT_STATUS] ∧ t = { w.interlocked with pending := s.pending }) ∧
    (∀ n, now ≠ was → s.enaAxis c = some n →
      (now = true → s.axisSt n = stDisabled → exec (.enaEdge dt c high) s = exec (.arm 0 n) w) ∧
      (now = false → s.axisOn n = true → exec (.enaEdge dt c high) s = exec (.disarm 0 n) w))) ∧
  (∀ (dt : Nat) (c n : AxisId) (s : State), s.reach 0xc = true →
    (s.htAxis c = some n → s.flag F.CLK_POWER_HATCH_EN = true → s.pairOpen c = false → ∃ t, exec (.hatchPairOpen dt c) s = .next t ∧
      t.pairOpen c = true ∧ t.flag F.HAT_STATUS_OPEN_SEEN = true ∧
      (∀ k r, s.htRec k = some r → r.readyUsed = true → r.axis = n.val → t.regBit R.HAT_STATUS (8 + k.val) = false) ∧
      RegsBut s t [R.HAT_STATUS] ∧ t = { s.interlocked with
        clock := s.clock + dt, regs := t.regs
        fm := { s.fm with inbox := s.fm.inbox ++ [⟨0xA21, c.val, 0, some n.val, s.clock + dt, false⟩] } }) ∧
    (∀ step dir, s.pairOpen c = true → ∃ t, exec (.hatchPairValid dt c step dir) s = .next t ∧ t.pairOpen c = false ∧
      RegsBut s t [R.HAT_STATUS] ∧ t = { s.interlocked with
        clock := s.clock + dt, regs := t.regs, hatch := { s.hatch with
          steps := s.hatch.steps.set c.val { s.hatch.steps[c] with a := step, b := dir } } })) ∧
  (∀ (dt : Nat) (i : Fin 4) (s : State), s.reach 0xc = true →
    (s.opBusy R.HAT_OP_STAT = false → s.calZeroOk i = true → ∃ t, exec (.cmdaCalZero dt i) s = .next t ∧
      t.opStat R.HAT_OP_STAT = statBusy ∧ t.lastOp R.HAT_OP_STAT = 1 ∧ RegsBut s t [R.HAT_OP_STAT] ∧
      t = { s.interlocked with
        clock := s.clock + dt, regs := t.regs, hatch := { s.hatch with cal := some (i.val, s.clock + dt) } }) ∧
    (s.opBusy R.HAT_OP_STAT = true ∨ s.calZeroOk i = false → ∃ t, exec (.cmdaCalZero dt i) s = .next t ∧
      t.flag F.HAT_STATUS_CMD_REFUSED = true ∧ RegsBut s t [R.HAT_STATUS] ∧
      t = { s.interlocked with clock := s.clock + dt, regs := t.regs }) ∧
    (s.opBusy R.HAT_OP_STAT = true → ∃ t, exec (.hatAbort dt) s = .next t ∧ t.opStat R.HAT_OP_STAT = statAborted ∧
      RegsBut s t [R.HAT_OP_STAT] ∧
      t = { s.interlocked with clock := s.clock + dt, regs := t.regs, hatch := { s.hatch with cal := none } }) ∧
    (∀ (sum : Int) (at_ : Nat), s.hatch.cal = some (i.val, at_) → s.opBusy R.HAT_OP_STAT = true → -33554432 ≤ sum → sum ≤ 33553919 →
      ∃ t, exec (.cmdaCalEnd dt sum) s = .next t ∧ t.clock = max (s.clock + dt) (at_ + 1023 * 6250) ∧
        signed 16 (t.fld (F.HAT_CMDA_CFG_OFFSET i)) = (sum + 512) / 1024 ∧
        t.opStat R.HAT_OP_STAT = statDone ∧ RegsBut s t [R.HAT_OP_STAT, R.HAT_CMDA_CFG i] ∧
        t = { s.interlocked with clock := t.clock, regs := t.regs, hatch := { s.hatch with cal := none } }) ∧
    (∀ (high k : Nat), s.cmdaKind i = some k → k ≠ 0 → ∃ t, exec (.cmdaEdge dt i high) s = .next t ∧
      (t.hatch.cmds[i]).riseAt = some (s.clock + dt) ∧
      (∀ at_, (s.hatch.cmds[i]).riseAt = some at_ →
        (t.hatch.cmds[i]).period = some (min high (s.clock + dt - at_), s.clock + dt - at_)) ∧
      ((s.hatch.cmds[i]).riseAt = none → (t.hatch.cmds[i]).period = (s.hatch.cmds[i]).period) ∧
      (∀ j : Fin 4, j ≠ i → t.hatch.cmds[j] = s.hatch.cmds[j]) ∧ RegsBut s t [] ∧
      t = { s.interlocked with clock := s.clock + dt, hatch := { s.hatch with cmds := t.hatch.cmds } }))
end

