-- ==== Sys2Proof/Laws/Cells.lean ====
section
/-! SUPPORT. Sparse storage: a write is read back, every other key reads as before, and every operation keeps the
canonical form. The Larder's memory is one such store. -/

namespace Sys2Proof.Machine

open Sys2Proof

variable {α : Type} {d : Nat → α} {m : Cells α} {j k : Nat} {v : α}

theorem Cells.read_erase_ne (h : j ≠ k) : Cells.read d (Cells.erase m k) j = Cells.read d m j := by
  induction m with
  | nil => rfl
  | cons e t ih =>
    obtain ⟨i, w⟩ := e
    simp only [Cells.erase]
    split
    · subst_vars; rw [ih]; simp [Cells.read, h]
    · simp only [Cells.read, ih]

theorem Cells.read_erase_self : Cells.read d (Cells.erase m k) k = d k := by
  induction m with
  | nil => rfl
  | cons e t ih =>
    obtain ⟨i, w⟩ := e
    simp only [Cells.erase]
    split
    · exact ih
    · simp_all [Cells.read]

theorem Cells.read_insert_ne (h : j ≠ k) : Cells.read d (Cells.insert k v m) j = Cells.read d m j := by
  induction m with
  | nil => simp [Cells.insert, Cells.read, h]
  | cons e t ih =>
    obtain ⟨i, w⟩ := e
    simp only [Cells.insert]
    split
    · simp [Cells.read, h]
    · simp only [Cells.read, ih]

theorem Cells.read_insert_self (h : ∀ e ∈ m, e.1 ≠ k) : Cells.read d (Cells.insert k v m) k = v := by
  induction m with
  | nil => simp [Cells.insert, Cells.read]
  | cons e t ih =>
    obtain ⟨i, w⟩ := e
    have hi : k ≠ i := fun hk => h (i, w) (by simp) hk.symm
    simp only [Cells.insert]
    split
    · simp [Cells.read]
    · simp only [Cells.read, hi, if_false]
      exact ih (fun e he => h e (by simp [he]))

theorem Cells.erase_keys : ∀ e ∈ Cells.erase m k, e.1 ≠ k := by
  induction m with
  | nil => simp [Cells.erase]
  | cons e t ih =>
    obtain ⟨i, w⟩ := e
    simp only [Cells.erase]
    split
    · exact ih
    · rename_i h
      intro e he
      rcases List.mem_cons.mp he with rfl | he
      · exact fun hk => h hk.symm
      · exact ih e he

theorem Cells.erase_sub : ∀ e ∈ Cells.erase m k, e ∈ m := by
  induction m with
  | nil => simp [Cells.erase]
  | cons e t ih =>
    obtain ⟨i, w⟩ := e
    simp only [Cells.erase]
    split
    · exact fun e he => List.mem_cons_of_mem _ (ih e he)
    · intro e he
      rcases List.mem_cons.mp he with rfl | he
      · simp
      · exact List.mem_cons_of_mem _ (ih e he)

theorem Cells.insert_mem : ∀ e ∈ Cells.insert k v m, e = (k, v) ∨ e ∈ m := by
  induction m with
  | nil => simp [Cells.insert]
  | cons e t ih =>
    obtain ⟨i, w⟩ := e
    simp only [Cells.insert]
    split
    · intro e he; simpa using he
    · intro e he
      rcases List.mem_cons.mp he with rfl | he
      · simp
      · rcases ih e he with rfl | h
        · simp
        · exact Or.inr (List.mem_cons_of_mem _ h)

/-- Cleared keys read as unlisted. -/
theorem Cells.read_clear {lo hi : Nat} :
    Cells.read d (Cells.clear m lo hi) k = if lo ≤ k ∧ k < hi then d k else Cells.read d m k := by
  induction m with
  | nil => simp [Cells.clear, Cells.read]
  | cons e t ih =>
    obtain ⟨i, w⟩ := e
    simp only [Cells.clear] at ih ⊢
    rw [List.filter_cons]
    by_cases hi' : lo ≤ i ∧ i < hi
    · have hf : (decide (i < lo) || decide (hi ≤ i)) = false := by simp; omega
      simp only [hf, Bool.false_eq_true, if_false]
      rw [ih]
      by_cases hk : k = i
      · subst hk; simp [hi']
      · simp [Cells.read, hk]
    · have hf : (decide (i < lo) || decide (hi ≤ i)) = true := by simp; omega
      simp only [hf, if_true]
      by_cases hk : k = i
      · subst hk; simp [Cells.read, hi']
      · simp only [Cells.read, hk, if_false]; exact ih

variable [DecidableEq α]

/-- A write is read back. -/
theorem Cells.read_write_self : Cells.read d (Cells.write d m k v) k = v := by
  unfold Cells.write
  split
  · rename_i h; rw [Cells.read_erase_self, h]
  · exact Cells.read_insert_self Cells.erase_keys

/-- A write leaves every other key alone. -/
theorem Cells.read_write_ne (h : j ≠ k) : Cells.read d (Cells.write d m k v) j = Cells.read d m j := by
  unfold Cells.write
  split
  · exact Cells.read_erase_ne h
  · rw [Cells.read_insert_ne h, Cells.read_erase_ne h]

theorem Cells.read_write : Cells.read d (Cells.write d m k v) j = if j = k then v else Cells.read d m j := by
  split
  · subst_vars; exact Cells.read_write_self
  · exact Cells.read_write_ne ‹_›

/-! ### The canonical form -/

theorem Cells.wf_cons {e : Nat × α} {t : Cells α} :
    Cells.wf d (e :: t) = (decide (e.2 ≠ d e.1) && t.all (fun f => decide (e.1 < f.1)) && Cells.wf d t) := by
  induction t generalizing e with
  | nil => simp [Cells.wf]
  | cons f t ih =>
    have h := ih (e := f)
    simp only [Cells.wf, List.all_cons]
    rw [h]
    by_cases hw : Cells.wf d t = true
    · by_cases h1 : e.1 < f.1
      · by_cases h2 : t.all (fun g => decide (f.1 < g.1)) = true
        · have h3 : t.all (fun g => decide (e.1 < g.1)) = true := by
            simp only [List.all_eq_true, decide_eq_true_eq] at h2 ⊢
            exact fun g hg => Nat.lt_trans h1 (h2 g hg)
          simp [hw, h1, h2, h3]
        · simp only [Bool.not_eq_true] at h2; simp [h2]
      · simp [h1]
    · simp only [Bool.not_eq_true] at hw; simp [hw]

theorem Cells.wf_erase (h : Cells.wf d m) : Cells.wf d (Cells.erase m k) := by
  induction m with
  | nil => simp [Cells.erase, Cells.wf]
  | cons e t ih =>
    obtain ⟨i, w⟩ := e
    rw [Cells.wf_cons] at h
    simp only [Bool.and_eq_true] at h
    obtain ⟨⟨h1, h2⟩, h3⟩ := h
    simp only [Cells.erase]
    split
    · exact ih h3
    · rw [Cells.wf_cons]
      simp only [Bool.and_eq_true]
      refine ⟨⟨h1, ?_⟩, ih h3⟩
      rw [List.all_eq_true] at h2 ⊢
      exact fun f hf => h2 f (Cells.erase_sub f hf)

theorem Cells.wf_insert (h : Cells.wf d m) (hv : v ≠ d k) (hk : ∀ e ∈ m, e.1 ≠ k) : Cells.wf d (Cells.insert k v m) := by
  induction m with
  | nil => simp [Cells.insert, Cells.wf, hv]
  | cons e t ih =>
    obtain ⟨i, w⟩ := e
    have hi : i ≠ k := hk (i, w) (by simp)
    have h' := h
    rw [Cells.wf_cons] at h
    simp only [Bool.and_eq_true] at h
    obtain ⟨⟨h1, h2⟩, h3⟩ := h
    simp only [Cells.insert]
    split
    · rename_i hlt
      rw [Cells.wf_cons]
      simp only [Bool.and_eq_true, List.all_cons, decide_eq_true_eq]
      rw [List.all_eq_true] at h2
      refine ⟨⟨hv, hlt, ?_⟩, h'⟩
      rw [List.all_eq_true]
      intro f hf
      have := h2 f hf
      simp only [decide_eq_true_eq] at this ⊢
      omega
    · rename_i hge
      rw [Cells.wf_cons]
      simp only [Bool.and_eq_true]
      refine ⟨⟨h1, ?_⟩, ih h3 (fun e he => hk e (by simp [he]))⟩
      rw [List.all_eq_true] at h2 ⊢
      intro f hf
      rcases Cells.insert_mem f hf with rfl | hf
      · simp only [decide_eq_true_eq]; omega
      · exact h2 f hf

/-- A write keeps the canonical form. -/
theorem Cells.wf_write (h : Cells.wf d m) : Cells.wf d (Cells.write d m k v) := by
  unfold Cells.write
  split
  · exact Cells.wf_erase h
  · exact Cells.wf_insert (Cells.wf_erase h) ‹_› Cells.erase_keys

theorem Cells.wf_filter {p : Nat × α → Bool} (h : Cells.wf d m) : Cells.wf d (m.filter p) := by
  induction m with
  | nil => simp [Cells.wf]
  | cons e t ih =>
    rw [Cells.wf_cons] at h
    simp only [Bool.and_eq_true] at h
    obtain ⟨⟨h1, h2⟩, h3⟩ := h
    rw [List.filter_cons]
    split
    · rw [Cells.wf_cons]
      simp only [Bool.and_eq_true]
      refine ⟨⟨h1, ?_⟩, ih h3⟩
      rw [List.all_eq_true] at h2 ⊢
      exact fun f hf => h2 f ((List.mem_filter.mp hf).1)
    · exact ih h3

/-- Clearing a range of keys keeps the canonical form. -/
theorem Cells.wf_clear {lo hi : Nat} (h : Cells.wf d m) : Cells.wf d (Cells.clear m lo hi) := Cells.wf_filter h

/-! ### The Larder's memory -/

/-- A byte written is read back; every other byte reads as before. -/
theorem Memory.read_write {m : Cells Byte} {b : Byte} :
    Memory.read (Memory.write m k b) j = if j = k then b else Memory.read m j := Cells.read_write

/-- A byte write keeps the canonical form. -/
theorem Memory.wf_write {m : Cells Byte} {b : Byte} (h : Memory.wf m) : Memory.wf (Memory.write m k b) := Cells.wf_write h

/-- A run of bytes keeps the canonical form. -/
theorem Memory.wf_writeFrom {m : Cells Byte} {p i : Nat} {l : List Nat} (h : Memory.wf m) :
    Memory.wf (Memory.writeFrom m p i l) := by
  induction l generalizing m i with
  | nil => exact h
  | cons b t ih => exact ih (Memory.wf_write h)

/-- A run of bytes leaves every byte outside it alone. -/
theorem Memory.read_writeFrom_ne {m : Cells Byte} {p i : Nat} {l : List Nat}
    (h : j < 48 * p + i ∨ 48 * p + i + l.length ≤ j) : Memory.read (Memory.writeFrom m p i l) j = Memory.read m j := by
  induction l generalizing m i with
  | nil => rfl
  | cons b t ih =>
    simp only [List.length_cons] at h
    rw [Memory.writeFrom, ih (by omega), Memory.read_write]
    simp; omega

end Sys2Proof.Machine
end

