-- ==== Sys2Proof/Laws/State.lean ====
section
/-! SUPPORT. What each named update of the state leaves in each of its fields: one lemma per field and update, all true
by unfolding. -/

namespace Sys2Proof.Machine

open Sys2Proof

variable (s : State)

/-! ### Equality -/

/-- Two states are the same when each of their fields is. -/
theorem State.same {a b : State}
    (h_variant : a.variant = b.variant)
    (h_power : a.power = b.power)
    (h_clock : a.clock = b.clock)
    (h_tsBase : a.tsBase = b.tsBase)
    (h_frame : a.frame = b.frame)
    (h_lastEngine : a.lastEngine = b.lastEngine)
    (h_lastMotion : a.lastMotion = b.lastMotion)
    (h_free : a.free = b.free)
    (h_regs : a.regs = b.regs)
    (h_fm : a.fm = b.fm)
    (h_box : a.box = b.box)
    (h_dies : a.dies = b.dies)
    (h_legs : a.legs = b.legs)
    (h_regions : a.regions = b.regions)
    (h_carriers : a.carriers = b.carriers)
    (h_wireTests : a.wireTests = b.wireTests)
    (h_leakTests : a.leakTests = b.leakTests)
    (h_seqs : a.seqs = b.seqs)
    (h_cores : a.cores = b.cores)
    (h_meas : a.meas = b.meas)
    (h_calRuns : a.calRuns = b.calRuns)
    (h_cmps : a.cmps = b.cmps)
    (h_audit : a.audit = b.audit)
    (h_inv : a.inv = b.inv)
    (h_invOp : a.invOp = b.invOp)
    (h_pins : a.pins = b.pins)
    (h_jtag : a.jtag = b.jtag)
    (h_engs : a.engs = b.engs)
    (h_engine : a.engine = b.engine)
    (h_axes : a.axes = b.axes)
    (h_chans : a.chans = b.chans)
    (h_compares : a.compares = b.compares)
    (h_larder : a.larder = b.larder)
    (h_ladder : a.ladder = b.ladder)
    (h_planner : a.planner = b.planner)
    (h_comps : a.comps = b.comps)
    (h_guard : a.guard = b.guard)
    (h_seq : a.seq = b.seq)
    (h_flash : a.flash = b.flash)
    (h_hp : a.hp = b.hp)
    (h_prt : a.prt = b.prt)
    (h_hatch : a.hatch = b.hatch)
    (h_stock : a.stock = b.stock)
    (h_access : a.access = b.access)
    (h_pending : a.pending = b.pending) : a = b := by
  cases a; cases b
  congr

/-! ### modDie -/

@[simp] theorem modDie_variant (i : Fin 2) (f : Die → Die) : (s.modDie i f).variant = s.variant := (rfl)
@[simp] theorem modDie_power (i : Fin 2) (f : Die → Die) : (s.modDie i f).power = s.power := (rfl)
@[simp] theorem modDie_clock (i : Fin 2) (f : Die → Die) : (s.modDie i f).clock = s.clock := (rfl)
@[simp] theorem modDie_tsBase (i : Fin 2) (f : Die → Die) : (s.modDie i f).tsBase = s.tsBase := (rfl)
@[simp] theorem modDie_frame (i : Fin 2) (f : Die → Die) : (s.modDie i f).frame = s.frame := (rfl)
@[simp] theorem modDie_lastEngine (i : Fin 2) (f : Die → Die) : (s.modDie i f).lastEngine = s.lastEngine := (rfl)
@[simp] theorem modDie_lastMotion (i : Fin 2) (f : Die → Die) : (s.modDie i f).lastMotion = s.lastMotion := (rfl)
@[simp] theorem modDie_free (i : Fin 2) (f : Die → Die) : (s.modDie i f).free = s.free := (rfl)
@[simp] theorem modDie_regs (i : Fin 2) (f : Die → Die) : (s.modDie i f).regs = s.regs := (rfl)
@[simp] theorem modDie_fm (i : Fin 2) (f : Die → Die) : (s.modDie i f).fm = s.fm := (rfl)
@[simp] theorem modDie_box (i : Fin 2) (f : Die → Die) : (s.modDie i f).box = s.box := (rfl)
@[simp] theorem modDie_dies (i : Fin 2) (f : Die → Die) : (s.modDie i f).dies = s.dies.set i.val (f s.dies[i.val]) i.isLt := (rfl)
@[simp] theorem modDie_legs (i : Fin 2) (f : Die → Die) : (s.modDie i f).legs = s.legs := (rfl)
@[simp] theorem modDie_regions (i : Fin 2) (f : Die → Die) : (s.modDie i f).regions = s.regions := (rfl)
@[simp] theorem modDie_carriers (i : Fin 2) (f : Die → Die) : (s.modDie i f).carriers = s.carriers := (rfl)
@[simp] theorem modDie_wireTests (i : Fin 2) (f : Die → Die) : (s.modDie i f).wireTests = s.wireTests := (rfl)
@[simp] theorem modDie_leakTests (i : Fin 2) (f : Die → Die) : (s.modDie i f).leakTests = s.leakTests := (rfl)
@[simp] theorem modDie_seqs (i : Fin 2) (f : Die → Die) : (s.modDie i f).seqs = s.seqs := (rfl)
@[simp] theorem modDie_cores (i : Fin 2) (f : Die → Die) : (s.modDie i f).cores = s.cores := (rfl)
@[simp] theorem modDie_meas (i : Fin 2) (f : Die → Die) : (s.modDie i f).meas = s.meas := (rfl)
@[simp] theorem modDie_calRuns (i : Fin 2) (f : Die → Die) : (s.modDie i f).calRuns = s.calRuns := (rfl)
@[simp] theorem modDie_cmps (i : Fin 2) (f : Die → Die) : (s.modDie i f).cmps = s.cmps := (rfl)
@[simp] theorem modDie_audit (i : Fin 2) (f : Die → Die) : (s.modDie i f).audit = s.audit := (rfl)
@[simp] theorem modDie_inv (i : Fin 2) (f : Die → Die) : (s.modDie i f).inv = s.inv := (rfl)
@[simp] theorem modDie_invOp (i : Fin 2) (f : Die → Die) : (s.modDie i f).invOp = s.invOp := (rfl)
@[simp] theorem modDie_pins (i : Fin 2) (f : Die → Die) : (s.modDie i f).pins = s.pins := (rfl)
@[simp] theorem modDie_jtag (i : Fin 2) (f : Die → Die) : (s.modDie i f).jtag = s.jtag := (rfl)
@[simp] theorem modDie_engs (i : Fin 2) (f : Die → Die) : (s.modDie i f).engs = s.engs := (rfl)
@[simp] theorem modDie_engine (i : Fin 2) (f : Die → Die) : (s.modDie i f).engine = s.engine := (rfl)
@[simp] theorem modDie_axes (i : Fin 2) (f : Die → Die) : (s.modDie i f).axes = s.axes := (rfl)
@[simp] theorem modDie_chans (i : Fin 2) (f : Die → Die) : (s.modDie i f).chans = s.chans := (rfl)
@[simp] theorem modDie_compares (i : Fin 2) (f : Die → Die) : (s.modDie i f).compares = s.compares := (rfl)
@[simp] theorem modDie_larder (i : Fin 2) (f : Die → Die) : (s.modDie i f).larder = s.larder := (rfl)
@[simp] theorem modDie_ladder (i : Fin 2) (f : Die → Die) : (s.modDie i f).ladder = s.ladder := (rfl)
@[simp] theorem modDie_planner (i : Fin 2) (f : Die → Die) : (s.modDie i f).planner = s.planner := (rfl)
@[simp] theorem modDie_comps (i : Fin 2) (f : Die → Die) : (s.modDie i f).comps = s.comps := (rfl)
@[simp] theorem modDie_guard (i : Fin 2) (f : Die → Die) : (s.modDie i f).guard = s.guard := (rfl)
@[simp] theorem modDie_seq (i : Fin 2) (f : Die → Die) : (s.modDie i f).seq = s.seq := (rfl)
@[simp] theorem modDie_flash (i : Fin 2) (f : Die → Die) : (s.modDie i f).flash = s.flash := (rfl)
@[simp] theorem modDie_hp (i : Fin 2) (f : Die → Die) : (s.modDie i f).hp = s.hp := (rfl)
@[simp] theorem modDie_prt (i : Fin 2) (f : Die → Die) : (s.modDie i f).prt = s.prt := (rfl)
@[simp] theorem modDie_hatch (i : Fin 2) (f : Die → Die) : (s.modDie i f).hatch = s.hatch := (rfl)
@[simp] theorem modDie_stock (i : Fin 2) (f : Die → Die) : (s.modDie i f).stock = s.stock := (rfl)
@[simp] theorem modDie_access (i : Fin 2) (f : Die → Die) : (s.modDie i f).access = s.access := (rfl)
@[simp] theorem modDie_pending (i : Fin 2) (f : Die → Die) : (s.modDie i f).pending = s.pending := (rfl)
@[simp] theorem modDie_reg (i : Fin 2) (f : Die → Die) (r : Nat) : (s.modDie i f).reg r = s.reg r := (rfl)
@[simp] theorem modDie_fld (i : Fin 2) (f : Die → Die) (r : Fld) : (s.modDie i f).fld r = s.fld r := (rfl)
@[simp] theorem modDie_sfld (i : Fin 2) (f : Die → Die) (r : Fld) : (s.modDie i f).sfld r = s.sfld r := (rfl)
@[simp] theorem modDie_flag (i : Fin 2) (f : Die → Die) (r : Fld) : (s.modDie i f).flag r = s.flag r := (rfl)
@[simp] theorem modDie_live (i : Fin 2) (f : Die → Die) : (s.modDie i f).live = s.live := (rfl)
@[simp] theorem modDie_implemented (i : Fin 2) (f : Die → Die) (r_ : Nat) : (s.modDie i f).implemented r_ = s.implemented r_ := (rfl)
@[simp] theorem modDie_hasDie (i : Fin 2) (f : Die → Die) (r_ : Nat) : (s.modDie i f).hasDie r_ = s.hasDie r_ := (rfl)
@[simp] theorem modDie_hasAxis (i : Fin 2) (f : Die → Die) (r_ : Nat) : (s.modDie i f).hasAxis r_ = s.hasAxis r_ := (rfl)
@[simp] theorem modDie_planned (i : Fin 2) (f : Die → Die) (r_ : Nat) : (s.modDie i f).planned r_ = s.planned r_ := (rfl)
@[simp] theorem modDie_stamp (i : Fin 2) (f : Die → Die) (r_ : Nat) : (s.modDie i f).stamp r_ = s.stamp r_ := (rfl)
@[simp] theorem modDie_fmRuns (i : Fin 2) (f : Die → Die) : (s.modDie i f).fmRuns = s.fmRuns := (rfl)
@[simp] theorem modDie_axisRec (i : Fin 2) (f : Die → Die) (r_ : Nat) : (s.modDie i f).axisRec r_ = s.axisRec r_ := (rfl)
@[simp] theorem modDie_schedRec (i : Fin 2) (f : Die → Die) (r_ : Nat) : (s.modDie i f).schedRec r_ = s.schedRec r_ := (rfl)
@[simp] theorem modDie_feedOf (i : Fin 2) (f : Die → Die) (r_ : Nat) : (s.modDie i f).feedOf r_ = s.feedOf r_ := (rfl)
@[simp] theorem modDie_feedOfChan (i : Fin 2) (f : Die → Die) (r_ : Nat) : (s.modDie i f).feedOfChan r_ = s.feedOfChan r_ := (rfl)
@[simp] theorem modDie_loopOf (i : Fin 2) (f : Die → Die) (r_ : Nat) : (s.modDie i f).loopOf r_ = s.loopOf r_ := (rfl)
@[simp] theorem modDie_protRec (i : Fin 2) (f : Die → Die) (r_ : Nat) : (s.modDie i f).protRec r_ = s.protRec r_ := (rfl)
@[simp] theorem modDie_axisSt (i : Fin 2) (f : Die → Die) (r_ : AxisId) : (s.modDie i f).axisSt r_ = s.axisSt r_ := (rfl)
@[simp] theorem modDie_axisOn (i : Fin 2) (f : Die → Die) (r_ : AxisId) : (s.modDie i f).axisOn r_ = s.axisOn r_ := (rfl)
@[simp] theorem modDie_opStat (i : Fin 2) (f : Die → Die) (r_ : Nat) : (s.modDie i f).opStat r_ = s.opStat r_ := (rfl)
@[simp] theorem modDie_opBusy (i : Fin 2) (f : Die → Die) (r_ : Nat) : (s.modDie i f).opBusy r_ = s.opBusy r_ := (rfl)
@[simp] theorem modDie_lastOp (i : Fin 2) (f : Die → Die) (r_ : Nat) : (s.modDie i f).lastOp r_ = s.lastOp r_ := (rfl)

/-! ### modLeg -/

@[simp] theorem modLeg_variant (i : Fin 32) (f : Leg → Leg) : (s.modLeg i f).variant = s.variant := (rfl)
@[simp] theorem modLeg_power (i : Fin 32) (f : Leg → Leg) : (s.modLeg i f).power = s.power := (rfl)
@[simp] theorem modLeg_clock (i : Fin 32) (f : Leg → Leg) : (s.modLeg i f).clock = s.clock := (rfl)
@[simp] theorem modLeg_tsBase (i : Fin 32) (f : Leg → Leg) : (s.modLeg i f).tsBase = s.tsBase := (rfl)
@[simp] theorem modLeg_frame (i : Fin 32) (f : Leg → Leg) : (s.modLeg i f).frame = s.frame := (rfl)
@[simp] theorem modLeg_lastEngine (i : Fin 32) (f : Leg → Leg) : (s.modLeg i f).lastEngine = s.lastEngine := (rfl)
@[simp] theorem modLeg_lastMotion (i : Fin 32) (f : Leg → Leg) : (s.modLeg i f).lastMotion = s.lastMotion := (rfl)
@[simp] theorem modLeg_free (i : Fin 32) (f : Leg → Leg) : (s.modLeg i f).free = s.free := (rfl)
@[simp] theorem modLeg_regs (i : Fin 32) (f : Leg → Leg) : (s.modLeg i f).regs = s.regs := (rfl)
@[simp] theorem modLeg_fm (i : Fin 32) (f : Leg → Leg) : (s.modLeg i f).fm = s.fm := (rfl)
@[simp] theorem modLeg_box (i : Fin 32) (f : Leg → Leg) : (s.modLeg i f).box = s.box := (rfl)
@[simp] theorem modLeg_dies (i : Fin 32) (f : Leg → Leg) : (s.modLeg i f).dies = s.dies := (rfl)
@[simp] theorem modLeg_legs (i : Fin 32) (f : Leg → Leg) : (s.modLeg i f).legs = s.legs.set i.val (f s.legs[i.val]) i.isLt := (rfl)
@[simp] theorem modLeg_regions (i : Fin 32) (f : Leg → Leg) : (s.modLeg i f).regions = s.regions := (rfl)
@[simp] theorem modLeg_carriers (i : Fin 32) (f : Leg → Leg) : (s.modLeg i f).carriers = s.carriers := (rfl)
@[simp] theorem modLeg_wireTests (i : Fin 32) (f : Leg → Leg) : (s.modLeg i f).wireTests = s.wireTests := (rfl)
@[simp] theorem modLeg_leakTests (i : Fin 32) (f : Leg → Leg) : (s.modLeg i f).leakTests = s.leakTests := (rfl)
@[simp] theorem modLeg_seqs (i : Fin 32) (f : Leg → Leg) : (s.modLeg i f).seqs = s.seqs := (rfl)
@[simp] theorem modLeg_cores (i : Fin 32) (f : Leg → Leg) : (s.modLeg i f).cores = s.cores := (rfl)
@[simp] theorem modLeg_meas (i : Fin 32) (f : Leg → Leg) : (s.modLeg i f).meas = s.meas := (rfl)
@[simp] theorem modLeg_calRuns (i : Fin 32) (f : Leg → Leg) : (s.modLeg i f).calRuns = s.calRuns := (rfl)
@[simp] theorem modLeg_cmps (i : Fin 32) (f : Leg → Leg) : (s.modLeg i f).cmps = s.cmps := (rfl)
@[simp] theorem modLeg_audit (i : Fin 32) (f : Leg → Leg) : (s.modLeg i f).audit = s.audit := (rfl)
@[simp] theorem modLeg_inv (i : Fin 32) (f : Leg → Leg) : (s.modLeg i f).inv = s.inv := (rfl)
@[simp] theorem modLeg_invOp (i : Fin 32) (f : Leg → Leg) : (s.modLeg i f).invOp = s.invOp := (rfl)
@[simp] theorem modLeg_pins (i : Fin 32) (f : Leg → Leg) : (s.modLeg i f).pins = s.pins := (rfl)
@[simp] theorem modLeg_jtag (i : Fin 32) (f : Leg → Leg) : (s.modLeg i f).jtag = s.jtag := (rfl)
@[simp] theorem modLeg_engs (i : Fin 32) (f : Leg → Leg) : (s.modLeg i f).engs = s.engs := (rfl)
@[simp] theorem modLeg_engine (i : Fin 32) (f : Leg → Leg) : (s.modLeg i f).engine = s.engine := (rfl)
@[simp] theorem modLeg_axes (i : Fin 32) (f : Leg → Leg) : (s.modLeg i f).axes = s.axes := (rfl)
@[simp] theorem modLeg_chans (i : Fin 32) (f : Leg → Leg) : (s.modLeg i f).chans = s.chans := (rfl)
@[simp] theorem modLeg_compares (i : Fin 32) (f : Leg → Leg) : (s.modLeg i f).compares = s.compares := (rfl)
@[simp] theorem modLeg_larder (i : Fin 32) (f : Leg → Leg) : (s.modLeg i f).larder = s.larder := (rfl)
@[simp] theorem modLeg_ladder (i : Fin 32) (f : Leg → Leg) : (s.modLeg i f).ladder = s.ladder := (rfl)
@[simp] theorem modLeg_planner (i : Fin 32) (f : Leg → Leg) : (s.modLeg i f).planner = s.planner := (rfl)
@[simp] theorem modLeg_comps (i : Fin 32) (f : Leg → Leg) : (s.modLeg i f).comps = s.comps := (rfl)
@[simp] theorem modLeg_guard (i : Fin 32) (f : Leg → Leg) : (s.modLeg i f).guard = s.guard := (rfl)
@[simp] theorem modLeg_seq (i : Fin 32) (f : Leg → Leg) : (s.modLeg i f).seq = s.seq := (rfl)
@[simp] theorem modLeg_flash (i : Fin 32) (f : Leg → Leg) : (s.modLeg i f).flash = s.flash := (rfl)
@[simp] theorem modLeg_hp (i : Fin 32) (f : Leg → Leg) : (s.modLeg i f).hp = s.hp := (rfl)
@[simp] theorem modLeg_prt (i : Fin 32) (f : Leg → Leg) : (s.modLeg i f).prt = s.prt := (rfl)
@[simp] theorem modLeg_hatch (i : Fin 32) (f : Leg → Leg) : (s.modLeg i f).hatch = s.hatch := (rfl)
@[simp] theorem modLeg_stock (i : Fin 32) (f : Leg → Leg) : (s.modLeg i f).stock = s.stock := (rfl)
@[simp] theorem modLeg_access (i : Fin 32) (f : Leg → Leg) : (s.modLeg i f).access = s.access := (rfl)
@[simp] theorem modLeg_pending (i : Fin 32) (f : Leg → Leg) : (s.modLeg i f).pending = s.pending := (rfl)
@[simp] theorem modLeg_reg (i : Fin 32) (f : Leg → Leg) (r : Nat) : (s.modLeg i f).reg r = s.reg r := (rfl)
@[simp] theorem modLeg_fld (i : Fin 32) (f : Leg → Leg) (r : Fld) : (s.modLeg i f).fld r = s.fld r := (rfl)
@[simp] theorem modLeg_sfld (i : Fin 32) (f : Leg → Leg) (r : Fld) : (s.modLeg i f).sfld r = s.sfld r := (rfl)
@[simp] theorem modLeg_flag (i : Fin 32) (f : Leg → Leg) (r : Fld) : (s.modLeg i f).flag r = s.flag r := (rfl)
@[simp] theorem modLeg_live (i : Fin 32) (f : Leg → Leg) : (s.modLeg i f).live = s.live := (rfl)
@[simp] theorem modLeg_implemented (i : Fin 32) (f : Leg → Leg) (r_ : Nat) : (s.modLeg i f).implemented r_ = s.implemented r_ := (rfl)
@[simp] theorem modLeg_linked (i : Fin 32) (f : Leg → Leg) (r_ : Nat) : (s.modLeg i f).linked r_ = s.linked r_ := (rfl)
@[simp] theorem modLeg_reach (i : Fin 32) (f : Leg → Leg) (r_ : Nat) : (s.modLeg i f).reach r_ = s.reach r_ := (rfl)
@[simp] theorem modLeg_hasDie (i : Fin 32) (f : Leg → Leg) (r_ : Nat) : (s.modLeg i f).hasDie r_ = s.hasDie r_ := (rfl)
@[simp] theorem modLeg_hasAxis (i : Fin 32) (f : Leg → Leg) (r_ : Nat) : (s.modLeg i f).hasAxis r_ = s.hasAxis r_ := (rfl)
@[simp] theorem modLeg_planned (i : Fin 32) (f : Leg → Leg) (r_ : Nat) : (s.modLeg i f).planned r_ = s.planned r_ := (rfl)
@[simp] theorem modLeg_stamp (i : Fin 32) (f : Leg → Leg) (r_ : Nat) : (s.modLeg i f).stamp r_ = s.stamp r_ := (rfl)
@[simp] theorem modLeg_fmRuns (i : Fin 32) (f : Leg → Leg) : (s.modLeg i f).fmRuns = s.fmRuns := (rfl)
@[simp] theorem modLeg_axisRec (i : Fin 32) (f : Leg → Leg) (r_ : Nat) : (s.modLeg i f).axisRec r_ = s.axisRec r_ := (rfl)
@[simp] theorem modLeg_schedRec (i : Fin 32) (f : Leg → Leg) (r_ : Nat) : (s.modLeg i f).schedRec r_ = s.schedRec r_ := (rfl)
@[simp] theorem modLeg_feedOf (i : Fin 32) (f : Leg → Leg) (r_ : Nat) : (s.modLeg i f).feedOf r_ = s.feedOf r_ := (rfl)
@[simp] theorem modLeg_feedOfChan (i : Fin 32) (f : Leg → Leg) (r_ : Nat) : (s.modLeg i f).feedOfChan r_ = s.feedOfChan r_ := (rfl)
@[simp] theorem modLeg_loopOf (i : Fin 32) (f : Leg → Leg) (r_ : Nat) : (s.modLeg i f).loopOf r_ = s.loopOf r_ := (rfl)
@[simp] theorem modLeg_protRec (i : Fin 32) (f : Leg → Leg) (r_ : Nat) : (s.modLeg i f).protRec r_ = s.protRec r_ := (rfl)
@[simp] theorem modLeg_axisSt (i : Fin 32) (f : Leg → Leg) (r_ : AxisId) : (s.modLeg i f).axisSt r_ = s.axisSt r_ := (rfl)
@[simp] theorem modLeg_axisOn (i : Fin 32) (f : Leg → Leg) (r_ : AxisId) : (s.modLeg i f).axisOn r_ = s.axisOn r_ := (rfl)
@[simp] theorem modLeg_opStat (i : Fin 32) (f : Leg → Leg) (r_ : Nat) : (s.modLeg i f).opStat r_ = s.opStat r_ := (rfl)
@[simp] theorem modLeg_opBusy (i : Fin 32) (f : Leg → Leg) (r_ : Nat) : (s.modLeg i f).opBusy r_ = s.opBusy r_ := (rfl)
@[simp] theorem modLeg_lastOp (i : Fin 32) (f : Leg → Leg) (r_ : Nat) : (s.modLeg i f).lastOp r_ = s.lastOp r_ := (rfl)

/-! ### modRegion -/

@[simp] theorem modRegion_variant (i : Fin 4) (f : Region → Region) : (s.modRegion i f).variant = s.variant := (rfl)
@[simp] theorem modRegion_power (i : Fin 4) (f : Region → Region) : (s.modRegion i f).power = s.power := (rfl)
@[simp] theorem modRegion_clock (i : Fin 4) (f : Region → Region) : (s.modRegion i f).clock = s.clock := (rfl)
@[simp] theorem modRegion_tsBase (i : Fin 4) (f : Region → Region) : (s.modRegion i f).tsBase = s.tsBase := (rfl)
@[simp] theorem modRegion_frame (i : Fin 4) (f : Region → Region) : (s.modRegion i f).frame = s.frame := (rfl)
@[simp] theorem modRegion_lastEngine (i : Fin 4) (f : Region → Region) : (s.modRegion i f).lastEngine = s.lastEngine := (rfl)
@[simp] theorem modRegion_lastMotion (i : Fin 4) (f : Region → Region) : (s.modRegion i f).lastMotion = s.lastMotion := (rfl)
@[simp] theorem modRegion_free (i : Fin 4) (f : Region → Region) : (s.modRegion i f).free = s.free := (rfl)
@[simp] theorem modRegion_regs (i : Fin 4) (f : Region → Region) : (s.modRegion i f).regs = s.regs := (rfl)
@[simp] theorem modRegion_fm (i : Fin 4) (f : Region → Region) : (s.modRegion i f).fm = s.fm := (rfl)
@[simp] theorem modRegion_box (i : Fin 4) (f : Region → Region) : (s.modRegion i f).box = s.box := (rfl)
@[simp] theorem modRegion_dies (i : Fin 4) (f : Region → Region) : (s.modRegion i f).dies = s.dies := (rfl)
@[simp] theorem modRegion_legs (i : Fin 4) (f : Region → Region) : (s.modRegion i f).legs = s.legs := (rfl)
@[simp] theorem modRegion_regions (i : Fin 4) (f : Region → Region) : (s.modRegion i f).regions = s.regions.set i.val (f s.regions[i.val]) i.isLt := (rfl)
@[simp] theorem modRegion_carriers (i : Fin 4) (f : Region → Region) : (s.modRegion i f).carriers = s.carriers := (rfl)
@[simp] theorem modRegion_wireTests (i : Fin 4) (f : Region → Region) : (s.modRegion i f).wireTests = s.wireTests := (rfl)
@[simp] theorem modRegion_leakTests (i : Fin 4) (f : Region → Region) : (s.modRegion i f).leakTests = s.leakTests := (rfl)
@[simp] theorem modRegion_seqs (i : Fin 4) (f : Region → Region) : (s.modRegion i f).seqs = s.seqs := (rfl)
@[simp] theorem modRegion_cores (i : Fin 4) (f : Region → Region) : (s.modRegion i f).cores = s.cores := (rfl)
@[simp] theorem modRegion_meas (i : Fin 4) (f : Region → Region) : (s.modRegion i f).meas = s.meas := (rfl)
@[simp] theorem modRegion_calRuns (i : Fin 4) (f : Region → Region) : (s.modRegion i f).calRuns = s.calRuns := (rfl)
@[simp] theorem modRegion_cmps (i : Fin 4) (f : Region → Region) : (s.modRegion i f).cmps = s.cmps := (rfl)
@[simp] theorem modRegion_audit (i : Fin 4) (f : Region → Region) : (s.modRegion i f).audit = s.audit := (rfl)
@[simp] theorem modRegion_inv (i : Fin 4) (f : Region → Region) : (s.modRegion i f).inv = s.inv := (rfl)
@[simp] theorem modRegion_invOp (i : Fin 4) (f : Region → Region) : (s.modRegion i f).invOp = s.invOp := (rfl)
@[simp] theorem modRegion_pins (i : Fin 4) (f : Region → Region) : (s.modRegion i f).pins = s.pins := (rfl)
@[simp] theorem modRegion_jtag (i : Fin 4) (f : Region → Region) : (s.modRegion i f).jtag = s.jtag := (rfl)
@[simp] theorem modRegion_engs (i : Fin 4) (f : Region → Region) : (s.modRegion i f).engs = s.engs := (rfl)
@[simp] theorem modRegion_engine (i : Fin 4) (f : Region → Region) : (s.modRegion i f).engine = s.engine := (rfl)
@[simp] theorem modRegion_axes (i : Fin 4) (f : Region → Region) : (s.modRegion i f).axes = s.axes := (rfl)
@[simp] theorem modRegion_chans (i : Fin 4) (f : Region → Region) : (s.modRegion i f).chans = s.chans := (rfl)
@[simp] theorem modRegion_compares (i : Fin 4) (f : Region → Region) : (s.modRegion i f).compares = s.compares := (rfl)
@[simp] theorem modRegion_larder (i : Fin 4) (f : Region → Region) : (s.modRegion i f).larder = s.larder := (rfl)
@[simp] theorem modRegion_ladder (i : Fin 4) (f : Region → Region) : (s.modRegion i f).ladder = s.ladder := (rfl)
@[simp] theorem modRegion_planner (i : Fin 4) (f : Region → Region) : (s.modRegion i f).planner = s.planner := (rfl)
@[simp] theorem modRegion_comps (i : Fin 4) (f : Region → Region) : (s.modRegion i f).comps = s.comps := (rfl)
@[simp] theorem modRegion_guard (i : Fin 4) (f : Region → Region) : (s.modRegion i f).guard = s.guard := (rfl)
@[simp] theorem modRegion_seq (i : Fin 4) (f : Region → Region) : (s.modRegion i f).seq = s.seq := (rfl)
@[simp] theorem modRegion_flash (i : Fin 4) (f : Region → Region) : (s.modRegion i f).flash = s.flash := (rfl)
@[simp] theorem modRegion_hp (i : Fin 4) (f : Region → Region) : (s.modRegion i f).hp = s.hp := (rfl)
@[simp] theorem modRegion_prt (i : Fin 4) (f : Region → Region) : (s.modRegion i f).prt = s.prt := (rfl)
@[simp] theorem modRegion_hatch (i : Fin 4) (f : Region → Region) : (s.modRegion i f).hatch = s.hatch := (rfl)
@[simp] theorem modRegion_stock (i : Fin 4) (f : Region → Region) : (s.modRegion i f).stock = s.stock := (rfl)
@[simp] theorem modRegion_access (i : Fin 4) (f : Region → Region) : (s.modRegion i f).access = s.access := (rfl)
@[simp] theorem modRegion_pending (i : Fin 4) (f : Region → Region) : (s.modRegion i f).pending = s.pending := (rfl)
@[simp] theorem modRegion_reg (i : Fin 4) (f : Region → Region) (r : Nat) : (s.modRegion i f).reg r = s.reg r := (rfl)
@[simp] theorem modRegion_fld (i : Fin 4) (f : Region → Region) (r : Fld) : (s.modRegion i f).fld r = s.fld r := (rfl)
@[simp] theorem modRegion_sfld (i : Fin 4) (f : Region → Region) (r : Fld) : (s.modRegion i f).sfld r = s.sfld r := (rfl)
@[simp] theorem modRegion_flag (i : Fin 4) (f : Region → Region) (r : Fld) : (s.modRegion i f).flag r = s.flag r := (rfl)
@[simp] theorem modRegion_live (i : Fin 4) (f : Region → Region) : (s.modRegion i f).live = s.live := (rfl)
@[simp] theorem modRegion_implemented (i : Fin 4) (f : Region → Region) (r_ : Nat) : (s.modRegion i f).implemented r_ = s.implemented r_ := (rfl)
@[simp] theorem modRegion_linked (i : Fin 4) (f : Region → Region) (r_ : Nat) : (s.modRegion i f).linked r_ = s.linked r_ := (rfl)
@[simp] theorem modRegion_reach (i : Fin 4) (f : Region → Region) (r_ : Nat) : (s.modRegion i f).reach r_ = s.reach r_ := (rfl)
@[simp] theorem modRegion_hasDie (i : Fin 4) (f : Region → Region) (r_ : Nat) : (s.modRegion i f).hasDie r_ = s.hasDie r_ := (rfl)
@[simp] theorem modRegion_hasAxis (i : Fin 4) (f : Region → Region) (r_ : Nat) : (s.modRegion i f).hasAxis r_ = s.hasAxis r_ := (rfl)
@[simp] theorem modRegion_planned (i : Fin 4) (f : Region → Region) (r_ : Nat) : (s.modRegion i f).planned r_ = s.planned r_ := (rfl)
@[simp] theorem modRegion_stamp (i : Fin 4) (f : Region → Region) (r_ : Nat) : (s.modRegion i f).stamp r_ = s.stamp r_ := (rfl)
@[simp] theorem modRegion_fmRuns (i : Fin 4) (f : Region → Region) : (s.modRegion i f).fmRuns = s.fmRuns := (rfl)
@[simp] theorem modRegion_axisRec (i : Fin 4) (f : Region → Region) (r_ : Nat) : (s.modRegion i f).axisRec r_ = s.axisRec r_ := (rfl)
@[simp] theorem modRegion_schedRec (i : Fin 4) (f : Region → Region) (r_ : Nat) : (s.modRegion i f).schedRec r_ = s.schedRec r_ := (rfl)
@[simp] theorem modRegion_feedOf (i : Fin 4) (f : Region → Region) (r_ : Nat) : (s.modRegion i f).feedOf r_ = s.feedOf r_ := (rfl)
@[simp] theorem modRegion_feedOfChan (i : Fin 4) (f : Region → Region) (r_ : Nat) : (s.modRegion i f).feedOfChan r_ = s.feedOfChan r_ := (rfl)
@[simp] theorem modRegion_loopOf (i : Fin 4) (f : Region → Region) (r_ : Nat) : (s.modRegion i f).loopOf r_ = s.loopOf r_ := (rfl)
@[simp] theorem modRegion_protRec (i : Fin 4) (f : Region → Region) (r_ : Nat) : (s.modRegion i f).protRec r_ = s.protRec r_ := (rfl)
@[simp] theorem modRegion_axisSt (i : Fin 4) (f : Region → Region) (r_ : AxisId) : (s.modRegion i f).axisSt r_ = s.axisSt r_ := (rfl)
@[simp] theorem modRegion_axisOn (i : Fin 4) (f : Region → Region) (r_ : AxisId) : (s.modRegion i f).axisOn r_ = s.axisOn r_ := (rfl)
@[simp] theorem modRegion_opStat (i : Fin 4) (f : Region → Region) (r_ : Nat) : (s.modRegion i f).opStat r_ = s.opStat r_ := (rfl)
@[simp] theorem modRegion_opBusy (i : Fin 4) (f : Region → Region) (r_ : Nat) : (s.modRegion i f).opBusy r_ = s.opBusy r_ := (rfl)
@[simp] theorem modRegion_lastOp (i : Fin 4) (f : Region → Region) (r_ : Nat) : (s.modRegion i f).lastOp r_ = s.lastOp r_ := (rfl)

/-! ### modCarrier -/

@[simp] theorem modCarrier_variant (i : Fin 8) (f : Carrier → Carrier) : (s.modCarrier i f).variant = s.variant := (rfl)
@[simp] theorem modCarrier_power (i : Fin 8) (f : Carrier → Carrier) : (s.modCarrier i f).power = s.power := (rfl)
@[simp] theorem modCarrier_clock (i : Fin 8) (f : Carrier → Carrier) : (s.modCarrier i f).clock = s.clock := (rfl)
@[simp] theorem modCarrier_tsBase (i : Fin 8) (f : Carrier → Carrier) : (s.modCarrier i f).tsBase = s.tsBase := (rfl)
@[simp] theorem modCarrier_frame (i : Fin 8) (f : Carrier → Carrier) : (s.modCarrier i f).frame = s.frame := (rfl)
@[simp] theorem modCarrier_lastEngine (i : Fin 8) (f : Carrier → Carrier) : (s.modCarrier i f).lastEngine = s.lastEngine := (rfl)
@[simp] theorem modCarrier_lastMotion (i : Fin 8) (f : Carrier → Carrier) : (s.modCarrier i f).lastMotion = s.lastMotion := (rfl)
@[simp] theorem modCarrier_free (i : Fin 8) (f : Carrier → Carrier) : (s.modCarrier i f).free = s.free := (rfl)
@[simp] theorem modCarrier_regs (i : Fin 8) (f : Carrier → Carrier) : (s.modCarrier i f).regs = s.regs := (rfl)
@[simp] theorem modCarrier_fm (i : Fin 8) (f : Carrier → Carrier) : (s.modCarrier i f).fm = s.fm := (rfl)
@[simp] theorem modCarrier_box (i : Fin 8) (f : Carrier → Carrier) : (s.modCarrier i f).box = s.box := (rfl)
@[simp] theorem modCarrier_dies (i : Fin 8) (f : Carrier → Carrier) : (s.modCarrier i f).dies = s.dies := (rfl)
@[simp] theorem modCarrier_legs (i : Fin 8) (f : Carrier → Carrier) : (s.modCarrier i f).legs = s.legs := (rfl)
@[simp] theorem modCarrier_regions (i : Fin 8) (f : Carrier → Carrier) : (s.modCarrier i f).regions = s.regions := (rfl)
@[simp] theorem modCarrier_carriers (i : Fin 8) (f : Carrier → Carrier) : (s.modCarrier i f).carriers = s.carriers.set i.val (f s.carriers[i.val]) i.isLt := (rfl)
@[simp] theorem modCarrier_wireTests (i : Fin 8) (f : Carrier → Carrier) : (s.modCarrier i f).wireTests = s.wireTests := (rfl)
@[simp] theorem modCarrier_leakTests (i : Fin 8) (f : Carrier → Carrier) : (s.modCarrier i f).leakTests = s.leakTests := (rfl)
@[simp] theorem modCarrier_seqs (i : Fin 8) (f : Carrier → Carrier) : (s.modCarrier i f).seqs = s.seqs := (rfl)
@[simp] theorem modCarrier_cores (i : Fin 8) (f : Carrier → Carrier) : (s.modCarrier i f).cores = s.cores := (rfl)
@[simp] theorem modCarrier_meas (i : Fin 8) (f : Carrier → Carrier) : (s.modCarrier i f).meas = s.meas := (rfl)
@[simp] theorem modCarrier_calRuns (i : Fin 8) (f : Carrier → Carrier) : (s.modCarrier i f).calRuns = s.calRuns := (rfl)
@[simp] theorem modCarrier_cmps (i : Fin 8) (f : Carrier → Carrier) : (s.modCarrier i f).cmps = s.cmps := (rfl)
@[simp] theorem modCarrier_audit (i : Fin 8) (f : Carrier → Carrier) : (s.modCarrier i f).audit = s.audit := (rfl)
@[simp] theorem modCarrier_inv (i : Fin 8) (f : Carrier → Carrier) : (s.modCarrier i f).inv = s.inv := (rfl)
@[simp] theorem modCarrier_invOp (i : Fin 8) (f : Carrier → Carrier) : (s.modCarrier i f).invOp = s.invOp := (rfl)
@[simp] theorem modCarrier_pins (i : Fin 8) (f : Carrier → Carrier) : (s.modCarrier i f).pins = s.pins := (rfl)
@[simp] theorem modCarrier_jtag (i : Fin 8) (f : Carrier → Carrier) : (s.modCarrier i f).jtag = s.jtag := (rfl)
@[simp] theorem modCarrier_engs (i : Fin 8) (f : Carrier → Carrier) : (s.modCarrier i f).engs = s.engs := (rfl)
@[simp] theorem modCarrier_engine (i : Fin 8) (f : Carrier → Carrier) : (s.modCarrier i f).engine = s.engine := (rfl)
@[simp] theorem modCarrier_axes (i : Fin 8) (f : Carrier → Carrier) : (s.modCarrier i f).axes = s.axes := (rfl)
@[simp] theorem modCarrier_chans (i : Fin 8) (f : Carrier → Carrier) : (s.modCarrier i f).chans = s.chans := (rfl)
@[simp] theorem modCarrier_compares (i : Fin 8) (f : Carrier → Carrier) : (s.modCarrier i f).compares = s.compares := (rfl)
@[simp] theorem modCarrier_larder (i : Fin 8) (f : Carrier → Carrier) : (s.modCarrier i f).larder = s.larder := (rfl)
@[simp] theorem modCarrier_ladder (i : Fin 8) (f : Carrier → Carrier) : (s.modCarrier i f).ladder = s.ladder := (rfl)
@[simp] theorem modCarrier_planner (i : Fin 8) (f : Carrier → Carrier) : (s.modCarrier i f).planner = s.planner := (rfl)
@[simp] theorem modCarrier_comps (i : Fin 8) (f : Carrier → Carrier) : (s.modCarrier i f).comps = s.comps := (rfl)
@[simp] theorem modCarrier_guard (i : Fin 8) (f : Carrier → Carrier) : (s.modCarrier i f).guard = s.guard := (rfl)
@[simp] theorem modCarrier_seq (i : Fin 8) (f : Carrier → Carrier) : (s.modCarrier i f).seq = s.seq := (rfl)
@[simp] theorem modCarrier_flash (i : Fin 8) (f : Carrier → Carrier) : (s.modCarrier i f).flash = s.flash := (rfl)
@[simp] theorem modCarrier_hp (i : Fin 8) (f : Carrier → Carrier) : (s.modCarrier i f).hp = s.hp := (rfl)
@[simp] theorem modCarrier_prt (i : Fin 8) (f : Carrier → Carrier) : (s.modCarrier i f).prt = s.prt := (rfl)
@[simp] theorem modCarrier_hatch (i : Fin 8) (f : Carrier → Carrier) : (s.modCarrier i f).hatch = s.hatch := (rfl)
@[simp] theorem modCarrier_stock (i : Fin 8) (f : Carrier → Carrier) : (s.modCarrier i f).stock = s.stock := (rfl)
@[simp] theorem modCarrier_access (i : Fin 8) (f : Carrier → Carrier) : (s.modCarrier i f).access = s.access := (rfl)
@[simp] theorem modCarrier_pending (i : Fin 8) (f : Carrier → Carrier) : (s.modCarrier i f).pending = s.pending := (rfl)
@[simp] theorem modCarrier_reg (i : Fin 8) (f : Carrier → Carrier) (r : Nat) : (s.modCarrier i f).reg r = s.reg r := (rfl)
@[simp] theorem modCarrier_fld (i : Fin 8) (f : Carrier → Carrier) (r : Fld) : (s.modCarrier i f).fld r = s.fld r := (rfl)
@[simp] theorem modCarrier_sfld (i : Fin 8) (f : Carrier → Carrier) (r : Fld) : (s.modCarrier i f).sfld r = s.sfld r := (rfl)
@[simp] theorem modCarrier_flag (i : Fin 8) (f : Carrier → Carrier) (r : Fld) : (s.modCarrier i f).flag r = s.flag r := (rfl)
@[simp] theorem modCarrier_live (i : Fin 8) (f : Carrier → Carrier) : (s.modCarrier i f).live = s.live := (rfl)
@[simp] theorem modCarrier_implemented (i : Fin 8) (f : Carrier → Carrier) (r_ : Nat) : (s.modCarrier i f).implemented r_ = s.implemented r_ := (rfl)
@[simp] theorem modCarrier_linked (i : Fin 8) (f : Carrier → Carrier) (r_ : Nat) : (s.modCarrier i f).linked r_ = s.linked r_ := (rfl)
@[simp] theorem modCarrier_reach (i : Fin 8) (f : Carrier → Carrier) (r_ : Nat) : (s.modCarrier i f).reach r_ = s.reach r_ := (rfl)
@[simp] theorem modCarrier_hasDie (i : Fin 8) (f : Carrier → Carrier) (r_ : Nat) : (s.modCarrier i f).hasDie r_ = s.hasDie r_ := (rfl)
@[simp] theorem modCarrier_hasAxis (i : Fin 8) (f : Carrier → Carrier) (r_ : Nat) : (s.modCarrier i f).hasAxis r_ = s.hasAxis r_ := (rfl)
@[simp] theorem modCarrier_planned (i : Fin 8) (f : Carrier → Carrier) (r_ : Nat) : (s.modCarrier i f).planned r_ = s.planned r_ := (rfl)
@[simp] theorem modCarrier_stamp (i : Fin 8) (f : Carrier → Carrier) (r_ : Nat) : (s.modCarrier i f).stamp r_ = s.stamp r_ := (rfl)
@[simp] theorem modCarrier_fmRuns (i : Fin 8) (f : Carrier → Carrier) : (s.modCarrier i f).fmRuns = s.fmRuns := (rfl)
@[simp] theorem modCarrier_axisRec (i : Fin 8) (f : Carrier → Carrier) (r_ : Nat) : (s.modCarrier i f).axisRec r_ = s.axisRec r_ := (rfl)
@[simp] theorem modCarrier_schedRec (i : Fin 8) (f : Carrier → Carrier) (r_ : Nat) : (s.modCarrier i f).schedRec r_ = s.schedRec r_ := (rfl)
@[simp] theorem modCarrier_feedOf (i : Fin 8) (f : Carrier → Carrier) (r_ : Nat) : (s.modCarrier i f).feedOf r_ = s.feedOf r_ := (rfl)
@[simp] theorem modCarrier_feedOfChan (i : Fin 8) (f : Carrier → Carrier) (r_ : Nat) : (s.modCarrier i f).feedOfChan r_ = s.feedOfChan r_ := (rfl)
@[simp] theorem modCarrier_loopOf (i : Fin 8) (f : Carrier → Carrier) (r_ : Nat) : (s.modCarrier i f).loopOf r_ = s.loopOf r_ := (rfl)
@[simp] theorem modCarrier_protRec (i : Fin 8) (f : Carrier → Carrier) (r_ : Nat) : (s.modCarrier i f).protRec r_ = s.protRec r_ := (rfl)
@[simp] theorem modCarrier_axisSt (i : Fin 8) (f : Carrier → Carrier) (r_ : AxisId) : (s.modCarrier i f).axisSt r_ = s.axisSt r_ := (rfl)
@[simp] theorem modCarrier_axisOn (i : Fin 8) (f : Carrier → Carrier) (r_ : AxisId) : (s.modCarrier i f).axisOn r_ = s.axisOn r_ := (rfl)
@[simp] theorem modCarrier_opStat (i : Fin 8) (f : Carrier → Carrier) (r_ : Nat) : (s.modCarrier i f).opStat r_ = s.opStat r_ := (rfl)
@[simp] theorem modCarrier_opBusy (i : Fin 8) (f : Carrier → Carrier) (r_ : Nat) : (s.modCarrier i f).opBusy r_ = s.opBusy r_ := (rfl)
@[simp] theorem modCarrier_lastOp (i : Fin 8) (f : Carrier → Carrier) (r_ : Nat) : (s.modCarrier i f).lastOp r_ = s.lastOp r_ := (rfl)

/-! ### modSeq -/

@[simp] theorem modSeq_variant (i : Fin 8) (f : Sequence → Sequence) : (s.modSeq i f).variant = s.variant := (rfl)
@[simp] theorem modSeq_power (i : Fin 8) (f : Sequence → Sequence) : (s.modSeq i f).power = s.power := (rfl)
@[simp] theorem modSeq_clock (i : Fin 8) (f : Sequence → Sequence) : (s.modSeq i f).clock = s.clock := (rfl)
@[simp] theorem modSeq_tsBase (i : Fin 8) (f : Sequence → Sequence) : (s.modSeq i f).tsBase = s.tsBase := (rfl)
@[simp] theorem modSeq_frame (i : Fin 8) (f : Sequence → Sequence) : (s.modSeq i f).frame = s.frame := (rfl)
@[simp] theorem modSeq_lastEngine (i : Fin 8) (f : Sequence → Sequence) : (s.modSeq i f).lastEngine = s.lastEngine := (rfl)
@[simp] theorem modSeq_lastMotion (i : Fin 8) (f : Sequence → Sequence) : (s.modSeq i f).lastMotion = s.lastMotion := (rfl)
@[simp] theorem modSeq_free (i : Fin 8) (f : Sequence → Sequence) : (s.modSeq i f).free = s.free := (rfl)
@[simp] theorem modSeq_regs (i : Fin 8) (f : Sequence → Sequence) : (s.modSeq i f).regs = s.regs := (rfl)
@[simp] theorem modSeq_fm (i : Fin 8) (f : Sequence → Sequence) : (s.modSeq i f).fm = s.fm := (rfl)
@[simp] theorem modSeq_box (i : Fin 8) (f : Sequence → Sequence) : (s.modSeq i f).box = s.box := (rfl)
@[simp] theorem modSeq_dies (i : Fin 8) (f : Sequence → Sequence) : (s.modSeq i f).dies = s.dies := (rfl)
@[simp] theorem modSeq_legs (i : Fin 8) (f : Sequence → Sequence) : (s.modSeq i f).legs = s.legs := (rfl)
@[simp] theorem modSeq_regions (i : Fin 8) (f : Sequence → Sequence) : (s.modSeq i f).regions = s.regions := (rfl)
@[simp] theorem modSeq_carriers (i : Fin 8) (f : Sequence → Sequence) : (s.modSeq i f).carriers = s.carriers := (rfl)
@[simp] theorem modSeq_wireTests (i : Fin 8) (f : Sequence → Sequence) : (s.modSeq i f).wireTests = s.wireTests := (rfl)
@[simp] theorem modSeq_leakTests (i : Fin 8) (f : Sequence → Sequence) : (s.modSeq i f).leakTests = s.leakTests := (rfl)
@[simp] theorem modSeq_seqs (i : Fin 8) (f : Sequence → Sequence) : (s.modSeq i f).seqs = s.seqs.set i.val (f s.seqs[i.val]) i.isLt := (rfl)
@[simp] theorem modSeq_cores (i : Fin 8) (f : Sequence → Sequence) : (s.modSeq i f).cores = s.cores := (rfl)
@[simp] theorem modSeq_meas (i : Fin 8) (f : Sequence → Sequence) : (s.modSeq i f).meas = s.meas := (rfl)
@[simp] theorem modSeq_calRuns (i : Fin 8) (f : Sequence → Sequence) : (s.modSeq i f).calRuns = s.calRuns := (rfl)
@[simp] theorem modSeq_cmps (i : Fin 8) (f : Sequence → Sequence) : (s.modSeq i f).cmps = s.cmps := (rfl)
@[simp] theorem modSeq_audit (i : Fin 8) (f : Sequence → Sequence) : (s.modSeq i f).audit = s.audit := (rfl)
@[simp] theorem modSeq_inv (i : Fin 8) (f : Sequence → Sequence) : (s.modSeq i f).inv = s.inv := (rfl)
@[simp] theorem modSeq_invOp (i : Fin 8) (f : Sequence → Sequence) : (s.modSeq i f).invOp = s.invOp := (rfl)
@[simp] theorem modSeq_pins (i : Fin 8) (f : Sequence → Sequence) : (s.modSeq i f).pins = s.pins := (rfl)
@[simp] theorem modSeq_jtag (i : Fin 8) (f : Sequence → Sequence) : (s.modSeq i f).jtag = s.jtag := (rfl)
@[simp] theorem modSeq_engs (i : Fin 8) (f : Sequence → Sequence) : (s.modSeq i f).engs = s.engs := (rfl)
@[simp] theorem modSeq_engine (i : Fin 8) (f : Sequence → Sequence) : (s.modSeq i f).engine = s.engine := (rfl)
@[simp] theorem modSeq_axes (i : Fin 8) (f : Sequence → Sequence) : (s.modSeq i f).axes = s.axes := (rfl)
@[simp] theorem modSeq_chans (i : Fin 8) (f : Sequence → Sequence) : (s.modSeq i f).chans = s.chans := (rfl)
@[simp] theorem modSeq_compares (i : Fin 8) (f : Sequence → Sequence) : (s.modSeq i f).compares = s.compares := (rfl)
@[simp] theorem modSeq_larder (i : Fin 8) (f : Sequence → Sequence) : (s.modSeq i f).larder = s.larder := (rfl)
@[simp] theorem modSeq_ladder (i : Fin 8) (f : Sequence → Sequence) : (s.modSeq i f).ladder = s.ladder := (rfl)
@[simp] theorem modSeq_planner (i : Fin 8) (f : Sequence → Sequence) : (s.modSeq i f).planner = s.planner := (rfl)
@[simp] theorem modSeq_comps (i : Fin 8) (f : Sequence → Sequence) : (s.modSeq i f).comps = s.comps := (rfl)
@[simp] theorem modSeq_guard (i : Fin 8) (f : Sequence → Sequence) : (s.modSeq i f).guard = s.guard := (rfl)
@[simp] theorem modSeq_seq (i : Fin 8) (f : Sequence → Sequence) : (s.modSeq i f).seq = s.seq := (rfl)
@[simp] theorem modSeq_flash (i : Fin 8) (f : Sequence → Sequence) : (s.modSeq i f).flash = s.flash := (rfl)
@[simp] theorem modSeq_hp (i : Fin 8) (f : Sequence → Sequence) : (s.modSeq i f).hp = s.hp := (rfl)
@[simp] theorem modSeq_prt (i : Fin 8) (f : Sequence → Sequence) : (s.modSeq i f).prt = s.prt := (rfl)
@[simp] theorem modSeq_hatch (i : Fin 8) (f : Sequence → Sequence) : (s.modSeq i f).hatch = s.hatch := (rfl)
@[simp] theorem modSeq_stock (i : Fin 8) (f : Sequence → Sequence) : (s.modSeq i f).stock = s.stock := (rfl)
@[simp] theorem modSeq_access (i : Fin 8) (f : Sequence → Sequence) : (s.modSeq i f).access = s.access := (rfl)
@[simp] theorem modSeq_pending (i : Fin 8) (f : Sequence → Sequence) : (s.modSeq i f).pending = s.pending := (rfl)
@[simp] theorem modSeq_reg (i : Fin 8) (f : Sequence → Sequence) (r : Nat) : (s.modSeq i f).reg r = s.reg r := (rfl)
@[simp] theorem modSeq_fld (i : Fin 8) (f : Sequence → Sequence) (r : Fld) : (s.modSeq i f).fld r = s.fld r := (rfl)
@[simp] theorem modSeq_sfld (i : Fin 8) (f : Sequence → Sequence) (r : Fld) : (s.modSeq i f).sfld r = s.sfld r := (rfl)
@[simp] theorem modSeq_flag (i : Fin 8) (f : Sequence → Sequence) (r : Fld) : (s.modSeq i f).flag r = s.flag r := (rfl)
@[simp] theorem modSeq_live (i : Fin 8) (f : Sequence → Sequence) : (s.modSeq i f).live = s.live := (rfl)
@[simp] theorem modSeq_implemented (i : Fin 8) (f : Sequence → Sequence) (r_ : Nat) : (s.modSeq i f).implemented r_ = s.implemented r_ := (rfl)
@[simp] theorem modSeq_linked (i : Fin 8) (f : Sequence → Sequence) (r_ : Nat) : (s.modSeq i f).linked r_ = s.linked r_ := (rfl)
@[simp] theorem modSeq_reach (i : Fin 8) (f : Sequence → Sequence) (r_ : Nat) : (s.modSeq i f).reach r_ = s.reach r_ := (rfl)
@[simp] theorem modSeq_hasDie (i : Fin 8) (f : Sequence → Sequence) (r_ : Nat) : (s.modSeq i f).hasDie r_ = s.hasDie r_ := (rfl)
@[simp] theorem modSeq_hasAxis (i : Fin 8) (f : Sequence → Sequence) (r_ : Nat) : (s.modSeq i f).hasAxis r_ = s.hasAxis r_ := (rfl)
@[simp] theorem modSeq_planned (i : Fin 8) (f : Sequence → Sequence) (r_ : Nat) : (s.modSeq i f).planned r_ = s.planned r_ := (rfl)
@[simp] theorem modSeq_stamp (i : Fin 8) (f : Sequence → Sequence) (r_ : Nat) : (s.modSeq i f).stamp r_ = s.stamp r_ := (rfl)
@[simp] theorem modSeq_fmRuns (i : Fin 8) (f : Sequence → Sequence) : (s.modSeq i f).fmRuns = s.fmRuns := (rfl)
@[simp] theorem modSeq_axisRec (i : Fin 8) (f : Sequence → Sequence) (r_ : Nat) : (s.modSeq i f).axisRec r_ = s.axisRec r_ := (rfl)
@[simp] theorem modSeq_schedRec (i : Fin 8) (f : Sequence → Sequence) (r_ : Nat) : (s.modSeq i f).schedRec r_ = s.schedRec r_ := (rfl)
@[simp] theorem modSeq_feedOf (i : Fin 8) (f : Sequence → Sequence) (r_ : Nat) : (s.modSeq i f).feedOf r_ = s.feedOf r_ := (rfl)
@[simp] theorem modSeq_feedOfChan (i : Fin 8) (f : Sequence → Sequence) (r_ : Nat) : (s.modSeq i f).feedOfChan r_ = s.feedOfChan r_ := (rfl)
@[simp] theorem modSeq_loopOf (i : Fin 8) (f : Sequence → Sequence) (r_ : Nat) : (s.modSeq i f).loopOf r_ = s.loopOf r_ := (rfl)
@[simp] theorem modSeq_protRec (i : Fin 8) (f : Sequence → Sequence) (r_ : Nat) : (s.modSeq i f).protRec r_ = s.protRec r_ := (rfl)
@[simp] theorem modSeq_axisSt (i : Fin 8) (f : Sequence → Sequence) (r_ : AxisId) : (s.modSeq i f).axisSt r_ = s.axisSt r_ := (rfl)
@[simp] theorem modSeq_axisOn (i : Fin 8) (f : Sequence → Sequence) (r_ : AxisId) : (s.modSeq i f).axisOn r_ = s.axisOn r_ := (rfl)
@[simp] theorem modSeq_opStat (i : Fin 8) (f : Sequence → Sequence) (r_ : Nat) : (s.modSeq i f).opStat r_ = s.opStat r_ := (rfl)
@[simp] theorem modSeq_opBusy (i : Fin 8) (f : Sequence → Sequence) (r_ : Nat) : (s.modSeq i f).opBusy r_ = s.opBusy r_ := (rfl)
@[simp] theorem modSeq_lastOp (i : Fin 8) (f : Sequence → Sequence) (r_ : Nat) : (s.modSeq i f).lastOp r_ = s.lastOp r_ := (rfl)

/-! ### modCore -/

@[simp] theorem modCore_variant (i : Fin 8) (f : Core → Core) : (s.modCore i f).variant = s.variant := (rfl)
@[simp] theorem modCore_power (i : Fin 8) (f : Core → Core) : (s.modCore i f).power = s.power := (rfl)
@[simp] theorem modCore_clock (i : Fin 8) (f : Core → Core) : (s.modCore i f).clock = s.clock := (rfl)
@[simp] theorem modCore_tsBase (i : Fin 8) (f : Core → Core) : (s.modCore i f).tsBase = s.tsBase := (rfl)
@[simp] theorem modCore_frame (i : Fin 8) (f : Core → Core) : (s.modCore i f).frame = s.frame := (rfl)
@[simp] theorem modCore_lastEngine (i : Fin 8) (f : Core → Core) : (s.modCore i f).lastEngine = s.lastEngine := (rfl)
@[simp] theorem modCore_lastMotion (i : Fin 8) (f : Core → Core) : (s.modCore i f).lastMotion = s.lastMotion := (rfl)
@[simp] theorem modCore_free (i : Fin 8) (f : Core → Core) : (s.modCore i f).free = s.free := (rfl)
@[simp] theorem modCore_regs (i : Fin 8) (f : Core → Core) : (s.modCore i f).regs = s.regs := (rfl)
@[simp] theorem modCore_fm (i : Fin 8) (f : Core → Core) : (s.modCore i f).fm = s.fm := (rfl)
@[simp] theorem modCore_box (i : Fin 8) (f : Core → Core) : (s.modCore i f).box = s.box := (rfl)
@[simp] theorem modCore_dies (i : Fin 8) (f : Core → Core) : (s.modCore i f).dies = s.dies := (rfl)
@[simp] theorem modCore_legs (i : Fin 8) (f : Core → Core) : (s.modCore i f).legs = s.legs := (rfl)
@[simp] theorem modCore_regions (i : Fin 8) (f : Core → Core) : (s.modCore i f).regions = s.regions := (rfl)
@[simp] theorem modCore_carriers (i : Fin 8) (f : Core → Core) : (s.modCore i f).carriers = s.carriers := (rfl)
@[simp] theorem modCore_wireTests (i : Fin 8) (f : Core → Core) : (s.modCore i f).wireTests = s.wireTests := (rfl)
@[simp] theorem modCore_leakTests (i : Fin 8) (f : Core → Core) : (s.modCore i f).leakTests = s.leakTests := (rfl)
@[simp] theorem modCore_seqs (i : Fin 8) (f : Core → Core) : (s.modCore i f).seqs = s.seqs := (rfl)
@[simp] theorem modCore_cores (i : Fin 8) (f : Core → Core) : (s.modCore i f).cores = s.cores.set i.val (f s.cores[i.val]) i.isLt := (rfl)
@[simp] theorem modCore_meas (i : Fin 8) (f : Core → Core) : (s.modCore i f).meas = s.meas := (rfl)
@[simp] theorem modCore_calRuns (i : Fin 8) (f : Core → Core) : (s.modCore i f).calRuns = s.calRuns := (rfl)
@[simp] theorem modCore_cmps (i : Fin 8) (f : Core → Core) : (s.modCore i f).cmps = s.cmps := (rfl)
@[simp] theorem modCore_audit (i : Fin 8) (f : Core → Core) : (s.modCore i f).audit = s.audit := (rfl)
@[simp] theorem modCore_inv (i : Fin 8) (f : Core → Core) : (s.modCore i f).inv = s.inv := (rfl)
@[simp] theorem modCore_invOp (i : Fin 8) (f : Core → Core) : (s.modCore i f).invOp = s.invOp := (rfl)
@[simp] theorem modCore_pins (i : Fin 8) (f : Core → Core) : (s.modCore i f).pins = s.pins := (rfl)
@[simp] theorem modCore_jtag (i : Fin 8) (f : Core → Core) : (s.modCore i f).jtag = s.jtag := (rfl)
@[simp] theorem modCore_engs (i : Fin 8) (f : Core → Core) : (s.modCore i f).engs = s.engs := (rfl)
@[simp] theorem modCore_engine (i : Fin 8) (f : Core → Core) : (s.modCore i f).engine = s.engine := (rfl)
@[simp] theorem modCore_axes (i : Fin 8) (f : Core → Core) : (s.modCore i f).axes = s.axes := (rfl)
@[simp] theorem modCore_chans (i : Fin 8) (f : Core → Core) : (s.modCore i f).chans = s.chans := (rfl)
@[simp] theorem modCore_compares (i : Fin 8) (f : Core → Core) : (s.modCore i f).compares = s.compares := (rfl)
@[simp] theorem modCore_larder (i : Fin 8) (f : Core → Core) : (s.modCore i f).larder = s.larder := (rfl)
@[simp] theorem modCore_ladder (i : Fin 8) (f : Core → Core) : (s.modCore i f).ladder = s.ladder := (rfl)
@[simp] theorem modCore_planner (i : Fin 8) (f : Core → Core) : (s.modCore i f).planner = s.planner := (rfl)
@[simp] theorem modCore_comps (i : Fin 8) (f : Core → Core) : (s.modCore i f).comps = s.comps := (rfl)
@[simp] theorem modCore_guard (i : Fin 8) (f : Core → Core) : (s.modCore i f).guard = s.guard := (rfl)
@[simp] theorem modCore_seq (i : Fin 8) (f : Core → Core) : (s.modCore i f).seq = s.seq := (rfl)
@[simp] theorem modCore_flash (i : Fin 8) (f : Core → Core) : (s.modCore i f).flash = s.flash := (rfl)
@[simp] theorem modCore_hp (i : Fin 8) (f : Core → Core) : (s.modCore i f).hp = s.hp := (rfl)
@[simp] theorem modCore_prt (i : Fin 8) (f : Core → Core) : (s.modCore i f).prt = s.prt := (rfl)
@[simp] theorem modCore_hatch (i : Fin 8) (f : Core → Core) : (s.modCore i f).hatch = s.hatch := (rfl)
@[simp] theorem modCore_stock (i : Fin 8) (f : Core → Core) : (s.modCore i f).stock = s.stock := (rfl)
@[simp] theorem modCore_access (i : Fin 8) (f : Core → Core) : (s.modCore i f).access = s.access := (rfl)
@[simp] theorem modCore_pending (i : Fin 8) (f : Core → Core) : (s.modCore i f).pending = s.pending := (rfl)
@[simp] theorem modCore_reg (i : Fin 8) (f : Core → Core) (r : Nat) : (s.modCore i f).reg r = s.reg r := (rfl)
@[simp] theorem modCore_fld (i : Fin 8) (f : Core → Core) (r : Fld) : (s.modCore i f).fld r = s.fld r := (rfl)
@[simp] theorem modCore_sfld (i : Fin 8) (f : Core → Core) (r : Fld) : (s.modCore i f).sfld r = s.sfld r := (rfl)
@[simp] theorem modCore_flag (i : Fin 8) (f : Core → Core) (r : Fld) : (s.modCore i f).flag r = s.flag r := (rfl)
@[simp] theorem modCore_live (i : Fin 8) (f : Core → Core) : (s.modCore i f).live = s.live := (rfl)
@[simp] theorem modCore_implemented (i : Fin 8) (f : Core → Core) (r_ : Nat) : (s.modCore i f).implemented r_ = s.implemented r_ := (rfl)
@[simp] theorem modCore_linked (i : Fin 8) (f : Core → Core) (r_ : Nat) : (s.modCore i f).linked r_ = s.linked r_ := (rfl)
@[simp] theorem modCore_reach (i : Fin 8) (f : Core → Core) (r_ : Nat) : (s.modCore i f).reach r_ = s.reach r_ := (rfl)
@[simp] theorem modCore_hasDie (i : Fin 8) (f : Core → Core) (r_ : Nat) : (s.modCore i f).hasDie r_ = s.hasDie r_ := (rfl)
@[simp] theorem modCore_hasAxis (i : Fin 8) (f : Core → Core) (r_ : Nat) : (s.modCore i f).hasAxis r_ = s.hasAxis r_ := (rfl)
@[simp] theorem modCore_planned (i : Fin 8) (f : Core → Core) (r_ : Nat) : (s.modCore i f).planned r_ = s.planned r_ := (rfl)
@[simp] theorem modCore_stamp (i : Fin 8) (f : Core → Core) (r_ : Nat) : (s.modCore i f).stamp r_ = s.stamp r_ := (rfl)
@[simp] theorem modCore_fmRuns (i : Fin 8) (f : Core → Core) : (s.modCore i f).fmRuns = s.fmRuns := (rfl)
@[simp] theorem modCore_axisRec (i : Fin 8) (f : Core → Core) (r_ : Nat) : (s.modCore i f).axisRec r_ = s.axisRec r_ := (rfl)
@[simp] theorem modCore_schedRec (i : Fin 8) (f : Core → Core) (r_ : Nat) : (s.modCore i f).schedRec r_ = s.schedRec r_ := (rfl)
@[simp] theorem modCore_feedOf (i : Fin 8) (f : Core → Core) (r_ : Nat) : (s.modCore i f).feedOf r_ = s.feedOf r_ := (rfl)
@[simp] theorem modCore_feedOfChan (i : Fin 8) (f : Core → Core) (r_ : Nat) : (s.modCore i f).feedOfChan r_ = s.feedOfChan r_ := (rfl)
@[simp] theorem modCore_loopOf (i : Fin 8) (f : Core → Core) (r_ : Nat) : (s.modCore i f).loopOf r_ = s.loopOf r_ := (rfl)
@[simp] theorem modCore_protRec (i : Fin 8) (f : Core → Core) (r_ : Nat) : (s.modCore i f).protRec r_ = s.protRec r_ := (rfl)
@[simp] theorem modCore_axisSt (i : Fin 8) (f : Core → Core) (r_ : AxisId) : (s.modCore i f).axisSt r_ = s.axisSt r_ := (rfl)
@[simp] theorem modCore_axisOn (i : Fin 8) (f : Core → Core) (r_ : AxisId) : (s.modCore i f).axisOn r_ = s.axisOn r_ := (rfl)
@[simp] theorem modCore_opStat (i : Fin 8) (f : Core → Core) (r_ : Nat) : (s.modCore i f).opStat r_ = s.opStat r_ := (rfl)
@[simp] theorem modCore_opBusy (i : Fin 8) (f : Core → Core) (r_ : Nat) : (s.modCore i f).opBusy r_ = s.opBusy r_ := (rfl)
@[simp] theorem modCore_lastOp (i : Fin 8) (f : Core → Core) (r_ : Nat) : (s.modCore i f).lastOp r_ = s.lastOp r_ := (rfl)

/-! ### modMeas -/

@[simp] theorem modMeas_variant (i : Fin 64) (f : Meas → Meas) : (s.modMeas i f).variant = s.variant := (rfl)
@[simp] theorem modMeas_power (i : Fin 64) (f : Meas → Meas) : (s.modMeas i f).power = s.power := (rfl)
@[simp] theorem modMeas_clock (i : Fin 64) (f : Meas → Meas) : (s.modMeas i f).clock = s.clock := (rfl)
@[simp] theorem modMeas_tsBase (i : Fin 64) (f : Meas → Meas) : (s.modMeas i f).tsBase = s.tsBase := (rfl)
@[simp] theorem modMeas_frame (i : Fin 64) (f : Meas → Meas) : (s.modMeas i f).frame = s.frame := (rfl)
@[simp] theorem modMeas_lastEngine (i : Fin 64) (f : Meas → Meas) : (s.modMeas i f).lastEngine = s.lastEngine := (rfl)
@[simp] theorem modMeas_lastMotion (i : Fin 64) (f : Meas → Meas) : (s.modMeas i f).lastMotion = s.lastMotion := (rfl)
@[simp] theorem modMeas_free (i : Fin 64) (f : Meas → Meas) : (s.modMeas i f).free = s.free := (rfl)
@[simp] theorem modMeas_regs (i : Fin 64) (f : Meas → Meas) : (s.modMeas i f).regs = s.regs := (rfl)
@[simp] theorem modMeas_fm (i : Fin 64) (f : Meas → Meas) : (s.modMeas i f).fm = s.fm := (rfl)
@[simp] theorem modMeas_box (i : Fin 64) (f : Meas → Meas) : (s.modMeas i f).box = s.box := (rfl)
@[simp] theorem modMeas_dies (i : Fin 64) (f : Meas → Meas) : (s.modMeas i f).dies = s.dies := (rfl)
@[simp] theorem modMeas_legs (i : Fin 64) (f : Meas → Meas) : (s.modMeas i f).legs = s.legs := (rfl)
@[simp] theorem modMeas_regions (i : Fin 64) (f : Meas → Meas) : (s.modMeas i f).regions = s.regions := (rfl)
@[simp] theorem modMeas_carriers (i : Fin 64) (f : Meas → Meas) : (s.modMeas i f).carriers = s.carriers := (rfl)
@[simp] theorem modMeas_wireTests (i : Fin 64) (f : Meas → Meas) : (s.modMeas i f).wireTests = s.wireTests := (rfl)
@[simp] theorem modMeas_leakTests (i : Fin 64) (f : Meas → Meas) : (s.modMeas i f).leakTests = s.leakTests := (rfl)
@[simp] theorem modMeas_seqs (i : Fin 64) (f : Meas → Meas) : (s.modMeas i f).seqs = s.seqs := (rfl)
@[simp] theorem modMeas_cores (i : Fin 64) (f : Meas → Meas) : (s.modMeas i f).cores = s.cores := (rfl)
@[simp] theorem modMeas_meas (i : Fin 64) (f : Meas → Meas) : (s.modMeas i f).meas = s.meas.set i.val (f s.meas[i.val]) i.isLt := (rfl)
@[simp] theorem modMeas_calRuns (i : Fin 64) (f : Meas → Meas) : (s.modMeas i f).calRuns = s.calRuns := (rfl)
@[simp] theorem modMeas_cmps (i : Fin 64) (f : Meas → Meas) : (s.modMeas i f).cmps = s.cmps := (rfl)
@[simp] theorem modMeas_audit (i : Fin 64) (f : Meas → Meas) : (s.modMeas i f).audit = s.audit := (rfl)
@[simp] theorem modMeas_inv (i : Fin 64) (f : Meas → Meas) : (s.modMeas i f).inv = s.inv := (rfl)
@[simp] theorem modMeas_invOp (i : Fin 64) (f : Meas → Meas) : (s.modMeas i f).invOp = s.invOp := (rfl)
@[simp] theorem modMeas_pins (i : Fin 64) (f : Meas → Meas) : (s.modMeas i f).pins = s.pins := (rfl)
@[simp] theorem modMeas_jtag (i : Fin 64) (f : Meas → Meas) : (s.modMeas i f).jtag = s.jtag := (rfl)
@[simp] theorem modMeas_engs (i : Fin 64) (f : Meas → Meas) : (s.modMeas i f).engs = s.engs := (rfl)
@[simp] theorem modMeas_engine (i : Fin 64) (f : Meas → Meas) : (s.modMeas i f).engine = s.engine := (rfl)
@[simp] theorem modMeas_axes (i : Fin 64) (f : Meas → Meas) : (s.modMeas i f).axes = s.axes := (rfl)
@[simp] theorem modMeas_chans (i : Fin 64) (f : Meas → Meas) : (s.modMeas i f).chans = s.chans := (rfl)
@[simp] theorem modMeas_compares (i : Fin 64) (f : Meas → Meas) : (s.modMeas i f).compares = s.compares := (rfl)
@[simp] theorem modMeas_larder (i : Fin 64) (f : Meas → Meas) : (s.modMeas i f).larder = s.larder := (rfl)
@[simp] theorem modMeas_ladder (i : Fin 64) (f : Meas → Meas) : (s.modMeas i f).ladder = s.ladder := (rfl)
@[simp] theorem modMeas_planner (i : Fin 64) (f : Meas → Meas) : (s.modMeas i f).planner = s.planner := (rfl)
@[simp] theorem modMeas_comps (i : Fin 64) (f : Meas → Meas) : (s.modMeas i f).comps = s.comps := (rfl)
@[simp] theorem modMeas_guard (i : Fin 64) (f : Meas → Meas) : (s.modMeas i f).guard = s.guard := (rfl)
@[simp] theorem modMeas_seq (i : Fin 64) (f : Meas → Meas) : (s.modMeas i f).seq = s.seq := (rfl)
@[simp] theorem modMeas_flash (i : Fin 64) (f : Meas → Meas) : (s.modMeas i f).flash = s.flash := (rfl)
@[simp] theorem modMeas_hp (i : Fin 64) (f : Meas → Meas) : (s.modMeas i f).hp = s.hp := (rfl)
@[simp] theorem modMeas_prt (i : Fin 64) (f : Meas → Meas) : (s.modMeas i f).prt = s.prt := (rfl)
@[simp] theorem modMeas_hatch (i : Fin 64) (f : Meas → Meas) : (s.modMeas i f).hatch = s.hatch := (rfl)
@[simp] theorem modMeas_stock (i : Fin 64) (f : Meas → Meas) : (s.modMeas i f).stock = s.stock := (rfl)
@[simp] theorem modMeas_access (i : Fin 64) (f : Meas → Meas) : (s.modMeas i f).access = s.access := (rfl)
@[simp] theorem modMeas_pending (i : Fin 64) (f : Meas → Meas) : (s.modMeas i f).pending = s.pending := (rfl)
@[simp] theorem modMeas_reg (i : Fin 64) (f : Meas → Meas) (r : Nat) : (s.modMeas i f).reg r = s.reg r := (rfl)
@[simp] theorem modMeas_fld (i : Fin 64) (f : Meas → Meas) (r : Fld) : (s.modMeas i f).fld r = s.fld r := (rfl)
@[simp] theorem modMeas_sfld (i : Fin 64) (f : Meas → Meas) (r : Fld) : (s.modMeas i f).sfld r = s.sfld r := (rfl)
@[simp] theorem modMeas_flag (i : Fin 64) (f : Meas → Meas) (r : Fld) : (s.modMeas i f).flag r = s.flag r := (rfl)
@[simp] theorem modMeas_live (i : Fin 64) (f : Meas → Meas) : (s.modMeas i f).live = s.live := (rfl)
@[simp] theorem modMeas_implemented (i : Fin 64) (f : Meas → Meas) (r_ : Nat) : (s.modMeas i f).implemented r_ = s.implemented r_ := (rfl)
@[simp] theorem modMeas_linked (i : Fin 64) (f : Meas → Meas) (r_ : Nat) : (s.modMeas i f).linked r_ = s.linked r_ := (rfl)
@[simp] theorem modMeas_reach (i : Fin 64) (f : Meas → Meas) (r_ : Nat) : (s.modMeas i f).reach r_ = s.reach r_ := (rfl)
@[simp] theorem modMeas_hasDie (i : Fin 64) (f : Meas → Meas) (r_ : Nat) : (s.modMeas i f).hasDie r_ = s.hasDie r_ := (rfl)
@[simp] theorem modMeas_hasAxis (i : Fin 64) (f : Meas → Meas) (r_ : Nat) : (s.modMeas i f).hasAxis r_ = s.hasAxis r_ := (rfl)
@[simp] theorem modMeas_planned (i : Fin 64) (f : Meas → Meas) (r_ : Nat) : (s.modMeas i f).planned r_ = s.planned r_ := (rfl)
@[simp] theorem modMeas_stamp (i : Fin 64) (f : Meas → Meas) (r_ : Nat) : (s.modMeas i f).stamp r_ = s.stamp r_ := (rfl)
@[simp] theorem modMeas_fmRuns (i : Fin 64) (f : Meas → Meas) : (s.modMeas i f).fmRuns = s.fmRuns := (rfl)
@[simp] theorem modMeas_axisRec (i : Fin 64) (f : Meas → Meas) (r_ : Nat) : (s.modMeas i f).axisRec r_ = s.axisRec r_ := (rfl)
@[simp] theorem modMeas_schedRec (i : Fin 64) (f : Meas → Meas) (r_ : Nat) : (s.modMeas i f).schedRec r_ = s.schedRec r_ := (rfl)
@[simp] theorem modMeas_feedOf (i : Fin 64) (f : Meas → Meas) (r_ : Nat) : (s.modMeas i f).feedOf r_ = s.feedOf r_ := (rfl)
@[simp] theorem modMeas_feedOfChan (i : Fin 64) (f : Meas → Meas) (r_ : Nat) : (s.modMeas i f).feedOfChan r_ = s.feedOfChan r_ := (rfl)
@[simp] theorem modMeas_loopOf (i : Fin 64) (f : Meas → Meas) (r_ : Nat) : (s.modMeas i f).loopOf r_ = s.loopOf r_ := (rfl)
@[simp] theorem modMeas_protRec (i : Fin 64) (f : Meas → Meas) (r_ : Nat) : (s.modMeas i f).protRec r_ = s.protRec r_ := (rfl)
@[simp] theorem modMeas_axisSt (i : Fin 64) (f : Meas → Meas) (r_ : AxisId) : (s.modMeas i f).axisSt r_ = s.axisSt r_ := (rfl)
@[simp] theorem modMeas_axisOn (i : Fin 64) (f : Meas → Meas) (r_ : AxisId) : (s.modMeas i f).axisOn r_ = s.axisOn r_ := (rfl)
@[simp] theorem modMeas_opStat (i : Fin 64) (f : Meas → Meas) (r_ : Nat) : (s.modMeas i f).opStat r_ = s.opStat r_ := (rfl)
@[simp] theorem modMeas_opBusy (i : Fin 64) (f : Meas → Meas) (r_ : Nat) : (s.modMeas i f).opBusy r_ = s.opBusy r_ := (rfl)
@[simp] theorem modMeas_lastOp (i : Fin 64) (f : Meas → Meas) (r_ : Nat) : (s.modMeas i f).lastOp r_ = s.lastOp r_ := (rfl)

/-! ### modCalRun -/

@[simp] theorem modCalRun_variant (i : Fin 2) (f : Option CalRun → Option CalRun) : (s.modCalRun i f).variant = s.variant := (rfl)
@[simp] theorem modCalRun_power (i : Fin 2) (f : Option CalRun → Option CalRun) : (s.modCalRun i f).power = s.power := (rfl)
@[simp] theorem modCalRun_clock (i : Fin 2) (f : Option CalRun → Option CalRun) : (s.modCalRun i f).clock = s.clock := (rfl)
@[simp] theorem modCalRun_tsBase (i : Fin 2) (f : Option CalRun → Option CalRun) : (s.modCalRun i f).tsBase = s.tsBase := (rfl)
@[simp] theorem modCalRun_frame (i : Fin 2) (f : Option CalRun → Option CalRun) : (s.modCalRun i f).frame = s.frame := (rfl)
@[simp] theorem modCalRun_lastEngine (i : Fin 2) (f : Option CalRun → Option CalRun) : (s.modCalRun i f).lastEngine = s.lastEngine := (rfl)
@[simp] theorem modCalRun_lastMotion (i : Fin 2) (f : Option CalRun → Option CalRun) : (s.modCalRun i f).lastMotion = s.lastMotion := (rfl)
@[simp] theorem modCalRun_free (i : Fin 2) (f : Option CalRun → Option CalRun) : (s.modCalRun i f).free = s.free := (rfl)
@[simp] theorem modCalRun_regs (i : Fin 2) (f : Option CalRun → Option CalRun) : (s.modCalRun i f).regs = s.regs := (rfl)
@[simp] theorem modCalRun_fm (i : Fin 2) (f : Option CalRun → Option CalRun) : (s.modCalRun i f).fm = s.fm := (rfl)
@[simp] theorem modCalRun_box (i : Fin 2) (f : Option CalRun → Option CalRun) : (s.modCalRun i f).box = s.box := (rfl)
@[simp] theorem modCalRun_dies (i : Fin 2) (f : Option CalRun → Option CalRun) : (s.modCalRun i f).dies = s.dies := (rfl)
@[simp] theorem modCalRun_legs (i : Fin 2) (f : Option CalRun → Option CalRun) : (s.modCalRun i f).legs = s.legs := (rfl)
@[simp] theorem modCalRun_regions (i : Fin 2) (f : Option CalRun → Option CalRun) : (s.modCalRun i f).regions = s.regions := (rfl)
@[simp] theorem modCalRun_carriers (i : Fin 2) (f : Option CalRun → Option CalRun) : (s.modCalRun i f).carriers = s.carriers := (rfl)
@[simp] theorem modCalRun_wireTests (i : Fin 2) (f : Option CalRun → Option CalRun) : (s.modCalRun i f).wireTests = s.wireTests := (rfl)
@[simp] theorem modCalRun_leakTests (i : Fin 2) (f : Option CalRun → Option CalRun) : (s.modCalRun i f).leakTests = s.leakTests := (rfl)
@[simp] theorem modCalRun_seqs (i : Fin 2) (f : Option CalRun → Option CalRun) : (s.modCalRun i f).seqs = s.seqs := (rfl)
@[simp] theorem modCalRun_cores (i : Fin 2) (f : Option CalRun → Option CalRun) : (s.modCalRun i f).cores = s.cores := (rfl)
@[simp] theorem modCalRun_meas (i : Fin 2) (f : Option CalRun → Option CalRun) : (s.modCalRun i f).meas = s.meas := (rfl)
@[simp] theorem modCalRun_calRuns (i : Fin 2) (f : Option CalRun → Option CalRun) : (s.modCalRun i f).calRuns = s.calRuns.set i.val (f s.calRuns[i.val]) i.isLt := (rfl)
@[simp] theorem modCalRun_cmps (i : Fin 2) (f : Option CalRun → Option CalRun) : (s.modCalRun i f).cmps = s.cmps := (rfl)
@[simp] theorem modCalRun_audit (i : Fin 2) (f : Option CalRun → Option CalRun) : (s.modCalRun i f).audit = s.audit := (rfl)
@[simp] theorem modCalRun_inv (i : Fin 2) (f : Option CalRun → Option CalRun) : (s.modCalRun i f).inv = s.inv := (rfl)
@[simp] theorem modCalRun_invOp (i : Fin 2) (f : Option CalRun → Option CalRun) : (s.modCalRun i f).invOp = s.invOp := (rfl)
@[simp] theorem modCalRun_pins (i : Fin 2) (f : Option CalRun → Option CalRun) : (s.modCalRun i f).pins = s.pins := (rfl)
@[simp] theorem modCalRun_jtag (i : Fin 2) (f : Option CalRun → Option CalRun) : (s.modCalRun i f).jtag = s.jtag := (rfl)
@[simp] theorem modCalRun_engs (i : Fin 2) (f : Option CalRun → Option CalRun) : (s.modCalRun i f).engs = s.engs := (rfl)
@[simp] theorem modCalRun_engine (i : Fin 2) (f : Option CalRun → Option CalRun) : (s.modCalRun i f).engine = s.engine := (rfl)
@[simp] theorem modCalRun_axes (i : Fin 2) (f : Option CalRun → Option CalRun) : (s.modCalRun i f).axes = s.axes := (rfl)
@[simp] theorem modCalRun_chans (i : Fin 2) (f : Option CalRun → Option CalRun) : (s.modCalRun i f).chans = s.chans := (rfl)
@[simp] theorem modCalRun_compares (i : Fin 2) (f : Option CalRun → Option CalRun) : (s.modCalRun i f).compares = s.compares := (rfl)
@[simp] theorem modCalRun_larder (i : Fin 2) (f : Option CalRun → Option CalRun) : (s.modCalRun i f).larder = s.larder := (rfl)
@[simp] theorem modCalRun_ladder (i : Fin 2) (f : Option CalRun → Option CalRun) : (s.modCalRun i f).ladder = s.ladder := (rfl)
@[simp] theorem modCalRun_planner (i : Fin 2) (f : Option CalRun → Option CalRun) : (s.modCalRun i f).planner = s.planner := (rfl)
@[simp] theorem modCalRun_comps (i : Fin 2) (f : Option CalRun → Option CalRun) : (s.modCalRun i f).comps = s.comps := (rfl)
@[simp] theorem modCalRun_guard (i : Fin 2) (f : Option CalRun → Option CalRun) : (s.modCalRun i f).guard = s.guard := (rfl)
@[simp] theorem modCalRun_seq (i : Fin 2) (f : Option CalRun → Option CalRun) : (s.modCalRun i f).seq = s.seq := (rfl)
@[simp] theorem modCalRun_flash (i : Fin 2) (f : Option CalRun → Option CalRun) : (s.modCalRun i f).flash = s.flash := (rfl)
@[simp] theorem modCalRun_hp (i : Fin 2) (f : Option CalRun → Option CalRun) : (s.modCalRun i f).hp = s.hp := (rfl)
@[simp] theorem modCalRun_prt (i : Fin 2) (f : Option CalRun → Option CalRun) : (s.modCalRun i f).prt = s.prt := (rfl)
@[simp] theorem modCalRun_hatch (i : Fin 2) (f : Option CalRun → Option CalRun) : (s.modCalRun i f).hatch = s.hatch := (rfl)
@[simp] theorem modCalRun_stock (i : Fin 2) (f : Option CalRun → Option CalRun) : (s.modCalRun i f).stock = s.stock := (rfl)
@[simp] theorem modCalRun_access (i : Fin 2) (f : Option CalRun → Option CalRun) : (s.modCalRun i f).access = s.access := (rfl)
@[simp] theorem modCalRun_pending (i : Fin 2) (f : Option CalRun → Option CalRun) : (s.modCalRun i f).pending = s.pending := (rfl)
@[simp] theorem modCalRun_reg (i : Fin 2) (f : Option CalRun → Option CalRun) (r : Nat) : (s.modCalRun i f).reg r = s.reg r := (rfl)
@[simp] theorem modCalRun_fld (i : Fin 2) (f : Option CalRun → Option CalRun) (r : Fld) : (s.modCalRun i f).fld r = s.fld r := (rfl)
@[simp] theorem modCalRun_sfld (i : Fin 2) (f : Option CalRun → Option CalRun) (r : Fld) : (s.modCalRun i f).sfld r = s.sfld r := (rfl)
@[simp] theorem modCalRun_flag (i : Fin 2) (f : Option CalRun → Option CalRun) (r : Fld) : (s.modCalRun i f).flag r = s.flag r := (rfl)
@[simp] theorem modCalRun_live (i : Fin 2) (f : Option CalRun → Option CalRun) : (s.modCalRun i f).live = s.live := (rfl)
@[simp] theorem modCalRun_implemented (i : Fin 2) (f : Option CalRun → Option CalRun) (r_ : Nat) : (s.modCalRun i f).implemented r_ = s.implemented r_ := (rfl)
@[simp] theorem modCalRun_linked (i : Fin 2) (f : Option CalRun → Option CalRun) (r_ : Nat) : (s.modCalRun i f).linked r_ = s.linked r_ := (rfl)
@[simp] theorem modCalRun_reach (i : Fin 2) (f : Option CalRun → Option CalRun) (r_ : Nat) : (s.modCalRun i f).reach r_ = s.reach r_ := (rfl)
@[simp] theorem modCalRun_hasDie (i : Fin 2) (f : Option CalRun → Option CalRun) (r_ : Nat) : (s.modCalRun i f).hasDie r_ = s.hasDie r_ := (rfl)
@[simp] theorem modCalRun_hasAxis (i : Fin 2) (f : Option CalRun → Option CalRun) (r_ : Nat) : (s.modCalRun i f).hasAxis r_ = s.hasAxis r_ := (rfl)
@[simp] theorem modCalRun_planned (i : Fin 2) (f : Option CalRun → Option CalRun) (r_ : Nat) : (s.modCalRun i f).planned r_ = s.planned r_ := (rfl)
@[simp] theorem modCalRun_stamp (i : Fin 2) (f : Option CalRun → Option CalRun) (r_ : Nat) : (s.modCalRun i f).stamp r_ = s.stamp r_ := (rfl)
@[simp] theorem modCalRun_fmRuns (i : Fin 2) (f : Option CalRun → Option CalRun) : (s.modCalRun i f).fmRuns = s.fmRuns := (rfl)
@[simp] theorem modCalRun_axisRec (i : Fin 2) (f : Option CalRun → Option CalRun) (r_ : Nat) : (s.modCalRun i f).axisRec r_ = s.axisRec r_ := (rfl)
@[simp] theorem modCalRun_schedRec (i : Fin 2) (f : Option CalRun → Option CalRun) (r_ : Nat) : (s.modCalRun i f).schedRec r_ = s.schedRec r_ := (rfl)
@[simp] theorem modCalRun_feedOf (i : Fin 2) (f : Option CalRun → Option CalRun) (r_ : Nat) : (s.modCalRun i f).feedOf r_ = s.feedOf r_ := (rfl)
@[simp] theorem modCalRun_feedOfChan (i : Fin 2) (f : Option CalRun → Option CalRun) (r_ : Nat) : (s.modCalRun i f).feedOfChan r_ = s.feedOfChan r_ := (rfl)
@[simp] theorem modCalRun_loopOf (i : Fin 2) (f : Option CalRun → Option CalRun) (r_ : Nat) : (s.modCalRun i f).loopOf r_ = s.loopOf r_ := (rfl)
@[simp] theorem modCalRun_protRec (i : Fin 2) (f : Option CalRun → Option CalRun) (r_ : Nat) : (s.modCalRun i f).protRec r_ = s.protRec r_ := (rfl)
@[simp] theorem modCalRun_axisSt (i : Fin 2) (f : Option CalRun → Option CalRun) (r_ : AxisId) : (s.modCalRun i f).axisSt r_ = s.axisSt r_ := (rfl)
@[simp] theorem modCalRun_axisOn (i : Fin 2) (f : Option CalRun → Option CalRun) (r_ : AxisId) : (s.modCalRun i f).axisOn r_ = s.axisOn r_ := (rfl)
@[simp] theorem modCalRun_opStat (i : Fin 2) (f : Option CalRun → Option CalRun) (r_ : Nat) : (s.modCalRun i f).opStat r_ = s.opStat r_ := (rfl)
@[simp] theorem modCalRun_opBusy (i : Fin 2) (f : Option CalRun → Option CalRun) (r_ : Nat) : (s.modCalRun i f).opBusy r_ = s.opBusy r_ := (rfl)
@[simp] theorem modCalRun_lastOp (i : Fin 2) (f : Option CalRun → Option CalRun) (r_ : Nat) : (s.modCalRun i f).lastOp r_ = s.lastOp r_ := (rfl)

/-! ### modCmp -/

@[simp] theorem modCmp_variant (i : Fin 64) (f : Cmp → Cmp) : (s.modCmp i f).variant = s.variant := (rfl)
@[simp] theorem modCmp_power (i : Fin 64) (f : Cmp → Cmp) : (s.modCmp i f).power = s.power := (rfl)
@[simp] theorem modCmp_clock (i : Fin 64) (f : Cmp → Cmp) : (s.modCmp i f).clock = s.clock := (rfl)
@[simp] theorem modCmp_tsBase (i : Fin 64) (f : Cmp → Cmp) : (s.modCmp i f).tsBase = s.tsBase := (rfl)
@[simp] theorem modCmp_frame (i : Fin 64) (f : Cmp → Cmp) : (s.modCmp i f).frame = s.frame := (rfl)
@[simp] theorem modCmp_lastEngine (i : Fin 64) (f : Cmp → Cmp) : (s.modCmp i f).lastEngine = s.lastEngine := (rfl)
@[simp] theorem modCmp_lastMotion (i : Fin 64) (f : Cmp → Cmp) : (s.modCmp i f).lastMotion = s.lastMotion := (rfl)
@[simp] theorem modCmp_free (i : Fin 64) (f : Cmp → Cmp) : (s.modCmp i f).free = s.free := (rfl)
@[simp] theorem modCmp_regs (i : Fin 64) (f : Cmp → Cmp) : (s.modCmp i f).regs = s.regs := (rfl)
@[simp] theorem modCmp_fm (i : Fin 64) (f : Cmp → Cmp) : (s.modCmp i f).fm = s.fm := (rfl)
@[simp] theorem modCmp_box (i : Fin 64) (f : Cmp → Cmp) : (s.modCmp i f).box = s.box := (rfl)
@[simp] theorem modCmp_dies (i : Fin 64) (f : Cmp → Cmp) : (s.modCmp i f).dies = s.dies := (rfl)
@[simp] theorem modCmp_legs (i : Fin 64) (f : Cmp → Cmp) : (s.modCmp i f).legs = s.legs := (rfl)
@[simp] theorem modCmp_regions (i : Fin 64) (f : Cmp → Cmp) : (s.modCmp i f).regions = s.regions := (rfl)
@[simp] theorem modCmp_carriers (i : Fin 64) (f : Cmp → Cmp) : (s.modCmp i f).carriers = s.carriers := (rfl)
@[simp] theorem modCmp_wireTests (i : Fin 64) (f : Cmp → Cmp) : (s.modCmp i f).wireTests = s.wireTests := (rfl)
@[simp] theorem modCmp_leakTests (i : Fin 64) (f : Cmp → Cmp) : (s.modCmp i f).leakTests = s.leakTests := (rfl)
@[simp] theorem modCmp_seqs (i : Fin 64) (f : Cmp → Cmp) : (s.modCmp i f).seqs = s.seqs := (rfl)
@[simp] theorem modCmp_cores (i : Fin 64) (f : Cmp → Cmp) : (s.modCmp i f).cores = s.cores := (rfl)
@[simp] theorem modCmp_meas (i : Fin 64) (f : Cmp → Cmp) : (s.modCmp i f).meas = s.meas := (rfl)
@[simp] theorem modCmp_calRuns (i : Fin 64) (f : Cmp → Cmp) : (s.modCmp i f).calRuns = s.calRuns := (rfl)
@[simp] theorem modCmp_cmps (i : Fin 64) (f : Cmp → Cmp) : (s.modCmp i f).cmps = s.cmps.set i.val (f s.cmps[i.val]) i.isLt := (rfl)
@[simp] theorem modCmp_audit (i : Fin 64) (f : Cmp → Cmp) : (s.modCmp i f).audit = s.audit := (rfl)
@[simp] theorem modCmp_inv (i : Fin 64) (f : Cmp → Cmp) : (s.modCmp i f).inv = s.inv := (rfl)
@[simp] theorem modCmp_invOp (i : Fin 64) (f : Cmp → Cmp) : (s.modCmp i f).invOp = s.invOp := (rfl)
@[simp] theorem modCmp_pins (i : Fin 64) (f : Cmp → Cmp) : (s.modCmp i f).pins = s.pins := (rfl)
@[simp] theorem modCmp_jtag (i : Fin 64) (f : Cmp → Cmp) : (s.modCmp i f).jtag = s.jtag := (rfl)
@[simp] theorem modCmp_engs (i : Fin 64) (f : Cmp → Cmp) : (s.modCmp i f).engs = s.engs := (rfl)
@[simp] theorem modCmp_engine (i : Fin 64) (f : Cmp → Cmp) : (s.modCmp i f).engine = s.engine := (rfl)
@[simp] theorem modCmp_axes (i : Fin 64) (f : Cmp → Cmp) : (s.modCmp i f).axes = s.axes := (rfl)
@[simp] theorem modCmp_chans (i : Fin 64) (f : Cmp → Cmp) : (s.modCmp i f).chans = s.chans := (rfl)
@[simp] theorem modCmp_compares (i : Fin 64) (f : Cmp → Cmp) : (s.modCmp i f).compares = s.compares := (rfl)
@[simp] theorem modCmp_larder (i : Fin 64) (f : Cmp → Cmp) : (s.modCmp i f).larder = s.larder := (rfl)
@[simp] theorem modCmp_ladder (i : Fin 64) (f : Cmp → Cmp) : (s.modCmp i f).ladder = s.ladder := (rfl)
@[simp] theorem modCmp_planner (i : Fin 64) (f : Cmp → Cmp) : (s.modCmp i f).planner = s.planner := (rfl)
@[simp] theorem modCmp_comps (i : Fin 64) (f : Cmp → Cmp) : (s.modCmp i f).comps = s.comps := (rfl)
@[simp] theorem modCmp_guard (i : Fin 64) (f : Cmp → Cmp) : (s.modCmp i f).guard = s.guard := (rfl)
@[simp] theorem modCmp_seq (i : Fin 64) (f : Cmp → Cmp) : (s.modCmp i f).seq = s.seq := (rfl)
@[simp] theorem modCmp_flash (i : Fin 64) (f : Cmp → Cmp) : (s.modCmp i f).flash = s.flash := (rfl)
@[simp] theorem modCmp_hp (i : Fin 64) (f : Cmp → Cmp) : (s.modCmp i f).hp = s.hp := (rfl)
@[simp] theorem modCmp_prt (i : Fin 64) (f : Cmp → Cmp) : (s.modCmp i f).prt = s.prt := (rfl)
@[simp] theorem modCmp_hatch (i : Fin 64) (f : Cmp → Cmp) : (s.modCmp i f).hatch = s.hatch := (rfl)
@[simp] theorem modCmp_stock (i : Fin 64) (f : Cmp → Cmp) : (s.modCmp i f).stock = s.stock := (rfl)
@[simp] theorem modCmp_access (i : Fin 64) (f : Cmp → Cmp) : (s.modCmp i f).access = s.access := (rfl)
@[simp] theorem modCmp_pending (i : Fin 64) (f : Cmp → Cmp) : (s.modCmp i f).pending = s.pending := (rfl)
@[simp] theorem modCmp_reg (i : Fin 64) (f : Cmp → Cmp) (r : Nat) : (s.modCmp i f).reg r = s.reg r := (rfl)
@[simp] theorem modCmp_fld (i : Fin 64) (f : Cmp → Cmp) (r : Fld) : (s.modCmp i f).fld r = s.fld r := (rfl)
@[simp] theorem modCmp_sfld (i : Fin 64) (f : Cmp → Cmp) (r : Fld) : (s.modCmp i f).sfld r = s.sfld r := (rfl)
@[simp] theorem modCmp_flag (i : Fin 64) (f : Cmp → Cmp) (r : Fld) : (s.modCmp i f).flag r = s.flag r := (rfl)
@[simp] theorem modCmp_live (i : Fin 64) (f : Cmp → Cmp) : (s.modCmp i f).live = s.live := (rfl)
@[simp] theorem modCmp_implemented (i : Fin 64) (f : Cmp → Cmp) (r_ : Nat) : (s.modCmp i f).implemented r_ = s.implemented r_ := (rfl)
@[simp] theorem modCmp_linked (i : Fin 64) (f : Cmp → Cmp) (r_ : Nat) : (s.modCmp i f).linked r_ = s.linked r_ := (rfl)
@[simp] theorem modCmp_reach (i : Fin 64) (f : Cmp → Cmp) (r_ : Nat) : (s.modCmp i f).reach r_ = s.reach r_ := (rfl)
@[simp] theorem modCmp_hasDie (i : Fin 64) (f : Cmp → Cmp) (r_ : Nat) : (s.modCmp i f).hasDie r_ = s.hasDie r_ := (rfl)
@[simp] theorem modCmp_hasAxis (i : Fin 64) (f : Cmp → Cmp) (r_ : Nat) : (s.modCmp i f).hasAxis r_ = s.hasAxis r_ := (rfl)
@[simp] theorem modCmp_planned (i : Fin 64) (f : Cmp → Cmp) (r_ : Nat) : (s.modCmp i f).planned r_ = s.planned r_ := (rfl)
@[simp] theorem modCmp_stamp (i : Fin 64) (f : Cmp → Cmp) (r_ : Nat) : (s.modCmp i f).stamp r_ = s.stamp r_ := (rfl)
@[simp] theorem modCmp_fmRuns (i : Fin 64) (f : Cmp → Cmp) : (s.modCmp i f).fmRuns = s.fmRuns := (rfl)
@[simp] theorem modCmp_axisRec (i : Fin 64) (f : Cmp → Cmp) (r_ : Nat) : (s.modCmp i f).axisRec r_ = s.axisRec r_ := (rfl)
@[simp] theorem modCmp_schedRec (i : Fin 64) (f : Cmp → Cmp) (r_ : Nat) : (s.modCmp i f).schedRec r_ = s.schedRec r_ := (rfl)
@[simp] theorem modCmp_feedOf (i : Fin 64) (f : Cmp → Cmp) (r_ : Nat) : (s.modCmp i f).feedOf r_ = s.feedOf r_ := (rfl)
@[simp] theorem modCmp_feedOfChan (i : Fin 64) (f : Cmp → Cmp) (r_ : Nat) : (s.modCmp i f).feedOfChan r_ = s.feedOfChan r_ := (rfl)
@[simp] theorem modCmp_loopOf (i : Fin 64) (f : Cmp → Cmp) (r_ : Nat) : (s.modCmp i f).loopOf r_ = s.loopOf r_ := (rfl)
@[simp] theorem modCmp_protRec (i : Fin 64) (f : Cmp → Cmp) (r_ : Nat) : (s.modCmp i f).protRec r_ = s.protRec r_ := (rfl)
@[simp] theorem modCmp_axisSt (i : Fin 64) (f : Cmp → Cmp) (r_ : AxisId) : (s.modCmp i f).axisSt r_ = s.axisSt r_ := (rfl)
@[simp] theorem modCmp_axisOn (i : Fin 64) (f : Cmp → Cmp) (r_ : AxisId) : (s.modCmp i f).axisOn r_ = s.axisOn r_ := (rfl)
@[simp] theorem modCmp_opStat (i : Fin 64) (f : Cmp → Cmp) (r_ : Nat) : (s.modCmp i f).opStat r_ = s.opStat r_ := (rfl)
@[simp] theorem modCmp_opBusy (i : Fin 64) (f : Cmp → Cmp) (r_ : Nat) : (s.modCmp i f).opBusy r_ = s.opBusy r_ := (rfl)
@[simp] theorem modCmp_lastOp (i : Fin 64) (f : Cmp → Cmp) (r_ : Nat) : (s.modCmp i f).lastOp r_ = s.lastOp r_ := (rfl)

/-! ### modEng -/

@[simp] theorem modEng_variant (i : Fin 8) (f : AxisEng → AxisEng) : (s.modEng i f).variant = s.variant := (rfl)
@[simp] theorem modEng_power (i : Fin 8) (f : AxisEng → AxisEng) : (s.modEng i f).power = s.power := (rfl)
@[simp] theorem modEng_clock (i : Fin 8) (f : AxisEng → AxisEng) : (s.modEng i f).clock = s.clock := (rfl)
@[simp] theorem modEng_tsBase (i : Fin 8) (f : AxisEng → AxisEng) : (s.modEng i f).tsBase = s.tsBase := (rfl)
@[simp] theorem modEng_frame (i : Fin 8) (f : AxisEng → AxisEng) : (s.modEng i f).frame = s.frame := (rfl)
@[simp] theorem modEng_lastEngine (i : Fin 8) (f : AxisEng → AxisEng) : (s.modEng i f).lastEngine = s.lastEngine := (rfl)
@[simp] theorem modEng_lastMotion (i : Fin 8) (f : AxisEng → AxisEng) : (s.modEng i f).lastMotion = s.lastMotion := (rfl)
@[simp] theorem modEng_free (i : Fin 8) (f : AxisEng → AxisEng) : (s.modEng i f).free = s.free := (rfl)
@[simp] theorem modEng_regs (i : Fin 8) (f : AxisEng → AxisEng) : (s.modEng i f).regs = s.regs := (rfl)
@[simp] theorem modEng_fm (i : Fin 8) (f : AxisEng → AxisEng) : (s.modEng i f).fm = s.fm := (rfl)
@[simp] theorem modEng_box (i : Fin 8) (f : AxisEng → AxisEng) : (s.modEng i f).box = s.box := (rfl)
@[simp] theorem modEng_dies (i : Fin 8) (f : AxisEng → AxisEng) : (s.modEng i f).dies = s.dies := (rfl)
@[simp] theorem modEng_legs (i : Fin 8) (f : AxisEng → AxisEng) : (s.modEng i f).legs = s.legs := (rfl)
@[simp] theorem modEng_regions (i : Fin 8) (f : AxisEng → AxisEng) : (s.modEng i f).regions = s.regions := (rfl)
@[simp] theorem modEng_carriers (i : Fin 8) (f : AxisEng → AxisEng) : (s.modEng i f).carriers = s.carriers := (rfl)
@[simp] theorem modEng_wireTests (i : Fin 8) (f : AxisEng → AxisEng) : (s.modEng i f).wireTests = s.wireTests := (rfl)
@[simp] theorem modEng_leakTests (i : Fin 8) (f : AxisEng → AxisEng) : (s.modEng i f).leakTests = s.leakTests := (rfl)
@[simp] theorem modEng_seqs (i : Fin 8) (f : AxisEng → AxisEng) : (s.modEng i f).seqs = s.seqs := (rfl)
@[simp] theorem modEng_cores (i : Fin 8) (f : AxisEng → AxisEng) : (s.modEng i f).cores = s.cores := (rfl)
@[simp] theorem modEng_meas (i : Fin 8) (f : AxisEng → AxisEng) : (s.modEng i f).meas = s.meas := (rfl)
@[simp] theorem modEng_calRuns (i : Fin 8) (f : AxisEng → AxisEng) : (s.modEng i f).calRuns = s.calRuns := (rfl)
@[simp] theorem modEng_cmps (i : Fin 8) (f : AxisEng → AxisEng) : (s.modEng i f).cmps = s.cmps := (rfl)
@[simp] theorem modEng_audit (i : Fin 8) (f : AxisEng → AxisEng) : (s.modEng i f).audit = s.audit := (rfl)
@[simp] theorem modEng_inv (i : Fin 8) (f : AxisEng → AxisEng) : (s.modEng i f).inv = s.inv := (rfl)
@[simp] theorem modEng_invOp (i : Fin 8) (f : AxisEng → AxisEng) : (s.modEng i f).invOp = s.invOp := (rfl)
@[simp] theorem modEng_pins (i : Fin 8) (f : AxisEng → AxisEng) : (s.modEng i f).pins = s.pins := (rfl)
@[simp] theorem modEng_jtag (i : Fin 8) (f : AxisEng → AxisEng) : (s.modEng i f).jtag = s.jtag := (rfl)
@[simp] theorem modEng_engs (i : Fin 8) (f : AxisEng → AxisEng) : (s.modEng i f).engs = s.engs.set i.val (f s.engs[i.val]) i.isLt := (rfl)
@[simp] theorem modEng_engine (i : Fin 8) (f : AxisEng → AxisEng) : (s.modEng i f).engine = s.engine := (rfl)
@[simp] theorem modEng_axes (i : Fin 8) (f : AxisEng → AxisEng) : (s.modEng i f).axes = s.axes := (rfl)
@[simp] theorem modEng_chans (i : Fin 8) (f : AxisEng → AxisEng) : (s.modEng i f).chans = s.chans := (rfl)
@[simp] theorem modEng_compares (i : Fin 8) (f : AxisEng → AxisEng) : (s.modEng i f).compares = s.compares := (rfl)
@[simp] theorem modEng_larder (i : Fin 8) (f : AxisEng → AxisEng) : (s.modEng i f).larder = s.larder := (rfl)
@[simp] theorem modEng_ladder (i : Fin 8) (f : AxisEng → AxisEng) : (s.modEng i f).ladder = s.ladder := (rfl)
@[simp] theorem modEng_planner (i : Fin 8) (f : AxisEng → AxisEng) : (s.modEng i f).planner = s.planner := (rfl)
@[simp] theorem modEng_comps (i : Fin 8) (f : AxisEng → AxisEng) : (s.modEng i f).comps = s.comps := (rfl)
@[simp] theorem modEng_guard (i : Fin 8) (f : AxisEng → AxisEng) : (s.modEng i f).guard = s.guard := (rfl)
@[simp] theorem modEng_seq (i : Fin 8) (f : AxisEng → AxisEng) : (s.modEng i f).seq = s.seq := (rfl)
@[simp] theorem modEng_flash (i : Fin 8) (f : AxisEng → AxisEng) : (s.modEng i f).flash = s.flash := (rfl)
@[simp] theorem modEng_hp (i : Fin 8) (f : AxisEng → AxisEng) : (s.modEng i f).hp = s.hp := (rfl)
@[simp] theorem modEng_prt (i : Fin 8) (f : AxisEng → AxisEng) : (s.modEng i f).prt = s.prt := (rfl)
@[simp] theorem modEng_hatch (i : Fin 8) (f : AxisEng → AxisEng) : (s.modEng i f).hatch = s.hatch := (rfl)
@[simp] theorem modEng_stock (i : Fin 8) (f : AxisEng → AxisEng) : (s.modEng i f).stock = s.stock := (rfl)
@[simp] theorem modEng_access (i : Fin 8) (f : AxisEng → AxisEng) : (s.modEng i f).access = s.access := (rfl)
@[simp] theorem modEng_pending (i : Fin 8) (f : AxisEng → AxisEng) : (s.modEng i f).pending = s.pending := (rfl)
@[simp] theorem modEng_reg (i : Fin 8) (f : AxisEng → AxisEng) (r : Nat) : (s.modEng i f).reg r = s.reg r := (rfl)
@[simp] theorem modEng_fld (i : Fin 8) (f : AxisEng → AxisEng) (r : Fld) : (s.modEng i f).fld r = s.fld r := (rfl)
@[simp] theorem modEng_sfld (i : Fin 8) (f : AxisEng → AxisEng) (r : Fld) : (s.modEng i f).sfld r = s.sfld r := (rfl)
@[simp] theorem modEng_flag (i : Fin 8) (f : AxisEng → AxisEng) (r : Fld) : (s.modEng i f).flag r = s.flag r := (rfl)
@[simp] theorem modEng_live (i : Fin 8) (f : AxisEng → AxisEng) : (s.modEng i f).live = s.live := (rfl)
@[simp] theorem modEng_implemented (i : Fin 8) (f : AxisEng → AxisEng) (r_ : Nat) : (s.modEng i f).implemented r_ = s.implemented r_ := (rfl)
@[simp] theorem modEng_linked (i : Fin 8) (f : AxisEng → AxisEng) (r_ : Nat) : (s.modEng i f).linked r_ = s.linked r_ := (rfl)
@[simp] theorem modEng_reach (i : Fin 8) (f : AxisEng → AxisEng) (r_ : Nat) : (s.modEng i f).reach r_ = s.reach r_ := (rfl)
@[simp] theorem modEng_hasDie (i : Fin 8) (f : AxisEng → AxisEng) (r_ : Nat) : (s.modEng i f).hasDie r_ = s.hasDie r_ := (rfl)
@[simp] theorem modEng_hasAxis (i : Fin 8) (f : AxisEng → AxisEng) (r_ : Nat) : (s.modEng i f).hasAxis r_ = s.hasAxis r_ := (rfl)
@[simp] theorem modEng_planned (i : Fin 8) (f : AxisEng → AxisEng) (r_ : Nat) : (s.modEng i f).planned r_ = s.planned r_ := (rfl)
@[simp] theorem modEng_stamp (i : Fin 8) (f : AxisEng → AxisEng) (r_ : Nat) : (s.modEng i f).stamp r_ = s.stamp r_ := (rfl)
@[simp] theorem modEng_fmRuns (i : Fin 8) (f : AxisEng → AxisEng) : (s.modEng i f).fmRuns = s.fmRuns := (rfl)
@[simp] theorem modEng_axisRec (i : Fin 8) (f : AxisEng → AxisEng) (r_ : Nat) : (s.modEng i f).axisRec r_ = s.axisRec r_ := (rfl)
@[simp] theorem modEng_schedRec (i : Fin 8) (f : AxisEng → AxisEng) (r_ : Nat) : (s.modEng i f).schedRec r_ = s.schedRec r_ := (rfl)
@[simp] theorem modEng_feedOf (i : Fin 8) (f : AxisEng → AxisEng) (r_ : Nat) : (s.modEng i f).feedOf r_ = s.feedOf r_ := (rfl)
@[simp] theorem modEng_feedOfChan (i : Fin 8) (f : AxisEng → AxisEng) (r_ : Nat) : (s.modEng i f).feedOfChan r_ = s.feedOfChan r_ := (rfl)
@[simp] theorem modEng_loopOf (i : Fin 8) (f : AxisEng → AxisEng) (r_ : Nat) : (s.modEng i f).loopOf r_ = s.loopOf r_ := (rfl)
@[simp] theorem modEng_protRec (i : Fin 8) (f : AxisEng → AxisEng) (r_ : Nat) : (s.modEng i f).protRec r_ = s.protRec r_ := (rfl)
@[simp] theorem modEng_axisSt (i : Fin 8) (f : AxisEng → AxisEng) (r_ : AxisId) : (s.modEng i f).axisSt r_ = s.axisSt r_ := (rfl)
@[simp] theorem modEng_axisOn (i : Fin 8) (f : AxisEng → AxisEng) (r_ : AxisId) : (s.modEng i f).axisOn r_ = s.axisOn r_ := (rfl)
@[simp] theorem modEng_opStat (i : Fin 8) (f : AxisEng → AxisEng) (r_ : Nat) : (s.modEng i f).opStat r_ = s.opStat r_ := (rfl)
@[simp] theorem modEng_opBusy (i : Fin 8) (f : AxisEng → AxisEng) (r_ : Nat) : (s.modEng i f).opBusy r_ = s.opBusy r_ := (rfl)
@[simp] theorem modEng_lastOp (i : Fin 8) (f : AxisEng → AxisEng) (r_ : Nat) : (s.modEng i f).lastOp r_ = s.lastOp r_ := (rfl)

/-! ### modAxis -/

@[simp] theorem modAxis_variant (i : Fin 8) (f : AxisMot → AxisMot) : (s.modAxis i f).variant = s.variant := (rfl)
@[simp] theorem modAxis_power (i : Fin 8) (f : AxisMot → AxisMot) : (s.modAxis i f).power = s.power := (rfl)
@[simp] theorem modAxis_clock (i : Fin 8) (f : AxisMot → AxisMot) : (s.modAxis i f).clock = s.clock := (rfl)
@[simp] theorem modAxis_tsBase (i : Fin 8) (f : AxisMot → AxisMot) : (s.modAxis i f).tsBase = s.tsBase := (rfl)
@[simp] theorem modAxis_frame (i : Fin 8) (f : AxisMot → AxisMot) : (s.modAxis i f).frame = s.frame := (rfl)
@[simp] theorem modAxis_lastEngine (i : Fin 8) (f : AxisMot → AxisMot) : (s.modAxis i f).lastEngine = s.lastEngine := (rfl)
@[simp] theorem modAxis_lastMotion (i : Fin 8) (f : AxisMot → AxisMot) : (s.modAxis i f).lastMotion = s.lastMotion := (rfl)
@[simp] theorem modAxis_free (i : Fin 8) (f : AxisMot → AxisMot) : (s.modAxis i f).free = s.free := (rfl)
@[simp] theorem modAxis_regs (i : Fin 8) (f : AxisMot → AxisMot) : (s.modAxis i f).regs = s.regs := (rfl)
@[simp] theorem modAxis_fm (i : Fin 8) (f : AxisMot → AxisMot) : (s.modAxis i f).fm = s.fm := (rfl)
@[simp] theorem modAxis_box (i : Fin 8) (f : AxisMot → AxisMot) : (s.modAxis i f).box = s.box := (rfl)
@[simp] theorem modAxis_dies (i : Fin 8) (f : AxisMot → AxisMot) : (s.modAxis i f).dies = s.dies := (rfl)
@[simp] theorem modAxis_legs (i : Fin 8) (f : AxisMot → AxisMot) : (s.modAxis i f).legs = s.legs := (rfl)
@[simp] theorem modAxis_regions (i : Fin 8) (f : AxisMot → AxisMot) : (s.modAxis i f).regions = s.regions := (rfl)
@[simp] theorem modAxis_carriers (i : Fin 8) (f : AxisMot → AxisMot) : (s.modAxis i f).carriers = s.carriers := (rfl)
@[simp] theorem modAxis_wireTests (i : Fin 8) (f : AxisMot → AxisMot) : (s.modAxis i f).wireTests = s.wireTests := (rfl)
@[simp] theorem modAxis_leakTests (i : Fin 8) (f : AxisMot → AxisMot) : (s.modAxis i f).leakTests = s.leakTests := (rfl)
@[simp] theorem modAxis_seqs (i : Fin 8) (f : AxisMot → AxisMot) : (s.modAxis i f).seqs = s.seqs := (rfl)
@[simp] theorem modAxis_cores (i : Fin 8) (f : AxisMot → AxisMot) : (s.modAxis i f).cores = s.cores := (rfl)
@[simp] theorem modAxis_meas (i : Fin 8) (f : AxisMot → AxisMot) : (s.modAxis i f).meas = s.meas := (rfl)
@[simp] theorem modAxis_calRuns (i : Fin 8) (f : AxisMot → AxisMot) : (s.modAxis i f).calRuns = s.calRuns := (rfl)
@[simp] theorem modAxis_cmps (i : Fin 8) (f : AxisMot → AxisMot) : (s.modAxis i f).cmps = s.cmps := (rfl)
@[simp] theorem modAxis_audit (i : Fin 8) (f : AxisMot → AxisMot) : (s.modAxis i f).audit = s.audit := (rfl)
@[simp] theorem modAxis_inv (i : Fin 8) (f : AxisMot → AxisMot) : (s.modAxis i f).inv = s.inv := (rfl)
@[simp] theorem modAxis_invOp (i : Fin 8) (f : AxisMot → AxisMot) : (s.modAxis i f).invOp = s.invOp := (rfl)
@[simp] theorem modAxis_pins (i : Fin 8) (f : AxisMot → AxisMot) : (s.modAxis i f).pins = s.pins := (rfl)
@[simp] theorem modAxis_jtag (i : Fin 8) (f : AxisMot → AxisMot) : (s.modAxis i f).jtag = s.jtag := (rfl)
@[simp] theorem modAxis_engs (i : Fin 8) (f : AxisMot → AxisMot) : (s.modAxis i f).engs = s.engs := (rfl)
@[simp] theorem modAxis_engine (i : Fin 8) (f : AxisMot → AxisMot) : (s.modAxis i f).engine = s.engine := (rfl)
@[simp] theorem modAxis_axes (i : Fin 8) (f : AxisMot → AxisMot) : (s.modAxis i f).axes = s.axes.set i.val (f s.axes[i.val]) i.isLt := (rfl)
@[simp] theorem modAxis_chans (i : Fin 8) (f : AxisMot → AxisMot) : (s.modAxis i f).chans = s.chans := (rfl)
@[simp] theorem modAxis_compares (i : Fin 8) (f : AxisMot → AxisMot) : (s.modAxis i f).compares = s.compares := (rfl)
@[simp] theorem modAxis_larder (i : Fin 8) (f : AxisMot → AxisMot) : (s.modAxis i f).larder = s.larder := (rfl)
@[simp] theorem modAxis_ladder (i : Fin 8) (f : AxisMot → AxisMot) : (s.modAxis i f).ladder = s.ladder := (rfl)
@[simp] theorem modAxis_planner (i : Fin 8) (f : AxisMot → AxisMot) : (s.modAxis i f).planner = s.planner := (rfl)
@[simp] theorem modAxis_comps (i : Fin 8) (f : AxisMot → AxisMot) : (s.modAxis i f).comps = s.comps := (rfl)
@[simp] theorem modAxis_guard (i : Fin 8) (f : AxisMot → AxisMot) : (s.modAxis i f).guard = s.guard := (rfl)
@[simp] theorem modAxis_seq (i : Fin 8) (f : AxisMot → AxisMot) : (s.modAxis i f).seq = s.seq := (rfl)
@[simp] theorem modAxis_flash (i : Fin 8) (f : AxisMot → AxisMot) : (s.modAxis i f).flash = s.flash := (rfl)
@[simp] theorem modAxis_hp (i : Fin 8) (f : AxisMot → AxisMot) : (s.modAxis i f).hp = s.hp := (rfl)
@[simp] theorem modAxis_prt (i : Fin 8) (f : AxisMot → AxisMot) : (s.modAxis i f).prt = s.prt := (rfl)
@[simp] theorem modAxis_hatch (i : Fin 8) (f : AxisMot → AxisMot) : (s.modAxis i f).hatch = s.hatch := (rfl)
@[simp] theorem modAxis_stock (i : Fin 8) (f : AxisMot → AxisMot) : (s.modAxis i f).stock = s.stock := (rfl)
@[simp] theorem modAxis_access (i : Fin 8) (f : AxisMot → AxisMot) : (s.modAxis i f).access = s.access := (rfl)
@[simp] theorem modAxis_pending (i : Fin 8) (f : AxisMot → AxisMot) : (s.modAxis i f).pending = s.pending := (rfl)
@[simp] theorem modAxis_reg (i : Fin 8) (f : AxisMot → AxisMot) (r : Nat) : (s.modAxis i f).reg r = s.reg r := (rfl)
@[simp] theorem modAxis_fld (i : Fin 8) (f : AxisMot → AxisMot) (r : Fld) : (s.modAxis i f).fld r = s.fld r := (rfl)
@[simp] theorem modAxis_sfld (i : Fin 8) (f : AxisMot → AxisMot) (r : Fld) : (s.modAxis i f).sfld r = s.sfld r := (rfl)
@[simp] theorem modAxis_flag (i : Fin 8) (f : AxisMot → AxisMot) (r : Fld) : (s.modAxis i f).flag r = s.flag r := (rfl)
@[simp] theorem modAxis_live (i : Fin 8) (f : AxisMot → AxisMot) : (s.modAxis i f).live = s.live := (rfl)
@[simp] theorem modAxis_implemented (i : Fin 8) (f : AxisMot → AxisMot) (r_ : Nat) : (s.modAxis i f).implemented r_ = s.implemented r_ := (rfl)
@[simp] theorem modAxis_linked (i : Fin 8) (f : AxisMot → AxisMot) (r_ : Nat) : (s.modAxis i f).linked r_ = s.linked r_ := (rfl)
@[simp] theorem modAxis_reach (i : Fin 8) (f : AxisMot → AxisMot) (r_ : Nat) : (s.modAxis i f).reach r_ = s.reach r_ := (rfl)
@[simp] theorem modAxis_hasDie (i : Fin 8) (f : AxisMot → AxisMot) (r_ : Nat) : (s.modAxis i f).hasDie r_ = s.hasDie r_ := (rfl)
@[simp] theorem modAxis_hasAxis (i : Fin 8) (f : AxisMot → AxisMot) (r_ : Nat) : (s.modAxis i f).hasAxis r_ = s.hasAxis r_ := (rfl)
@[simp] theorem modAxis_planned (i : Fin 8) (f : AxisMot → AxisMot) (r_ : Nat) : (s.modAxis i f).planned r_ = s.planned r_ := (rfl)
@[simp] theorem modAxis_stamp (i : Fin 8) (f : AxisMot → AxisMot) (r_ : Nat) : (s.modAxis i f).stamp r_ = s.stamp r_ := (rfl)
@[simp] theorem modAxis_fmRuns (i : Fin 8) (f : AxisMot → AxisMot) : (s.modAxis i f).fmRuns = s.fmRuns := (rfl)
@[simp] theorem modAxis_axisRec (i : Fin 8) (f : AxisMot → AxisMot) (r_ : Nat) : (s.modAxis i f).axisRec r_ = s.axisRec r_ := (rfl)
@[simp] theorem modAxis_schedRec (i : Fin 8) (f : AxisMot → AxisMot) (r_ : Nat) : (s.modAxis i f).schedRec r_ = s.schedRec r_ := (rfl)
@[simp] theorem modAxis_feedOf (i : Fin 8) (f : AxisMot → AxisMot) (r_ : Nat) : (s.modAxis i f).feedOf r_ = s.feedOf r_ := (rfl)
@[simp] theorem modAxis_feedOfChan (i : Fin 8) (f : AxisMot → AxisMot) (r_ : Nat) : (s.modAxis i f).feedOfChan r_ = s.feedOfChan r_ := (rfl)
@[simp] theorem modAxis_loopOf (i : Fin 8) (f : AxisMot → AxisMot) (r_ : Nat) : (s.modAxis i f).loopOf r_ = s.loopOf r_ := (rfl)
@[simp] theorem modAxis_protRec (i : Fin 8) (f : AxisMot → AxisMot) (r_ : Nat) : (s.modAxis i f).protRec r_ = s.protRec r_ := (rfl)
@[simp] theorem modAxis_axisSt (i : Fin 8) (f : AxisMot → AxisMot) (r_ : AxisId) : (s.modAxis i f).axisSt r_ = s.axisSt r_ := (rfl)
@[simp] theorem modAxis_axisOn (i : Fin 8) (f : AxisMot → AxisMot) (r_ : AxisId) : (s.modAxis i f).axisOn r_ = s.axisOn r_ := (rfl)
@[simp] theorem modAxis_opStat (i : Fin 8) (f : AxisMot → AxisMot) (r_ : Nat) : (s.modAxis i f).opStat r_ = s.opStat r_ := (rfl)
@[simp] theorem modAxis_opBusy (i : Fin 8) (f : AxisMot → AxisMot) (r_ : Nat) : (s.modAxis i f).opBusy r_ = s.opBusy r_ := (rfl)
@[simp] theorem modAxis_lastOp (i : Fin 8) (f : AxisMot → AxisMot) (r_ : Nat) : (s.modAxis i f).lastOp r_ = s.lastOp r_ := (rfl)

/-! ### modChan -/

@[simp] theorem modChan_variant (i : Fin 8) (f : FbChan → FbChan) : (s.modChan i f).variant = s.variant := (rfl)
@[simp] theorem modChan_power (i : Fin 8) (f : FbChan → FbChan) : (s.modChan i f).power = s.power := (rfl)
@[simp] theorem modChan_clock (i : Fin 8) (f : FbChan → FbChan) : (s.modChan i f).clock = s.clock := (rfl)
@[simp] theorem modChan_tsBase (i : Fin 8) (f : FbChan → FbChan) : (s.modChan i f).tsBase = s.tsBase := (rfl)
@[simp] theorem modChan_frame (i : Fin 8) (f : FbChan → FbChan) : (s.modChan i f).frame = s.frame := (rfl)
@[simp] theorem modChan_lastEngine (i : Fin 8) (f : FbChan → FbChan) : (s.modChan i f).lastEngine = s.lastEngine := (rfl)
@[simp] theorem modChan_lastMotion (i : Fin 8) (f : FbChan → FbChan) : (s.modChan i f).lastMotion = s.lastMotion := (rfl)
@[simp] theorem modChan_free (i : Fin 8) (f : FbChan → FbChan) : (s.modChan i f).free = s.free := (rfl)
@[simp] theorem modChan_regs (i : Fin 8) (f : FbChan → FbChan) : (s.modChan i f).regs = s.regs := (rfl)
@[simp] theorem modChan_fm (i : Fin 8) (f : FbChan → FbChan) : (s.modChan i f).fm = s.fm := (rfl)
@[simp] theorem modChan_box (i : Fin 8) (f : FbChan → FbChan) : (s.modChan i f).box = s.box := (rfl)
@[simp] theorem modChan_dies (i : Fin 8) (f : FbChan → FbChan) : (s.modChan i f).dies = s.dies := (rfl)
@[simp] theorem modChan_legs (i : Fin 8) (f : FbChan → FbChan) : (s.modChan i f).legs = s.legs := (rfl)
@[simp] theorem modChan_regions (i : Fin 8) (f : FbChan → FbChan) : (s.modChan i f).regions = s.regions := (rfl)
@[simp] theorem modChan_carriers (i : Fin 8) (f : FbChan → FbChan) : (s.modChan i f).carriers = s.carriers := (rfl)
@[simp] theorem modChan_wireTests (i : Fin 8) (f : FbChan → FbChan) : (s.modChan i f).wireTests = s.wireTests := (rfl)
@[simp] theorem modChan_leakTests (i : Fin 8) (f : FbChan → FbChan) : (s.modChan i f).leakTests = s.leakTests := (rfl)
@[simp] theorem modChan_seqs (i : Fin 8) (f : FbChan → FbChan) : (s.modChan i f).seqs = s.seqs := (rfl)
@[simp] theorem modChan_cores (i : Fin 8) (f : FbChan → FbChan) : (s.modChan i f).cores = s.cores := (rfl)
@[simp] theorem modChan_meas (i : Fin 8) (f : FbChan → FbChan) : (s.modChan i f).meas = s.meas := (rfl)
@[simp] theorem modChan_calRuns (i : Fin 8) (f : FbChan → FbChan) : (s.modChan i f).calRuns = s.calRuns := (rfl)
@[simp] theorem modChan_cmps (i : Fin 8) (f : FbChan → FbChan) : (s.modChan i f).cmps = s.cmps := (rfl)
@[simp] theorem modChan_audit (i : Fin 8) (f : FbChan → FbChan) : (s.modChan i f).audit = s.audit := (rfl)
@[simp] theorem modChan_inv (i : Fin 8) (f : FbChan → FbChan) : (s.modChan i f).inv = s.inv := (rfl)
@[simp] theorem modChan_invOp (i : Fin 8) (f : FbChan → FbChan) : (s.modChan i f).invOp = s.invOp := (rfl)
@[simp] theorem modChan_pins (i : Fin 8) (f : FbChan → FbChan) : (s.modChan i f).pins = s.pins := (rfl)
@[simp] theorem modChan_jtag (i : Fin 8) (f : FbChan → FbChan) : (s.modChan i f).jtag = s.jtag := (rfl)
@[simp] theorem modChan_engs (i : Fin 8) (f : FbChan → FbChan) : (s.modChan i f).engs = s.engs := (rfl)
@[simp] theorem modChan_engine (i : Fin 8) (f : FbChan → FbChan) : (s.modChan i f).engine = s.engine := (rfl)
@[simp] theorem modChan_axes (i : Fin 8) (f : FbChan → FbChan) : (s.modChan i f).axes = s.axes := (rfl)
@[simp] theorem modChan_chans (i : Fin 8) (f : FbChan → FbChan) : (s.modChan i f).chans = s.chans.set i.val (f s.chans[i.val]) i.isLt := (rfl)
@[simp] theorem modChan_compares (i : Fin 8) (f : FbChan → FbChan) : (s.modChan i f).compares = s.compares := (rfl)
@[simp] theorem modChan_larder (i : Fin 8) (f : FbChan → FbChan) : (s.modChan i f).larder = s.larder := (rfl)
@[simp] theorem modChan_ladder (i : Fin 8) (f : FbChan → FbChan) : (s.modChan i f).ladder = s.ladder := (rfl)
@[simp] theorem modChan_planner (i : Fin 8) (f : FbChan → FbChan) : (s.modChan i f).planner = s.planner := (rfl)
@[simp] theorem modChan_comps (i : Fin 8) (f : FbChan → FbChan) : (s.modChan i f).comps = s.comps := (rfl)
@[simp] theorem modChan_guard (i : Fin 8) (f : FbChan → FbChan) : (s.modChan i f).guard = s.guard := (rfl)
@[simp] theorem modChan_seq (i : Fin 8) (f : FbChan → FbChan) : (s.modChan i f).seq = s.seq := (rfl)
@[simp] theorem modChan_flash (i : Fin 8) (f : FbChan → FbChan) : (s.modChan i f).flash = s.flash := (rfl)
@[simp] theorem modChan_hp (i : Fin 8) (f : FbChan → FbChan) : (s.modChan i f).hp = s.hp := (rfl)
@[simp] theorem modChan_prt (i : Fin 8) (f : FbChan → FbChan) : (s.modChan i f).prt = s.prt := (rfl)
@[simp] theorem modChan_hatch (i : Fin 8) (f : FbChan → FbChan) : (s.modChan i f).hatch = s.hatch := (rfl)
@[simp] theorem modChan_stock (i : Fin 8) (f : FbChan → FbChan) : (s.modChan i f).stock = s.stock := (rfl)
@[simp] theorem modChan_access (i : Fin 8) (f : FbChan → FbChan) : (s.modChan i f).access = s.access := (rfl)
@[simp] theorem modChan_pending (i : Fin 8) (f : FbChan → FbChan) : (s.modChan i f).pending = s.pending := (rfl)
@[simp] theorem modChan_reg (i : Fin 8) (f : FbChan → FbChan) (r : Nat) : (s.modChan i f).reg r = s.reg r := (rfl)
@[simp] theorem modChan_fld (i : Fin 8) (f : FbChan → FbChan) (r : Fld) : (s.modChan i f).fld r = s.fld r := (rfl)
@[simp] theorem modChan_sfld (i : Fin 8) (f : FbChan → FbChan) (r : Fld) : (s.modChan i f).sfld r = s.sfld r := (rfl)
@[simp] theorem modChan_flag (i : Fin 8) (f : FbChan → FbChan) (r : Fld) : (s.modChan i f).flag r = s.flag r := (rfl)
@[simp] theorem modChan_live (i : Fin 8) (f : FbChan → FbChan) : (s.modChan i f).live = s.live := (rfl)
@[simp] theorem modChan_implemented (i : Fin 8) (f : FbChan → FbChan) (r_ : Nat) : (s.modChan i f).implemented r_ = s.implemented r_ := (rfl)
@[simp] theorem modChan_linked (i : Fin 8) (f : FbChan → FbChan) (r_ : Nat) : (s.modChan i f).linked r_ = s.linked r_ := (rfl)
@[simp] theorem modChan_reach (i : Fin 8) (f : FbChan → FbChan) (r_ : Nat) : (s.modChan i f).reach r_ = s.reach r_ := (rfl)
@[simp] theorem modChan_hasDie (i : Fin 8) (f : FbChan → FbChan) (r_ : Nat) : (s.modChan i f).hasDie r_ = s.hasDie r_ := (rfl)
@[simp] theorem modChan_hasAxis (i : Fin 8) (f : FbChan → FbChan) (r_ : Nat) : (s.modChan i f).hasAxis r_ = s.hasAxis r_ := (rfl)
@[simp] theorem modChan_planned (i : Fin 8) (f : FbChan → FbChan) (r_ : Nat) : (s.modChan i f).planned r_ = s.planned r_ := (rfl)
@[simp] theorem modChan_stamp (i : Fin 8) (f : FbChan → FbChan) (r_ : Nat) : (s.modChan i f).stamp r_ = s.stamp r_ := (rfl)
@[simp] theorem modChan_fmRuns (i : Fin 8) (f : FbChan → FbChan) : (s.modChan i f).fmRuns = s.fmRuns := (rfl)
@[simp] theorem modChan_axisRec (i : Fin 8) (f : FbChan → FbChan) (r_ : Nat) : (s.modChan i f).axisRec r_ = s.axisRec r_ := (rfl)
@[simp] theorem modChan_schedRec (i : Fin 8) (f : FbChan → FbChan) (r_ : Nat) : (s.modChan i f).schedRec r_ = s.schedRec r_ := (rfl)
@[simp] theorem modChan_feedOf (i : Fin 8) (f : FbChan → FbChan) (r_ : Nat) : (s.modChan i f).feedOf r_ = s.feedOf r_ := (rfl)
@[simp] theorem modChan_feedOfChan (i : Fin 8) (f : FbChan → FbChan) (r_ : Nat) : (s.modChan i f).feedOfChan r_ = s.feedOfChan r_ := (rfl)
@[simp] theorem modChan_loopOf (i : Fin 8) (f : FbChan → FbChan) (r_ : Nat) : (s.modChan i f).loopOf r_ = s.loopOf r_ := (rfl)
@[simp] theorem modChan_protRec (i : Fin 8) (f : FbChan → FbChan) (r_ : Nat) : (s.modChan i f).protRec r_ = s.protRec r_ := (rfl)
@[simp] theorem modChan_axisSt (i : Fin 8) (f : FbChan → FbChan) (r_ : AxisId) : (s.modChan i f).axisSt r_ = s.axisSt r_ := (rfl)
@[simp] theorem modChan_axisOn (i : Fin 8) (f : FbChan → FbChan) (r_ : AxisId) : (s.modChan i f).axisOn r_ = s.axisOn r_ := (rfl)
@[simp] theorem modChan_opStat (i : Fin 8) (f : FbChan → FbChan) (r_ : Nat) : (s.modChan i f).opStat r_ = s.opStat r_ := (rfl)
@[simp] theorem modChan_opBusy (i : Fin 8) (f : FbChan → FbChan) (r_ : Nat) : (s.modChan i f).opBusy r_ = s.opBusy r_ := (rfl)
@[simp] theorem modChan_lastOp (i : Fin 8) (f : FbChan → FbChan) (r_ : Nat) : (s.modChan i f).lastOp r_ = s.lastOp r_ := (rfl)

/-! ### modCompare -/

@[simp] theorem modCompare_variant (i : Fin 8) (f : Compare → Compare) : (s.modCompare i f).variant = s.variant := (rfl)
@[simp] theorem modCompare_power (i : Fin 8) (f : Compare → Compare) : (s.modCompare i f).power = s.power := (rfl)
@[simp] theorem modCompare_clock (i : Fin 8) (f : Compare → Compare) : (s.modCompare i f).clock = s.clock := (rfl)
@[simp] theorem modCompare_tsBase (i : Fin 8) (f : Compare → Compare) : (s.modCompare i f).tsBase = s.tsBase := (rfl)
@[simp] theorem modCompare_frame (i : Fin 8) (f : Compare → Compare) : (s.modCompare i f).frame = s.frame := (rfl)
@[simp] theorem modCompare_lastEngine (i : Fin 8) (f : Compare → Compare) : (s.modCompare i f).lastEngine = s.lastEngine := (rfl)
@[simp] theorem modCompare_lastMotion (i : Fin 8) (f : Compare → Compare) : (s.modCompare i f).lastMotion = s.lastMotion := (rfl)
@[simp] theorem modCompare_free (i : Fin 8) (f : Compare → Compare) : (s.modCompare i f).free = s.free := (rfl)
@[simp] theorem modCompare_regs (i : Fin 8) (f : Compare → Compare) : (s.modCompare i f).regs = s.regs := (rfl)
@[simp] theorem modCompare_fm (i : Fin 8) (f : Compare → Compare) : (s.modCompare i f).fm = s.fm := (rfl)
@[simp] theorem modCompare_box (i : Fin 8) (f : Compare → Compare) : (s.modCompare i f).box = s.box := (rfl)
@[simp] theorem modCompare_dies (i : Fin 8) (f : Compare → Compare) : (s.modCompare i f).dies = s.dies := (rfl)
@[simp] theorem modCompare_legs (i : Fin 8) (f : Compare → Compare) : (s.modCompare i f).legs = s.legs := (rfl)
@[simp] theorem modCompare_regions (i : Fin 8) (f : Compare → Compare) : (s.modCompare i f).regions = s.regions := (rfl)
@[simp] theorem modCompare_carriers (i : Fin 8) (f : Compare → Compare) : (s.modCompare i f).carriers = s.carriers := (rfl)
@[simp] theorem modCompare_wireTests (i : Fin 8) (f : Compare → Compare) : (s.modCompare i f).wireTests = s.wireTests := (rfl)
@[simp] theorem modCompare_leakTests (i : Fin 8) (f : Compare → Compare) : (s.modCompare i f).leakTests = s.leakTests := (rfl)
@[simp] theorem modCompare_seqs (i : Fin 8) (f : Compare → Compare) : (s.modCompare i f).seqs = s.seqs := (rfl)
@[simp] theorem modCompare_cores (i : Fin 8) (f : Compare → Compare) : (s.modCompare i f).cores = s.cores := (rfl)
@[simp] theorem modCompare_meas (i : Fin 8) (f : Compare → Compare) : (s.modCompare i f).meas = s.meas := (rfl)
@[simp] theorem modCompare_calRuns (i : Fin 8) (f : Compare → Compare) : (s.modCompare i f).calRuns = s.calRuns := (rfl)
@[simp] theorem modCompare_cmps (i : Fin 8) (f : Compare → Compare) : (s.modCompare i f).cmps = s.cmps := (rfl)
@[simp] theorem modCompare_audit (i : Fin 8) (f : Compare → Compare) : (s.modCompare i f).audit = s.audit := (rfl)
@[simp] theorem modCompare_inv (i : Fin 8) (f : Compare → Compare) : (s.modCompare i f).inv = s.inv := (rfl)
@[simp] theorem modCompare_invOp (i : Fin 8) (f : Compare → Compare) : (s.modCompare i f).invOp = s.invOp := (rfl)
@[simp] theorem modCompare_pins (i : Fin 8) (f : Compare → Compare) : (s.modCompare i f).pins = s.pins := (rfl)
@[simp] theorem modCompare_jtag (i : Fin 8) (f : Compare → Compare) : (s.modCompare i f).jtag = s.jtag := (rfl)
@[simp] theorem modCompare_engs (i : Fin 8) (f : Compare → Compare) : (s.modCompare i f).engs = s.engs := (rfl)
@[simp] theorem modCompare_engine (i : Fin 8) (f : Compare → Compare) : (s.modCompare i f).engine = s.engine := (rfl)
@[simp] theorem modCompare_axes (i : Fin 8) (f : Compare → Compare) : (s.modCompare i f).axes = s.axes := (rfl)
@[simp] theorem modCompare_chans (i : Fin 8) (f : Compare → Compare) : (s.modCompare i f).chans = s.chans := (rfl)
@[simp] theorem modCompare_compares (i : Fin 8) (f : Compare → Compare) : (s.modCompare i f).compares = s.compares.set i.val (f s.compares[i.val]) i.isLt := (rfl)
@[simp] theorem modCompare_larder (i : Fin 8) (f : Compare → Compare) : (s.modCompare i f).larder = s.larder := (rfl)
@[simp] theorem modCompare_ladder (i : Fin 8) (f : Compare → Compare) : (s.modCompare i f).ladder = s.ladder := (rfl)
@[simp] theorem modCompare_planner (i : Fin 8) (f : Compare → Compare) : (s.modCompare i f).planner = s.planner := (rfl)
@[simp] theorem modCompare_comps (i : Fin 8) (f : Compare → Compare) : (s.modCompare i f).comps = s.comps := (rfl)
@[simp] theorem modCompare_guard (i : Fin 8) (f : Compare → Compare) : (s.modCompare i f).guard = s.guard := (rfl)
@[simp] theorem modCompare_seq (i : Fin 8) (f : Compare → Compare) : (s.modCompare i f).seq = s.seq := (rfl)
@[simp] theorem modCompare_flash (i : Fin 8) (f : Compare → Compare) : (s.modCompare i f).flash = s.flash := (rfl)
@[simp] theorem modCompare_hp (i : Fin 8) (f : Compare → Compare) : (s.modCompare i f).hp = s.hp := (rfl)
@[simp] theorem modCompare_prt (i : Fin 8) (f : Compare → Compare) : (s.modCompare i f).prt = s.prt := (rfl)
@[simp] theorem modCompare_hatch (i : Fin 8) (f : Compare → Compare) : (s.modCompare i f).hatch = s.hatch := (rfl)
@[simp] theorem modCompare_stock (i : Fin 8) (f : Compare → Compare) : (s.modCompare i f).stock = s.stock := (rfl)
@[simp] theorem modCompare_access (i : Fin 8) (f : Compare → Compare) : (s.modCompare i f).access = s.access := (rfl)
@[simp] theorem modCompare_pending (i : Fin 8) (f : Compare → Compare) : (s.modCompare i f).pending = s.pending := (rfl)
@[simp] theorem modCompare_reg (i : Fin 8) (f : Compare → Compare) (r : Nat) : (s.modCompare i f).reg r = s.reg r := (rfl)
@[simp] theorem modCompare_fld (i : Fin 8) (f : Compare → Compare) (r : Fld) : (s.modCompare i f).fld r = s.fld r := (rfl)
@[simp] theorem modCompare_sfld (i : Fin 8) (f : Compare → Compare) (r : Fld) : (s.modCompare i f).sfld r = s.sfld r := (rfl)
@[simp] theorem modCompare_flag (i : Fin 8) (f : Compare → Compare) (r : Fld) : (s.modCompare i f).flag r = s.flag r := (rfl)
@[simp] theorem modCompare_live (i : Fin 8) (f : Compare → Compare) : (s.modCompare i f).live = s.live := (rfl)
@[simp] theorem modCompare_implemented (i : Fin 8) (f : Compare → Compare) (r_ : Nat) : (s.modCompare i f).implemented r_ = s.implemented r_ := (rfl)
@[simp] theorem modCompare_linked (i : Fin 8) (f : Compare → Compare) (r_ : Nat) : (s.modCompare i f).linked r_ = s.linked r_ := (rfl)
@[simp] theorem modCompare_reach (i : Fin 8) (f : Compare → Compare) (r_ : Nat) : (s.modCompare i f).reach r_ = s.reach r_ := (rfl)
@[simp] theorem modCompare_hasDie (i : Fin 8) (f : Compare → Compare) (r_ : Nat) : (s.modCompare i f).hasDie r_ = s.hasDie r_ := (rfl)
@[simp] theorem modCompare_hasAxis (i : Fin 8) (f : Compare → Compare) (r_ : Nat) : (s.modCompare i f).hasAxis r_ = s.hasAxis r_ := (rfl)
@[simp] theorem modCompare_planned (i : Fin 8) (f : Compare → Compare) (r_ : Nat) : (s.modCompare i f).planned r_ = s.planned r_ := (rfl)
@[simp] theorem modCompare_stamp (i : Fin 8) (f : Compare → Compare) (r_ : Nat) : (s.modCompare i f).stamp r_ = s.stamp r_ := (rfl)
@[simp] theorem modCompare_fmRuns (i : Fin 8) (f : Compare → Compare) : (s.modCompare i f).fmRuns = s.fmRuns := (rfl)
@[simp] theorem modCompare_axisRec (i : Fin 8) (f : Compare → Compare) (r_ : Nat) : (s.modCompare i f).axisRec r_ = s.axisRec r_ := (rfl)
@[simp] theorem modCompare_schedRec (i : Fin 8) (f : Compare → Compare) (r_ : Nat) : (s.modCompare i f).schedRec r_ = s.schedRec r_ := (rfl)
@[simp] theorem modCompare_feedOf (i : Fin 8) (f : Compare → Compare) (r_ : Nat) : (s.modCompare i f).feedOf r_ = s.feedOf r_ := (rfl)
@[simp] theorem modCompare_feedOfChan (i : Fin 8) (f : Compare → Compare) (r_ : Nat) : (s.modCompare i f).feedOfChan r_ = s.feedOfChan r_ := (rfl)
@[simp] theorem modCompare_loopOf (i : Fin 8) (f : Compare → Compare) (r_ : Nat) : (s.modCompare i f).loopOf r_ = s.loopOf r_ := (rfl)
@[simp] theorem modCompare_protRec (i : Fin 8) (f : Compare → Compare) (r_ : Nat) : (s.modCompare i f).protRec r_ = s.protRec r_ := (rfl)
@[simp] theorem modCompare_axisSt (i : Fin 8) (f : Compare → Compare) (r_ : AxisId) : (s.modCompare i f).axisSt r_ = s.axisSt r_ := (rfl)
@[simp] theorem modCompare_axisOn (i : Fin 8) (f : Compare → Compare) (r_ : AxisId) : (s.modCompare i f).axisOn r_ = s.axisOn r_ := (rfl)
@[simp] theorem modCompare_opStat (i : Fin 8) (f : Compare → Compare) (r_ : Nat) : (s.modCompare i f).opStat r_ = s.opStat r_ := (rfl)
@[simp] theorem modCompare_opBusy (i : Fin 8) (f : Compare → Compare) (r_ : Nat) : (s.modCompare i f).opBusy r_ = s.opBusy r_ := (rfl)
@[simp] theorem modCompare_lastOp (i : Fin 8) (f : Compare → Compare) (r_ : Nat) : (s.modCompare i f).lastOp r_ = s.lastOp r_ := (rfl)

/-! ### modComp -/

@[simp] theorem modComp_variant (i : Fin 8) (f : Comp → Comp) : (s.modComp i f).variant = s.variant := (rfl)
@[simp] theorem modComp_power (i : Fin 8) (f : Comp → Comp) : (s.modComp i f).power = s.power := (rfl)
@[simp] theorem modComp_clock (i : Fin 8) (f : Comp → Comp) : (s.modComp i f).clock = s.clock := (rfl)
@[simp] theorem modComp_tsBase (i : Fin 8) (f : Comp → Comp) : (s.modComp i f).tsBase = s.tsBase := (rfl)
@[simp] theorem modComp_frame (i : Fin 8) (f : Comp → Comp) : (s.modComp i f).frame = s.frame := (rfl)
@[simp] theorem modComp_lastEngine (i : Fin 8) (f : Comp → Comp) : (s.modComp i f).lastEngine = s.lastEngine := (rfl)
@[simp] theorem modComp_lastMotion (i : Fin 8) (f : Comp → Comp) : (s.modComp i f).lastMotion = s.lastMotion := (rfl)
@[simp] theorem modComp_free (i : Fin 8) (f : Comp → Comp) : (s.modComp i f).free = s.free := (rfl)
@[simp] theorem modComp_regs (i : Fin 8) (f : Comp → Comp) : (s.modComp i f).regs = s.regs := (rfl)
@[simp] theorem modComp_fm (i : Fin 8) (f : Comp → Comp) : (s.modComp i f).fm = s.fm := (rfl)
@[simp] theorem modComp_box (i : Fin 8) (f : Comp → Comp) : (s.modComp i f).box = s.box := (rfl)
@[simp] theorem modComp_dies (i : Fin 8) (f : Comp → Comp) : (s.modComp i f).dies = s.dies := (rfl)
@[simp] theorem modComp_legs (i : Fin 8) (f : Comp → Comp) : (s.modComp i f).legs = s.legs := (rfl)
@[simp] theorem modComp_regions (i : Fin 8) (f : Comp → Comp) : (s.modComp i f).regions = s.regions := (rfl)
@[simp] theorem modComp_carriers (i : Fin 8) (f : Comp → Comp) : (s.modComp i f).carriers = s.carriers := (rfl)
@[simp] theorem modComp_wireTests (i : Fin 8) (f : Comp → Comp) : (s.modComp i f).wireTests = s.wireTests := (rfl)
@[simp] theorem modComp_leakTests (i : Fin 8) (f : Comp → Comp) : (s.modComp i f).leakTests = s.leakTests := (rfl)
@[simp] theorem modComp_seqs (i : Fin 8) (f : Comp → Comp) : (s.modComp i f).seqs = s.seqs := (rfl)
@[simp] theorem modComp_cores (i : Fin 8) (f : Comp → Comp) : (s.modComp i f).cores = s.cores := (rfl)
@[simp] theorem modComp_meas (i : Fin 8) (f : Comp → Comp) : (s.modComp i f).meas = s.meas := (rfl)
@[simp] theorem modComp_calRuns (i : Fin 8) (f : Comp → Comp) : (s.modComp i f).calRuns = s.calRuns := (rfl)
@[simp] theorem modComp_cmps (i : Fin 8) (f : Comp → Comp) : (s.modComp i f).cmps = s.cmps := (rfl)
@[simp] theorem modComp_audit (i : Fin 8) (f : Comp → Comp) : (s.modComp i f).audit = s.audit := (rfl)
@[simp] theorem modComp_inv (i : Fin 8) (f : Comp → Comp) : (s.modComp i f).inv = s.inv := (rfl)
@[simp] theorem modComp_invOp (i : Fin 8) (f : Comp → Comp) : (s.modComp i f).invOp = s.invOp := (rfl)
@[simp] theorem modComp_pins (i : Fin 8) (f : Comp → Comp) : (s.modComp i f).pins = s.pins := (rfl)
@[simp] theorem modComp_jtag (i : Fin 8) (f : Comp → Comp) : (s.modComp i f).jtag = s.jtag := (rfl)
@[simp] theorem modComp_engs (i : Fin 8) (f : Comp → Comp) : (s.modComp i f).engs = s.engs := (rfl)
@[simp] theorem modComp_engine (i : Fin 8) (f : Comp → Comp) : (s.modComp i f).engine = s.engine := (rfl)
@[simp] theorem modComp_axes (i : Fin 8) (f : Comp → Comp) : (s.modComp i f).axes = s.axes := (rfl)
@[simp] theorem modComp_chans (i : Fin 8) (f : Comp → Comp) : (s.modComp i f).chans = s.chans := (rfl)
@[simp] theorem modComp_compares (i : Fin 8) (f : Comp → Comp) : (s.modComp i f).compares = s.compares := (rfl)
@[simp] theorem modComp_larder (i : Fin 8) (f : Comp → Comp) : (s.modComp i f).larder = s.larder := (rfl)
@[simp] theorem modComp_ladder (i : Fin 8) (f : Comp → Comp) : (s.modComp i f).ladder = s.ladder := (rfl)
@[simp] theorem modComp_planner (i : Fin 8) (f : Comp → Comp) : (s.modComp i f).planner = s.planner := (rfl)
@[simp] theorem modComp_comps (i : Fin 8) (f : Comp → Comp) : (s.modComp i f).comps = s.comps.set i.val (f s.comps[i.val]) i.isLt := (rfl)
@[simp] theorem modComp_guard (i : Fin 8) (f : Comp → Comp) : (s.modComp i f).guard = s.guard := (rfl)
@[simp] theorem modComp_seq (i : Fin 8) (f : Comp → Comp) : (s.modComp i f).seq = s.seq := (rfl)
@[simp] theorem modComp_flash (i : Fin 8) (f : Comp → Comp) : (s.modComp i f).flash = s.flash := (rfl)
@[simp] theorem modComp_hp (i : Fin 8) (f : Comp → Comp) : (s.modComp i f).hp = s.hp := (rfl)
@[simp] theorem modComp_prt (i : Fin 8) (f : Comp → Comp) : (s.modComp i f).prt = s.prt := (rfl)
@[simp] theorem modComp_hatch (i : Fin 8) (f : Comp → Comp) : (s.modComp i f).hatch = s.hatch := (rfl)
@[simp] theorem modComp_stock (i : Fin 8) (f : Comp → Comp) : (s.modComp i f).stock = s.stock := (rfl)
@[simp] theorem modComp_access (i : Fin 8) (f : Comp → Comp) : (s.modComp i f).access = s.access := (rfl)
@[simp] theorem modComp_pending (i : Fin 8) (f : Comp → Comp) : (s.modComp i f).pending = s.pending := (rfl)
@[simp] theorem modComp_reg (i : Fin 8) (f : Comp → Comp) (r : Nat) : (s.modComp i f).reg r = s.reg r := (rfl)
@[simp] theorem modComp_fld (i : Fin 8) (f : Comp → Comp) (r : Fld) : (s.modComp i f).fld r = s.fld r := (rfl)
@[simp] theorem modComp_sfld (i : Fin 8) (f : Comp → Comp) (r : Fld) : (s.modComp i f).sfld r = s.sfld r := (rfl)
@[simp] theorem modComp_flag (i : Fin 8) (f : Comp → Comp) (r : Fld) : (s.modComp i f).flag r = s.flag r := (rfl)
@[simp] theorem modComp_live (i : Fin 8) (f : Comp → Comp) : (s.modComp i f).live = s.live := (rfl)
@[simp] theorem modComp_implemented (i : Fin 8) (f : Comp → Comp) (r_ : Nat) : (s.modComp i f).implemented r_ = s.implemented r_ := (rfl)
@[simp] theorem modComp_linked (i : Fin 8) (f : Comp → Comp) (r_ : Nat) : (s.modComp i f).linked r_ = s.linked r_ := (rfl)
@[simp] theorem modComp_reach (i : Fin 8) (f : Comp → Comp) (r_ : Nat) : (s.modComp i f).reach r_ = s.reach r_ := (rfl)
@[simp] theorem modComp_hasDie (i : Fin 8) (f : Comp → Comp) (r_ : Nat) : (s.modComp i f).hasDie r_ = s.hasDie r_ := (rfl)
@[simp] theorem modComp_hasAxis (i : Fin 8) (f : Comp → Comp) (r_ : Nat) : (s.modComp i f).hasAxis r_ = s.hasAxis r_ := (rfl)
@[simp] theorem modComp_planned (i : Fin 8) (f : Comp → Comp) (r_ : Nat) : (s.modComp i f).planned r_ = s.planned r_ := (rfl)
@[simp] theorem modComp_stamp (i : Fin 8) (f : Comp → Comp) (r_ : Nat) : (s.modComp i f).stamp r_ = s.stamp r_ := (rfl)
@[simp] theorem modComp_fmRuns (i : Fin 8) (f : Comp → Comp) : (s.modComp i f).fmRuns = s.fmRuns := (rfl)
@[simp] theorem modComp_axisRec (i : Fin 8) (f : Comp → Comp) (r_ : Nat) : (s.modComp i f).axisRec r_ = s.axisRec r_ := (rfl)
@[simp] theorem modComp_schedRec (i : Fin 8) (f : Comp → Comp) (r_ : Nat) : (s.modComp i f).schedRec r_ = s.schedRec r_ := (rfl)
@[simp] theorem modComp_feedOf (i : Fin 8) (f : Comp → Comp) (r_ : Nat) : (s.modComp i f).feedOf r_ = s.feedOf r_ := (rfl)
@[simp] theorem modComp_feedOfChan (i : Fin 8) (f : Comp → Comp) (r_ : Nat) : (s.modComp i f).feedOfChan r_ = s.feedOfChan r_ := (rfl)
@[simp] theorem modComp_loopOf (i : Fin 8) (f : Comp → Comp) (r_ : Nat) : (s.modComp i f).loopOf r_ = s.loopOf r_ := (rfl)
@[simp] theorem modComp_protRec (i : Fin 8) (f : Comp → Comp) (r_ : Nat) : (s.modComp i f).protRec r_ = s.protRec r_ := (rfl)
@[simp] theorem modComp_axisSt (i : Fin 8) (f : Comp → Comp) (r_ : AxisId) : (s.modComp i f).axisSt r_ = s.axisSt r_ := (rfl)
@[simp] theorem modComp_axisOn (i : Fin 8) (f : Comp → Comp) (r_ : AxisId) : (s.modComp i f).axisOn r_ = s.axisOn r_ := (rfl)
@[simp] theorem modComp_opStat (i : Fin 8) (f : Comp → Comp) (r_ : Nat) : (s.modComp i f).opStat r_ = s.opStat r_ := (rfl)
@[simp] theorem modComp_opBusy (i : Fin 8) (f : Comp → Comp) (r_ : Nat) : (s.modComp i f).opBusy r_ = s.opBusy r_ := (rfl)
@[simp] theorem modComp_lastOp (i : Fin 8) (f : Comp → Comp) (r_ : Nat) : (s.modComp i f).lastOp r_ = s.lastOp r_ := (rfl)

/-! ### modPort -/

@[simp] theorem modPort_variant (i : Fin 4) (f : Port → Port) : (s.modPort i f).variant = s.variant := (rfl)
@[simp] theorem modPort_power (i : Fin 4) (f : Port → Port) : (s.modPort i f).power = s.power := (rfl)
@[simp] theorem modPort_clock (i : Fin 4) (f : Port → Port) : (s.modPort i f).clock = s.clock := (rfl)
@[simp] theorem modPort_tsBase (i : Fin 4) (f : Port → Port) : (s.modPort i f).tsBase = s.tsBase := (rfl)
@[simp] theorem modPort_frame (i : Fin 4) (f : Port → Port) : (s.modPort i f).frame = s.frame := (rfl)
@[simp] theorem modPort_lastEngine (i : Fin 4) (f : Port → Port) : (s.modPort i f).lastEngine = s.lastEngine := (rfl)
@[simp] theorem modPort_lastMotion (i : Fin 4) (f : Port → Port) : (s.modPort i f).lastMotion = s.lastMotion := (rfl)
@[simp] theorem modPort_free (i : Fin 4) (f : Port → Port) : (s.modPort i f).free = s.free := (rfl)
@[simp] theorem modPort_regs (i : Fin 4) (f : Port → Port) : (s.modPort i f).regs = s.regs := (rfl)
@[simp] theorem modPort_fm (i : Fin 4) (f : Port → Port) : (s.modPort i f).fm = s.fm := (rfl)
@[simp] theorem modPort_box (i : Fin 4) (f : Port → Port) : (s.modPort i f).box = s.box := (rfl)
@[simp] theorem modPort_dies (i : Fin 4) (f : Port → Port) : (s.modPort i f).dies = s.dies := (rfl)
@[simp] theorem modPort_legs (i : Fin 4) (f : Port → Port) : (s.modPort i f).legs = s.legs := (rfl)
@[simp] theorem modPort_regions (i : Fin 4) (f : Port → Port) : (s.modPort i f).regions = s.regions := (rfl)
@[simp] theorem modPort_carriers (i : Fin 4) (f : Port → Port) : (s.modPort i f).carriers = s.carriers := (rfl)
@[simp] theorem modPort_wireTests (i : Fin 4) (f : Port → Port) : (s.modPort i f).wireTests = s.wireTests := (rfl)
@[simp] theorem modPort_leakTests (i : Fin 4) (f : Port → Port) : (s.modPort i f).leakTests = s.leakTests := (rfl)
@[simp] theorem modPort_seqs (i : Fin 4) (f : Port → Port) : (s.modPort i f).seqs = s.seqs := (rfl)
@[simp] theorem modPort_cores (i : Fin 4) (f : Port → Port) : (s.modPort i f).cores = s.cores := (rfl)
@[simp] theorem modPort_meas (i : Fin 4) (f : Port → Port) : (s.modPort i f).meas = s.meas := (rfl)
@[simp] theorem modPort_calRuns (i : Fin 4) (f : Port → Port) : (s.modPort i f).calRuns = s.calRuns := (rfl)
@[simp] theorem modPort_cmps (i : Fin 4) (f : Port → Port) : (s.modPort i f).cmps = s.cmps := (rfl)
@[simp] theorem modPort_audit (i : Fin 4) (f : Port → Port) : (s.modPort i f).audit = s.audit := (rfl)
@[simp] theorem modPort_inv (i : Fin 4) (f : Port → Port) : (s.modPort i f).inv = s.inv := (rfl)
@[simp] theorem modPort_invOp (i : Fin 4) (f : Port → Port) : (s.modPort i f).invOp = s.invOp := (rfl)
@[simp] theorem modPort_pins (i : Fin 4) (f : Port → Port) : (s.modPort i f).pins = s.pins := (rfl)
@[simp] theorem modPort_jtag (i : Fin 4) (f : Port → Port) : (s.modPort i f).jtag = s.jtag := (rfl)
@[simp] theorem modPort_engs (i : Fin 4) (f : Port → Port) : (s.modPort i f).engs = s.engs := (rfl)
@[simp] theorem modPort_engine (i : Fin 4) (f : Port → Port) : (s.modPort i f).engine = s.engine := (rfl)
@[simp] theorem modPort_axes (i : Fin 4) (f : Port → Port) : (s.modPort i f).axes = s.axes := (rfl)
@[simp] theorem modPort_chans (i : Fin 4) (f : Port → Port) : (s.modPort i f).chans = s.chans := (rfl)
@[simp] theorem modPort_compares (i : Fin 4) (f : Port → Port) : (s.modPort i f).compares = s.compares := (rfl)
@[simp] theorem modPort_larder (i : Fin 4) (f : Port → Port) : (s.modPort i f).larder = s.larder := (rfl)
@[simp] theorem modPort_ladder (i : Fin 4) (f : Port → Port) : (s.modPort i f).ladder = s.ladder := (rfl)
@[simp] theorem modPort_planner (i : Fin 4) (f : Port → Port) : (s.modPort i f).planner = s.planner := (rfl)
@[simp] theorem modPort_comps (i : Fin 4) (f : Port → Port) : (s.modPort i f).comps = s.comps := (rfl)
@[simp] theorem modPort_guard (i : Fin 4) (f : Port → Port) : (s.modPort i f).guard = s.guard := (rfl)
@[simp] theorem modPort_seq (i : Fin 4) (f : Port → Port) : (s.modPort i f).seq = s.seq := (rfl)
@[simp] theorem modPort_flash (i : Fin 4) (f : Port → Port) : (s.modPort i f).flash = s.flash := (rfl)
@[simp] theorem modPort_hp (i : Fin 4) (f : Port → Port) : (s.modPort i f).hp = s.hp := (rfl)
@[simp] theorem modPort_prt (i : Fin 4) (f : Port → Port) : (s.modPort i f).prt = s.prt.set i.val (f s.prt[i.val]) i.isLt := (rfl)
@[simp] theorem modPort_hatch (i : Fin 4) (f : Port → Port) : (s.modPort i f).hatch = s.hatch := (rfl)
@[simp] theorem modPort_stock (i : Fin 4) (f : Port → Port) : (s.modPort i f).stock = s.stock := (rfl)
@[simp] theorem modPort_access (i : Fin 4) (f : Port → Port) : (s.modPort i f).access = s.access := (rfl)
@[simp] theorem modPort_pending (i : Fin 4) (f : Port → Port) : (s.modPort i f).pending = s.pending := (rfl)
@[simp] theorem modPort_reg (i : Fin 4) (f : Port → Port) (r : Nat) : (s.modPort i f).reg r = s.reg r := (rfl)
@[simp] theorem modPort_fld (i : Fin 4) (f : Port → Port) (r : Fld) : (s.modPort i f).fld r = s.fld r := (rfl)
@[simp] theorem modPort_sfld (i : Fin 4) (f : Port → Port) (r : Fld) : (s.modPort i f).sfld r = s.sfld r := (rfl)
@[simp] theorem modPort_flag (i : Fin 4) (f : Port → Port) (r : Fld) : (s.modPort i f).flag r = s.flag r := (rfl)
@[simp] theorem modPort_live (i : Fin 4) (f : Port → Port) : (s.modPort i f).live = s.live := (rfl)
@[simp] theorem modPort_implemented (i : Fin 4) (f : Port → Port) (r_ : Nat) : (s.modPort i f).implemented r_ = s.implemented r_ := (rfl)
@[simp] theorem modPort_linked (i : Fin 4) (f : Port → Port) (r_ : Nat) : (s.modPort i f).linked r_ = s.linked r_ := (rfl)
@[simp] theorem modPort_reach (i : Fin 4) (f : Port → Port) (r_ : Nat) : (s.modPort i f).reach r_ = s.reach r_ := (rfl)
@[simp] theorem modPort_hasDie (i : Fin 4) (f : Port → Port) (r_ : Nat) : (s.modPort i f).hasDie r_ = s.hasDie r_ := (rfl)
@[simp] theorem modPort_hasAxis (i : Fin 4) (f : Port → Port) (r_ : Nat) : (s.modPort i f).hasAxis r_ = s.hasAxis r_ := (rfl)
@[simp] theorem modPort_planned (i : Fin 4) (f : Port → Port) (r_ : Nat) : (s.modPort i f).planned r_ = s.planned r_ := (rfl)
@[simp] theorem modPort_stamp (i : Fin 4) (f : Port → Port) (r_ : Nat) : (s.modPort i f).stamp r_ = s.stamp r_ := (rfl)
@[simp] theorem modPort_fmRuns (i : Fin 4) (f : Port → Port) : (s.modPort i f).fmRuns = s.fmRuns := (rfl)
@[simp] theorem modPort_axisRec (i : Fin 4) (f : Port → Port) (r_ : Nat) : (s.modPort i f).axisRec r_ = s.axisRec r_ := (rfl)
@[simp] theorem modPort_schedRec (i : Fin 4) (f : Port → Port) (r_ : Nat) : (s.modPort i f).schedRec r_ = s.schedRec r_ := (rfl)
@[simp] theorem modPort_feedOf (i : Fin 4) (f : Port → Port) (r_ : Nat) : (s.modPort i f).feedOf r_ = s.feedOf r_ := (rfl)
@[simp] theorem modPort_feedOfChan (i : Fin 4) (f : Port → Port) (r_ : Nat) : (s.modPort i f).feedOfChan r_ = s.feedOfChan r_ := (rfl)
@[simp] theorem modPort_loopOf (i : Fin 4) (f : Port → Port) (r_ : Nat) : (s.modPort i f).loopOf r_ = s.loopOf r_ := (rfl)
@[simp] theorem modPort_protRec (i : Fin 4) (f : Port → Port) (r_ : Nat) : (s.modPort i f).protRec r_ = s.protRec r_ := (rfl)
@[simp] theorem modPort_axisSt (i : Fin 4) (f : Port → Port) (r_ : AxisId) : (s.modPort i f).axisSt r_ = s.axisSt r_ := (rfl)
@[simp] theorem modPort_axisOn (i : Fin 4) (f : Port → Port) (r_ : AxisId) : (s.modPort i f).axisOn r_ = s.axisOn r_ := (rfl)
@[simp] theorem modPort_opStat (i : Fin 4) (f : Port → Port) (r_ : Nat) : (s.modPort i f).opStat r_ = s.opStat r_ := (rfl)
@[simp] theorem modPort_opBusy (i : Fin 4) (f : Port → Port) (r_ : Nat) : (s.modPort i f).opBusy r_ = s.opBusy r_ := (rfl)
@[simp] theorem modPort_lastOp (i : Fin 4) (f : Port → Port) (r_ : Nat) : (s.modPort i f).lastOp r_ = s.lastOp r_ := (rfl)

/-! ### modPlan -/

@[simp] theorem modPlan_variant (f : Planner → Planner) : (s.modPlan f).variant = s.variant := (rfl)
@[simp] theorem modPlan_power (f : Planner → Planner) : (s.modPlan f).power = s.power := (rfl)
@[simp] theorem modPlan_clock (f : Planner → Planner) : (s.modPlan f).clock = s.clock := (rfl)
@[simp] theorem modPlan_tsBase (f : Planner → Planner) : (s.modPlan f).tsBase = s.tsBase := (rfl)
@[simp] theorem modPlan_frame (f : Planner → Planner) : (s.modPlan f).frame = s.frame := (rfl)
@[simp] theorem modPlan_lastEngine (f : Planner → Planner) : (s.modPlan f).lastEngine = s.lastEngine := (rfl)
@[simp] theorem modPlan_lastMotion (f : Planner → Planner) : (s.modPlan f).lastMotion = s.lastMotion := (rfl)
@[simp] theorem modPlan_free (f : Planner → Planner) : (s.modPlan f).free = s.free := (rfl)
@[simp] theorem modPlan_regs (f : Planner → Planner) : (s.modPlan f).regs = s.regs := (rfl)
@[simp] theorem modPlan_fm (f : Planner → Planner) : (s.modPlan f).fm = s.fm := (rfl)
@[simp] theorem modPlan_box (f : Planner → Planner) : (s.modPlan f).box = s.box := (rfl)
@[simp] theorem modPlan_dies (f : Planner → Planner) : (s.modPlan f).dies = s.dies := (rfl)
@[simp] theorem modPlan_legs (f : Planner → Planner) : (s.modPlan f).legs = s.legs := (rfl)
@[simp] theorem modPlan_regions (f : Planner → Planner) : (s.modPlan f).regions = s.regions := (rfl)
@[simp] theorem modPlan_carriers (f : Planner → Planner) : (s.modPlan f).carriers = s.carriers := (rfl)
@[simp] theorem modPlan_wireTests (f : Planner → Planner) : (s.modPlan f).wireTests = s.wireTests := (rfl)
@[simp] theorem modPlan_leakTests (f : Planner → Planner) : (s.modPlan f).leakTests = s.leakTests := (rfl)
@[simp] theorem modPlan_seqs (f : Planner → Planner) : (s.modPlan f).seqs = s.seqs := (rfl)
@[simp] theorem modPlan_cores (f : Planner → Planner) : (s.modPlan f).cores = s.cores := (rfl)
@[simp] theorem modPlan_meas (f : Planner → Planner) : (s.modPlan f).meas = s.meas := (rfl)
@[simp] theorem modPlan_calRuns (f : Planner → Planner) : (s.modPlan f).calRuns = s.calRuns := (rfl)
@[simp] theorem modPlan_cmps (f : Planner → Planner) : (s.modPlan f).cmps = s.cmps := (rfl)
@[simp] theorem modPlan_audit (f : Planner → Planner) : (s.modPlan f).audit = s.audit := (rfl)
@[simp] theorem modPlan_inv (f : Planner → Planner) : (s.modPlan f).inv = s.inv := (rfl)
@[simp] theorem modPlan_invOp (f : Planner → Planner) : (s.modPlan f).invOp = s.invOp := (rfl)
@[simp] theorem modPlan_pins (f : Planner → Planner) : (s.modPlan f).pins = s.pins := (rfl)
@[simp] theorem modPlan_jtag (f : Planner → Planner) : (s.modPlan f).jtag = s.jtag := (rfl)
@[simp] theorem modPlan_engs (f : Planner → Planner) : (s.modPlan f).engs = s.engs := (rfl)
@[simp] theorem modPlan_engine (f : Planner → Planner) : (s.modPlan f).engine = s.engine := (rfl)
@[simp] theorem modPlan_axes (f : Planner → Planner) : (s.modPlan f).axes = s.axes := (rfl)
@[simp] theorem modPlan_chans (f : Planner → Planner) : (s.modPlan f).chans = s.chans := (rfl)
@[simp] theorem modPlan_compares (f : Planner → Planner) : (s.modPlan f).compares = s.compares := (rfl)
@[simp] theorem modPlan_larder (f : Planner → Planner) : (s.modPlan f).larder = s.larder := (rfl)
@[simp] theorem modPlan_ladder (f : Planner → Planner) : (s.modPlan f).ladder = s.ladder := (rfl)
@[simp] theorem modPlan_planner (f : Planner → Planner) : (s.modPlan f).planner = f s.planner := (rfl)
@[simp] theorem modPlan_comps (f : Planner → Planner) : (s.modPlan f).comps = s.comps := (rfl)
@[simp] theorem modPlan_guard (f : Planner → Planner) : (s.modPlan f).guard = s.guard := (rfl)
@[simp] theorem modPlan_seq (f : Planner → Planner) : (s.modPlan f).seq = s.seq := (rfl)
@[simp] theorem modPlan_flash (f : Planner → Planner) : (s.modPlan f).flash = s.flash := (rfl)
@[simp] theorem modPlan_hp (f : Planner → Planner) : (s.modPlan f).hp = s.hp := (rfl)
@[simp] theorem modPlan_prt (f : Planner → Planner) : (s.modPlan f).prt = s.prt := (rfl)
@[simp] theorem modPlan_hatch (f : Planner → Planner) : (s.modPlan f).hatch = s.hatch := (rfl)
@[simp] theorem modPlan_stock (f : Planner → Planner) : (s.modPlan f).stock = s.stock := (rfl)
@[simp] theorem modPlan_access (f : Planner → Planner) : (s.modPlan f).access = s.access := (rfl)
@[simp] theorem modPlan_pending (f : Planner → Planner) : (s.modPlan f).pending = s.pending := (rfl)
@[simp] theorem modPlan_reg (f : Planner → Planner) (r : Nat) : (s.modPlan f).reg r = s.reg r := (rfl)
@[simp] theorem modPlan_fld (f : Planner → Planner) (r : Fld) : (s.modPlan f).fld r = s.fld r := (rfl)
@[simp] theorem modPlan_sfld (f : Planner → Planner) (r : Fld) : (s.modPlan f).sfld r = s.sfld r := (rfl)
@[simp] theorem modPlan_flag (f : Planner → Planner) (r : Fld) : (s.modPlan f).flag r = s.flag r := (rfl)
@[simp] theorem modPlan_live (f : Planner → Planner) : (s.modPlan f).live = s.live := (rfl)
@[simp] theorem modPlan_implemented (f : Planner → Planner) (r_ : Nat) : (s.modPlan f).implemented r_ = s.implemented r_ := (rfl)
@[simp] theorem modPlan_linked (f : Planner → Planner) (r_ : Nat) : (s.modPlan f).linked r_ = s.linked r_ := (rfl)
@[simp] theorem modPlan_reach (f : Planner → Planner) (r_ : Nat) : (s.modPlan f).reach r_ = s.reach r_ := (rfl)
@[simp] theorem modPlan_hasDie (f : Planner → Planner) (r_ : Nat) : (s.modPlan f).hasDie r_ = s.hasDie r_ := (rfl)
@[simp] theorem modPlan_hasAxis (f : Planner → Planner) (r_ : Nat) : (s.modPlan f).hasAxis r_ = s.hasAxis r_ := (rfl)
@[simp] theorem modPlan_planned (f : Planner → Planner) (r_ : Nat) : (s.modPlan f).planned r_ = s.planned r_ := (rfl)
@[simp] theorem modPlan_stamp (f : Planner → Planner) (r_ : Nat) : (s.modPlan f).stamp r_ = s.stamp r_ := (rfl)
@[simp] theorem modPlan_fmRuns (f : Planner → Planner) : (s.modPlan f).fmRuns = s.fmRuns := (rfl)
@[simp] theorem modPlan_axisRec (f : Planner → Planner) (r_ : Nat) : (s.modPlan f).axisRec r_ = s.axisRec r_ := (rfl)
@[simp] theorem modPlan_schedRec (f : Planner → Planner) (r_ : Nat) : (s.modPlan f).schedRec r_ = s.schedRec r_ := (rfl)
@[simp] theorem modPlan_feedOf (f : Planner → Planner) (r_ : Nat) : (s.modPlan f).feedOf r_ = s.feedOf r_ := (rfl)
@[simp] theorem modPlan_feedOfChan (f : Planner → Planner) (r_ : Nat) : (s.modPlan f).feedOfChan r_ = s.feedOfChan r_ := (rfl)
@[simp] theorem modPlan_loopOf (f : Planner → Planner) (r_ : Nat) : (s.modPlan f).loopOf r_ = s.loopOf r_ := (rfl)
@[simp] theorem modPlan_protRec (f : Planner → Planner) (r_ : Nat) : (s.modPlan f).protRec r_ = s.protRec r_ := (rfl)
@[simp] theorem modPlan_axisSt (f : Planner → Planner) (r_ : AxisId) : (s.modPlan f).axisSt r_ = s.axisSt r_ := (rfl)
@[simp] theorem modPlan_axisOn (f : Planner → Planner) (r_ : AxisId) : (s.modPlan f).axisOn r_ = s.axisOn r_ := (rfl)
@[simp] theorem modPlan_opStat (f : Planner → Planner) (r_ : Nat) : (s.modPlan f).opStat r_ = s.opStat r_ := (rfl)
@[simp] theorem modPlan_opBusy (f : Planner → Planner) (r_ : Nat) : (s.modPlan f).opBusy r_ = s.opBusy r_ := (rfl)
@[simp] theorem modPlan_lastOp (f : Planner → Planner) (r_ : Nat) : (s.modPlan f).lastOp r_ = s.lastOp r_ := (rfl)

/-! ### modHatch -/

@[simp] theorem modHatch_variant (f : Hatch → Hatch) : (s.modHatch f).variant = s.variant := (rfl)
@[simp] theorem modHatch_power (f : Hatch → Hatch) : (s.modHatch f).power = s.power := (rfl)
@[simp] theorem modHatch_clock (f : Hatch → Hatch) : (s.modHatch f).clock = s.clock := (rfl)
@[simp] theorem modHatch_tsBase (f : Hatch → Hatch) : (s.modHatch f).tsBase = s.tsBase := (rfl)
@[simp] theorem modHatch_frame (f : Hatch → Hatch) : (s.modHatch f).frame = s.frame := (rfl)
@[simp] theorem modHatch_lastEngine (f : Hatch → Hatch) : (s.modHatch f).lastEngine = s.lastEngine := (rfl)
@[simp] theorem modHatch_lastMotion (f : Hatch → Hatch) : (s.modHatch f).lastMotion = s.lastMotion := (rfl)
@[simp] theorem modHatch_free (f : Hatch → Hatch) : (s.modHatch f).free = s.free := (rfl)
@[simp] theorem modHatch_regs (f : Hatch → Hatch) : (s.modHatch f).regs = s.regs := (rfl)
@[simp] theorem modHatch_fm (f : Hatch → Hatch) : (s.modHatch f).fm = s.fm := (rfl)
@[simp] theorem modHatch_box (f : Hatch → Hatch) : (s.modHatch f).box = s.box := (rfl)
@[simp] theorem modHatch_dies (f : Hatch → Hatch) : (s.modHatch f).dies = s.dies := (rfl)
@[simp] theorem modHatch_legs (f : Hatch → Hatch) : (s.modHatch f).legs = s.legs := (rfl)
@[simp] theorem modHatch_regions (f : Hatch → Hatch) : (s.modHatch f).regions = s.regions := (rfl)
@[simp] theorem modHatch_carriers (f : Hatch → Hatch) : (s.modHatch f).carriers = s.carriers := (rfl)
@[simp] theorem modHatch_wireTests (f : Hatch → Hatch) : (s.modHatch f).wireTests = s.wireTests := (rfl)
@[simp] theorem modHatch_leakTests (f : Hatch → Hatch) : (s.modHatch f).leakTests = s.leakTests := (rfl)
@[simp] theorem modHatch_seqs (f : Hatch → Hatch) : (s.modHatch f).seqs = s.seqs := (rfl)
@[simp] theorem modHatch_cores (f : Hatch → Hatch) : (s.modHatch f).cores = s.cores := (rfl)
@[simp] theorem modHatch_meas (f : Hatch → Hatch) : (s.modHatch f).meas = s.meas := (rfl)
@[simp] theorem modHatch_calRuns (f : Hatch → Hatch) : (s.modHatch f).calRuns = s.calRuns := (rfl)
@[simp] theorem modHatch_cmps (f : Hatch → Hatch) : (s.modHatch f).cmps = s.cmps := (rfl)
@[simp] theorem modHatch_audit (f : Hatch → Hatch) : (s.modHatch f).audit = s.audit := (rfl)
@[simp] theorem modHatch_inv (f : Hatch → Hatch) : (s.modHatch f).inv = s.inv := (rfl)
@[simp] theorem modHatch_invOp (f : Hatch → Hatch) : (s.modHatch f).invOp = s.invOp := (rfl)
@[simp] theorem modHatch_pins (f : Hatch → Hatch) : (s.modHatch f).pins = s.pins := (rfl)
@[simp] theorem modHatch_jtag (f : Hatch → Hatch) : (s.modHatch f).jtag = s.jtag := (rfl)
@[simp] theorem modHatch_engs (f : Hatch → Hatch) : (s.modHatch f).engs = s.engs := (rfl)
@[simp] theorem modHatch_engine (f : Hatch → Hatch) : (s.modHatch f).engine = s.engine := (rfl)
@[simp] theorem modHatch_axes (f : Hatch → Hatch) : (s.modHatch f).axes = s.axes := (rfl)
@[simp] theorem modHatch_chans (f : Hatch → Hatch) : (s.modHatch f).chans = s.chans := (rfl)
@[simp] theorem modHatch_compares (f : Hatch → Hatch) : (s.modHatch f).compares = s.compares := (rfl)
@[simp] theorem modHatch_larder (f : Hatch → Hatch) : (s.modHatch f).larder = s.larder := (rfl)
@[simp] theorem modHatch_ladder (f : Hatch → Hatch) : (s.modHatch f).ladder = s.ladder := (rfl)
@[simp] theorem modHatch_planner (f : Hatch → Hatch) : (s.modHatch f).planner = s.planner := (rfl)
@[simp] theorem modHatch_comps (f : Hatch → Hatch) : (s.modHatch f).comps = s.comps := (rfl)
@[simp] theorem modHatch_guard (f : Hatch → Hatch) : (s.modHatch f).guard = s.guard := (rfl)
@[simp] theorem modHatch_seq (f : Hatch → Hatch) : (s.modHatch f).seq = s.seq := (rfl)
@[simp] theorem modHatch_flash (f : Hatch → Hatch) : (s.modHatch f).flash = s.flash := (rfl)
@[simp] theorem modHatch_hp (f : Hatch → Hatch) : (s.modHatch f).hp = s.hp := (rfl)
@[simp] theorem modHatch_prt (f : Hatch → Hatch) : (s.modHatch f).prt = s.prt := (rfl)
@[simp] theorem modHatch_hatch (f : Hatch → Hatch) : (s.modHatch f).hatch = f s.hatch := (rfl)
@[simp] theorem modHatch_stock (f : Hatch → Hatch) : (s.modHatch f).stock = s.stock := (rfl)
@[simp] theorem modHatch_access (f : Hatch → Hatch) : (s.modHatch f).access = s.access := (rfl)
@[simp] theorem modHatch_pending (f : Hatch → Hatch) : (s.modHatch f).pending = s.pending := (rfl)
@[simp] theorem modHatch_reg (f : Hatch → Hatch) (r : Nat) : (s.modHatch f).reg r = s.reg r := (rfl)
@[simp] theorem modHatch_fld (f : Hatch → Hatch) (r : Fld) : (s.modHatch f).fld r = s.fld r := (rfl)
@[simp] theorem modHatch_sfld (f : Hatch → Hatch) (r : Fld) : (s.modHatch f).sfld r = s.sfld r := (rfl)
@[simp] theorem modHatch_flag (f : Hatch → Hatch) (r : Fld) : (s.modHatch f).flag r = s.flag r := (rfl)
@[simp] theorem modHatch_live (f : Hatch → Hatch) : (s.modHatch f).live = s.live := (rfl)
@[simp] theorem modHatch_implemented (f : Hatch → Hatch) (r_ : Nat) : (s.modHatch f).implemented r_ = s.implemented r_ := (rfl)
@[simp] theorem modHatch_linked (f : Hatch → Hatch) (r_ : Nat) : (s.modHatch f).linked r_ = s.linked r_ := (rfl)
@[simp] theorem modHatch_reach (f : Hatch → Hatch) (r_ : Nat) : (s.modHatch f).reach r_ = s.reach r_ := (rfl)
@[simp] theorem modHatch_hasDie (f : Hatch → Hatch) (r_ : Nat) : (s.modHatch f).hasDie r_ = s.hasDie r_ := (rfl)
@[simp] theorem modHatch_hasAxis (f : Hatch → Hatch) (r_ : Nat) : (s.modHatch f).hasAxis r_ = s.hasAxis r_ := (rfl)
@[simp] theorem modHatch_planned (f : Hatch → Hatch) (r_ : Nat) : (s.modHatch f).planned r_ = s.planned r_ := (rfl)
@[simp] theorem modHatch_stamp (f : Hatch → Hatch) (r_ : Nat) : (s.modHatch f).stamp r_ = s.stamp r_ := (rfl)
@[simp] theorem modHatch_fmRuns (f : Hatch → Hatch) : (s.modHatch f).fmRuns = s.fmRuns := (rfl)
@[simp] theorem modHatch_axisRec (f : Hatch → Hatch) (r_ : Nat) : (s.modHatch f).axisRec r_ = s.axisRec r_ := (rfl)
@[simp] theorem modHatch_schedRec (f : Hatch → Hatch) (r_ : Nat) : (s.modHatch f).schedRec r_ = s.schedRec r_ := (rfl)
@[simp] theorem modHatch_feedOf (f : Hatch → Hatch) (r_ : Nat) : (s.modHatch f).feedOf r_ = s.feedOf r_ := (rfl)
@[simp] theorem modHatch_feedOfChan (f : Hatch → Hatch) (r_ : Nat) : (s.modHatch f).feedOfChan r_ = s.feedOfChan r_ := (rfl)
@[simp] theorem modHatch_loopOf (f : Hatch → Hatch) (r_ : Nat) : (s.modHatch f).loopOf r_ = s.loopOf r_ := (rfl)
@[simp] theorem modHatch_protRec (f : Hatch → Hatch) (r_ : Nat) : (s.modHatch f).protRec r_ = s.protRec r_ := (rfl)
@[simp] theorem modHatch_axisSt (f : Hatch → Hatch) (r_ : AxisId) : (s.modHatch f).axisSt r_ = s.axisSt r_ := (rfl)
@[simp] theorem modHatch_axisOn (f : Hatch → Hatch) (r_ : AxisId) : (s.modHatch f).axisOn r_ = s.axisOn r_ := (rfl)
@[simp] theorem modHatch_opStat (f : Hatch → Hatch) (r_ : Nat) : (s.modHatch f).opStat r_ = s.opStat r_ := (rfl)
@[simp] theorem modHatch_opBusy (f : Hatch → Hatch) (r_ : Nat) : (s.modHatch f).opBusy r_ = s.opBusy r_ := (rfl)
@[simp] theorem modHatch_lastOp (f : Hatch → Hatch) (r_ : Nat) : (s.modHatch f).lastOp r_ = s.lastOp r_ := (rfl)

/-! ### modHp -/

@[simp] theorem modHp_variant (f : HostPort → HostPort) : (s.modHp f).variant = s.variant := (rfl)
@[simp] theorem modHp_power (f : HostPort → HostPort) : (s.modHp f).power = s.power := (rfl)
@[simp] theorem modHp_clock (f : HostPort → HostPort) : (s.modHp f).clock = s.clock := (rfl)
@[simp] theorem modHp_tsBase (f : HostPort → HostPort) : (s.modHp f).tsBase = s.tsBase := (rfl)
@[simp] theorem modHp_frame (f : HostPort → HostPort) : (s.modHp f).frame = s.frame := (rfl)
@[simp] theorem modHp_lastEngine (f : HostPort → HostPort) : (s.modHp f).lastEngine = s.lastEngine := (rfl)
@[simp] theorem modHp_lastMotion (f : HostPort → HostPort) : (s.modHp f).lastMotion = s.lastMotion := (rfl)
@[simp] theorem modHp_free (f : HostPort → HostPort) : (s.modHp f).free = s.free := (rfl)
@[simp] theorem modHp_regs (f : HostPort → HostPort) : (s.modHp f).regs = s.regs := (rfl)
@[simp] theorem modHp_fm (f : HostPort → HostPort) : (s.modHp f).fm = s.fm := (rfl)
@[simp] theorem modHp_box (f : HostPort → HostPort) : (s.modHp f).box = s.box := (rfl)
@[simp] theorem modHp_dies (f : HostPort → HostPort) : (s.modHp f).dies = s.dies := (rfl)
@[simp] theorem modHp_legs (f : HostPort → HostPort) : (s.modHp f).legs = s.legs := (rfl)
@[simp] theorem modHp_regions (f : HostPort → HostPort) : (s.modHp f).regions = s.regions := (rfl)
@[simp] theorem modHp_carriers (f : HostPort → HostPort) : (s.modHp f).carriers = s.carriers := (rfl)
@[simp] theorem modHp_wireTests (f : HostPort → HostPort) : (s.modHp f).wireTests = s.wireTests := (rfl)
@[simp] theorem modHp_leakTests (f : HostPort → HostPort) : (s.modHp f).leakTests = s.leakTests := (rfl)
@[simp] theorem modHp_seqs (f : HostPort → HostPort) : (s.modHp f).seqs = s.seqs := (rfl)
@[simp] theorem modHp_cores (f : HostPort → HostPort) : (s.modHp f).cores = s.cores := (rfl)
@[simp] theorem modHp_meas (f : HostPort → HostPort) : (s.modHp f).meas = s.meas := (rfl)
@[simp] theorem modHp_calRuns (f : HostPort → HostPort) : (s.modHp f).calRuns = s.calRuns := (rfl)
@[simp] theorem modHp_cmps (f : HostPort → HostPort) : (s.modHp f).cmps = s.cmps := (rfl)
@[simp] theorem modHp_audit (f : HostPort → HostPort) : (s.modHp f).audit = s.audit := (rfl)
@[simp] theorem modHp_inv (f : HostPort → HostPort) : (s.modHp f).inv = s.inv := (rfl)
@[simp] theorem modHp_invOp (f : HostPort → HostPort) : (s.modHp f).invOp = s.invOp := (rfl)
@[simp] theorem modHp_pins (f : HostPort → HostPort) : (s.modHp f).pins = s.pins := (rfl)
@[simp] theorem modHp_jtag (f : HostPort → HostPort) : (s.modHp f).jtag = s.jtag := (rfl)
@[simp] theorem modHp_engs (f : HostPort → HostPort) : (s.modHp f).engs = s.engs := (rfl)
@[simp] theorem modHp_engine (f : HostPort → HostPort) : (s.modHp f).engine = s.engine := (rfl)
@[simp] theorem modHp_axes (f : HostPort → HostPort) : (s.modHp f).axes = s.axes := (rfl)
@[simp] theorem modHp_chans (f : HostPort → HostPort) : (s.modHp f).chans = s.chans := (rfl)
@[simp] theorem modHp_compares (f : HostPort → HostPort) : (s.modHp f).compares = s.compares := (rfl)
@[simp] theorem modHp_larder (f : HostPort → HostPort) : (s.modHp f).larder = s.larder := (rfl)
@[simp] theorem modHp_ladder (f : HostPort → HostPort) : (s.modHp f).ladder = s.ladder := (rfl)
@[simp] theorem modHp_planner (f : HostPort → HostPort) : (s.modHp f).planner = s.planner := (rfl)
@[simp] theorem modHp_comps (f : HostPort → HostPort) : (s.modHp f).comps = s.comps := (rfl)
@[simp] theorem modHp_guard (f : HostPort → HostPort) : (s.modHp f).guard = s.guard := (rfl)
@[simp] theorem modHp_seq (f : HostPort → HostPort) : (s.modHp f).seq = s.seq := (rfl)
@[simp] theorem modHp_flash (f : HostPort → HostPort) : (s.modHp f).flash = s.flash := (rfl)
@[simp] theorem modHp_hp (f : HostPort → HostPort) : (s.modHp f).hp = f s.hp := (rfl)
@[simp] theorem modHp_prt (f : HostPort → HostPort) : (s.modHp f).prt = s.prt := (rfl)
@[simp] theorem modHp_hatch (f : HostPort → HostPort) : (s.modHp f).hatch = s.hatch := (rfl)
@[simp] theorem modHp_stock (f : HostPort → HostPort) : (s.modHp f).stock = s.stock := (rfl)
@[simp] theorem modHp_access (f : HostPort → HostPort) : (s.modHp f).access = s.access := (rfl)
@[simp] theorem modHp_pending (f : HostPort → HostPort) : (s.modHp f).pending = s.pending := (rfl)
@[simp] theorem modHp_reg (f : HostPort → HostPort) (r : Nat) : (s.modHp f).reg r = s.reg r := (rfl)
@[simp] theorem modHp_fld (f : HostPort → HostPort) (r : Fld) : (s.modHp f).fld r = s.fld r := (rfl)
@[simp] theorem modHp_sfld (f : HostPort → HostPort) (r : Fld) : (s.modHp f).sfld r = s.sfld r := (rfl)
@[simp] theorem modHp_flag (f : HostPort → HostPort) (r : Fld) : (s.modHp f).flag r = s.flag r := (rfl)
@[simp] theorem modHp_live (f : HostPort → HostPort) : (s.modHp f).live = s.live := (rfl)
@[simp] theorem modHp_implemented (f : HostPort → HostPort) (r_ : Nat) : (s.modHp f).implemented r_ = s.implemented r_ := (rfl)
@[simp] theorem modHp_linked (f : HostPort → HostPort) (r_ : Nat) : (s.modHp f).linked r_ = s.linked r_ := (rfl)
@[simp] theorem modHp_reach (f : HostPort → HostPort) (r_ : Nat) : (s.modHp f).reach r_ = s.reach r_ := (rfl)
@[simp] theorem modHp_hasDie (f : HostPort → HostPort) (r_ : Nat) : (s.modHp f).hasDie r_ = s.hasDie r_ := (rfl)
@[simp] theorem modHp_hasAxis (f : HostPort → HostPort) (r_ : Nat) : (s.modHp f).hasAxis r_ = s.hasAxis r_ := (rfl)
@[simp] theorem modHp_planned (f : HostPort → HostPort) (r_ : Nat) : (s.modHp f).planned r_ = s.planned r_ := (rfl)
@[simp] theorem modHp_stamp (f : HostPort → HostPort) (r_ : Nat) : (s.modHp f).stamp r_ = s.stamp r_ := (rfl)
@[simp] theorem modHp_fmRuns (f : HostPort → HostPort) : (s.modHp f).fmRuns = s.fmRuns := (rfl)
@[simp] theorem modHp_axisRec (f : HostPort → HostPort) (r_ : Nat) : (s.modHp f).axisRec r_ = s.axisRec r_ := (rfl)
@[simp] theorem modHp_schedRec (f : HostPort → HostPort) (r_ : Nat) : (s.modHp f).schedRec r_ = s.schedRec r_ := (rfl)
@[simp] theorem modHp_feedOf (f : HostPort → HostPort) (r_ : Nat) : (s.modHp f).feedOf r_ = s.feedOf r_ := (rfl)
@[simp] theorem modHp_feedOfChan (f : HostPort → HostPort) (r_ : Nat) : (s.modHp f).feedOfChan r_ = s.feedOfChan r_ := (rfl)
@[simp] theorem modHp_loopOf (f : HostPort → HostPort) (r_ : Nat) : (s.modHp f).loopOf r_ = s.loopOf r_ := (rfl)
@[simp] theorem modHp_protRec (f : HostPort → HostPort) (r_ : Nat) : (s.modHp f).protRec r_ = s.protRec r_ := (rfl)
@[simp] theorem modHp_axisSt (f : HostPort → HostPort) (r_ : AxisId) : (s.modHp f).axisSt r_ = s.axisSt r_ := (rfl)
@[simp] theorem modHp_axisOn (f : HostPort → HostPort) (r_ : AxisId) : (s.modHp f).axisOn r_ = s.axisOn r_ := (rfl)
@[simp] theorem modHp_opStat (f : HostPort → HostPort) (r_ : Nat) : (s.modHp f).opStat r_ = s.opStat r_ := (rfl)
@[simp] theorem modHp_opBusy (f : HostPort → HostPort) (r_ : Nat) : (s.modHp f).opBusy r_ = s.opBusy r_ := (rfl)
@[simp] theorem modHp_lastOp (f : HostPort → HostPort) (r_ : Nat) : (s.modHp f).lastOp r_ = s.lastOp r_ := (rfl)

/-! ### modInv -/

@[simp] theorem modInv_variant (f : InvOp → InvOp) : (s.modInv f).variant = s.variant := (rfl)
@[simp] theorem modInv_power (f : InvOp → InvOp) : (s.modInv f).power = s.power := (rfl)
@[simp] theorem modInv_clock (f : InvOp → InvOp) : (s.modInv f).clock = s.clock := (rfl)
@[simp] theorem modInv_tsBase (f : InvOp → InvOp) : (s.modInv f).tsBase = s.tsBase := (rfl)
@[simp] theorem modInv_frame (f : InvOp → InvOp) : (s.modInv f).frame = s.frame := (rfl)
@[simp] theorem modInv_lastEngine (f : InvOp → InvOp) : (s.modInv f).lastEngine = s.lastEngine := (rfl)
@[simp] theorem modInv_lastMotion (f : InvOp → InvOp) : (s.modInv f).lastMotion = s.lastMotion := (rfl)
@[simp] theorem modInv_free (f : InvOp → InvOp) : (s.modInv f).free = s.free := (rfl)
@[simp] theorem modInv_regs (f : InvOp → InvOp) : (s.modInv f).regs = s.regs := (rfl)
@[simp] theorem modInv_fm (f : InvOp → InvOp) : (s.modInv f).fm = s.fm := (rfl)
@[simp] theorem modInv_box (f : InvOp → InvOp) : (s.modInv f).box = s.box := (rfl)
@[simp] theorem modInv_dies (f : InvOp → InvOp) : (s.modInv f).dies = s.dies := (rfl)
@[simp] theorem modInv_legs (f : InvOp → InvOp) : (s.modInv f).legs = s.legs := (rfl)
@[simp] theorem modInv_regions (f : InvOp → InvOp) : (s.modInv f).regions = s.regions := (rfl)
@[simp] theorem modInv_carriers (f : InvOp → InvOp) : (s.modInv f).carriers = s.carriers := (rfl)
@[simp] theorem modInv_wireTests (f : InvOp → InvOp) : (s.modInv f).wireTests = s.wireTests := (rfl)
@[simp] theorem modInv_leakTests (f : InvOp → InvOp) : (s.modInv f).leakTests = s.leakTests := (rfl)
@[simp] theorem modInv_seqs (f : InvOp → InvOp) : (s.modInv f).seqs = s.seqs := (rfl)
@[simp] theorem modInv_cores (f : InvOp → InvOp) : (s.modInv f).cores = s.cores := (rfl)
@[simp] theorem modInv_meas (f : InvOp → InvOp) : (s.modInv f).meas = s.meas := (rfl)
@[simp] theorem modInv_calRuns (f : InvOp → InvOp) : (s.modInv f).calRuns = s.calRuns := (rfl)
@[simp] theorem modInv_cmps (f : InvOp → InvOp) : (s.modInv f).cmps = s.cmps := (rfl)
@[simp] theorem modInv_audit (f : InvOp → InvOp) : (s.modInv f).audit = s.audit := (rfl)
@[simp] theorem modInv_inv (f : InvOp → InvOp) : (s.modInv f).inv = s.inv := (rfl)
@[simp] theorem modInv_invOp (f : InvOp → InvOp) : (s.modInv f).invOp = f s.invOp := (rfl)
@[simp] theorem modInv_pins (f : InvOp → InvOp) : (s.modInv f).pins = s.pins := (rfl)
@[simp] theorem modInv_jtag (f : InvOp → InvOp) : (s.modInv f).jtag = s.jtag := (rfl)
@[simp] theorem modInv_engs (f : InvOp → InvOp) : (s.modInv f).engs = s.engs := (rfl)
@[simp] theorem modInv_engine (f : InvOp → InvOp) : (s.modInv f).engine = s.engine := (rfl)
@[simp] theorem modInv_axes (f : InvOp → InvOp) : (s.modInv f).axes = s.axes := (rfl)
@[simp] theorem modInv_chans (f : InvOp → InvOp) : (s.modInv f).chans = s.chans := (rfl)
@[simp] theorem modInv_compares (f : InvOp → InvOp) : (s.modInv f).compares = s.compares := (rfl)
@[simp] theorem modInv_larder (f : InvOp → InvOp) : (s.modInv f).larder = s.larder := (rfl)
@[simp] theorem modInv_ladder (f : InvOp → InvOp) : (s.modInv f).ladder = s.ladder := (rfl)
@[simp] theorem modInv_planner (f : InvOp → InvOp) : (s.modInv f).planner = s.planner := (rfl)
@[simp] theorem modInv_comps (f : InvOp → InvOp) : (s.modInv f).comps = s.comps := (rfl)
@[simp] theorem modInv_guard (f : InvOp → InvOp) : (s.modInv f).guard = s.guard := (rfl)
@[simp] theorem modInv_seq (f : InvOp → InvOp) : (s.modInv f).seq = s.seq := (rfl)
@[simp] theorem modInv_flash (f : InvOp → InvOp) : (s.modInv f).flash = s.flash := (rfl)
@[simp] theorem modInv_hp (f : InvOp → InvOp) : (s.modInv f).hp = s.hp := (rfl)
@[simp] theorem modInv_prt (f : InvOp → InvOp) : (s.modInv f).prt = s.prt := (rfl)
@[simp] theorem modInv_hatch (f : InvOp → InvOp) : (s.modInv f).hatch = s.hatch := (rfl)
@[simp] theorem modInv_stock (f : InvOp → InvOp) : (s.modInv f).stock = s.stock := (rfl)
@[simp] theorem modInv_access (f : InvOp → InvOp) : (s.modInv f).access = s.access := (rfl)
@[simp] theorem modInv_pending (f : InvOp → InvOp) : (s.modInv f).pending = s.pending := (rfl)
@[simp] theorem modInv_reg (f : InvOp → InvOp) (r : Nat) : (s.modInv f).reg r = s.reg r := (rfl)
@[simp] theorem modInv_fld (f : InvOp → InvOp) (r : Fld) : (s.modInv f).fld r = s.fld r := (rfl)
@[simp] theorem modInv_sfld (f : InvOp → InvOp) (r : Fld) : (s.modInv f).sfld r = s.sfld r := (rfl)
@[simp] theorem modInv_flag (f : InvOp → InvOp) (r : Fld) : (s.modInv f).flag r = s.flag r := (rfl)
@[simp] theorem modInv_live (f : InvOp → InvOp) : (s.modInv f).live = s.live := (rfl)
@[simp] theorem modInv_implemented (f : InvOp → InvOp) (r_ : Nat) : (s.modInv f).implemented r_ = s.implemented r_ := (rfl)
@[simp] theorem modInv_linked (f : InvOp → InvOp) (r_ : Nat) : (s.modInv f).linked r_ = s.linked r_ := (rfl)
@[simp] theorem modInv_reach (f : InvOp → InvOp) (r_ : Nat) : (s.modInv f).reach r_ = s.reach r_ := (rfl)
@[simp] theorem modInv_hasDie (f : InvOp → InvOp) (r_ : Nat) : (s.modInv f).hasDie r_ = s.hasDie r_ := (rfl)
@[simp] theorem modInv_hasAxis (f : InvOp → InvOp) (r_ : Nat) : (s.modInv f).hasAxis r_ = s.hasAxis r_ := (rfl)
@[simp] theorem modInv_planned (f : InvOp → InvOp) (r_ : Nat) : (s.modInv f).planned r_ = s.planned r_ := (rfl)
@[simp] theorem modInv_stamp (f : InvOp → InvOp) (r_ : Nat) : (s.modInv f).stamp r_ = s.stamp r_ := (rfl)
@[simp] theorem modInv_fmRuns (f : InvOp → InvOp) : (s.modInv f).fmRuns = s.fmRuns := (rfl)
@[simp] theorem modInv_axisRec (f : InvOp → InvOp) (r_ : Nat) : (s.modInv f).axisRec r_ = s.axisRec r_ := (rfl)
@[simp] theorem modInv_schedRec (f : InvOp → InvOp) (r_ : Nat) : (s.modInv f).schedRec r_ = s.schedRec r_ := (rfl)
@[simp] theorem modInv_feedOf (f : InvOp → InvOp) (r_ : Nat) : (s.modInv f).feedOf r_ = s.feedOf r_ := (rfl)
@[simp] theorem modInv_feedOfChan (f : InvOp → InvOp) (r_ : Nat) : (s.modInv f).feedOfChan r_ = s.feedOfChan r_ := (rfl)
@[simp] theorem modInv_loopOf (f : InvOp → InvOp) (r_ : Nat) : (s.modInv f).loopOf r_ = s.loopOf r_ := (rfl)
@[simp] theorem modInv_protRec (f : InvOp → InvOp) (r_ : Nat) : (s.modInv f).protRec r_ = s.protRec r_ := (rfl)
@[simp] theorem modInv_axisSt (f : InvOp → InvOp) (r_ : AxisId) : (s.modInv f).axisSt r_ = s.axisSt r_ := (rfl)
@[simp] theorem modInv_axisOn (f : InvOp → InvOp) (r_ : AxisId) : (s.modInv f).axisOn r_ = s.axisOn r_ := (rfl)
@[simp] theorem modInv_opStat (f : InvOp → InvOp) (r_ : Nat) : (s.modInv f).opStat r_ = s.opStat r_ := (rfl)
@[simp] theorem modInv_opBusy (f : InvOp → InvOp) (r_ : Nat) : (s.modInv f).opBusy r_ = s.opBusy r_ := (rfl)
@[simp] theorem modInv_lastOp (f : InvOp → InvOp) (r_ : Nat) : (s.modInv f).lastOp r_ = s.lastOp r_ := (rfl)

/-! ### modLadder -/

@[simp] theorem modLadder_variant (f : Ladder → Ladder) : (s.modLadder f).variant = s.variant := (rfl)
@[simp] theorem modLadder_power (f : Ladder → Ladder) : (s.modLadder f).power = s.power := (rfl)
@[simp] theorem modLadder_clock (f : Ladder → Ladder) : (s.modLadder f).clock = s.clock := (rfl)
@[simp] theorem modLadder_tsBase (f : Ladder → Ladder) : (s.modLadder f).tsBase = s.tsBase := (rfl)
@[simp] theorem modLadder_frame (f : Ladder → Ladder) : (s.modLadder f).frame = s.frame := (rfl)
@[simp] theorem modLadder_lastEngine (f : Ladder → Ladder) : (s.modLadder f).lastEngine = s.lastEngine := (rfl)
@[simp] theorem modLadder_lastMotion (f : Ladder → Ladder) : (s.modLadder f).lastMotion = s.lastMotion := (rfl)
@[simp] theorem modLadder_free (f : Ladder → Ladder) : (s.modLadder f).free = s.free := (rfl)
@[simp] theorem modLadder_regs (f : Ladder → Ladder) : (s.modLadder f).regs = s.regs := (rfl)
@[simp] theorem modLadder_fm (f : Ladder → Ladder) : (s.modLadder f).fm = s.fm := (rfl)
@[simp] theorem modLadder_box (f : Ladder → Ladder) : (s.modLadder f).box = s.box := (rfl)
@[simp] theorem modLadder_dies (f : Ladder → Ladder) : (s.modLadder f).dies = s.dies := (rfl)
@[simp] theorem modLadder_legs (f : Ladder → Ladder) : (s.modLadder f).legs = s.legs := (rfl)
@[simp] theorem modLadder_regions (f : Ladder → Ladder) : (s.modLadder f).regions = s.regions := (rfl)
@[simp] theorem modLadder_carriers (f : Ladder → Ladder) : (s.modLadder f).carriers = s.carriers := (rfl)
@[simp] theorem modLadder_wireTests (f : Ladder → Ladder) : (s.modLadder f).wireTests = s.wireTests := (rfl)
@[simp] theorem modLadder_leakTests (f : Ladder → Ladder) : (s.modLadder f).leakTests = s.leakTests := (rfl)
@[simp] theorem modLadder_seqs (f : Ladder → Ladder) : (s.modLadder f).seqs = s.seqs := (rfl)
@[simp] theorem modLadder_cores (f : Ladder → Ladder) : (s.modLadder f).cores = s.cores := (rfl)
@[simp] theorem modLadder_meas (f : Ladder → Ladder) : (s.modLadder f).meas = s.meas := (rfl)
@[simp] theorem modLadder_calRuns (f : Ladder → Ladder) : (s.modLadder f).calRuns = s.calRuns := (rfl)
@[simp] theorem modLadder_cmps (f : Ladder → Ladder) : (s.modLadder f).cmps = s.cmps := (rfl)
@[simp] theorem modLadder_audit (f : Ladder → Ladder) : (s.modLadder f).audit = s.audit := (rfl)
@[simp] theorem modLadder_inv (f : Ladder → Ladder) : (s.modLadder f).inv = s.inv := (rfl)
@[simp] theorem modLadder_invOp (f : Ladder → Ladder) : (s.modLadder f).invOp = s.invOp := (rfl)
@[simp] theorem modLadder_pins (f : Ladder → Ladder) : (s.modLadder f).pins = s.pins := (rfl)
@[simp] theorem modLadder_jtag (f : Ladder → Ladder) : (s.modLadder f).jtag = s.jtag := (rfl)
@[simp] theorem modLadder_engs (f : Ladder → Ladder) : (s.modLadder f).engs = s.engs := (rfl)
@[simp] theorem modLadder_engine (f : Ladder → Ladder) : (s.modLadder f).engine = s.engine := (rfl)
@[simp] theorem modLadder_axes (f : Ladder → Ladder) : (s.modLadder f).axes = s.axes := (rfl)
@[simp] theorem modLadder_chans (f : Ladder → Ladder) : (s.modLadder f).chans = s.chans := (rfl)
@[simp] theorem modLadder_compares (f : Ladder → Ladder) : (s.modLadder f).compares = s.compares := (rfl)
@[simp] theorem modLadder_larder (f : Ladder → Ladder) : (s.modLadder f).larder = s.larder := (rfl)
@[simp] theorem modLadder_ladder (f : Ladder → Ladder) : (s.modLadder f).ladder = f s.ladder := (rfl)
@[simp] theorem modLadder_planner (f : Ladder → Ladder) : (s.modLadder f).planner = s.planner := (rfl)
@[simp] theorem modLadder_comps (f : Ladder → Ladder) : (s.modLadder f).comps = s.comps := (rfl)
@[simp] theorem modLadder_guard (f : Ladder → Ladder) : (s.modLadder f).guard = s.guard := (rfl)
@[simp] theorem modLadder_seq (f : Ladder → Ladder) : (s.modLadder f).seq = s.seq := (rfl)
@[simp] theorem modLadder_flash (f : Ladder → Ladder) : (s.modLadder f).flash = s.flash := (rfl)
@[simp] theorem modLadder_hp (f : Ladder → Ladder) : (s.modLadder f).hp = s.hp := (rfl)
@[simp] theorem modLadder_prt (f : Ladder → Ladder) : (s.modLadder f).prt = s.prt := (rfl)
@[simp] theorem modLadder_hatch (f : Ladder → Ladder) : (s.modLadder f).hatch = s.hatch := (rfl)
@[simp] theorem modLadder_stock (f : Ladder → Ladder) : (s.modLadder f).stock = s.stock := (rfl)
@[simp] theorem modLadder_access (f : Ladder → Ladder) : (s.modLadder f).access = s.access := (rfl)
@[simp] theorem modLadder_pending (f : Ladder → Ladder) : (s.modLadder f).pending = s.pending := (rfl)
@[simp] theorem modLadder_reg (f : Ladder → Ladder) (r : Nat) : (s.modLadder f).reg r = s.reg r := (rfl)
@[simp] theorem modLadder_fld (f : Ladder → Ladder) (r : Fld) : (s.modLadder f).fld r = s.fld r := (rfl)
@[simp] theorem modLadder_sfld (f : Ladder → Ladder) (r : Fld) : (s.modLadder f).sfld r = s.sfld r := (rfl)
@[simp] theorem modLadder_flag (f : Ladder → Ladder) (r : Fld) : (s.modLadder f).flag r = s.flag r := (rfl)
@[simp] theorem modLadder_live (f : Ladder → Ladder) : (s.modLadder f).live = s.live := (rfl)
@[simp] theorem modLadder_implemented (f : Ladder → Ladder) (r_ : Nat) : (s.modLadder f).implemented r_ = s.implemented r_ := (rfl)
@[simp] theorem modLadder_linked (f : Ladder → Ladder) (r_ : Nat) : (s.modLadder f).linked r_ = s.linked r_ := (rfl)
@[simp] theorem modLadder_reach (f : Ladder → Ladder) (r_ : Nat) : (s.modLadder f).reach r_ = s.reach r_ := (rfl)
@[simp] theorem modLadder_hasDie (f : Ladder → Ladder) (r_ : Nat) : (s.modLadder f).hasDie r_ = s.hasDie r_ := (rfl)
@[simp] theorem modLadder_hasAxis (f : Ladder → Ladder) (r_ : Nat) : (s.modLadder f).hasAxis r_ = s.hasAxis r_ := (rfl)
@[simp] theorem modLadder_planned (f : Ladder → Ladder) (r_ : Nat) : (s.modLadder f).planned r_ = s.planned r_ := (rfl)
@[simp] theorem modLadder_stamp (f : Ladder → Ladder) (r_ : Nat) : (s.modLadder f).stamp r_ = s.stamp r_ := (rfl)
@[simp] theorem modLadder_fmRuns (f : Ladder → Ladder) : (s.modLadder f).fmRuns = s.fmRuns := (rfl)
@[simp] theorem modLadder_axisRec (f : Ladder → Ladder) (r_ : Nat) : (s.modLadder f).axisRec r_ = s.axisRec r_ := (rfl)
@[simp] theorem modLadder_schedRec (f : Ladder → Ladder) (r_ : Nat) : (s.modLadder f).schedRec r_ = s.schedRec r_ := (rfl)
@[simp] theorem modLadder_feedOf (f : Ladder → Ladder) (r_ : Nat) : (s.modLadder f).feedOf r_ = s.feedOf r_ := (rfl)
@[simp] theorem modLadder_feedOfChan (f : Ladder → Ladder) (r_ : Nat) : (s.modLadder f).feedOfChan r_ = s.feedOfChan r_ := (rfl)
@[simp] theorem modLadder_loopOf (f : Ladder → Ladder) (r_ : Nat) : (s.modLadder f).loopOf r_ = s.loopOf r_ := (rfl)
@[simp] theorem modLadder_protRec (f : Ladder → Ladder) (r_ : Nat) : (s.modLadder f).protRec r_ = s.protRec r_ := (rfl)
@[simp] theorem modLadder_axisSt (f : Ladder → Ladder) (r_ : AxisId) : (s.modLadder f).axisSt r_ = s.axisSt r_ := (rfl)
@[simp] theorem modLadder_axisOn (f : Ladder → Ladder) (r_ : AxisId) : (s.modLadder f).axisOn r_ = s.axisOn r_ := (rfl)
@[simp] theorem modLadder_opStat (f : Ladder → Ladder) (r_ : Nat) : (s.modLadder f).opStat r_ = s.opStat r_ := (rfl)
@[simp] theorem modLadder_opBusy (f : Ladder → Ladder) (r_ : Nat) : (s.modLadder f).opBusy r_ = s.opBusy r_ := (rfl)
@[simp] theorem modLadder_lastOp (f : Ladder → Ladder) (r_ : Nat) : (s.modLadder f).lastOp r_ = s.lastOp r_ := (rfl)

/-! ### modLarder -/

@[simp] theorem modLarder_variant (f : Larder → Larder) : (s.modLarder f).variant = s.variant := (rfl)
@[simp] theorem modLarder_power (f : Larder → Larder) : (s.modLarder f).power = s.power := (rfl)
@[simp] theorem modLarder_clock (f : Larder → Larder) : (s.modLarder f).clock = s.clock := (rfl)
@[simp] theorem modLarder_tsBase (f : Larder → Larder) : (s.modLarder f).tsBase = s.tsBase := (rfl)
@[simp] theorem modLarder_frame (f : Larder → Larder) : (s.modLarder f).frame = s.frame := (rfl)
@[simp] theorem modLarder_lastEngine (f : Larder → Larder) : (s.modLarder f).lastEngine = s.lastEngine := (rfl)
@[simp] theorem modLarder_lastMotion (f : Larder → Larder) : (s.modLarder f).lastMotion = s.lastMotion := (rfl)
@[simp] theorem modLarder_free (f : Larder → Larder) : (s.modLarder f).free = s.free := (rfl)
@[simp] theorem modLarder_regs (f : Larder → Larder) : (s.modLarder f).regs = s.regs := (rfl)
@[simp] theorem modLarder_fm (f : Larder → Larder) : (s.modLarder f).fm = s.fm := (rfl)
@[simp] theorem modLarder_box (f : Larder → Larder) : (s.modLarder f).box = s.box := (rfl)
@[simp] theorem modLarder_dies (f : Larder → Larder) : (s.modLarder f).dies = s.dies := (rfl)
@[simp] theorem modLarder_legs (f : Larder → Larder) : (s.modLarder f).legs = s.legs := (rfl)
@[simp] theorem modLarder_regions (f : Larder → Larder) : (s.modLarder f).regions = s.regions := (rfl)
@[simp] theorem modLarder_carriers (f : Larder → Larder) : (s.modLarder f).carriers = s.carriers := (rfl)
@[simp] theorem modLarder_wireTests (f : Larder → Larder) : (s.modLarder f).wireTests = s.wireTests := (rfl)
@[simp] theorem modLarder_leakTests (f : Larder → Larder) : (s.modLarder f).leakTests = s.leakTests := (rfl)
@[simp] theorem modLarder_seqs (f : Larder → Larder) : (s.modLarder f).seqs = s.seqs := (rfl)
@[simp] theorem modLarder_cores (f : Larder → Larder) : (s.modLarder f).cores = s.cores := (rfl)
@[simp] theorem modLarder_meas (f : Larder → Larder) : (s.modLarder f).meas = s.meas := (rfl)
@[simp] theorem modLarder_calRuns (f : Larder → Larder) : (s.modLarder f).calRuns = s.calRuns := (rfl)
@[simp] theorem modLarder_cmps (f : Larder → Larder) : (s.modLarder f).cmps = s.cmps := (rfl)
@[simp] theorem modLarder_audit (f : Larder → Larder) : (s.modLarder f).audit = s.audit := (rfl)
@[simp] theorem modLarder_inv (f : Larder → Larder) : (s.modLarder f).inv = s.inv := (rfl)
@[simp] theorem modLarder_invOp (f : Larder → Larder) : (s.modLarder f).invOp = s.invOp := (rfl)
@[simp] theorem modLarder_pins (f : Larder → Larder) : (s.modLarder f).pins = s.pins := (rfl)
@[simp] theorem modLarder_jtag (f : Larder → Larder) : (s.modLarder f).jtag = s.jtag := (rfl)
@[simp] theorem modLarder_engs (f : Larder → Larder) : (s.modLarder f).engs = s.engs := (rfl)
@[simp] theorem modLarder_engine (f : Larder → Larder) : (s.modLarder f).engine = s.engine := (rfl)
@[simp] theorem modLarder_axes (f : Larder → Larder) : (s.modLarder f).axes = s.axes := (rfl)
@[simp] theorem modLarder_chans (f : Larder → Larder) : (s.modLarder f).chans = s.chans := (rfl)
@[simp] theorem modLarder_compares (f : Larder → Larder) : (s.modLarder f).compares = s.compares := (rfl)
@[simp] theorem modLarder_larder (f : Larder → Larder) : (s.modLarder f).larder = f s.larder := (rfl)
@[simp] theorem modLarder_ladder (f : Larder → Larder) : (s.modLarder f).ladder = s.ladder := (rfl)
@[simp] theorem modLarder_planner (f : Larder → Larder) : (s.modLarder f).planner = s.planner := (rfl)
@[simp] theorem modLarder_comps (f : Larder → Larder) : (s.modLarder f).comps = s.comps := (rfl)
@[simp] theorem modLarder_guard (f : Larder → Larder) : (s.modLarder f).guard = s.guard := (rfl)
@[simp] theorem modLarder_seq (f : Larder → Larder) : (s.modLarder f).seq = s.seq := (rfl)
@[simp] theorem modLarder_flash (f : Larder → Larder) : (s.modLarder f).flash = s.flash := (rfl)
@[simp] theorem modLarder_hp (f : Larder → Larder) : (s.modLarder f).hp = s.hp := (rfl)
@[simp] theorem modLarder_prt (f : Larder → Larder) : (s.modLarder f).prt = s.prt := (rfl)
@[simp] theorem modLarder_hatch (f : Larder → Larder) : (s.modLarder f).hatch = s.hatch := (rfl)
@[simp] theorem modLarder_stock (f : Larder → Larder) : (s.modLarder f).stock = s.stock := (rfl)
@[simp] theorem modLarder_access (f : Larder → Larder) : (s.modLarder f).access = s.access := (rfl)
@[simp] theorem modLarder_pending (f : Larder → Larder) : (s.modLarder f).pending = s.pending := (rfl)
@[simp] theorem modLarder_reg (f : Larder → Larder) (r : Nat) : (s.modLarder f).reg r = s.reg r := (rfl)
@[simp] theorem modLarder_fld (f : Larder → Larder) (r : Fld) : (s.modLarder f).fld r = s.fld r := (rfl)
@[simp] theorem modLarder_sfld (f : Larder → Larder) (r : Fld) : (s.modLarder f).sfld r = s.sfld r := (rfl)
@[simp] theorem modLarder_flag (f : Larder → Larder) (r : Fld) : (s.modLarder f).flag r = s.flag r := (rfl)
@[simp] theorem modLarder_live (f : Larder → Larder) : (s.modLarder f).live = s.live := (rfl)
@[simp] theorem modLarder_implemented (f : Larder → Larder) (r_ : Nat) : (s.modLarder f).implemented r_ = s.implemented r_ := (rfl)
@[simp] theorem modLarder_linked (f : Larder → Larder) (r_ : Nat) : (s.modLarder f).linked r_ = s.linked r_ := (rfl)
@[simp] theorem modLarder_reach (f : Larder → Larder) (r_ : Nat) : (s.modLarder f).reach r_ = s.reach r_ := (rfl)
@[simp] theorem modLarder_hasDie (f : Larder → Larder) (r_ : Nat) : (s.modLarder f).hasDie r_ = s.hasDie r_ := (rfl)
@[simp] theorem modLarder_hasAxis (f : Larder → Larder) (r_ : Nat) : (s.modLarder f).hasAxis r_ = s.hasAxis r_ := (rfl)
@[simp] theorem modLarder_planned (f : Larder → Larder) (r_ : Nat) : (s.modLarder f).planned r_ = s.planned r_ := (rfl)
@[simp] theorem modLarder_stamp (f : Larder → Larder) (r_ : Nat) : (s.modLarder f).stamp r_ = s.stamp r_ := (rfl)
@[simp] theorem modLarder_fmRuns (f : Larder → Larder) : (s.modLarder f).fmRuns = s.fmRuns := (rfl)
@[simp] theorem modLarder_axisRec (f : Larder → Larder) (r_ : Nat) : (s.modLarder f).axisRec r_ = s.axisRec r_ := (rfl)
@[simp] theorem modLarder_schedRec (f : Larder → Larder) (r_ : Nat) : (s.modLarder f).schedRec r_ = s.schedRec r_ := (rfl)
@[simp] theorem modLarder_feedOf (f : Larder → Larder) (r_ : Nat) : (s.modLarder f).feedOf r_ = s.feedOf r_ := (rfl)
@[simp] theorem modLarder_feedOfChan (f : Larder → Larder) (r_ : Nat) : (s.modLarder f).feedOfChan r_ = s.feedOfChan r_ := (rfl)
@[simp] theorem modLarder_loopOf (f : Larder → Larder) (r_ : Nat) : (s.modLarder f).loopOf r_ = s.loopOf r_ := (rfl)
@[simp] theorem modLarder_protRec (f : Larder → Larder) (r_ : Nat) : (s.modLarder f).protRec r_ = s.protRec r_ := (rfl)
@[simp] theorem modLarder_axisSt (f : Larder → Larder) (r_ : AxisId) : (s.modLarder f).axisSt r_ = s.axisSt r_ := (rfl)
@[simp] theorem modLarder_axisOn (f : Larder → Larder) (r_ : AxisId) : (s.modLarder f).axisOn r_ = s.axisOn r_ := (rfl)
@[simp] theorem modLarder_opStat (f : Larder → Larder) (r_ : Nat) : (s.modLarder f).opStat r_ = s.opStat r_ := (rfl)
@[simp] theorem modLarder_opBusy (f : Larder → Larder) (r_ : Nat) : (s.modLarder f).opBusy r_ = s.opBusy r_ := (rfl)
@[simp] theorem modLarder_lastOp (f : Larder → Larder) (r_ : Nat) : (s.modLarder f).lastOp r_ = s.lastOp r_ := (rfl)

/-! ### modPower -/

@[simp] theorem modPower_variant (f : PowerSeq → PowerSeq) : (s.modPower f).variant = s.variant := (rfl)
@[simp] theorem modPower_power (f : PowerSeq → PowerSeq) : (s.modPower f).power = s.power := (rfl)
@[simp] theorem modPower_clock (f : PowerSeq → PowerSeq) : (s.modPower f).clock = s.clock := (rfl)
@[simp] theorem modPower_tsBase (f : PowerSeq → PowerSeq) : (s.modPower f).tsBase = s.tsBase := (rfl)
@[simp] theorem modPower_frame (f : PowerSeq → PowerSeq) : (s.modPower f).frame = s.frame := (rfl)
@[simp] theorem modPower_lastEngine (f : PowerSeq → PowerSeq) : (s.modPower f).lastEngine = s.lastEngine := (rfl)
@[simp] theorem modPower_lastMotion (f : PowerSeq → PowerSeq) : (s.modPower f).lastMotion = s.lastMotion := (rfl)
@[simp] theorem modPower_free (f : PowerSeq → PowerSeq) : (s.modPower f).free = s.free := (rfl)
@[simp] theorem modPower_regs (f : PowerSeq → PowerSeq) : (s.modPower f).regs = s.regs := (rfl)
@[simp] theorem modPower_fm (f : PowerSeq → PowerSeq) : (s.modPower f).fm = s.fm := (rfl)
@[simp] theorem modPower_box (f : PowerSeq → PowerSeq) : (s.modPower f).box = s.box := (rfl)
@[simp] theorem modPower_dies (f : PowerSeq → PowerSeq) : (s.modPower f).dies = s.dies := (rfl)
@[simp] theorem modPower_legs (f : PowerSeq → PowerSeq) : (s.modPower f).legs = s.legs := (rfl)
@[simp] theorem modPower_regions (f : PowerSeq → PowerSeq) : (s.modPower f).regions = s.regions := (rfl)
@[simp] theorem modPower_carriers (f : PowerSeq → PowerSeq) : (s.modPower f).carriers = s.carriers := (rfl)
@[simp] theorem modPower_wireTests (f : PowerSeq → PowerSeq) : (s.modPower f).wireTests = s.wireTests := (rfl)
@[simp] theorem modPower_leakTests (f : PowerSeq → PowerSeq) : (s.modPower f).leakTests = s.leakTests := (rfl)
@[simp] theorem modPower_seqs (f : PowerSeq → PowerSeq) : (s.modPower f).seqs = s.seqs := (rfl)
@[simp] theorem modPower_cores (f : PowerSeq → PowerSeq) : (s.modPower f).cores = s.cores := (rfl)
@[simp] theorem modPower_meas (f : PowerSeq → PowerSeq) : (s.modPower f).meas = s.meas := (rfl)
@[simp] theorem modPower_calRuns (f : PowerSeq → PowerSeq) : (s.modPower f).calRuns = s.calRuns := (rfl)
@[simp] theorem modPower_cmps (f : PowerSeq → PowerSeq) : (s.modPower f).cmps = s.cmps := (rfl)
@[simp] theorem modPower_audit (f : PowerSeq → PowerSeq) : (s.modPower f).audit = s.audit := (rfl)
@[simp] theorem modPower_inv (f : PowerSeq → PowerSeq) : (s.modPower f).inv = s.inv := (rfl)
@[simp] theorem modPower_invOp (f : PowerSeq → PowerSeq) : (s.modPower f).invOp = s.invOp := (rfl)
@[simp] theorem modPower_pins (f : PowerSeq → PowerSeq) : (s.modPower f).pins = s.pins := (rfl)
@[simp] theorem modPower_jtag (f : PowerSeq → PowerSeq) : (s.modPower f).jtag = s.jtag := (rfl)
@[simp] theorem modPower_engs (f : PowerSeq → PowerSeq) : (s.modPower f).engs = s.engs := (rfl)
@[simp] theorem modPower_engine (f : PowerSeq → PowerSeq) : (s.modPower f).engine = s.engine := (rfl)
@[simp] theorem modPower_axes (f : PowerSeq → PowerSeq) : (s.modPower f).axes = s.axes := (rfl)
@[simp] theorem modPower_chans (f : PowerSeq → PowerSeq) : (s.modPower f).chans = s.chans := (rfl)
@[simp] theorem modPower_compares (f : PowerSeq → PowerSeq) : (s.modPower f).compares = s.compares := (rfl)
@[simp] theorem modPower_larder (f : PowerSeq → PowerSeq) : (s.modPower f).larder = s.larder := (rfl)
@[simp] theorem modPower_ladder (f : PowerSeq → PowerSeq) : (s.modPower f).ladder = s.ladder := (rfl)
@[simp] theorem modPower_planner (f : PowerSeq → PowerSeq) : (s.modPower f).planner = s.planner := (rfl)
@[simp] theorem modPower_comps (f : PowerSeq → PowerSeq) : (s.modPower f).comps = s.comps := (rfl)
@[simp] theorem modPower_guard (f : PowerSeq → PowerSeq) : (s.modPower f).guard = s.guard := (rfl)
@[simp] theorem modPower_seq (f : PowerSeq → PowerSeq) : (s.modPower f).seq = f s.seq := (rfl)
@[simp] theorem modPower_flash (f : PowerSeq → PowerSeq) : (s.modPower f).flash = s.flash := (rfl)
@[simp] theorem modPower_hp (f : PowerSeq → PowerSeq) : (s.modPower f).hp = s.hp := (rfl)
@[simp] theorem modPower_prt (f : PowerSeq → PowerSeq) : (s.modPower f).prt = s.prt := (rfl)
@[simp] theorem modPower_hatch (f : PowerSeq → PowerSeq) : (s.modPower f).hatch = s.hatch := (rfl)
@[simp] theorem modPower_stock (f : PowerSeq → PowerSeq) : (s.modPower f).stock = s.stock := (rfl)
@[simp] theorem modPower_access (f : PowerSeq → PowerSeq) : (s.modPower f).access = s.access := (rfl)
@[simp] theorem modPower_pending (f : PowerSeq → PowerSeq) : (s.modPower f).pending = s.pending := (rfl)
@[simp] theorem modPower_reg (f : PowerSeq → PowerSeq) (r : Nat) : (s.modPower f).reg r = s.reg r := (rfl)
@[simp] theorem modPower_fld (f : PowerSeq → PowerSeq) (r : Fld) : (s.modPower f).fld r = s.fld r := (rfl)
@[simp] theorem modPower_sfld (f : PowerSeq → PowerSeq) (r : Fld) : (s.modPower f).sfld r = s.sfld r := (rfl)
@[simp] theorem modPower_flag (f : PowerSeq → PowerSeq) (r : Fld) : (s.modPower f).flag r = s.flag r := (rfl)
@[simp] theorem modPower_live (f : PowerSeq → PowerSeq) : (s.modPower f).live = s.live := (rfl)
@[simp] theorem modPower_implemented (f : PowerSeq → PowerSeq) (r_ : Nat) : (s.modPower f).implemented r_ = s.implemented r_ := (rfl)
@[simp] theorem modPower_linked (f : PowerSeq → PowerSeq) (r_ : Nat) : (s.modPower f).linked r_ = s.linked r_ := (rfl)
@[simp] theorem modPower_reach (f : PowerSeq → PowerSeq) (r_ : Nat) : (s.modPower f).reach r_ = s.reach r_ := (rfl)
@[simp] theorem modPower_hasDie (f : PowerSeq → PowerSeq) (r_ : Nat) : (s.modPower f).hasDie r_ = s.hasDie r_ := (rfl)
@[simp] theorem modPower_hasAxis (f : PowerSeq → PowerSeq) (r_ : Nat) : (s.modPower f).hasAxis r_ = s.hasAxis r_ := (rfl)
@[simp] theorem modPower_planned (f : PowerSeq → PowerSeq) (r_ : Nat) : (s.modPower f).planned r_ = s.planned r_ := (rfl)
@[simp] theorem modPower_stamp (f : PowerSeq → PowerSeq) (r_ : Nat) : (s.modPower f).stamp r_ = s.stamp r_ := (rfl)
@[simp] theorem modPower_fmRuns (f : PowerSeq → PowerSeq) : (s.modPower f).fmRuns = s.fmRuns := (rfl)
@[simp] theorem modPower_axisRec (f : PowerSeq → PowerSeq) (r_ : Nat) : (s.modPower f).axisRec r_ = s.axisRec r_ := (rfl)
@[simp] theorem modPower_schedRec (f : PowerSeq → PowerSeq) (r_ : Nat) : (s.modPower f).schedRec r_ = s.schedRec r_ := (rfl)
@[simp] theorem modPower_feedOf (f : PowerSeq → PowerSeq) (r_ : Nat) : (s.modPower f).feedOf r_ = s.feedOf r_ := (rfl)
@[simp] theorem modPower_feedOfChan (f : PowerSeq → PowerSeq) (r_ : Nat) : (s.modPower f).feedOfChan r_ = s.feedOfChan r_ := (rfl)
@[simp] theorem modPower_loopOf (f : PowerSeq → PowerSeq) (r_ : Nat) : (s.modPower f).loopOf r_ = s.loopOf r_ := (rfl)
@[simp] theorem modPower_protRec (f : PowerSeq → PowerSeq) (r_ : Nat) : (s.modPower f).protRec r_ = s.protRec r_ := (rfl)
@[simp] theorem modPower_axisSt (f : PowerSeq → PowerSeq) (r_ : AxisId) : (s.modPower f).axisSt r_ = s.axisSt r_ := (rfl)
@[simp] theorem modPower_axisOn (f : PowerSeq → PowerSeq) (r_ : AxisId) : (s.modPower f).axisOn r_ = s.axisOn r_ := (rfl)
@[simp] theorem modPower_opStat (f : PowerSeq → PowerSeq) (r_ : Nat) : (s.modPower f).opStat r_ = s.opStat r_ := (rfl)
@[simp] theorem modPower_opBusy (f : PowerSeq → PowerSeq) (r_ : Nat) : (s.modPower f).opBusy r_ = s.opBusy r_ := (rfl)
@[simp] theorem modPower_lastOp (f : PowerSeq → PowerSeq) (r_ : Nat) : (s.modPower f).lastOp r_ = s.lastOp r_ := (rfl)

/-! ### modGuard -/

@[simp] theorem modGuard_variant (f : Protect → Protect) : (s.modGuard f).variant = s.variant := (rfl)
@[simp] theorem modGuard_power (f : Protect → Protect) : (s.modGuard f).power = s.power := (rfl)
@[simp] theorem modGuard_clock (f : Protect → Protect) : (s.modGuard f).clock = s.clock := (rfl)
@[simp] theorem modGuard_tsBase (f : Protect → Protect) : (s.modGuard f).tsBase = s.tsBase := (rfl)
@[simp] theorem modGuard_frame (f : Protect → Protect) : (s.modGuard f).frame = s.frame := (rfl)
@[simp] theorem modGuard_lastEngine (f : Protect → Protect) : (s.modGuard f).lastEngine = s.lastEngine := (rfl)
@[simp] theorem modGuard_lastMotion (f : Protect → Protect) : (s.modGuard f).lastMotion = s.lastMotion := (rfl)
@[simp] theorem modGuard_free (f : Protect → Protect) : (s.modGuard f).free = s.free := (rfl)
@[simp] theorem modGuard_regs (f : Protect → Protect) : (s.modGuard f).regs = s.regs := (rfl)
@[simp] theorem modGuard_fm (f : Protect → Protect) : (s.modGuard f).fm = s.fm := (rfl)
@[simp] theorem modGuard_box (f : Protect → Protect) : (s.modGuard f).box = s.box := (rfl)
@[simp] theorem modGuard_dies (f : Protect → Protect) : (s.modGuard f).dies = s.dies := (rfl)
@[simp] theorem modGuard_legs (f : Protect → Protect) : (s.modGuard f).legs = s.legs := (rfl)
@[simp] theorem modGuard_regions (f : Protect → Protect) : (s.modGuard f).regions = s.regions := (rfl)
@[simp] theorem modGuard_carriers (f : Protect → Protect) : (s.modGuard f).carriers = s.carriers := (rfl)
@[simp] theorem modGuard_wireTests (f : Protect → Protect) : (s.modGuard f).wireTests = s.wireTests := (rfl)
@[simp] theorem modGuard_leakTests (f : Protect → Protect) : (s.modGuard f).leakTests = s.leakTests := (rfl)
@[simp] theorem modGuard_seqs (f : Protect → Protect) : (s.modGuard f).seqs = s.seqs := (rfl)
@[simp] theorem modGuard_cores (f : Protect → Protect) : (s.modGuard f).cores = s.cores := (rfl)
@[simp] theorem modGuard_meas (f : Protect → Protect) : (s.modGuard f).meas = s.meas := (rfl)
@[simp] theorem modGuard_calRuns (f : Protect → Protect) : (s.modGuard f).calRuns = s.calRuns := (rfl)
@[simp] theorem modGuard_cmps (f : Protect → Protect) : (s.modGuard f).cmps = s.cmps := (rfl)
@[simp] theorem modGuard_audit (f : Protect → Protect) : (s.modGuard f).audit = s.audit := (rfl)
@[simp] theorem modGuard_inv (f : Protect → Protect) : (s.modGuard f).inv = s.inv := (rfl)
@[simp] theorem modGuard_invOp (f : Protect → Protect) : (s.modGuard f).invOp = s.invOp := (rfl)
@[simp] theorem modGuard_pins (f : Protect → Protect) : (s.modGuard f).pins = s.pins := (rfl)
@[simp] theorem modGuard_jtag (f : Protect → Protect) : (s.modGuard f).jtag = s.jtag := (rfl)
@[simp] theorem modGuard_engs (f : Protect → Protect) : (s.modGuard f).engs = s.engs := (rfl)
@[simp] theorem modGuard_engine (f : Protect → Protect) : (s.modGuard f).engine = s.engine := (rfl)
@[simp] theorem modGuard_axes (f : Protect → Protect) : (s.modGuard f).axes = s.axes := (rfl)
@[simp] theorem modGuard_chans (f : Protect → Protect) : (s.modGuard f).chans = s.chans := (rfl)
@[simp] theorem modGuard_compares (f : Protect → Protect) : (s.modGuard f).compares = s.compares := (rfl)
@[simp] theorem modGuard_larder (f : Protect → Protect) : (s.modGuard f).larder = s.larder := (rfl)
@[simp] theorem modGuard_ladder (f : Protect → Protect) : (s.modGuard f).ladder = s.ladder := (rfl)
@[simp] theorem modGuard_planner (f : Protect → Protect) : (s.modGuard f).planner = s.planner := (rfl)
@[simp] theorem modGuard_comps (f : Protect → Protect) : (s.modGuard f).comps = s.comps := (rfl)
@[simp] theorem modGuard_guard (f : Protect → Protect) : (s.modGuard f).guard = f s.guard := (rfl)
@[simp] theorem modGuard_seq (f : Protect → Protect) : (s.modGuard f).seq = s.seq := (rfl)
@[simp] theorem modGuard_flash (f : Protect → Protect) : (s.modGuard f).flash = s.flash := (rfl)
@[simp] theorem modGuard_hp (f : Protect → Protect) : (s.modGuard f).hp = s.hp := (rfl)
@[simp] theorem modGuard_prt (f : Protect → Protect) : (s.modGuard f).prt = s.prt := (rfl)
@[simp] theorem modGuard_hatch (f : Protect → Protect) : (s.modGuard f).hatch = s.hatch := (rfl)
@[simp] theorem modGuard_stock (f : Protect → Protect) : (s.modGuard f).stock = s.stock := (rfl)
@[simp] theorem modGuard_access (f : Protect → Protect) : (s.modGuard f).access = s.access := (rfl)
@[simp] theorem modGuard_pending (f : Protect → Protect) : (s.modGuard f).pending = s.pending := (rfl)
@[simp] theorem modGuard_reg (f : Protect → Protect) (r : Nat) : (s.modGuard f).reg r = s.reg r := (rfl)
@[simp] theorem modGuard_fld (f : Protect → Protect) (r : Fld) : (s.modGuard f).fld r = s.fld r := (rfl)
@[simp] theorem modGuard_sfld (f : Protect → Protect) (r : Fld) : (s.modGuard f).sfld r = s.sfld r := (rfl)
@[simp] theorem modGuard_flag (f : Protect → Protect) (r : Fld) : (s.modGuard f).flag r = s.flag r := (rfl)
@[simp] theorem modGuard_live (f : Protect → Protect) : (s.modGuard f).live = s.live := (rfl)
@[simp] theorem modGuard_implemented (f : Protect → Protect) (r_ : Nat) : (s.modGuard f).implemented r_ = s.implemented r_ := (rfl)
@[simp] theorem modGuard_linked (f : Protect → Protect) (r_ : Nat) : (s.modGuard f).linked r_ = s.linked r_ := (rfl)
@[simp] theorem modGuard_reach (f : Protect → Protect) (r_ : Nat) : (s.modGuard f).reach r_ = s.reach r_ := (rfl)
@[simp] theorem modGuard_hasDie (f : Protect → Protect) (r_ : Nat) : (s.modGuard f).hasDie r_ = s.hasDie r_ := (rfl)
@[simp] theorem modGuard_hasAxis (f : Protect → Protect) (r_ : Nat) : (s.modGuard f).hasAxis r_ = s.hasAxis r_ := (rfl)
@[simp] theorem modGuard_planned (f : Protect → Protect) (r_ : Nat) : (s.modGuard f).planned r_ = s.planned r_ := (rfl)
@[simp] theorem modGuard_stamp (f : Protect → Protect) (r_ : Nat) : (s.modGuard f).stamp r_ = s.stamp r_ := (rfl)
@[simp] theorem modGuard_fmRuns (f : Protect → Protect) : (s.modGuard f).fmRuns = s.fmRuns := (rfl)
@[simp] theorem modGuard_axisRec (f : Protect → Protect) (r_ : Nat) : (s.modGuard f).axisRec r_ = s.axisRec r_ := (rfl)
@[simp] theorem modGuard_schedRec (f : Protect → Protect) (r_ : Nat) : (s.modGuard f).schedRec r_ = s.schedRec r_ := (rfl)
@[simp] theorem modGuard_feedOf (f : Protect → Protect) (r_ : Nat) : (s.modGuard f).feedOf r_ = s.feedOf r_ := (rfl)
@[simp] theorem modGuard_feedOfChan (f : Protect → Protect) (r_ : Nat) : (s.modGuard f).feedOfChan r_ = s.feedOfChan r_ := (rfl)
@[simp] theorem modGuard_loopOf (f : Protect → Protect) (r_ : Nat) : (s.modGuard f).loopOf r_ = s.loopOf r_ := (rfl)
@[simp] theorem modGuard_protRec (f : Protect → Protect) (r_ : Nat) : (s.modGuard f).protRec r_ = s.protRec r_ := (rfl)
@[simp] theorem modGuard_axisSt (f : Protect → Protect) (r_ : AxisId) : (s.modGuard f).axisSt r_ = s.axisSt r_ := (rfl)
@[simp] theorem modGuard_axisOn (f : Protect → Protect) (r_ : AxisId) : (s.modGuard f).axisOn r_ = s.axisOn r_ := (rfl)
@[simp] theorem modGuard_opStat (f : Protect → Protect) (r_ : Nat) : (s.modGuard f).opStat r_ = s.opStat r_ := (rfl)
@[simp] theorem modGuard_opBusy (f : Protect → Protect) (r_ : Nat) : (s.modGuard f).opBusy r_ = s.opBusy r_ := (rfl)
@[simp] theorem modGuard_lastOp (f : Protect → Protect) (r_ : Nat) : (s.modGuard f).lastOp r_ = s.lastOp r_ := (rfl)

/-! ### modStock -/

@[simp] theorem modStock_variant (f : Stock → Stock) : (s.modStock f).variant = s.variant := (rfl)
@[simp] theorem modStock_power (f : Stock → Stock) : (s.modStock f).power = s.power := (rfl)
@[simp] theorem modStock_clock (f : Stock → Stock) : (s.modStock f).clock = s.clock := (rfl)
@[simp] theorem modStock_tsBase (f : Stock → Stock) : (s.modStock f).tsBase = s.tsBase := (rfl)
@[simp] theorem modStock_frame (f : Stock → Stock) : (s.modStock f).frame = s.frame := (rfl)
@[simp] theorem modStock_lastEngine (f : Stock → Stock) : (s.modStock f).lastEngine = s.lastEngine := (rfl)
@[simp] theorem modStock_lastMotion (f : Stock → Stock) : (s.modStock f).lastMotion = s.lastMotion := (rfl)
@[simp] theorem modStock_free (f : Stock → Stock) : (s.modStock f).free = s.free := (rfl)
@[simp] theorem modStock_regs (f : Stock → Stock) : (s.modStock f).regs = s.regs := (rfl)
@[simp] theorem modStock_fm (f : Stock → Stock) : (s.modStock f).fm = s.fm := (rfl)
@[simp] theorem modStock_box (f : Stock → Stock) : (s.modStock f).box = s.box := (rfl)
@[simp] theorem modStock_dies (f : Stock → Stock) : (s.modStock f).dies = s.dies := (rfl)
@[simp] theorem modStock_legs (f : Stock → Stock) : (s.modStock f).legs = s.legs := (rfl)
@[simp] theorem modStock_regions (f : Stock → Stock) : (s.modStock f).regions = s.regions := (rfl)
@[simp] theorem modStock_carriers (f : Stock → Stock) : (s.modStock f).carriers = s.carriers := (rfl)
@[simp] theorem modStock_wireTests (f : Stock → Stock) : (s.modStock f).wireTests = s.wireTests := (rfl)
@[simp] theorem modStock_leakTests (f : Stock → Stock) : (s.modStock f).leakTests = s.leakTests := (rfl)
@[simp] theorem modStock_seqs (f : Stock → Stock) : (s.modStock f).seqs = s.seqs := (rfl)
@[simp] theorem modStock_cores (f : Stock → Stock) : (s.modStock f).cores = s.cores := (rfl)
@[simp] theorem modStock_meas (f : Stock → Stock) : (s.modStock f).meas = s.meas := (rfl)
@[simp] theorem modStock_calRuns (f : Stock → Stock) : (s.modStock f).calRuns = s.calRuns := (rfl)
@[simp] theorem modStock_cmps (f : Stock → Stock) : (s.modStock f).cmps = s.cmps := (rfl)
@[simp] theorem modStock_audit (f : Stock → Stock) : (s.modStock f).audit = s.audit := (rfl)
@[simp] theorem modStock_inv (f : Stock → Stock) : (s.modStock f).inv = s.inv := (rfl)
@[simp] theorem modStock_invOp (f : Stock → Stock) : (s.modStock f).invOp = s.invOp := (rfl)
@[simp] theorem modStock_pins (f : Stock → Stock) : (s.modStock f).pins = s.pins := (rfl)
@[simp] theorem modStock_jtag (f : Stock → Stock) : (s.modStock f).jtag = s.jtag := (rfl)
@[simp] theorem modStock_engs (f : Stock → Stock) : (s.modStock f).engs = s.engs := (rfl)
@[simp] theorem modStock_engine (f : Stock → Stock) : (s.modStock f).engine = s.engine := (rfl)
@[simp] theorem modStock_axes (f : Stock → Stock) : (s.modStock f).axes = s.axes := (rfl)
@[simp] theorem modStock_chans (f : Stock → Stock) : (s.modStock f).chans = s.chans := (rfl)
@[simp] theorem modStock_compares (f : Stock → Stock) : (s.modStock f).compares = s.compares := (rfl)
@[simp] theorem modStock_larder (f : Stock → Stock) : (s.modStock f).larder = s.larder := (rfl)
@[simp] theorem modStock_ladder (f : Stock → Stock) : (s.modStock f).ladder = s.ladder := (rfl)
@[simp] theorem modStock_planner (f : Stock → Stock) : (s.modStock f).planner = s.planner := (rfl)
@[simp] theorem modStock_comps (f : Stock → Stock) : (s.modStock f).comps = s.comps := (rfl)
@[simp] theorem modStock_guard (f : Stock → Stock) : (s.modStock f).guard = s.guard := (rfl)
@[simp] theorem modStock_seq (f : Stock → Stock) : (s.modStock f).seq = s.seq := (rfl)
@[simp] theorem modStock_flash (f : Stock → Stock) : (s.modStock f).flash = s.flash := (rfl)
@[simp] theorem modStock_hp (f : Stock → Stock) : (s.modStock f).hp = s.hp := (rfl)
@[simp] theorem modStock_prt (f : Stock → Stock) : (s.modStock f).prt = s.prt := (rfl)
@[simp] theorem modStock_hatch (f : Stock → Stock) : (s.modStock f).hatch = s.hatch := (rfl)
@[simp] theorem modStock_stock (f : Stock → Stock) : (s.modStock f).stock = f s.stock := (rfl)
@[simp] theorem modStock_access (f : Stock → Stock) : (s.modStock f).access = s.access := (rfl)
@[simp] theorem modStock_pending (f : Stock → Stock) : (s.modStock f).pending = s.pending := (rfl)
@[simp] theorem modStock_reg (f : Stock → Stock) (r : Nat) : (s.modStock f).reg r = s.reg r := (rfl)
@[simp] theorem modStock_fld (f : Stock → Stock) (r : Fld) : (s.modStock f).fld r = s.fld r := (rfl)
@[simp] theorem modStock_sfld (f : Stock → Stock) (r : Fld) : (s.modStock f).sfld r = s.sfld r := (rfl)
@[simp] theorem modStock_flag (f : Stock → Stock) (r : Fld) : (s.modStock f).flag r = s.flag r := (rfl)
@[simp] theorem modStock_live (f : Stock → Stock) : (s.modStock f).live = s.live := (rfl)
@[simp] theorem modStock_implemented (f : Stock → Stock) (r_ : Nat) : (s.modStock f).implemented r_ = s.implemented r_ := (rfl)
@[simp] theorem modStock_linked (f : Stock → Stock) (r_ : Nat) : (s.modStock f).linked r_ = s.linked r_ := (rfl)
@[simp] theorem modStock_reach (f : Stock → Stock) (r_ : Nat) : (s.modStock f).reach r_ = s.reach r_ := (rfl)
@[simp] theorem modStock_hasDie (f : Stock → Stock) (r_ : Nat) : (s.modStock f).hasDie r_ = s.hasDie r_ := (rfl)
@[simp] theorem modStock_hasAxis (f : Stock → Stock) (r_ : Nat) : (s.modStock f).hasAxis r_ = s.hasAxis r_ := (rfl)
@[simp] theorem modStock_planned (f : Stock → Stock) (r_ : Nat) : (s.modStock f).planned r_ = s.planned r_ := (rfl)
@[simp] theorem modStock_stamp (f : Stock → Stock) (r_ : Nat) : (s.modStock f).stamp r_ = s.stamp r_ := (rfl)
@[simp] theorem modStock_fmRuns (f : Stock → Stock) : (s.modStock f).fmRuns = s.fmRuns := (rfl)
@[simp] theorem modStock_axisRec (f : Stock → Stock) (r_ : Nat) : (s.modStock f).axisRec r_ = s.axisRec r_ := (rfl)
@[simp] theorem modStock_schedRec (f : Stock → Stock) (r_ : Nat) : (s.modStock f).schedRec r_ = s.schedRec r_ := (rfl)
@[simp] theorem modStock_feedOf (f : Stock → Stock) (r_ : Nat) : (s.modStock f).feedOf r_ = s.feedOf r_ := (rfl)
@[simp] theorem modStock_feedOfChan (f : Stock → Stock) (r_ : Nat) : (s.modStock f).feedOfChan r_ = s.feedOfChan r_ := (rfl)
@[simp] theorem modStock_loopOf (f : Stock → Stock) (r_ : Nat) : (s.modStock f).loopOf r_ = s.loopOf r_ := (rfl)
@[simp] theorem modStock_protRec (f : Stock → Stock) (r_ : Nat) : (s.modStock f).protRec r_ = s.protRec r_ := (rfl)
@[simp] theorem modStock_axisSt (f : Stock → Stock) (r_ : AxisId) : (s.modStock f).axisSt r_ = s.axisSt r_ := (rfl)
@[simp] theorem modStock_axisOn (f : Stock → Stock) (r_ : AxisId) : (s.modStock f).axisOn r_ = s.axisOn r_ := (rfl)
@[simp] theorem modStock_opStat (f : Stock → Stock) (r_ : Nat) : (s.modStock f).opStat r_ = s.opStat r_ := (rfl)
@[simp] theorem modStock_opBusy (f : Stock → Stock) (r_ : Nat) : (s.modStock f).opBusy r_ = s.opBusy r_ := (rfl)
@[simp] theorem modStock_lastOp (f : Stock → Stock) (r_ : Nat) : (s.modStock f).lastOp r_ = s.lastOp r_ := (rfl)

/-! ### modFm -/

@[simp] theorem modFm_variant (f : FaultMgr → FaultMgr) : (s.modFm f).variant = s.variant := (rfl)
@[simp] theorem modFm_power (f : FaultMgr → FaultMgr) : (s.modFm f).power = s.power := (rfl)
@[simp] theorem modFm_clock (f : FaultMgr → FaultMgr) : (s.modFm f).clock = s.clock := (rfl)
@[simp] theorem modFm_tsBase (f : FaultMgr → FaultMgr) : (s.modFm f).tsBase = s.tsBase := (rfl)
@[simp] theorem modFm_frame (f : FaultMgr → FaultMgr) : (s.modFm f).frame = s.frame := (rfl)
@[simp] theorem modFm_lastEngine (f : FaultMgr → FaultMgr) : (s.modFm f).lastEngine = s.lastEngine := (rfl)
@[simp] theorem modFm_lastMotion (f : FaultMgr → FaultMgr) : (s.modFm f).lastMotion = s.lastMotion := (rfl)
@[simp] theorem modFm_free (f : FaultMgr → FaultMgr) : (s.modFm f).free = s.free := (rfl)
@[simp] theorem modFm_regs (f : FaultMgr → FaultMgr) : (s.modFm f).regs = s.regs := (rfl)
@[simp] theorem modFm_fm (f : FaultMgr → FaultMgr) : (s.modFm f).fm = f s.fm := (rfl)
@[simp] theorem modFm_box (f : FaultMgr → FaultMgr) : (s.modFm f).box = s.box := (rfl)
@[simp] theorem modFm_dies (f : FaultMgr → FaultMgr) : (s.modFm f).dies = s.dies := (rfl)
@[simp] theorem modFm_legs (f : FaultMgr → FaultMgr) : (s.modFm f).legs = s.legs := (rfl)
@[simp] theorem modFm_regions (f : FaultMgr → FaultMgr) : (s.modFm f).regions = s.regions := (rfl)
@[simp] theorem modFm_carriers (f : FaultMgr → FaultMgr) : (s.modFm f).carriers = s.carriers := (rfl)
@[simp] theorem modFm_wireTests (f : FaultMgr → FaultMgr) : (s.modFm f).wireTests = s.wireTests := (rfl)
@[simp] theorem modFm_leakTests (f : FaultMgr → FaultMgr) : (s.modFm f).leakTests = s.leakTests := (rfl)
@[simp] theorem modFm_seqs (f : FaultMgr → FaultMgr) : (s.modFm f).seqs = s.seqs := (rfl)
@[simp] theorem modFm_cores (f : FaultMgr → FaultMgr) : (s.modFm f).cores = s.cores := (rfl)
@[simp] theorem modFm_meas (f : FaultMgr → FaultMgr) : (s.modFm f).meas = s.meas := (rfl)
@[simp] theorem modFm_calRuns (f : FaultMgr → FaultMgr) : (s.modFm f).calRuns = s.calRuns := (rfl)
@[simp] theorem modFm_cmps (f : FaultMgr → FaultMgr) : (s.modFm f).cmps = s.cmps := (rfl)
@[simp] theorem modFm_audit (f : FaultMgr → FaultMgr) : (s.modFm f).audit = s.audit := (rfl)
@[simp] theorem modFm_inv (f : FaultMgr → FaultMgr) : (s.modFm f).inv = s.inv := (rfl)
@[simp] theorem modFm_invOp (f : FaultMgr → FaultMgr) : (s.modFm f).invOp = s.invOp := (rfl)
@[simp] theorem modFm_pins (f : FaultMgr → FaultMgr) : (s.modFm f).pins = s.pins := (rfl)
@[simp] theorem modFm_jtag (f : FaultMgr → FaultMgr) : (s.modFm f).jtag = s.jtag := (rfl)
@[simp] theorem modFm_engs (f : FaultMgr → FaultMgr) : (s.modFm f).engs = s.engs := (rfl)
@[simp] theorem modFm_engine (f : FaultMgr → FaultMgr) : (s.modFm f).engine = s.engine := (rfl)
@[simp] theorem modFm_axes (f : FaultMgr → FaultMgr) : (s.modFm f).axes = s.axes := (rfl)
@[simp] theorem modFm_chans (f : FaultMgr → FaultMgr) : (s.modFm f).chans = s.chans := (rfl)
@[simp] theorem modFm_compares (f : FaultMgr → FaultMgr) : (s.modFm f).compares = s.compares := (rfl)
@[simp] theorem modFm_larder (f : FaultMgr → FaultMgr) : (s.modFm f).larder = s.larder := (rfl)
@[simp] theorem modFm_ladder (f : FaultMgr → FaultMgr) : (s.modFm f).ladder = s.ladder := (rfl)
@[simp] theorem modFm_planner (f : FaultMgr → FaultMgr) : (s.modFm f).planner = s.planner := (rfl)
@[simp] theorem modFm_comps (f : FaultMgr → FaultMgr) : (s.modFm f).comps = s.comps := (rfl)
@[simp] theorem modFm_guard (f : FaultMgr → FaultMgr) : (s.modFm f).guard = s.guard := (rfl)
@[simp] theorem modFm_seq (f : FaultMgr → FaultMgr) : (s.modFm f).seq = s.seq := (rfl)
@[simp] theorem modFm_flash (f : FaultMgr → FaultMgr) : (s.modFm f).flash = s.flash := (rfl)
@[simp] theorem modFm_hp (f : FaultMgr → FaultMgr) : (s.modFm f).hp = s.hp := (rfl)
@[simp] theorem modFm_prt (f : FaultMgr → FaultMgr) : (s.modFm f).prt = s.prt := (rfl)
@[simp] theorem modFm_hatch (f : FaultMgr → FaultMgr) : (s.modFm f).hatch = s.hatch := (rfl)
@[simp] theorem modFm_stock (f : FaultMgr → FaultMgr) : (s.modFm f).stock = s.stock := (rfl)
@[simp] theorem modFm_access (f : FaultMgr → FaultMgr) : (s.modFm f).access = s.access := (rfl)
@[simp] theorem modFm_pending (f : FaultMgr → FaultMgr) : (s.modFm f).pending = s.pending := (rfl)
@[simp] theorem modFm_reg (f : FaultMgr → FaultMgr) (r : Nat) : (s.modFm f).reg r = s.reg r := (rfl)
@[simp] theorem modFm_fld (f : FaultMgr → FaultMgr) (r : Fld) : (s.modFm f).fld r = s.fld r := (rfl)
@[simp] theorem modFm_sfld (f : FaultMgr → FaultMgr) (r : Fld) : (s.modFm f).sfld r = s.sfld r := (rfl)
@[simp] theorem modFm_flag (f : FaultMgr → FaultMgr) (r : Fld) : (s.modFm f).flag r = s.flag r := (rfl)
@[simp] theorem modFm_live (f : FaultMgr → FaultMgr) : (s.modFm f).live = s.live := (rfl)
@[simp] theorem modFm_implemented (f : FaultMgr → FaultMgr) (r_ : Nat) : (s.modFm f).implemented r_ = s.implemented r_ := (rfl)
@[simp] theorem modFm_linked (f : FaultMgr → FaultMgr) (r_ : Nat) : (s.modFm f).linked r_ = s.linked r_ := (rfl)
@[simp] theorem modFm_reach (f : FaultMgr → FaultMgr) (r_ : Nat) : (s.modFm f).reach r_ = s.reach r_ := (rfl)
@[simp] theorem modFm_hasDie (f : FaultMgr → FaultMgr) (r_ : Nat) : (s.modFm f).hasDie r_ = s.hasDie r_ := (rfl)
@[simp] theorem modFm_hasAxis (f : FaultMgr → FaultMgr) (r_ : Nat) : (s.modFm f).hasAxis r_ = s.hasAxis r_ := (rfl)
@[simp] theorem modFm_planned (f : FaultMgr → FaultMgr) (r_ : Nat) : (s.modFm f).planned r_ = s.planned r_ := (rfl)
@[simp] theorem modFm_stamp (f : FaultMgr → FaultMgr) (r_ : Nat) : (s.modFm f).stamp r_ = s.stamp r_ := (rfl)
@[simp] theorem modFm_fmRuns (f : FaultMgr → FaultMgr) : (s.modFm f).fmRuns = s.fmRuns := (rfl)
@[simp] theorem modFm_axisRec (f : FaultMgr → FaultMgr) (r_ : Nat) : (s.modFm f).axisRec r_ = s.axisRec r_ := (rfl)
@[simp] theorem modFm_schedRec (f : FaultMgr → FaultMgr) (r_ : Nat) : (s.modFm f).schedRec r_ = s.schedRec r_ := (rfl)
@[simp] theorem modFm_feedOf (f : FaultMgr → FaultMgr) (r_ : Nat) : (s.modFm f).feedOf r_ = s.feedOf r_ := (rfl)
@[simp] theorem modFm_feedOfChan (f : FaultMgr → FaultMgr) (r_ : Nat) : (s.modFm f).feedOfChan r_ = s.feedOfChan r_ := (rfl)
@[simp] theorem modFm_loopOf (f : FaultMgr → FaultMgr) (r_ : Nat) : (s.modFm f).loopOf r_ = s.loopOf r_ := (rfl)
@[simp] theorem modFm_protRec (f : FaultMgr → FaultMgr) (r_ : Nat) : (s.modFm f).protRec r_ = s.protRec r_ := (rfl)
@[simp] theorem modFm_axisSt (f : FaultMgr → FaultMgr) (r_ : AxisId) : (s.modFm f).axisSt r_ = s.axisSt r_ := (rfl)
@[simp] theorem modFm_axisOn (f : FaultMgr → FaultMgr) (r_ : AxisId) : (s.modFm f).axisOn r_ = s.axisOn r_ := (rfl)
@[simp] theorem modFm_opStat (f : FaultMgr → FaultMgr) (r_ : Nat) : (s.modFm f).opStat r_ = s.opStat r_ := (rfl)
@[simp] theorem modFm_opBusy (f : FaultMgr → FaultMgr) (r_ : Nat) : (s.modFm f).opBusy r_ = s.opBusy r_ := (rfl)
@[simp] theorem modFm_lastOp (f : FaultMgr → FaultMgr) (r_ : Nat) : (s.modFm f).lastOp r_ = s.lastOp r_ := (rfl)

/-! ### modBox -/

@[simp] theorem modBox_variant (f : Strongbox → Strongbox) : (s.modBox f).variant = s.variant := (rfl)
@[simp] theorem modBox_power (f : Strongbox → Strongbox) : (s.modBox f).power = s.power := (rfl)
@[simp] theorem modBox_clock (f : Strongbox → Strongbox) : (s.modBox f).clock = s.clock := (rfl)
@[simp] theorem modBox_tsBase (f : Strongbox → Strongbox) : (s.modBox f).tsBase = s.tsBase := (rfl)
@[simp] theorem modBox_frame (f : Strongbox → Strongbox) : (s.modBox f).frame = s.frame := (rfl)
@[simp] theorem modBox_lastEngine (f : Strongbox → Strongbox) : (s.modBox f).lastEngine = s.lastEngine := (rfl)
@[simp] theorem modBox_lastMotion (f : Strongbox → Strongbox) : (s.modBox f).lastMotion = s.lastMotion := (rfl)
@[simp] theorem modBox_free (f : Strongbox → Strongbox) : (s.modBox f).free = s.free := (rfl)
@[simp] theorem modBox_regs (f : Strongbox → Strongbox) : (s.modBox f).regs = s.regs := (rfl)
@[simp] theorem modBox_fm (f : Strongbox → Strongbox) : (s.modBox f).fm = s.fm := (rfl)
@[simp] theorem modBox_box (f : Strongbox → Strongbox) : (s.modBox f).box = f s.box := (rfl)
@[simp] theorem modBox_dies (f : Strongbox → Strongbox) : (s.modBox f).dies = s.dies := (rfl)
@[simp] theorem modBox_legs (f : Strongbox → Strongbox) : (s.modBox f).legs = s.legs := (rfl)
@[simp] theorem modBox_regions (f : Strongbox → Strongbox) : (s.modBox f).regions = s.regions := (rfl)
@[simp] theorem modBox_carriers (f : Strongbox → Strongbox) : (s.modBox f).carriers = s.carriers := (rfl)
@[simp] theorem modBox_wireTests (f : Strongbox → Strongbox) : (s.modBox f).wireTests = s.wireTests := (rfl)
@[simp] theorem modBox_leakTests (f : Strongbox → Strongbox) : (s.modBox f).leakTests = s.leakTests := (rfl)
@[simp] theorem modBox_seqs (f : Strongbox → Strongbox) : (s.modBox f).seqs = s.seqs := (rfl)
@[simp] theorem modBox_cores (f : Strongbox → Strongbox) : (s.modBox f).cores = s.cores := (rfl)
@[simp] theorem modBox_meas (f : Strongbox → Strongbox) : (s.modBox f).meas = s.meas := (rfl)
@[simp] theorem modBox_calRuns (f : Strongbox → Strongbox) : (s.modBox f).calRuns = s.calRuns := (rfl)
@[simp] theorem modBox_cmps (f : Strongbox → Strongbox) : (s.modBox f).cmps = s.cmps := (rfl)
@[simp] theorem modBox_audit (f : Strongbox → Strongbox) : (s.modBox f).audit = s.audit := (rfl)
@[simp] theorem modBox_inv (f : Strongbox → Strongbox) : (s.modBox f).inv = s.inv := (rfl)
@[simp] theorem modBox_invOp (f : Strongbox → Strongbox) : (s.modBox f).invOp = s.invOp := (rfl)
@[simp] theorem modBox_pins (f : Strongbox → Strongbox) : (s.modBox f).pins = s.pins := (rfl)
@[simp] theorem modBox_jtag (f : Strongbox → Strongbox) : (s.modBox f).jtag = s.jtag := (rfl)
@[simp] theorem modBox_engs (f : Strongbox → Strongbox) : (s.modBox f).engs = s.engs := (rfl)
@[simp] theorem modBox_engine (f : Strongbox → Strongbox) : (s.modBox f).engine = s.engine := (rfl)
@[simp] theorem modBox_axes (f : Strongbox → Strongbox) : (s.modBox f).axes = s.axes := (rfl)
@[simp] theorem modBox_chans (f : Strongbox → Strongbox) : (s.modBox f).chans = s.chans := (rfl)
@[simp] theorem modBox_compares (f : Strongbox → Strongbox) : (s.modBox f).compares = s.compares := (rfl)
@[simp] theorem modBox_larder (f : Strongbox → Strongbox) : (s.modBox f).larder = s.larder := (rfl)
@[simp] theorem modBox_ladder (f : Strongbox → Strongbox) : (s.modBox f).ladder = s.ladder := (rfl)
@[simp] theorem modBox_planner (f : Strongbox → Strongbox) : (s.modBox f).planner = s.planner := (rfl)
@[simp] theorem modBox_comps (f : Strongbox → Strongbox) : (s.modBox f).comps = s.comps := (rfl)
@[simp] theorem modBox_guard (f : Strongbox → Strongbox) : (s.modBox f).guard = s.guard := (rfl)
@[simp] theorem modBox_seq (f : Strongbox → Strongbox) : (s.modBox f).seq = s.seq := (rfl)
@[simp] theorem modBox_flash (f : Strongbox → Strongbox) : (s.modBox f).flash = s.flash := (rfl)
@[simp] theorem modBox_hp (f : Strongbox → Strongbox) : (s.modBox f).hp = s.hp := (rfl)
@[simp] theorem modBox_prt (f : Strongbox → Strongbox) : (s.modBox f).prt = s.prt := (rfl)
@[simp] theorem modBox_hatch (f : Strongbox → Strongbox) : (s.modBox f).hatch = s.hatch := (rfl)
@[simp] theorem modBox_stock (f : Strongbox → Strongbox) : (s.modBox f).stock = s.stock := (rfl)
@[simp] theorem modBox_access (f : Strongbox → Strongbox) : (s.modBox f).access = s.access := (rfl)
@[simp] theorem modBox_pending (f : Strongbox → Strongbox) : (s.modBox f).pending = s.pending := (rfl)
@[simp] theorem modBox_reg (f : Strongbox → Strongbox) (r : Nat) : (s.modBox f).reg r = s.reg r := (rfl)
@[simp] theorem modBox_fld (f : Strongbox → Strongbox) (r : Fld) : (s.modBox f).fld r = s.fld r := (rfl)
@[simp] theorem modBox_sfld (f : Strongbox → Strongbox) (r : Fld) : (s.modBox f).sfld r = s.sfld r := (rfl)
@[simp] theorem modBox_flag (f : Strongbox → Strongbox) (r : Fld) : (s.modBox f).flag r = s.flag r := (rfl)
@[simp] theorem modBox_live (f : Strongbox → Strongbox) : (s.modBox f).live = s.live := (rfl)
@[simp] theorem modBox_implemented (f : Strongbox → Strongbox) (r_ : Nat) : (s.modBox f).implemented r_ = s.implemented r_ := (rfl)
@[simp] theorem modBox_linked (f : Strongbox → Strongbox) (r_ : Nat) : (s.modBox f).linked r_ = s.linked r_ := (rfl)
@[simp] theorem modBox_reach (f : Strongbox → Strongbox) (r_ : Nat) : (s.modBox f).reach r_ = s.reach r_ := (rfl)
@[simp] theorem modBox_hasDie (f : Strongbox → Strongbox) (r_ : Nat) : (s.modBox f).hasDie r_ = s.hasDie r_ := (rfl)
@[simp] theorem modBox_hasAxis (f : Strongbox → Strongbox) (r_ : Nat) : (s.modBox f).hasAxis r_ = s.hasAxis r_ := (rfl)
@[simp] theorem modBox_planned (f : Strongbox → Strongbox) (r_ : Nat) : (s.modBox f).planned r_ = s.planned r_ := (rfl)
@[simp] theorem modBox_stamp (f : Strongbox → Strongbox) (r_ : Nat) : (s.modBox f).stamp r_ = s.stamp r_ := (rfl)
@[simp] theorem modBox_fmRuns (f : Strongbox → Strongbox) : (s.modBox f).fmRuns = s.fmRuns := (rfl)
@[simp] theorem modBox_axisRec (f : Strongbox → Strongbox) (r_ : Nat) : (s.modBox f).axisRec r_ = s.axisRec r_ := (rfl)
@[simp] theorem modBox_schedRec (f : Strongbox → Strongbox) (r_ : Nat) : (s.modBox f).schedRec r_ = s.schedRec r_ := (rfl)
@[simp] theorem modBox_feedOf (f : Strongbox → Strongbox) (r_ : Nat) : (s.modBox f).feedOf r_ = s.feedOf r_ := (rfl)
@[simp] theorem modBox_feedOfChan (f : Strongbox → Strongbox) (r_ : Nat) : (s.modBox f).feedOfChan r_ = s.feedOfChan r_ := (rfl)
@[simp] theorem modBox_loopOf (f : Strongbox → Strongbox) (r_ : Nat) : (s.modBox f).loopOf r_ = s.loopOf r_ := (rfl)
@[simp] theorem modBox_protRec (f : Strongbox → Strongbox) (r_ : Nat) : (s.modBox f).protRec r_ = s.protRec r_ := (rfl)
@[simp] theorem modBox_axisSt (f : Strongbox → Strongbox) (r_ : AxisId) : (s.modBox f).axisSt r_ = s.axisSt r_ := (rfl)
@[simp] theorem modBox_axisOn (f : Strongbox → Strongbox) (r_ : AxisId) : (s.modBox f).axisOn r_ = s.axisOn r_ := (rfl)
@[simp] theorem modBox_opStat (f : Strongbox → Strongbox) (r_ : Nat) : (s.modBox f).opStat r_ = s.opStat r_ := (rfl)
@[simp] theorem modBox_opBusy (f : Strongbox → Strongbox) (r_ : Nat) : (s.modBox f).opBusy r_ = s.opBusy r_ := (rfl)
@[simp] theorem modBox_lastOp (f : Strongbox → Strongbox) (r_ : Nat) : (s.modBox f).lastOp r_ = s.lastOp r_ := (rfl)

/-! ### modPins -/

@[simp] theorem modPins_variant (f : Pins → Pins) : (s.modPins f).variant = s.variant := (rfl)
@[simp] theorem modPins_power (f : Pins → Pins) : (s.modPins f).power = s.power := (rfl)
@[simp] theorem modPins_clock (f : Pins → Pins) : (s.modPins f).clock = s.clock := (rfl)
@[simp] theorem modPins_tsBase (f : Pins → Pins) : (s.modPins f).tsBase = s.tsBase := (rfl)
@[simp] theorem modPins_frame (f : Pins → Pins) : (s.modPins f).frame = s.frame := (rfl)
@[simp] theorem modPins_lastEngine (f : Pins → Pins) : (s.modPins f).lastEngine = s.lastEngine := (rfl)
@[simp] theorem modPins_lastMotion (f : Pins → Pins) : (s.modPins f).lastMotion = s.lastMotion := (rfl)
@[simp] theorem modPins_free (f : Pins → Pins) : (s.modPins f).free = s.free := (rfl)
@[simp] theorem modPins_regs (f : Pins → Pins) : (s.modPins f).regs = s.regs := (rfl)
@[simp] theorem modPins_fm (f : Pins → Pins) : (s.modPins f).fm = s.fm := (rfl)
@[simp] theorem modPins_box (f : Pins → Pins) : (s.modPins f).box = s.box := (rfl)
@[simp] theorem modPins_dies (f : Pins → Pins) : (s.modPins f).dies = s.dies := (rfl)
@[simp] theorem modPins_legs (f : Pins → Pins) : (s.modPins f).legs = s.legs := (rfl)
@[simp] theorem modPins_regions (f : Pins → Pins) : (s.modPins f).regions = s.regions := (rfl)
@[simp] theorem modPins_carriers (f : Pins → Pins) : (s.modPins f).carriers = s.carriers := (rfl)
@[simp] theorem modPins_wireTests (f : Pins → Pins) : (s.modPins f).wireTests = s.wireTests := (rfl)
@[simp] theorem modPins_leakTests (f : Pins → Pins) : (s.modPins f).leakTests = s.leakTests := (rfl)
@[simp] theorem modPins_seqs (f : Pins → Pins) : (s.modPins f).seqs = s.seqs := (rfl)
@[simp] theorem modPins_cores (f : Pins → Pins) : (s.modPins f).cores = s.cores := (rfl)
@[simp] theorem modPins_meas (f : Pins → Pins) : (s.modPins f).meas = s.meas := (rfl)
@[simp] theorem modPins_calRuns (f : Pins → Pins) : (s.modPins f).calRuns = s.calRuns := (rfl)
@[simp] theorem modPins_cmps (f : Pins → Pins) : (s.modPins f).cmps = s.cmps := (rfl)
@[simp] theorem modPins_audit (f : Pins → Pins) : (s.modPins f).audit = s.audit := (rfl)
@[simp] theorem modPins_inv (f : Pins → Pins) : (s.modPins f).inv = s.inv := (rfl)
@[simp] theorem modPins_invOp (f : Pins → Pins) : (s.modPins f).invOp = s.invOp := (rfl)
@[simp] theorem modPins_pins (f : Pins → Pins) : (s.modPins f).pins = f s.pins := (rfl)
@[simp] theorem modPins_jtag (f : Pins → Pins) : (s.modPins f).jtag = s.jtag := (rfl)
@[simp] theorem modPins_engs (f : Pins → Pins) : (s.modPins f).engs = s.engs := (rfl)
@[simp] theorem modPins_engine (f : Pins → Pins) : (s.modPins f).engine = s.engine := (rfl)
@[simp] theorem modPins_axes (f : Pins → Pins) : (s.modPins f).axes = s.axes := (rfl)
@[simp] theorem modPins_chans (f : Pins → Pins) : (s.modPins f).chans = s.chans := (rfl)
@[simp] theorem modPins_compares (f : Pins → Pins) : (s.modPins f).compares = s.compares := (rfl)
@[simp] theorem modPins_larder (f : Pins → Pins) : (s.modPins f).larder = s.larder := (rfl)
@[simp] theorem modPins_ladder (f : Pins → Pins) : (s.modPins f).ladder = s.ladder := (rfl)
@[simp] theorem modPins_planner (f : Pins → Pins) : (s.modPins f).planner = s.planner := (rfl)
@[simp] theorem modPins_comps (f : Pins → Pins) : (s.modPins f).comps = s.comps := (rfl)
@[simp] theorem modPins_guard (f : Pins → Pins) : (s.modPins f).guard = s.guard := (rfl)
@[simp] theorem modPins_seq (f : Pins → Pins) : (s.modPins f).seq = s.seq := (rfl)
@[simp] theorem modPins_flash (f : Pins → Pins) : (s.modPins f).flash = s.flash := (rfl)
@[simp] theorem modPins_hp (f : Pins → Pins) : (s.modPins f).hp = s.hp := (rfl)
@[simp] theorem modPins_prt (f : Pins → Pins) : (s.modPins f).prt = s.prt := (rfl)
@[simp] theorem modPins_hatch (f : Pins → Pins) : (s.modPins f).hatch = s.hatch := (rfl)
@[simp] theorem modPins_stock (f : Pins → Pins) : (s.modPins f).stock = s.stock := (rfl)
@[simp] theorem modPins_access (f : Pins → Pins) : (s.modPins f).access = s.access := (rfl)
@[simp] theorem modPins_pending (f : Pins → Pins) : (s.modPins f).pending = s.pending := (rfl)
@[simp] theorem modPins_reg (f : Pins → Pins) (r : Nat) : (s.modPins f).reg r = s.reg r := (rfl)
@[simp] theorem modPins_fld (f : Pins → Pins) (r : Fld) : (s.modPins f).fld r = s.fld r := (rfl)
@[simp] theorem modPins_sfld (f : Pins → Pins) (r : Fld) : (s.modPins f).sfld r = s.sfld r := (rfl)
@[simp] theorem modPins_flag (f : Pins → Pins) (r : Fld) : (s.modPins f).flag r = s.flag r := (rfl)
@[simp] theorem modPins_live (f : Pins → Pins) : (s.modPins f).live = s.live := (rfl)
@[simp] theorem modPins_implemented (f : Pins → Pins) (r_ : Nat) : (s.modPins f).implemented r_ = s.implemented r_ := (rfl)
@[simp] theorem modPins_linked (f : Pins → Pins) (r_ : Nat) : (s.modPins f).linked r_ = s.linked r_ := (rfl)
@[simp] theorem modPins_reach (f : Pins → Pins) (r_ : Nat) : (s.modPins f).reach r_ = s.reach r_ := (rfl)
@[simp] theorem modPins_hasDie (f : Pins → Pins) (r_ : Nat) : (s.modPins f).hasDie r_ = s.hasDie r_ := (rfl)
@[simp] theorem modPins_hasAxis (f : Pins → Pins) (r_ : Nat) : (s.modPins f).hasAxis r_ = s.hasAxis r_ := (rfl)
@[simp] theorem modPins_planned (f : Pins → Pins) (r_ : Nat) : (s.modPins f).planned r_ = s.planned r_ := (rfl)
@[simp] theorem modPins_stamp (f : Pins → Pins) (r_ : Nat) : (s.modPins f).stamp r_ = s.stamp r_ := (rfl)
@[simp] theorem modPins_fmRuns (f : Pins → Pins) : (s.modPins f).fmRuns = s.fmRuns := (rfl)
@[simp] theorem modPins_axisRec (f : Pins → Pins) (r_ : Nat) : (s.modPins f).axisRec r_ = s.axisRec r_ := (rfl)
@[simp] theorem modPins_schedRec (f : Pins → Pins) (r_ : Nat) : (s.modPins f).schedRec r_ = s.schedRec r_ := (rfl)
@[simp] theorem modPins_feedOf (f : Pins → Pins) (r_ : Nat) : (s.modPins f).feedOf r_ = s.feedOf r_ := (rfl)
@[simp] theorem modPins_feedOfChan (f : Pins → Pins) (r_ : Nat) : (s.modPins f).feedOfChan r_ = s.feedOfChan r_ := (rfl)
@[simp] theorem modPins_loopOf (f : Pins → Pins) (r_ : Nat) : (s.modPins f).loopOf r_ = s.loopOf r_ := (rfl)
@[simp] theorem modPins_protRec (f : Pins → Pins) (r_ : Nat) : (s.modPins f).protRec r_ = s.protRec r_ := (rfl)
@[simp] theorem modPins_axisSt (f : Pins → Pins) (r_ : AxisId) : (s.modPins f).axisSt r_ = s.axisSt r_ := (rfl)
@[simp] theorem modPins_axisOn (f : Pins → Pins) (r_ : AxisId) : (s.modPins f).axisOn r_ = s.axisOn r_ := (rfl)
@[simp] theorem modPins_opStat (f : Pins → Pins) (r_ : Nat) : (s.modPins f).opStat r_ = s.opStat r_ := (rfl)
@[simp] theorem modPins_opBusy (f : Pins → Pins) (r_ : Nat) : (s.modPins f).opBusy r_ = s.opBusy r_ := (rfl)
@[simp] theorem modPins_lastOp (f : Pins → Pins) (r_ : Nat) : (s.modPins f).lastOp r_ = s.lastOp r_ := (rfl)

/-! ### modJtag -/

@[simp] theorem modJtag_variant (f : Jtag → Jtag) : (s.modJtag f).variant = s.variant := (rfl)
@[simp] theorem modJtag_power (f : Jtag → Jtag) : (s.modJtag f).power = s.power := (rfl)
@[simp] theorem modJtag_clock (f : Jtag → Jtag) : (s.modJtag f).clock = s.clock := (rfl)
@[simp] theorem modJtag_tsBase (f : Jtag → Jtag) : (s.modJtag f).tsBase = s.tsBase := (rfl)
@[simp] theorem modJtag_frame (f : Jtag → Jtag) : (s.modJtag f).frame = s.frame := (rfl)
@[simp] theorem modJtag_lastEngine (f : Jtag → Jtag) : (s.modJtag f).lastEngine = s.lastEngine := (rfl)
@[simp] theorem modJtag_lastMotion (f : Jtag → Jtag) : (s.modJtag f).lastMotion = s.lastMotion := (rfl)
@[simp] theorem modJtag_free (f : Jtag → Jtag) : (s.modJtag f).free = s.free := (rfl)
@[simp] theorem modJtag_regs (f : Jtag → Jtag) : (s.modJtag f).regs = s.regs := (rfl)
@[simp] theorem modJtag_fm (f : Jtag → Jtag) : (s.modJtag f).fm = s.fm := (rfl)
@[simp] theorem modJtag_box (f : Jtag → Jtag) : (s.modJtag f).box = s.box := (rfl)
@[simp] theorem modJtag_dies (f : Jtag → Jtag) : (s.modJtag f).dies = s.dies := (rfl)
@[simp] theorem modJtag_legs (f : Jtag → Jtag) : (s.modJtag f).legs = s.legs := (rfl)
@[simp] theorem modJtag_regions (f : Jtag → Jtag) : (s.modJtag f).regions = s.regions := (rfl)
@[simp] theorem modJtag_carriers (f : Jtag → Jtag) : (s.modJtag f).carriers = s.carriers := (rfl)
@[simp] theorem modJtag_wireTests (f : Jtag → Jtag) : (s.modJtag f).wireTests = s.wireTests := (rfl)
@[simp] theorem modJtag_leakTests (f : Jtag → Jtag) : (s.modJtag f).leakTests = s.leakTests := (rfl)
@[simp] theorem modJtag_seqs (f : Jtag → Jtag) : (s.modJtag f).seqs = s.seqs := (rfl)
@[simp] theorem modJtag_cores (f : Jtag → Jtag) : (s.modJtag f).cores = s.cores := (rfl)
@[simp] theorem modJtag_meas (f : Jtag → Jtag) : (s.modJtag f).meas = s.meas := (rfl)
@[simp] theorem modJtag_calRuns (f : Jtag → Jtag) : (s.modJtag f).calRuns = s.calRuns := (rfl)
@[simp] theorem modJtag_cmps (f : Jtag → Jtag) : (s.modJtag f).cmps = s.cmps := (rfl)
@[simp] theorem modJtag_audit (f : Jtag → Jtag) : (s.modJtag f).audit = s.audit := (rfl)
@[simp] theorem modJtag_inv (f : Jtag → Jtag) : (s.modJtag f).inv = s.inv := (rfl)
@[simp] theorem modJtag_invOp (f : Jtag → Jtag) : (s.modJtag f).invOp = s.invOp := (rfl)
@[simp] theorem modJtag_pins (f : Jtag → Jtag) : (s.modJtag f).pins = s.pins := (rfl)
@[simp] theorem modJtag_jtag (f : Jtag → Jtag) : (s.modJtag f).jtag = f s.jtag := (rfl)
@[simp] theorem modJtag_engs (f : Jtag → Jtag) : (s.modJtag f).engs = s.engs := (rfl)
@[simp] theorem modJtag_engine (f : Jtag → Jtag) : (s.modJtag f).engine = s.engine := (rfl)
@[simp] theorem modJtag_axes (f : Jtag → Jtag) : (s.modJtag f).axes = s.axes := (rfl)
@[simp] theorem modJtag_chans (f : Jtag → Jtag) : (s.modJtag f).chans = s.chans := (rfl)
@[simp] theorem modJtag_compares (f : Jtag → Jtag) : (s.modJtag f).compares = s.compares := (rfl)
@[simp] theorem modJtag_larder (f : Jtag → Jtag) : (s.modJtag f).larder = s.larder := (rfl)
@[simp] theorem modJtag_ladder (f : Jtag → Jtag) : (s.modJtag f).ladder = s.ladder := (rfl)
@[simp] theorem modJtag_planner (f : Jtag → Jtag) : (s.modJtag f).planner = s.planner := (rfl)
@[simp] theorem modJtag_comps (f : Jtag → Jtag) : (s.modJtag f).comps = s.comps := (rfl)
@[simp] theorem modJtag_guard (f : Jtag → Jtag) : (s.modJtag f).guard = s.guard := (rfl)
@[simp] theorem modJtag_seq (f : Jtag → Jtag) : (s.modJtag f).seq = s.seq := (rfl)
@[simp] theorem modJtag_flash (f : Jtag → Jtag) : (s.modJtag f).flash = s.flash := (rfl)
@[simp] theorem modJtag_hp (f : Jtag → Jtag) : (s.modJtag f).hp = s.hp := (rfl)
@[simp] theorem modJtag_prt (f : Jtag → Jtag) : (s.modJtag f).prt = s.prt := (rfl)
@[simp] theorem modJtag_hatch (f : Jtag → Jtag) : (s.modJtag f).hatch = s.hatch := (rfl)
@[simp] theorem modJtag_stock (f : Jtag → Jtag) : (s.modJtag f).stock = s.stock := (rfl)
@[simp] theorem modJtag_access (f : Jtag → Jtag) : (s.modJtag f).access = s.access := (rfl)
@[simp] theorem modJtag_pending (f : Jtag → Jtag) : (s.modJtag f).pending = s.pending := (rfl)
@[simp] theorem modJtag_reg (f : Jtag → Jtag) (r : Nat) : (s.modJtag f).reg r = s.reg r := (rfl)
@[simp] theorem modJtag_fld (f : Jtag → Jtag) (r : Fld) : (s.modJtag f).fld r = s.fld r := (rfl)
@[simp] theorem modJtag_sfld (f : Jtag → Jtag) (r : Fld) : (s.modJtag f).sfld r = s.sfld r := (rfl)
@[simp] theorem modJtag_flag (f : Jtag → Jtag) (r : Fld) : (s.modJtag f).flag r = s.flag r := (rfl)
@[simp] theorem modJtag_live (f : Jtag → Jtag) : (s.modJtag f).live = s.live := (rfl)
@[simp] theorem modJtag_implemented (f : Jtag → Jtag) (r_ : Nat) : (s.modJtag f).implemented r_ = s.implemented r_ := (rfl)
@[simp] theorem modJtag_linked (f : Jtag → Jtag) (r_ : Nat) : (s.modJtag f).linked r_ = s.linked r_ := (rfl)
@[simp] theorem modJtag_reach (f : Jtag → Jtag) (r_ : Nat) : (s.modJtag f).reach r_ = s.reach r_ := (rfl)
@[simp] theorem modJtag_hasDie (f : Jtag → Jtag) (r_ : Nat) : (s.modJtag f).hasDie r_ = s.hasDie r_ := (rfl)
@[simp] theorem modJtag_hasAxis (f : Jtag → Jtag) (r_ : Nat) : (s.modJtag f).hasAxis r_ = s.hasAxis r_ := (rfl)
@[simp] theorem modJtag_planned (f : Jtag → Jtag) (r_ : Nat) : (s.modJtag f).planned r_ = s.planned r_ := (rfl)
@[simp] theorem modJtag_stamp (f : Jtag → Jtag) (r_ : Nat) : (s.modJtag f).stamp r_ = s.stamp r_ := (rfl)
@[simp] theorem modJtag_fmRuns (f : Jtag → Jtag) : (s.modJtag f).fmRuns = s.fmRuns := (rfl)
@[simp] theorem modJtag_axisRec (f : Jtag → Jtag) (r_ : Nat) : (s.modJtag f).axisRec r_ = s.axisRec r_ := (rfl)
@[simp] theorem modJtag_schedRec (f : Jtag → Jtag) (r_ : Nat) : (s.modJtag f).schedRec r_ = s.schedRec r_ := (rfl)
@[simp] theorem modJtag_feedOf (f : Jtag → Jtag) (r_ : Nat) : (s.modJtag f).feedOf r_ = s.feedOf r_ := (rfl)
@[simp] theorem modJtag_feedOfChan (f : Jtag → Jtag) (r_ : Nat) : (s.modJtag f).feedOfChan r_ = s.feedOfChan r_ := (rfl)
@[simp] theorem modJtag_loopOf (f : Jtag → Jtag) (r_ : Nat) : (s.modJtag f).loopOf r_ = s.loopOf r_ := (rfl)
@[simp] theorem modJtag_protRec (f : Jtag → Jtag) (r_ : Nat) : (s.modJtag f).protRec r_ = s.protRec r_ := (rfl)
@[simp] theorem modJtag_axisSt (f : Jtag → Jtag) (r_ : AxisId) : (s.modJtag f).axisSt r_ = s.axisSt r_ := (rfl)
@[simp] theorem modJtag_axisOn (f : Jtag → Jtag) (r_ : AxisId) : (s.modJtag f).axisOn r_ = s.axisOn r_ := (rfl)
@[simp] theorem modJtag_opStat (f : Jtag → Jtag) (r_ : Nat) : (s.modJtag f).opStat r_ = s.opStat r_ := (rfl)
@[simp] theorem modJtag_opBusy (f : Jtag → Jtag) (r_ : Nat) : (s.modJtag f).opBusy r_ = s.opBusy r_ := (rfl)
@[simp] theorem modJtag_lastOp (f : Jtag → Jtag) (r_ : Nat) : (s.modJtag f).lastOp r_ = s.lastOp r_ := (rfl)

/-! ### modEngine -/

@[simp] theorem modEngine_variant (f : Engine → Engine) : (s.modEngine f).variant = s.variant := (rfl)
@[simp] theorem modEngine_power (f : Engine → Engine) : (s.modEngine f).power = s.power := (rfl)
@[simp] theorem modEngine_clock (f : Engine → Engine) : (s.modEngine f).clock = s.clock := (rfl)
@[simp] theorem modEngine_tsBase (f : Engine → Engine) : (s.modEngine f).tsBase = s.tsBase := (rfl)
@[simp] theorem modEngine_frame (f : Engine → Engine) : (s.modEngine f).frame = s.frame := (rfl)
@[simp] theorem modEngine_lastEngine (f : Engine → Engine) : (s.modEngine f).lastEngine = s.lastEngine := (rfl)
@[simp] theorem modEngine_lastMotion (f : Engine → Engine) : (s.modEngine f).lastMotion = s.lastMotion := (rfl)
@[simp] theorem modEngine_free (f : Engine → Engine) : (s.modEngine f).free = s.free := (rfl)
@[simp] theorem modEngine_regs (f : Engine → Engine) : (s.modEngine f).regs = s.regs := (rfl)
@[simp] theorem modEngine_fm (f : Engine → Engine) : (s.modEngine f).fm = s.fm := (rfl)
@[simp] theorem modEngine_box (f : Engine → Engine) : (s.modEngine f).box = s.box := (rfl)
@[simp] theorem modEngine_dies (f : Engine → Engine) : (s.modEngine f).dies = s.dies := (rfl)
@[simp] theorem modEngine_legs (f : Engine → Engine) : (s.modEngine f).legs = s.legs := (rfl)
@[simp] theorem modEngine_regions (f : Engine → Engine) : (s.modEngine f).regions = s.regions := (rfl)
@[simp] theorem modEngine_carriers (f : Engine → Engine) : (s.modEngine f).carriers = s.carriers := (rfl)
@[simp] theorem modEngine_wireTests (f : Engine → Engine) : (s.modEngine f).wireTests = s.wireTests := (rfl)
@[simp] theorem modEngine_leakTests (f : Engine → Engine) : (s.modEngine f).leakTests = s.leakTests := (rfl)
@[simp] theorem modEngine_seqs (f : Engine → Engine) : (s.modEngine f).seqs = s.seqs := (rfl)
@[simp] theorem modEngine_cores (f : Engine → Engine) : (s.modEngine f).cores = s.cores := (rfl)
@[simp] theorem modEngine_meas (f : Engine → Engine) : (s.modEngine f).meas = s.meas := (rfl)
@[simp] theorem modEngine_calRuns (f : Engine → Engine) : (s.modEngine f).calRuns = s.calRuns := (rfl)
@[simp] theorem modEngine_cmps (f : Engine → Engine) : (s.modEngine f).cmps = s.cmps := (rfl)
@[simp] theorem modEngine_audit (f : Engine → Engine) : (s.modEngine f).audit = s.audit := (rfl)
@[simp] theorem modEngine_inv (f : Engine → Engine) : (s.modEngine f).inv = s.inv := (rfl)
@[simp] theorem modEngine_invOp (f : Engine → Engine) : (s.modEngine f).invOp = s.invOp := (rfl)
@[simp] theorem modEngine_pins (f : Engine → Engine) : (s.modEngine f).pins = s.pins := (rfl)
@[simp] theorem modEngine_jtag (f : Engine → Engine) : (s.modEngine f).jtag = s.jtag := (rfl)
@[simp] theorem modEngine_engs (f : Engine → Engine) : (s.modEngine f).engs = s.engs := (rfl)
@[simp] theorem modEngine_engine (f : Engine → Engine) : (s.modEngine f).engine = f s.engine := (rfl)
@[simp] theorem modEngine_axes (f : Engine → Engine) : (s.modEngine f).axes = s.axes := (rfl)
@[simp] theorem modEngine_chans (f : Engine → Engine) : (s.modEngine f).chans = s.chans := (rfl)
@[simp] theorem modEngine_compares (f : Engine → Engine) : (s.modEngine f).compares = s.compares := (rfl)
@[simp] theorem modEngine_larder (f : Engine → Engine) : (s.modEngine f).larder = s.larder := (rfl)
@[simp] theorem modEngine_ladder (f : Engine → Engine) : (s.modEngine f).ladder = s.ladder := (rfl)
@[simp] theorem modEngine_planner (f : Engine → Engine) : (s.modEngine f).planner = s.planner := (rfl)
@[simp] theorem modEngine_comps (f : Engine → Engine) : (s.modEngine f).comps = s.comps := (rfl)
@[simp] theorem modEngine_guard (f : Engine → Engine) : (s.modEngine f).guard = s.guard := (rfl)
@[simp] theorem modEngine_seq (f : Engine → Engine) : (s.modEngine f).seq = s.seq := (rfl)
@[simp] theorem modEngine_flash (f : Engine → Engine) : (s.modEngine f).flash = s.flash := (rfl)
@[simp] theorem modEngine_hp (f : Engine → Engine) : (s.modEngine f).hp = s.hp := (rfl)
@[simp] theorem modEngine_prt (f : Engine → Engine) : (s.modEngine f).prt = s.prt := (rfl)
@[simp] theorem modEngine_hatch (f : Engine → Engine) : (s.modEngine f).hatch = s.hatch := (rfl)
@[simp] theorem modEngine_stock (f : Engine → Engine) : (s.modEngine f).stock = s.stock := (rfl)
@[simp] theorem modEngine_access (f : Engine → Engine) : (s.modEngine f).access = s.access := (rfl)
@[simp] theorem modEngine_pending (f : Engine → Engine) : (s.modEngine f).pending = s.pending := (rfl)
@[simp] theorem modEngine_reg (f : Engine → Engine) (r : Nat) : (s.modEngine f).reg r = s.reg r := (rfl)
@[simp] theorem modEngine_fld (f : Engine → Engine) (r : Fld) : (s.modEngine f).fld r = s.fld r := (rfl)
@[simp] theorem modEngine_sfld (f : Engine → Engine) (r : Fld) : (s.modEngine f).sfld r = s.sfld r := (rfl)
@[simp] theorem modEngine_flag (f : Engine → Engine) (r : Fld) : (s.modEngine f).flag r = s.flag r := (rfl)
@[simp] theorem modEngine_live (f : Engine → Engine) : (s.modEngine f).live = s.live := (rfl)
@[simp] theorem modEngine_implemented (f : Engine → Engine) (r_ : Nat) : (s.modEngine f).implemented r_ = s.implemented r_ := (rfl)
@[simp] theorem modEngine_linked (f : Engine → Engine) (r_ : Nat) : (s.modEngine f).linked r_ = s.linked r_ := (rfl)
@[simp] theorem modEngine_reach (f : Engine → Engine) (r_ : Nat) : (s.modEngine f).reach r_ = s.reach r_ := (rfl)
@[simp] theorem modEngine_hasDie (f : Engine → Engine) (r_ : Nat) : (s.modEngine f).hasDie r_ = s.hasDie r_ := (rfl)
@[simp] theorem modEngine_hasAxis (f : Engine → Engine) (r_ : Nat) : (s.modEngine f).hasAxis r_ = s.hasAxis r_ := (rfl)
@[simp] theorem modEngine_planned (f : Engine → Engine) (r_ : Nat) : (s.modEngine f).planned r_ = s.planned r_ := (rfl)
@[simp] theorem modEngine_stamp (f : Engine → Engine) (r_ : Nat) : (s.modEngine f).stamp r_ = s.stamp r_ := (rfl)
@[simp] theorem modEngine_fmRuns (f : Engine → Engine) : (s.modEngine f).fmRuns = s.fmRuns := (rfl)
@[simp] theorem modEngine_axisRec (f : Engine → Engine) (r_ : Nat) : (s.modEngine f).axisRec r_ = s.axisRec r_ := (rfl)
@[simp] theorem modEngine_schedRec (f : Engine → Engine) (r_ : Nat) : (s.modEngine f).schedRec r_ = s.schedRec r_ := (rfl)
@[simp] theorem modEngine_feedOf (f : Engine → Engine) (r_ : Nat) : (s.modEngine f).feedOf r_ = s.feedOf r_ := (rfl)
@[simp] theorem modEngine_feedOfChan (f : Engine → Engine) (r_ : Nat) : (s.modEngine f).feedOfChan r_ = s.feedOfChan r_ := (rfl)
@[simp] theorem modEngine_loopOf (f : Engine → Engine) (r_ : Nat) : (s.modEngine f).loopOf r_ = s.loopOf r_ := (rfl)
@[simp] theorem modEngine_protRec (f : Engine → Engine) (r_ : Nat) : (s.modEngine f).protRec r_ = s.protRec r_ := (rfl)
@[simp] theorem modEngine_axisSt (f : Engine → Engine) (r_ : AxisId) : (s.modEngine f).axisSt r_ = s.axisSt r_ := (rfl)
@[simp] theorem modEngine_axisOn (f : Engine → Engine) (r_ : AxisId) : (s.modEngine f).axisOn r_ = s.axisOn r_ := (rfl)
@[simp] theorem modEngine_opStat (f : Engine → Engine) (r_ : Nat) : (s.modEngine f).opStat r_ = s.opStat r_ := (rfl)
@[simp] theorem modEngine_opBusy (f : Engine → Engine) (r_ : Nat) : (s.modEngine f).opBusy r_ = s.opBusy r_ := (rfl)
@[simp] theorem modEngine_lastOp (f : Engine → Engine) (r_ : Nat) : (s.modEngine f).lastOp r_ = s.lastOp r_ := (rfl)

/-! ### modAudit -/

@[simp] theorem modAudit_variant (f : Audit → Audit) : (s.modAudit f).variant = s.variant := (rfl)
@[simp] theorem modAudit_power (f : Audit → Audit) : (s.modAudit f).power = s.power := (rfl)
@[simp] theorem modAudit_clock (f : Audit → Audit) : (s.modAudit f).clock = s.clock := (rfl)
@[simp] theorem modAudit_tsBase (f : Audit → Audit) : (s.modAudit f).tsBase = s.tsBase := (rfl)
@[simp] theorem modAudit_frame (f : Audit → Audit) : (s.modAudit f).frame = s.frame := (rfl)
@[simp] theorem modAudit_lastEngine (f : Audit → Audit) : (s.modAudit f).lastEngine = s.lastEngine := (rfl)
@[simp] theorem modAudit_lastMotion (f : Audit → Audit) : (s.modAudit f).lastMotion = s.lastMotion := (rfl)
@[simp] theorem modAudit_free (f : Audit → Audit) : (s.modAudit f).free = s.free := (rfl)
@[simp] theorem modAudit_regs (f : Audit → Audit) : (s.modAudit f).regs = s.regs := (rfl)
@[simp] theorem modAudit_fm (f : Audit → Audit) : (s.modAudit f).fm = s.fm := (rfl)
@[simp] theorem modAudit_box (f : Audit → Audit) : (s.modAudit f).box = s.box := (rfl)
@[simp] theorem modAudit_dies (f : Audit → Audit) : (s.modAudit f).dies = s.dies := (rfl)
@[simp] theorem modAudit_legs (f : Audit → Audit) : (s.modAudit f).legs = s.legs := (rfl)
@[simp] theorem modAudit_regions (f : Audit → Audit) : (s.modAudit f).regions = s.regions := (rfl)
@[simp] theorem modAudit_carriers (f : Audit → Audit) : (s.modAudit f).carriers = s.carriers := (rfl)
@[simp] theorem modAudit_wireTests (f : Audit → Audit) : (s.modAudit f).wireTests = s.wireTests := (rfl)
@[simp] theorem modAudit_leakTests (f : Audit → Audit) : (s.modAudit f).leakTests = s.leakTests := (rfl)
@[simp] theorem modAudit_seqs (f : Audit → Audit) : (s.modAudit f).seqs = s.seqs := (rfl)
@[simp] theorem modAudit_cores (f : Audit → Audit) : (s.modAudit f).cores = s.cores := (rfl)
@[simp] theorem modAudit_meas (f : Audit → Audit) : (s.modAudit f).meas = s.meas := (rfl)
@[simp] theorem modAudit_calRuns (f : Audit → Audit) : (s.modAudit f).calRuns = s.calRuns := (rfl)
@[simp] theorem modAudit_cmps (f : Audit → Audit) : (s.modAudit f).cmps = s.cmps := (rfl)
@[simp] theorem modAudit_audit (f : Audit → Audit) : (s.modAudit f).audit = f s.audit := (rfl)
@[simp] theorem modAudit_inv (f : Audit → Audit) : (s.modAudit f).inv = s.inv := (rfl)
@[simp] theorem modAudit_invOp (f : Audit → Audit) : (s.modAudit f).invOp = s.invOp := (rfl)
@[simp] theorem modAudit_pins (f : Audit → Audit) : (s.modAudit f).pins = s.pins := (rfl)
@[simp] theorem modAudit_jtag (f : Audit → Audit) : (s.modAudit f).jtag = s.jtag := (rfl)
@[simp] theorem modAudit_engs (f : Audit → Audit) : (s.modAudit f).engs = s.engs := (rfl)
@[simp] theorem modAudit_engine (f : Audit → Audit) : (s.modAudit f).engine = s.engine := (rfl)
@[simp] theorem modAudit_axes (f : Audit → Audit) : (s.modAudit f).axes = s.axes := (rfl)
@[simp] theorem modAudit_chans (f : Audit → Audit) : (s.modAudit f).chans = s.chans := (rfl)
@[simp] theorem modAudit_compares (f : Audit → Audit) : (s.modAudit f).compares = s.compares := (rfl)
@[simp] theorem modAudit_larder (f : Audit → Audit) : (s.modAudit f).larder = s.larder := (rfl)
@[simp] theorem modAudit_ladder (f : Audit → Audit) : (s.modAudit f).ladder = s.ladder := (rfl)
@[simp] theorem modAudit_planner (f : Audit → Audit) : (s.modAudit f).planner = s.planner := (rfl)
@[simp] theorem modAudit_comps (f : Audit → Audit) : (s.modAudit f).comps = s.comps := (rfl)
@[simp] theorem modAudit_guard (f : Audit → Audit) : (s.modAudit f).guard = s.guard := (rfl)
@[simp] theorem modAudit_seq (f : Audit → Audit) : (s.modAudit f).seq = s.seq := (rfl)
@[simp] theorem modAudit_flash (f : Audit → Audit) : (s.modAudit f).flash = s.flash := (rfl)
@[simp] theorem modAudit_hp (f : Audit → Audit) : (s.modAudit f).hp = s.hp := (rfl)
@[simp] theorem modAudit_prt (f : Audit → Audit) : (s.modAudit f).prt = s.prt := (rfl)
@[simp] theorem modAudit_hatch (f : Audit → Audit) : (s.modAudit f).hatch = s.hatch := (rfl)
@[simp] theorem modAudit_stock (f : Audit → Audit) : (s.modAudit f).stock = s.stock := (rfl)
@[simp] theorem modAudit_access (f : Audit → Audit) : (s.modAudit f).access = s.access := (rfl)
@[simp] theorem modAudit_pending (f : Audit → Audit) : (s.modAudit f).pending = s.pending := (rfl)
@[simp] theorem modAudit_reg (f : Audit → Audit) (r : Nat) : (s.modAudit f).reg r = s.reg r := (rfl)
@[simp] theorem modAudit_fld (f : Audit → Audit) (r : Fld) : (s.modAudit f).fld r = s.fld r := (rfl)
@[simp] theorem modAudit_sfld (f : Audit → Audit) (r : Fld) : (s.modAudit f).sfld r = s.sfld r := (rfl)
@[simp] theorem modAudit_flag (f : Audit → Audit) (r : Fld) : (s.modAudit f).flag r = s.flag r := (rfl)
@[simp] theorem modAudit_live (f : Audit → Audit) : (s.modAudit f).live = s.live := (rfl)
@[simp] theorem modAudit_implemented (f : Audit → Audit) (r_ : Nat) : (s.modAudit f).implemented r_ = s.implemented r_ := (rfl)
@[simp] theorem modAudit_linked (f : Audit → Audit) (r_ : Nat) : (s.modAudit f).linked r_ = s.linked r_ := (rfl)
@[simp] theorem modAudit_reach (f : Audit → Audit) (r_ : Nat) : (s.modAudit f).reach r_ = s.reach r_ := (rfl)
@[simp] theorem modAudit_hasDie (f : Audit → Audit) (r_ : Nat) : (s.modAudit f).hasDie r_ = s.hasDie r_ := (rfl)
@[simp] theorem modAudit_hasAxis (f : Audit → Audit) (r_ : Nat) : (s.modAudit f).hasAxis r_ = s.hasAxis r_ := (rfl)
@[simp] theorem modAudit_planned (f : Audit → Audit) (r_ : Nat) : (s.modAudit f).planned r_ = s.planned r_ := (rfl)
@[simp] theorem modAudit_stamp (f : Audit → Audit) (r_ : Nat) : (s.modAudit f).stamp r_ = s.stamp r_ := (rfl)
@[simp] theorem modAudit_fmRuns (f : Audit → Audit) : (s.modAudit f).fmRuns = s.fmRuns := (rfl)
@[simp] theorem modAudit_axisRec (f : Audit → Audit) (r_ : Nat) : (s.modAudit f).axisRec r_ = s.axisRec r_ := (rfl)
@[simp] theorem modAudit_schedRec (f : Audit → Audit) (r_ : Nat) : (s.modAudit f).schedRec r_ = s.schedRec r_ := (rfl)
@[simp] theorem modAudit_feedOf (f : Audit → Audit) (r_ : Nat) : (s.modAudit f).feedOf r_ = s.feedOf r_ := (rfl)
@[simp] theorem modAudit_feedOfChan (f : Audit → Audit) (r_ : Nat) : (s.modAudit f).feedOfChan r_ = s.feedOfChan r_ := (rfl)
@[simp] theorem modAudit_loopOf (f : Audit → Audit) (r_ : Nat) : (s.modAudit f).loopOf r_ = s.loopOf r_ := (rfl)
@[simp] theorem modAudit_protRec (f : Audit → Audit) (r_ : Nat) : (s.modAudit f).protRec r_ = s.protRec r_ := (rfl)
@[simp] theorem modAudit_axisSt (f : Audit → Audit) (r_ : AxisId) : (s.modAudit f).axisSt r_ = s.axisSt r_ := (rfl)
@[simp] theorem modAudit_axisOn (f : Audit → Audit) (r_ : AxisId) : (s.modAudit f).axisOn r_ = s.axisOn r_ := (rfl)
@[simp] theorem modAudit_opStat (f : Audit → Audit) (r_ : Nat) : (s.modAudit f).opStat r_ = s.opStat r_ := (rfl)
@[simp] theorem modAudit_opBusy (f : Audit → Audit) (r_ : Nat) : (s.modAudit f).opBusy r_ = s.opBusy r_ := (rfl)
@[simp] theorem modAudit_lastOp (f : Audit → Audit) (r_ : Nat) : (s.modAudit f).lastOp r_ = s.lastOp r_ := (rfl)

/-! ### modWires -/

@[simp] theorem modWires_variant (f : List WireTest → List WireTest) : (s.modWires f).variant = s.variant := (rfl)
@[simp] theorem modWires_power (f : List WireTest → List WireTest) : (s.modWires f).power = s.power := (rfl)
@[simp] theorem modWires_clock (f : List WireTest → List WireTest) : (s.modWires f).clock = s.clock := (rfl)
@[simp] theorem modWires_tsBase (f : List WireTest → List WireTest) : (s.modWires f).tsBase = s.tsBase := (rfl)
@[simp] theorem modWires_frame (f : List WireTest → List WireTest) : (s.modWires f).frame = s.frame := (rfl)
@[simp] theorem modWires_lastEngine (f : List WireTest → List WireTest) : (s.modWires f).lastEngine = s.lastEngine := (rfl)
@[simp] theorem modWires_lastMotion (f : List WireTest → List WireTest) : (s.modWires f).lastMotion = s.lastMotion := (rfl)
@[simp] theorem modWires_free (f : List WireTest → List WireTest) : (s.modWires f).free = s.free := (rfl)
@[simp] theorem modWires_regs (f : List WireTest → List WireTest) : (s.modWires f).regs = s.regs := (rfl)
@[simp] theorem modWires_fm (f : List WireTest → List WireTest) : (s.modWires f).fm = s.fm := (rfl)
@[simp] theorem modWires_box (f : List WireTest → List WireTest) : (s.modWires f).box = s.box := (rfl)
@[simp] theorem modWires_dies (f : List WireTest → List WireTest) : (s.modWires f).dies = s.dies := (rfl)
@[simp] theorem modWires_legs (f : List WireTest → List WireTest) : (s.modWires f).legs = s.legs := (rfl)
@[simp] theorem modWires_regions (f : List WireTest → List WireTest) : (s.modWires f).regions = s.regions := (rfl)
@[simp] theorem modWires_carriers (f : List WireTest → List WireTest) : (s.modWires f).carriers = s.carriers := (rfl)
@[simp] theorem modWires_wireTests (f : List WireTest → List WireTest) : (s.modWires f).wireTests = f s.wireTests := (rfl)
@[simp] theorem modWires_leakTests (f : List WireTest → List WireTest) : (s.modWires f).leakTests = s.leakTests := (rfl)
@[simp] theorem modWires_seqs (f : List WireTest → List WireTest) : (s.modWires f).seqs = s.seqs := (rfl)
@[simp] theorem modWires_cores (f : List WireTest → List WireTest) : (s.modWires f).cores = s.cores := (rfl)
@[simp] theorem modWires_meas (f : List WireTest → List WireTest) : (s.modWires f).meas = s.meas := (rfl)
@[simp] theorem modWires_calRuns (f : List WireTest → List WireTest) : (s.modWires f).calRuns = s.calRuns := (rfl)
@[simp] theorem modWires_cmps (f : List WireTest → List WireTest) : (s.modWires f).cmps = s.cmps := (rfl)
@[simp] theorem modWires_audit (f : List WireTest → List WireTest) : (s.modWires f).audit = s.audit := (rfl)
@[simp] theorem modWires_inv (f : List WireTest → List WireTest) : (s.modWires f).inv = s.inv := (rfl)
@[simp] theorem modWires_invOp (f : List WireTest → List WireTest) : (s.modWires f).invOp = s.invOp := (rfl)
@[simp] theorem modWires_pins (f : List WireTest → List WireTest) : (s.modWires f).pins = s.pins := (rfl)
@[simp] theorem modWires_jtag (f : List WireTest → List WireTest) : (s.modWires f).jtag = s.jtag := (rfl)
@[simp] theorem modWires_engs (f : List WireTest → List WireTest) : (s.modWires f).engs = s.engs := (rfl)
@[simp] theorem modWires_engine (f : List WireTest → List WireTest) : (s.modWires f).engine = s.engine := (rfl)
@[simp] theorem modWires_axes (f : List WireTest → List WireTest) : (s.modWires f).axes = s.axes := (rfl)
@[simp] theorem modWires_chans (f : List WireTest → List WireTest) : (s.modWires f).chans = s.chans := (rfl)
@[simp] theorem modWires_compares (f : List WireTest → List WireTest) : (s.modWires f).compares = s.compares := (rfl)
@[simp] theorem modWires_larder (f : List WireTest → List WireTest) : (s.modWires f).larder = s.larder := (rfl)
@[simp] theorem modWires_ladder (f : List WireTest → List WireTest) : (s.modWires f).ladder = s.ladder := (rfl)
@[simp] theorem modWires_planner (f : List WireTest → List WireTest) : (s.modWires f).planner = s.planner := (rfl)
@[simp] theorem modWires_comps (f : List WireTest → List WireTest) : (s.modWires f).comps = s.comps := (rfl)
@[simp] theorem modWires_guard (f : List WireTest → List WireTest) : (s.modWires f).guard = s.guard := (rfl)
@[simp] theorem modWires_seq (f : List WireTest → List WireTest) : (s.modWires f).seq = s.seq := (rfl)
@[simp] theorem modWires_flash (f : List WireTest → List WireTest) : (s.modWires f).flash = s.flash := (rfl)
@[simp] theorem modWires_hp (f : List WireTest → List WireTest) : (s.modWires f).hp = s.hp := (rfl)
@[simp] theorem modWires_prt (f : List WireTest → List WireTest) : (s.modWires f).prt = s.prt := (rfl)
@[simp] theorem modWires_hatch (f : List WireTest → List WireTest) : (s.modWires f).hatch = s.hatch := (rfl)
@[simp] theorem modWires_stock (f : List WireTest → List WireTest) : (s.modWires f).stock = s.stock := (rfl)
@[simp] theorem modWires_access (f : List WireTest → List WireTest) : (s.modWires f).access = s.access := (rfl)
@[simp] theorem modWires_pending (f : List WireTest → List WireTest) : (s.modWires f).pending = s.pending := (rfl)
@[simp] theorem modWires_reg (f : List WireTest → List WireTest) (r : Nat) : (s.modWires f).reg r = s.reg r := (rfl)
@[simp] theorem modWires_fld (f : List WireTest → List WireTest) (r : Fld) : (s.modWires f).fld r = s.fld r := (rfl)
@[simp] theorem modWires_sfld (f : List WireTest → List WireTest) (r : Fld) : (s.modWires f).sfld r = s.sfld r := (rfl)
@[simp] theorem modWires_flag (f : List WireTest → List WireTest) (r : Fld) : (s.modWires f).flag r = s.flag r := (rfl)
@[simp] theorem modWires_live (f : List WireTest → List WireTest) : (s.modWires f).live = s.live := (rfl)
@[simp] theorem modWires_implemented (f : List WireTest → List WireTest) (r_ : Nat) : (s.modWires f).implemented r_ = s.implemented r_ := (rfl)
@[simp] theorem modWires_linked (f : List WireTest → List WireTest) (r_ : Nat) : (s.modWires f).linked r_ = s.linked r_ := (rfl)
@[simp] theorem modWires_reach (f : List WireTest → List WireTest) (r_ : Nat) : (s.modWires f).reach r_ = s.reach r_ := (rfl)
@[simp] theorem modWires_hasDie (f : List WireTest → List WireTest) (r_ : Nat) : (s.modWires f).hasDie r_ = s.hasDie r_ := (rfl)
@[simp] theorem modWires_hasAxis (f : List WireTest → List WireTest) (r_ : Nat) : (s.modWires f).hasAxis r_ = s.hasAxis r_ := (rfl)
@[simp] theorem modWires_planned (f : List WireTest → List WireTest) (r_ : Nat) : (s.modWires f).planned r_ = s.planned r_ := (rfl)
@[simp] theorem modWires_stamp (f : List WireTest → List WireTest) (r_ : Nat) : (s.modWires f).stamp r_ = s.stamp r_ := (rfl)
@[simp] theorem modWires_fmRuns (f : List WireTest → List WireTest) : (s.modWires f).fmRuns = s.fmRuns := (rfl)
@[simp] theorem modWires_axisRec (f : List WireTest → List WireTest) (r_ : Nat) : (s.modWires f).axisRec r_ = s.axisRec r_ := (rfl)
@[simp] theorem modWires_schedRec (f : List WireTest → List WireTest) (r_ : Nat) : (s.modWires f).schedRec r_ = s.schedRec r_ := (rfl)
@[simp] theorem modWires_feedOf (f : List WireTest → List WireTest) (r_ : Nat) : (s.modWires f).feedOf r_ = s.feedOf r_ := (rfl)
@[simp] theorem modWires_feedOfChan (f : List WireTest → List WireTest) (r_ : Nat) : (s.modWires f).feedOfChan r_ = s.feedOfChan r_ := (rfl)
@[simp] theorem modWires_loopOf (f : List WireTest → List WireTest) (r_ : Nat) : (s.modWires f).loopOf r_ = s.loopOf r_ := (rfl)
@[simp] theorem modWires_protRec (f : List WireTest → List WireTest) (r_ : Nat) : (s.modWires f).protRec r_ = s.protRec r_ := (rfl)
@[simp] theorem modWires_axisSt (f : List WireTest → List WireTest) (r_ : AxisId) : (s.modWires f).axisSt r_ = s.axisSt r_ := (rfl)
@[simp] theorem modWires_axisOn (f : List WireTest → List WireTest) (r_ : AxisId) : (s.modWires f).axisOn r_ = s.axisOn r_ := (rfl)
@[simp] theorem modWires_opStat (f : List WireTest → List WireTest) (r_ : Nat) : (s.modWires f).opStat r_ = s.opStat r_ := (rfl)
@[simp] theorem modWires_opBusy (f : List WireTest → List WireTest) (r_ : Nat) : (s.modWires f).opBusy r_ = s.opBusy r_ := (rfl)
@[simp] theorem modWires_lastOp (f : List WireTest → List WireTest) (r_ : Nat) : (s.modWires f).lastOp r_ = s.lastOp r_ := (rfl)

/-! ### modLeaks -/

@[simp] theorem modLeaks_variant (f : List LeakTest → List LeakTest) : (s.modLeaks f).variant = s.variant := (rfl)
@[simp] theorem modLeaks_power (f : List LeakTest → List LeakTest) : (s.modLeaks f).power = s.power := (rfl)
@[simp] theorem modLeaks_clock (f : List LeakTest → List LeakTest) : (s.modLeaks f).clock = s.clock := (rfl)
@[simp] theorem modLeaks_tsBase (f : List LeakTest → List LeakTest) : (s.modLeaks f).tsBase = s.tsBase := (rfl)
@[simp] theorem modLeaks_frame (f : List LeakTest → List LeakTest) : (s.modLeaks f).frame = s.frame := (rfl)
@[simp] theorem modLeaks_lastEngine (f : List LeakTest → List LeakTest) : (s.modLeaks f).lastEngine = s.lastEngine := (rfl)
@[simp] theorem modLeaks_lastMotion (f : List LeakTest → List LeakTest) : (s.modLeaks f).lastMotion = s.lastMotion := (rfl)
@[simp] theorem modLeaks_free (f : List LeakTest → List LeakTest) : (s.modLeaks f).free = s.free := (rfl)
@[simp] theorem modLeaks_regs (f : List LeakTest → List LeakTest) : (s.modLeaks f).regs = s.regs := (rfl)
@[simp] theorem modLeaks_fm (f : List LeakTest → List LeakTest) : (s.modLeaks f).fm = s.fm := (rfl)
@[simp] theorem modLeaks_box (f : List LeakTest → List LeakTest) : (s.modLeaks f).box = s.box := (rfl)
@[simp] theorem modLeaks_dies (f : List LeakTest → List LeakTest) : (s.modLeaks f).dies = s.dies := (rfl)
@[simp] theorem modLeaks_legs (f : List LeakTest → List LeakTest) : (s.modLeaks f).legs = s.legs := (rfl)
@[simp] theorem modLeaks_regions (f : List LeakTest → List LeakTest) : (s.modLeaks f).regions = s.regions := (rfl)
@[simp] theorem modLeaks_carriers (f : List LeakTest → List LeakTest) : (s.modLeaks f).carriers = s.carriers := (rfl)
@[simp] theorem modLeaks_wireTests (f : List LeakTest → List LeakTest) : (s.modLeaks f).wireTests = s.wireTests := (rfl)
@[simp] theorem modLeaks_leakTests (f : List LeakTest → List LeakTest) : (s.modLeaks f).leakTests = f s.leakTests := (rfl)
@[simp] theorem modLeaks_seqs (f : List LeakTest → List LeakTest) : (s.modLeaks f).seqs = s.seqs := (rfl)
@[simp] theorem modLeaks_cores (f : List LeakTest → List LeakTest) : (s.modLeaks f).cores = s.cores := (rfl)
@[simp] theorem modLeaks_meas (f : List LeakTest → List LeakTest) : (s.modLeaks f).meas = s.meas := (rfl)
@[simp] theorem modLeaks_calRuns (f : List LeakTest → List LeakTest) : (s.modLeaks f).calRuns = s.calRuns := (rfl)
@[simp] theorem modLeaks_cmps (f : List LeakTest → List LeakTest) : (s.modLeaks f).cmps = s.cmps := (rfl)
@[simp] theorem modLeaks_audit (f : List LeakTest → List LeakTest) : (s.modLeaks f).audit = s.audit := (rfl)
@[simp] theorem modLeaks_inv (f : List LeakTest → List LeakTest) : (s.modLeaks f).inv = s.inv := (rfl)
@[simp] theorem modLeaks_invOp (f : List LeakTest → List LeakTest) : (s.modLeaks f).invOp = s.invOp := (rfl)
@[simp] theorem modLeaks_pins (f : List LeakTest → List LeakTest) : (s.modLeaks f).pins = s.pins := (rfl)
@[simp] theorem modLeaks_jtag (f : List LeakTest → List LeakTest) : (s.modLeaks f).jtag = s.jtag := (rfl)
@[simp] theorem modLeaks_engs (f : List LeakTest → List LeakTest) : (s.modLeaks f).engs = s.engs := (rfl)
@[simp] theorem modLeaks_engine (f : List LeakTest → List LeakTest) : (s.modLeaks f).engine = s.engine := (rfl)
@[simp] theorem modLeaks_axes (f : List LeakTest → List LeakTest) : (s.modLeaks f).axes = s.axes := (rfl)
@[simp] theorem modLeaks_chans (f : List LeakTest → List LeakTest) : (s.modLeaks f).chans = s.chans := (rfl)
@[simp] theorem modLeaks_compares (f : List LeakTest → List LeakTest) : (s.modLeaks f).compares = s.compares := (rfl)
@[simp] theorem modLeaks_larder (f : List LeakTest → List LeakTest) : (s.modLeaks f).larder = s.larder := (rfl)
@[simp] theorem modLeaks_ladder (f : List LeakTest → List LeakTest) : (s.modLeaks f).ladder = s.ladder := (rfl)
@[simp] theorem modLeaks_planner (f : List LeakTest → List LeakTest) : (s.modLeaks f).planner = s.planner := (rfl)
@[simp] theorem modLeaks_comps (f : List LeakTest → List LeakTest) : (s.modLeaks f).comps = s.comps := (rfl)
@[simp] theorem modLeaks_guard (f : List LeakTest → List LeakTest) : (s.modLeaks f).guard = s.guard := (rfl)
@[simp] theorem modLeaks_seq (f : List LeakTest → List LeakTest) : (s.modLeaks f).seq = s.seq := (rfl)
@[simp] theorem modLeaks_flash (f : List LeakTest → List LeakTest) : (s.modLeaks f).flash = s.flash := (rfl)
@[simp] theorem modLeaks_hp (f : List LeakTest → List LeakTest) : (s.modLeaks f).hp = s.hp := (rfl)
@[simp] theorem modLeaks_prt (f : List LeakTest → List LeakTest) : (s.modLeaks f).prt = s.prt := (rfl)
@[simp] theorem modLeaks_hatch (f : List LeakTest → List LeakTest) : (s.modLeaks f).hatch = s.hatch := (rfl)
@[simp] theorem modLeaks_stock (f : List LeakTest → List LeakTest) : (s.modLeaks f).stock = s.stock := (rfl)
@[simp] theorem modLeaks_access (f : List LeakTest → List LeakTest) : (s.modLeaks f).access = s.access := (rfl)
@[simp] theorem modLeaks_pending (f : List LeakTest → List LeakTest) : (s.modLeaks f).pending = s.pending := (rfl)
@[simp] theorem modLeaks_reg (f : List LeakTest → List LeakTest) (r : Nat) : (s.modLeaks f).reg r = s.reg r := (rfl)
@[simp] theorem modLeaks_fld (f : List LeakTest → List LeakTest) (r : Fld) : (s.modLeaks f).fld r = s.fld r := (rfl)
@[simp] theorem modLeaks_sfld (f : List LeakTest → List LeakTest) (r : Fld) : (s.modLeaks f).sfld r = s.sfld r := (rfl)
@[simp] theorem modLeaks_flag (f : List LeakTest → List LeakTest) (r : Fld) : (s.modLeaks f).flag r = s.flag r := (rfl)
@[simp] theorem modLeaks_live (f : List LeakTest → List LeakTest) : (s.modLeaks f).live = s.live := (rfl)
@[simp] theorem modLeaks_implemented (f : List LeakTest → List LeakTest) (r_ : Nat) : (s.modLeaks f).implemented r_ = s.implemented r_ := (rfl)
@[simp] theorem modLeaks_linked (f : List LeakTest → List LeakTest) (r_ : Nat) : (s.modLeaks f).linked r_ = s.linked r_ := (rfl)
@[simp] theorem modLeaks_reach (f : List LeakTest → List LeakTest) (r_ : Nat) : (s.modLeaks f).reach r_ = s.reach r_ := (rfl)
@[simp] theorem modLeaks_hasDie (f : List LeakTest → List LeakTest) (r_ : Nat) : (s.modLeaks f).hasDie r_ = s.hasDie r_ := (rfl)
@[simp] theorem modLeaks_hasAxis (f : List LeakTest → List LeakTest) (r_ : Nat) : (s.modLeaks f).hasAxis r_ = s.hasAxis r_ := (rfl)
@[simp] theorem modLeaks_planned (f : List LeakTest → List LeakTest) (r_ : Nat) : (s.modLeaks f).planned r_ = s.planned r_ := (rfl)
@[simp] theorem modLeaks_stamp (f : List LeakTest → List LeakTest) (r_ : Nat) : (s.modLeaks f).stamp r_ = s.stamp r_ := (rfl)
@[simp] theorem modLeaks_fmRuns (f : List LeakTest → List LeakTest) : (s.modLeaks f).fmRuns = s.fmRuns := (rfl)
@[simp] theorem modLeaks_axisRec (f : List LeakTest → List LeakTest) (r_ : Nat) : (s.modLeaks f).axisRec r_ = s.axisRec r_ := (rfl)
@[simp] theorem modLeaks_schedRec (f : List LeakTest → List LeakTest) (r_ : Nat) : (s.modLeaks f).schedRec r_ = s.schedRec r_ := (rfl)
@[simp] theorem modLeaks_feedOf (f : List LeakTest → List LeakTest) (r_ : Nat) : (s.modLeaks f).feedOf r_ = s.feedOf r_ := (rfl)
@[simp] theorem modLeaks_feedOfChan (f : List LeakTest → List LeakTest) (r_ : Nat) : (s.modLeaks f).feedOfChan r_ = s.feedOfChan r_ := (rfl)
@[simp] theorem modLeaks_loopOf (f : List LeakTest → List LeakTest) (r_ : Nat) : (s.modLeaks f).loopOf r_ = s.loopOf r_ := (rfl)
@[simp] theorem modLeaks_protRec (f : List LeakTest → List LeakTest) (r_ : Nat) : (s.modLeaks f).protRec r_ = s.protRec r_ := (rfl)
@[simp] theorem modLeaks_axisSt (f : List LeakTest → List LeakTest) (r_ : AxisId) : (s.modLeaks f).axisSt r_ = s.axisSt r_ := (rfl)
@[simp] theorem modLeaks_axisOn (f : List LeakTest → List LeakTest) (r_ : AxisId) : (s.modLeaks f).axisOn r_ = s.axisOn r_ := (rfl)
@[simp] theorem modLeaks_opStat (f : List LeakTest → List LeakTest) (r_ : Nat) : (s.modLeaks f).opStat r_ = s.opStat r_ := (rfl)
@[simp] theorem modLeaks_opBusy (f : List LeakTest → List LeakTest) (r_ : Nat) : (s.modLeaks f).opBusy r_ = s.opBusy r_ := (rfl)
@[simp] theorem modLeaks_lastOp (f : List LeakTest → List LeakTest) (r_ : Nat) : (s.modLeaks f).lastOp r_ = s.lastOp r_ := (rfl)

/-! ### modAccess -/

@[simp] theorem modAccess_variant (f : Access → Access) : (s.modAccess f).variant = s.variant := (rfl)
@[simp] theorem modAccess_power (f : Access → Access) : (s.modAccess f).power = s.power := (rfl)
@[simp] theorem modAccess_clock (f : Access → Access) : (s.modAccess f).clock = s.clock := (rfl)
@[simp] theorem modAccess_tsBase (f : Access → Access) : (s.modAccess f).tsBase = s.tsBase := (rfl)
@[simp] theorem modAccess_frame (f : Access → Access) : (s.modAccess f).frame = s.frame := (rfl)
@[simp] theorem modAccess_lastEngine (f : Access → Access) : (s.modAccess f).lastEngine = s.lastEngine := (rfl)
@[simp] theorem modAccess_lastMotion (f : Access → Access) : (s.modAccess f).lastMotion = s.lastMotion := (rfl)
@[simp] theorem modAccess_free (f : Access → Access) : (s.modAccess f).free = s.free := (rfl)
@[simp] theorem modAccess_regs (f : Access → Access) : (s.modAccess f).regs = s.regs := (rfl)
@[simp] theorem modAccess_fm (f : Access → Access) : (s.modAccess f).fm = s.fm := (rfl)
@[simp] theorem modAccess_box (f : Access → Access) : (s.modAccess f).box = s.box := (rfl)
@[simp] theorem modAccess_dies (f : Access → Access) : (s.modAccess f).dies = s.dies := (rfl)
@[simp] theorem modAccess_legs (f : Access → Access) : (s.modAccess f).legs = s.legs := (rfl)
@[simp] theorem modAccess_regions (f : Access → Access) : (s.modAccess f).regions = s.regions := (rfl)
@[simp] theorem modAccess_carriers (f : Access → Access) : (s.modAccess f).carriers = s.carriers := (rfl)
@[simp] theorem modAccess_wireTests (f : Access → Access) : (s.modAccess f).wireTests = s.wireTests := (rfl)
@[simp] theorem modAccess_leakTests (f : Access → Access) : (s.modAccess f).leakTests = s.leakTests := (rfl)
@[simp] theorem modAccess_seqs (f : Access → Access) : (s.modAccess f).seqs = s.seqs := (rfl)
@[simp] theorem modAccess_cores (f : Access → Access) : (s.modAccess f).cores = s.cores := (rfl)
@[simp] theorem modAccess_meas (f : Access → Access) : (s.modAccess f).meas = s.meas := (rfl)
@[simp] theorem modAccess_calRuns (f : Access → Access) : (s.modAccess f).calRuns = s.calRuns := (rfl)
@[simp] theorem modAccess_cmps (f : Access → Access) : (s.modAccess f).cmps = s.cmps := (rfl)
@[simp] theorem modAccess_audit (f : Access → Access) : (s.modAccess f).audit = s.audit := (rfl)
@[simp] theorem modAccess_inv (f : Access → Access) : (s.modAccess f).inv = s.inv := (rfl)
@[simp] theorem modAccess_invOp (f : Access → Access) : (s.modAccess f).invOp = s.invOp := (rfl)
@[simp] theorem modAccess_pins (f : Access → Access) : (s.modAccess f).pins = s.pins := (rfl)
@[simp] theorem modAccess_jtag (f : Access → Access) : (s.modAccess f).jtag = s.jtag := (rfl)
@[simp] theorem modAccess_engs (f : Access → Access) : (s.modAccess f).engs = s.engs := (rfl)
@[simp] theorem modAccess_engine (f : Access → Access) : (s.modAccess f).engine = s.engine := (rfl)
@[simp] theorem modAccess_axes (f : Access → Access) : (s.modAccess f).axes = s.axes := (rfl)
@[simp] theorem modAccess_chans (f : Access → Access) : (s.modAccess f).chans = s.chans := (rfl)
@[simp] theorem modAccess_compares (f : Access → Access) : (s.modAccess f).compares = s.compares := (rfl)
@[simp] theorem modAccess_larder (f : Access → Access) : (s.modAccess f).larder = s.larder := (rfl)
@[simp] theorem modAccess_ladder (f : Access → Access) : (s.modAccess f).ladder = s.ladder := (rfl)
@[simp] theorem modAccess_planner (f : Access → Access) : (s.modAccess f).planner = s.planner := (rfl)
@[simp] theorem modAccess_comps (f : Access → Access) : (s.modAccess f).comps = s.comps := (rfl)
@[simp] theorem modAccess_guard (f : Access → Access) : (s.modAccess f).guard = s.guard := (rfl)
@[simp] theorem modAccess_seq (f : Access → Access) : (s.modAccess f).seq = s.seq := (rfl)
@[simp] theorem modAccess_flash (f : Access → Access) : (s.modAccess f).flash = s.flash := (rfl)
@[simp] theorem modAccess_hp (f : Access → Access) : (s.modAccess f).hp = s.hp := (rfl)
@[simp] theorem modAccess_prt (f : Access → Access) : (s.modAccess f).prt = s.prt := (rfl)
@[simp] theorem modAccess_hatch (f : Access → Access) : (s.modAccess f).hatch = s.hatch := (rfl)
@[simp] theorem modAccess_stock (f : Access → Access) : (s.modAccess f).stock = s.stock := (rfl)
@[simp] theorem modAccess_access (f : Access → Access) : (s.modAccess f).access = f s.access := (rfl)
@[simp] theorem modAccess_pending (f : Access → Access) : (s.modAccess f).pending = s.pending := (rfl)
@[simp] theorem modAccess_reg (f : Access → Access) (r : Nat) : (s.modAccess f).reg r = s.reg r := (rfl)
@[simp] theorem modAccess_fld (f : Access → Access) (r : Fld) : (s.modAccess f).fld r = s.fld r := (rfl)
@[simp] theorem modAccess_sfld (f : Access → Access) (r : Fld) : (s.modAccess f).sfld r = s.sfld r := (rfl)
@[simp] theorem modAccess_flag (f : Access → Access) (r : Fld) : (s.modAccess f).flag r = s.flag r := (rfl)
@[simp] theorem modAccess_live (f : Access → Access) : (s.modAccess f).live = s.live := (rfl)
@[simp] theorem modAccess_implemented (f : Access → Access) (r_ : Nat) : (s.modAccess f).implemented r_ = s.implemented r_ := (rfl)
@[simp] theorem modAccess_linked (f : Access → Access) (r_ : Nat) : (s.modAccess f).linked r_ = s.linked r_ := (rfl)
@[simp] theorem modAccess_reach (f : Access → Access) (r_ : Nat) : (s.modAccess f).reach r_ = s.reach r_ := (rfl)
@[simp] theorem modAccess_hasDie (f : Access → Access) (r_ : Nat) : (s.modAccess f).hasDie r_ = s.hasDie r_ := (rfl)
@[simp] theorem modAccess_hasAxis (f : Access → Access) (r_ : Nat) : (s.modAccess f).hasAxis r_ = s.hasAxis r_ := (rfl)
@[simp] theorem modAccess_planned (f : Access → Access) (r_ : Nat) : (s.modAccess f).planned r_ = s.planned r_ := (rfl)
@[simp] theorem modAccess_stamp (f : Access → Access) (r_ : Nat) : (s.modAccess f).stamp r_ = s.stamp r_ := (rfl)
@[simp] theorem modAccess_fmRuns (f : Access → Access) : (s.modAccess f).fmRuns = s.fmRuns := (rfl)
@[simp] theorem modAccess_axisRec (f : Access → Access) (r_ : Nat) : (s.modAccess f).axisRec r_ = s.axisRec r_ := (rfl)
@[simp] theorem modAccess_schedRec (f : Access → Access) (r_ : Nat) : (s.modAccess f).schedRec r_ = s.schedRec r_ := (rfl)
@[simp] theorem modAccess_feedOf (f : Access → Access) (r_ : Nat) : (s.modAccess f).feedOf r_ = s.feedOf r_ := (rfl)
@[simp] theorem modAccess_feedOfChan (f : Access → Access) (r_ : Nat) : (s.modAccess f).feedOfChan r_ = s.feedOfChan r_ := (rfl)
@[simp] theorem modAccess_loopOf (f : Access → Access) (r_ : Nat) : (s.modAccess f).loopOf r_ = s.loopOf r_ := (rfl)
@[simp] theorem modAccess_protRec (f : Access → Access) (r_ : Nat) : (s.modAccess f).protRec r_ = s.protRec r_ := (rfl)
@[simp] theorem modAccess_axisSt (f : Access → Access) (r_ : AxisId) : (s.modAccess f).axisSt r_ = s.axisSt r_ := (rfl)
@[simp] theorem modAccess_axisOn (f : Access → Access) (r_ : AxisId) : (s.modAccess f).axisOn r_ = s.axisOn r_ := (rfl)
@[simp] theorem modAccess_opStat (f : Access → Access) (r_ : Nat) : (s.modAccess f).opStat r_ = s.opStat r_ := (rfl)
@[simp] theorem modAccess_opBusy (f : Access → Access) (r_ : Nat) : (s.modAccess f).opBusy r_ = s.opBusy r_ := (rfl)
@[simp] theorem modAccess_lastOp (f : Access → Access) (r_ : Nat) : (s.modAccess f).lastOp r_ = s.lastOp r_ := (rfl)

/-! ### pass -/

@[simp] theorem pass_variant (dt : Nat) : (s.pass dt).variant = s.variant := (rfl)
@[simp] theorem pass_power (dt : Nat) : (s.pass dt).power = s.power := (rfl)
@[simp] theorem pass_clock (dt : Nat) : (s.pass dt).clock = s.clock + dt := (rfl)
@[simp] theorem pass_tsBase (dt : Nat) : (s.pass dt).tsBase = s.tsBase := (rfl)
@[simp] theorem pass_frame (dt : Nat) : (s.pass dt).frame = s.frame := (rfl)
@[simp] theorem pass_lastEngine (dt : Nat) : (s.pass dt).lastEngine = s.lastEngine := (rfl)
@[simp] theorem pass_lastMotion (dt : Nat) : (s.pass dt).lastMotion = s.lastMotion := (rfl)
@[simp] theorem pass_free (dt : Nat) : (s.pass dt).free = s.free := (rfl)
@[simp] theorem pass_regs (dt : Nat) : (s.pass dt).regs = s.regs := (rfl)
@[simp] theorem pass_fm (dt : Nat) : (s.pass dt).fm = s.fm := (rfl)
@[simp] theorem pass_box (dt : Nat) : (s.pass dt).box = s.box := (rfl)
@[simp] theorem pass_dies (dt : Nat) : (s.pass dt).dies = s.dies := (rfl)
@[simp] theorem pass_legs (dt : Nat) : (s.pass dt).legs = s.legs := (rfl)
@[simp] theorem pass_regions (dt : Nat) : (s.pass dt).regions = s.regions := (rfl)
@[simp] theorem pass_carriers (dt : Nat) : (s.pass dt).carriers = s.carriers := (rfl)
@[simp] theorem pass_wireTests (dt : Nat) : (s.pass dt).wireTests = s.wireTests := (rfl)
@[simp] theorem pass_leakTests (dt : Nat) : (s.pass dt).leakTests = s.leakTests := (rfl)
@[simp] theorem pass_seqs (dt : Nat) : (s.pass dt).seqs = s.seqs := (rfl)
@[simp] theorem pass_cores (dt : Nat) : (s.pass dt).cores = s.cores := (rfl)
@[simp] theorem pass_meas (dt : Nat) : (s.pass dt).meas = s.meas := (rfl)
@[simp] theorem pass_calRuns (dt : Nat) : (s.pass dt).calRuns = s.calRuns := (rfl)
@[simp] theorem pass_cmps (dt : Nat) : (s.pass dt).cmps = s.cmps := (rfl)
@[simp] theorem pass_audit (dt : Nat) : (s.pass dt).audit = s.audit := (rfl)
@[simp] theorem pass_inv (dt : Nat) : (s.pass dt).inv = s.inv := (rfl)
@[simp] theorem pass_invOp (dt : Nat) : (s.pass dt).invOp = s.invOp := (rfl)
@[simp] theorem pass_pins (dt : Nat) : (s.pass dt).pins = s.pins := (rfl)
@[simp] theorem pass_jtag (dt : Nat) : (s.pass dt).jtag = s.jtag := (rfl)
@[simp] theorem pass_engs (dt : Nat) : (s.pass dt).engs = s.engs := (rfl)
@[simp] theorem pass_engine (dt : Nat) : (s.pass dt).engine = s.engine := (rfl)
@[simp] theorem pass_axes (dt : Nat) : (s.pass dt).axes = s.axes := (rfl)
@[simp] theorem pass_chans (dt : Nat) : (s.pass dt).chans = s.chans := (rfl)
@[simp] theorem pass_compares (dt : Nat) : (s.pass dt).compares = s.compares := (rfl)
@[simp] theorem pass_larder (dt : Nat) : (s.pass dt).larder = s.larder := (rfl)
@[simp] theorem pass_ladder (dt : Nat) : (s.pass dt).ladder = s.ladder := (rfl)
@[simp] theorem pass_planner (dt : Nat) : (s.pass dt).planner = s.planner := (rfl)
@[simp] theorem pass_comps (dt : Nat) : (s.pass dt).comps = s.comps := (rfl)
@[simp] theorem pass_guard (dt : Nat) : (s.pass dt).guard = s.guard := (rfl)
@[simp] theorem pass_seq (dt : Nat) : (s.pass dt).seq = s.seq := (rfl)
@[simp] theorem pass_flash (dt : Nat) : (s.pass dt).flash = s.flash := (rfl)
@[simp] theorem pass_hp (dt : Nat) : (s.pass dt).hp = s.hp := (rfl)
@[simp] theorem pass_prt (dt : Nat) : (s.pass dt).prt = s.prt := (rfl)
@[simp] theorem pass_hatch (dt : Nat) : (s.pass dt).hatch = s.hatch := (rfl)
@[simp] theorem pass_stock (dt : Nat) : (s.pass dt).stock = s.stock := (rfl)
@[simp] theorem pass_access (dt : Nat) : (s.pass dt).access = s.access := (rfl)
@[simp] theorem pass_pending (dt : Nat) : (s.pass dt).pending = s.pending := (rfl)
@[simp] theorem pass_reg (dt : Nat) (r : Nat) : (s.pass dt).reg r = s.reg r := (rfl)
@[simp] theorem pass_fld (dt : Nat) (r : Fld) : (s.pass dt).fld r = s.fld r := (rfl)
@[simp] theorem pass_sfld (dt : Nat) (r : Fld) : (s.pass dt).sfld r = s.sfld r := (rfl)
@[simp] theorem pass_flag (dt : Nat) (r : Fld) : (s.pass dt).flag r = s.flag r := (rfl)
@[simp] theorem pass_live (dt : Nat) : (s.pass dt).live = s.live := (rfl)
@[simp] theorem pass_implemented (dt : Nat) (r_ : Nat) : (s.pass dt).implemented r_ = s.implemented r_ := (rfl)
@[simp] theorem pass_linked (dt : Nat) (r_ : Nat) : (s.pass dt).linked r_ = s.linked r_ := (rfl)
@[simp] theorem pass_reach (dt : Nat) (r_ : Nat) : (s.pass dt).reach r_ = s.reach r_ := (rfl)
@[simp] theorem pass_hasDie (dt : Nat) (r_ : Nat) : (s.pass dt).hasDie r_ = s.hasDie r_ := (rfl)
@[simp] theorem pass_hasAxis (dt : Nat) (r_ : Nat) : (s.pass dt).hasAxis r_ = s.hasAxis r_ := (rfl)
@[simp] theorem pass_planned (dt : Nat) (r_ : Nat) : (s.pass dt).planned r_ = s.planned r_ := (rfl)
@[simp] theorem pass_stamp (dt : Nat) (r_ : Nat) : (s.pass dt).stamp r_ = s.stamp r_ := (rfl)
@[simp] theorem pass_fmRuns (dt : Nat) : (s.pass dt).fmRuns = s.fmRuns := (rfl)
@[simp] theorem pass_axisRec (dt : Nat) (r_ : Nat) : (s.pass dt).axisRec r_ = s.axisRec r_ := (rfl)
@[simp] theorem pass_schedRec (dt : Nat) (r_ : Nat) : (s.pass dt).schedRec r_ = s.schedRec r_ := (rfl)
@[simp] theorem pass_feedOf (dt : Nat) (r_ : Nat) : (s.pass dt).feedOf r_ = s.feedOf r_ := (rfl)
@[simp] theorem pass_feedOfChan (dt : Nat) (r_ : Nat) : (s.pass dt).feedOfChan r_ = s.feedOfChan r_ := (rfl)
@[simp] theorem pass_loopOf (dt : Nat) (r_ : Nat) : (s.pass dt).loopOf r_ = s.loopOf r_ := (rfl)
@[simp] theorem pass_protRec (dt : Nat) (r_ : Nat) : (s.pass dt).protRec r_ = s.protRec r_ := (rfl)
@[simp] theorem pass_axisSt (dt : Nat) (r_ : AxisId) : (s.pass dt).axisSt r_ = s.axisSt r_ := (rfl)
@[simp] theorem pass_axisOn (dt : Nat) (r_ : AxisId) : (s.pass dt).axisOn r_ = s.axisOn r_ := (rfl)
@[simp] theorem pass_opStat (dt : Nat) (r_ : Nat) : (s.pass dt).opStat r_ = s.opStat r_ := (rfl)
@[simp] theorem pass_opBusy (dt : Nat) (r_ : Nat) : (s.pass dt).opBusy r_ = s.opBusy r_ := (rfl)
@[simp] theorem pass_lastOp (dt : Nat) (r_ : Nat) : (s.pass dt).lastOp r_ = s.lastOp r_ := (rfl)

/-! ### atLeast -/

@[simp] theorem atLeast_variant (k : Nat) : (s.atLeast k).variant = s.variant := (rfl)
@[simp] theorem atLeast_power (k : Nat) : (s.atLeast k).power = s.power := (rfl)
@[simp] theorem atLeast_clock (k : Nat) : (s.atLeast k).clock = max s.clock k := (rfl)
@[simp] theorem atLeast_tsBase (k : Nat) : (s.atLeast k).tsBase = s.tsBase := (rfl)
@[simp] theorem atLeast_frame (k : Nat) : (s.atLeast k).frame = s.frame := (rfl)
@[simp] theorem atLeast_lastEngine (k : Nat) : (s.atLeast k).lastEngine = s.lastEngine := (rfl)
@[simp] theorem atLeast_lastMotion (k : Nat) : (s.atLeast k).lastMotion = s.lastMotion := (rfl)
@[simp] theorem atLeast_free (k : Nat) : (s.atLeast k).free = s.free := (rfl)
@[simp] theorem atLeast_regs (k : Nat) : (s.atLeast k).regs = s.regs := (rfl)
@[simp] theorem atLeast_fm (k : Nat) : (s.atLeast k).fm = s.fm := (rfl)
@[simp] theorem atLeast_box (k : Nat) : (s.atLeast k).box = s.box := (rfl)
@[simp] theorem atLeast_dies (k : Nat) : (s.atLeast k).dies = s.dies := (rfl)
@[simp] theorem atLeast_legs (k : Nat) : (s.atLeast k).legs = s.legs := (rfl)
@[simp] theorem atLeast_regions (k : Nat) : (s.atLeast k).regions = s.regions := (rfl)
@[simp] theorem atLeast_carriers (k : Nat) : (s.atLeast k).carriers = s.carriers := (rfl)
@[simp] theorem atLeast_wireTests (k : Nat) : (s.atLeast k).wireTests = s.wireTests := (rfl)
@[simp] theorem atLeast_leakTests (k : Nat) : (s.atLeast k).leakTests = s.leakTests := (rfl)
@[simp] theorem atLeast_seqs (k : Nat) : (s.atLeast k).seqs = s.seqs := (rfl)
@[simp] theorem atLeast_cores (k : Nat) : (s.atLeast k).cores = s.cores := (rfl)
@[simp] theorem atLeast_meas (k : Nat) : (s.atLeast k).meas = s.meas := (rfl)
@[simp] theorem atLeast_calRuns (k : Nat) : (s.atLeast k).calRuns = s.calRuns := (rfl)
@[simp] theorem atLeast_cmps (k : Nat) : (s.atLeast k).cmps = s.cmps := (rfl)
@[simp] theorem atLeast_audit (k : Nat) : (s.atLeast k).audit = s.audit := (rfl)
@[simp] theorem atLeast_inv (k : Nat) : (s.atLeast k).inv = s.inv := (rfl)
@[simp] theorem atLeast_invOp (k : Nat) : (s.atLeast k).invOp = s.invOp := (rfl)
@[simp] theorem atLeast_pins (k : Nat) : (s.atLeast k).pins = s.pins := (rfl)
@[simp] theorem atLeast_jtag (k : Nat) : (s.atLeast k).jtag = s.jtag := (rfl)
@[simp] theorem atLeast_engs (k : Nat) : (s.atLeast k).engs = s.engs := (rfl)
@[simp] theorem atLeast_engine (k : Nat) : (s.atLeast k).engine = s.engine := (rfl)
@[simp] theorem atLeast_axes (k : Nat) : (s.atLeast k).axes = s.axes := (rfl)
@[simp] theorem atLeast_chans (k : Nat) : (s.atLeast k).chans = s.chans := (rfl)
@[simp] theorem atLeast_compares (k : Nat) : (s.atLeast k).compares = s.compares := (rfl)
@[simp] theorem atLeast_larder (k : Nat) : (s.atLeast k).larder = s.larder := (rfl)
@[simp] theorem atLeast_ladder (k : Nat) : (s.atLeast k).ladder = s.ladder := (rfl)
@[simp] theorem atLeast_planner (k : Nat) : (s.atLeast k).planner = s.planner := (rfl)
@[simp] theorem atLeast_comps (k : Nat) : (s.atLeast k).comps = s.comps := (rfl)
@[simp] theorem atLeast_guard (k : Nat) : (s.atLeast k).guard = s.guard := (rfl)
@[simp] theorem atLeast_seq (k : Nat) : (s.atLeast k).seq = s.seq := (rfl)
@[simp] theorem atLeast_flash (k : Nat) : (s.atLeast k).flash = s.flash := (rfl)
@[simp] theorem atLeast_hp (k : Nat) : (s.atLeast k).hp = s.hp := (rfl)
@[simp] theorem atLeast_prt (k : Nat) : (s.atLeast k).prt = s.prt := (rfl)
@[simp] theorem atLeast_hatch (k : Nat) : (s.atLeast k).hatch = s.hatch := (rfl)
@[simp] theorem atLeast_stock (k : Nat) : (s.atLeast k).stock = s.stock := (rfl)
@[simp] theorem atLeast_access (k : Nat) : (s.atLeast k).access = s.access := (rfl)
@[simp] theorem atLeast_pending (k : Nat) : (s.atLeast k).pending = s.pending := (rfl)
@[simp] theorem atLeast_reg (k : Nat) (r : Nat) : (s.atLeast k).reg r = s.reg r := (rfl)
@[simp] theorem atLeast_fld (k : Nat) (r : Fld) : (s.atLeast k).fld r = s.fld r := (rfl)
@[simp] theorem atLeast_sfld (k : Nat) (r : Fld) : (s.atLeast k).sfld r = s.sfld r := (rfl)
@[simp] theorem atLeast_flag (k : Nat) (r : Fld) : (s.atLeast k).flag r = s.flag r := (rfl)
@[simp] theorem atLeast_live (k : Nat) : (s.atLeast k).live = s.live := (rfl)
@[simp] theorem atLeast_implemented (k : Nat) (r_ : Nat) : (s.atLeast k).implemented r_ = s.implemented r_ := (rfl)
@[simp] theorem atLeast_linked (k : Nat) (r_ : Nat) : (s.atLeast k).linked r_ = s.linked r_ := (rfl)
@[simp] theorem atLeast_reach (k : Nat) (r_ : Nat) : (s.atLeast k).reach r_ = s.reach r_ := (rfl)
@[simp] theorem atLeast_hasDie (k : Nat) (r_ : Nat) : (s.atLeast k).hasDie r_ = s.hasDie r_ := (rfl)
@[simp] theorem atLeast_hasAxis (k : Nat) (r_ : Nat) : (s.atLeast k).hasAxis r_ = s.hasAxis r_ := (rfl)
@[simp] theorem atLeast_planned (k : Nat) (r_ : Nat) : (s.atLeast k).planned r_ = s.planned r_ := (rfl)
@[simp] theorem atLeast_stamp (k : Nat) (r_ : Nat) : (s.atLeast k).stamp r_ = s.stamp r_ := (rfl)
@[simp] theorem atLeast_fmRuns (k : Nat) : (s.atLeast k).fmRuns = s.fmRuns := (rfl)
@[simp] theorem atLeast_axisRec (k : Nat) (r_ : Nat) : (s.atLeast k).axisRec r_ = s.axisRec r_ := (rfl)
@[simp] theorem atLeast_schedRec (k : Nat) (r_ : Nat) : (s.atLeast k).schedRec r_ = s.schedRec r_ := (rfl)
@[simp] theorem atLeast_feedOf (k : Nat) (r_ : Nat) : (s.atLeast k).feedOf r_ = s.feedOf r_ := (rfl)
@[simp] theorem atLeast_feedOfChan (k : Nat) (r_ : Nat) : (s.atLeast k).feedOfChan r_ = s.feedOfChan r_ := (rfl)
@[simp] theorem atLeast_loopOf (k : Nat) (r_ : Nat) : (s.atLeast k).loopOf r_ = s.loopOf r_ := (rfl)
@[simp] theorem atLeast_protRec (k : Nat) (r_ : Nat) : (s.atLeast k).protRec r_ = s.protRec r_ := (rfl)
@[simp] theorem atLeast_axisSt (k : Nat) (r_ : AxisId) : (s.atLeast k).axisSt r_ = s.axisSt r_ := (rfl)
@[simp] theorem atLeast_axisOn (k : Nat) (r_ : AxisId) : (s.atLeast k).axisOn r_ = s.axisOn r_ := (rfl)
@[simp] theorem atLeast_opStat (k : Nat) (r_ : Nat) : (s.atLeast k).opStat r_ = s.opStat r_ := (rfl)
@[simp] theorem atLeast_opBusy (k : Nat) (r_ : Nat) : (s.atLeast k).opBusy r_ = s.opBusy r_ := (rfl)
@[simp] theorem atLeast_lastOp (k : Nat) (r_ : Nat) : (s.atLeast k).lastOp r_ = s.lastOp r_ := (rfl)

/-! ### freeNext -/

@[simp] theorem freeNext_variant : (s.freeNext).variant = s.variant := (rfl)
@[simp] theorem freeNext_power : (s.freeNext).power = s.power := (rfl)
@[simp] theorem freeNext_clock : (s.freeNext).clock = s.clock := (rfl)
@[simp] theorem freeNext_tsBase : (s.freeNext).tsBase = s.tsBase := (rfl)
@[simp] theorem freeNext_frame : (s.freeNext).frame = s.frame := (rfl)
@[simp] theorem freeNext_lastEngine : (s.freeNext).lastEngine = s.lastEngine := (rfl)
@[simp] theorem freeNext_lastMotion : (s.freeNext).lastMotion = s.lastMotion := (rfl)
@[simp] theorem freeNext_free : (s.freeNext).free = s.free + 1 := (rfl)
@[simp] theorem freeNext_regs : (s.freeNext).regs = s.regs := (rfl)
@[simp] theorem freeNext_fm : (s.freeNext).fm = s.fm := (rfl)
@[simp] theorem freeNext_box : (s.freeNext).box = s.box := (rfl)
@[simp] theorem freeNext_dies : (s.freeNext).dies = s.dies := (rfl)
@[simp] theorem freeNext_legs : (s.freeNext).legs = s.legs := (rfl)
@[simp] theorem freeNext_regions : (s.freeNext).regions = s.regions := (rfl)
@[simp] theorem freeNext_carriers : (s.freeNext).carriers = s.carriers := (rfl)
@[simp] theorem freeNext_wireTests : (s.freeNext).wireTests = s.wireTests := (rfl)
@[simp] theorem freeNext_leakTests : (s.freeNext).leakTests = s.leakTests := (rfl)
@[simp] theorem freeNext_seqs : (s.freeNext).seqs = s.seqs := (rfl)
@[simp] theorem freeNext_cores : (s.freeNext).cores = s.cores := (rfl)
@[simp] theorem freeNext_meas : (s.freeNext).meas = s.meas := (rfl)
@[simp] theorem freeNext_calRuns : (s.freeNext).calRuns = s.calRuns := (rfl)
@[simp] theorem freeNext_cmps : (s.freeNext).cmps = s.cmps := (rfl)
@[simp] theorem freeNext_audit : (s.freeNext).audit = s.audit := (rfl)
@[simp] theorem freeNext_inv : (s.freeNext).inv = s.inv := (rfl)
@[simp] theorem freeNext_invOp : (s.freeNext).invOp = s.invOp := (rfl)
@[simp] theorem freeNext_pins : (s.freeNext).pins = s.pins := (rfl)
@[simp] theorem freeNext_jtag : (s.freeNext).jtag = s.jtag := (rfl)
@[simp] theorem freeNext_engs : (s.freeNext).engs = s.engs := (rfl)
@[simp] theorem freeNext_engine : (s.freeNext).engine = s.engine := (rfl)
@[simp] theorem freeNext_axes : (s.freeNext).axes = s.axes := (rfl)
@[simp] theorem freeNext_chans : (s.freeNext).chans = s.chans := (rfl)
@[simp] theorem freeNext_compares : (s.freeNext).compares = s.compares := (rfl)
@[simp] theorem freeNext_larder : (s.freeNext).larder = s.larder := (rfl)
@[simp] theorem freeNext_ladder : (s.freeNext).ladder = s.ladder := (rfl)
@[simp] theorem freeNext_planner : (s.freeNext).planner = s.planner := (rfl)
@[simp] theorem freeNext_comps : (s.freeNext).comps = s.comps := (rfl)
@[simp] theorem freeNext_guard : (s.freeNext).guard = s.guard := (rfl)
@[simp] theorem freeNext_seq : (s.freeNext).seq = s.seq := (rfl)
@[simp] theorem freeNext_flash : (s.freeNext).flash = s.flash := (rfl)
@[simp] theorem freeNext_hp : (s.freeNext).hp = s.hp := (rfl)
@[simp] theorem freeNext_prt : (s.freeNext).prt = s.prt := (rfl)
@[simp] theorem freeNext_hatch : (s.freeNext).hatch = s.hatch := (rfl)
@[simp] theorem freeNext_stock : (s.freeNext).stock = s.stock := (rfl)
@[simp] theorem freeNext_access : (s.freeNext).access = s.access := (rfl)
@[simp] theorem freeNext_pending : (s.freeNext).pending = s.pending := (rfl)
@[simp] theorem freeNext_reg (r : Nat) : (s.freeNext).reg r = s.reg r := (rfl)
@[simp] theorem freeNext_fld (r : Fld) : (s.freeNext).fld r = s.fld r := (rfl)
@[simp] theorem freeNext_sfld (r : Fld) : (s.freeNext).sfld r = s.sfld r := (rfl)
@[simp] theorem freeNext_flag (r : Fld) : (s.freeNext).flag r = s.flag r := (rfl)
@[simp] theorem freeNext_live : (s.freeNext).live = s.live := (rfl)
@[simp] theorem freeNext_implemented (r_ : Nat) : (s.freeNext).implemented r_ = s.implemented r_ := (rfl)
@[simp] theorem freeNext_linked (r_ : Nat) : (s.freeNext).linked r_ = s.linked r_ := (rfl)
@[simp] theorem freeNext_reach (r_ : Nat) : (s.freeNext).reach r_ = s.reach r_ := (rfl)
@[simp] theorem freeNext_hasDie (r_ : Nat) : (s.freeNext).hasDie r_ = s.hasDie r_ := (rfl)
@[simp] theorem freeNext_hasAxis (r_ : Nat) : (s.freeNext).hasAxis r_ = s.hasAxis r_ := (rfl)
@[simp] theorem freeNext_planned (r_ : Nat) : (s.freeNext).planned r_ = s.planned r_ := (rfl)
@[simp] theorem freeNext_stamp (r_ : Nat) : (s.freeNext).stamp r_ = s.stamp r_ := (rfl)
@[simp] theorem freeNext_fmRuns : (s.freeNext).fmRuns = s.fmRuns := (rfl)
@[simp] theorem freeNext_axisRec (r_ : Nat) : (s.freeNext).axisRec r_ = s.axisRec r_ := (rfl)
@[simp] theorem freeNext_schedRec (r_ : Nat) : (s.freeNext).schedRec r_ = s.schedRec r_ := (rfl)
@[simp] theorem freeNext_feedOf (r_ : Nat) : (s.freeNext).feedOf r_ = s.feedOf r_ := (rfl)
@[simp] theorem freeNext_feedOfChan (r_ : Nat) : (s.freeNext).feedOfChan r_ = s.feedOfChan r_ := (rfl)
@[simp] theorem freeNext_loopOf (r_ : Nat) : (s.freeNext).loopOf r_ = s.loopOf r_ := (rfl)
@[simp] theorem freeNext_protRec (r_ : Nat) : (s.freeNext).protRec r_ = s.protRec r_ := (rfl)
@[simp] theorem freeNext_axisSt (r_ : AxisId) : (s.freeNext).axisSt r_ = s.axisSt r_ := (rfl)
@[simp] theorem freeNext_axisOn (r_ : AxisId) : (s.freeNext).axisOn r_ = s.axisOn r_ := (rfl)
@[simp] theorem freeNext_opStat (r_ : Nat) : (s.freeNext).opStat r_ = s.opStat r_ := (rfl)
@[simp] theorem freeNext_opBusy (r_ : Nat) : (s.freeNext).opBusy r_ = s.opBusy r_ := (rfl)
@[simp] theorem freeNext_lastOp (r_ : Nat) : (s.freeNext).lastOp r_ = s.lastOp r_ := (rfl)

/-! ### raiseLD -/

@[simp] theorem raiseLD_variant (c o : Nat) (a : Option Nat) : (s.raiseLD c o a).variant = s.variant := (rfl)
@[simp] theorem raiseLD_power (c o : Nat) (a : Option Nat) : (s.raiseLD c o a).power = s.power := (rfl)
@[simp] theorem raiseLD_clock (c o : Nat) (a : Option Nat) : (s.raiseLD c o a).clock = s.clock := (rfl)
@[simp] theorem raiseLD_tsBase (c o : Nat) (a : Option Nat) : (s.raiseLD c o a).tsBase = s.tsBase := (rfl)
@[simp] theorem raiseLD_frame (c o : Nat) (a : Option Nat) : (s.raiseLD c o a).frame = s.frame := (rfl)
@[simp] theorem raiseLD_lastEngine (c o : Nat) (a : Option Nat) : (s.raiseLD c o a).lastEngine = s.lastEngine := (rfl)
@[simp] theorem raiseLD_lastMotion (c o : Nat) (a : Option Nat) : (s.raiseLD c o a).lastMotion = s.lastMotion := (rfl)
@[simp] theorem raiseLD_free (c o : Nat) (a : Option Nat) : (s.raiseLD c o a).free = s.free := (rfl)
@[simp] theorem raiseLD_regs (c o : Nat) (a : Option Nat) : (s.raiseLD c o a).regs = s.regs := (rfl)
@[simp] theorem raiseLD_fm (c o : Nat) (a : Option Nat) : (s.raiseLD c o a).fm = { s.fm with inbox := s.fm.inbox ++ [⟨c, o, 0, a, s.clock, false⟩] } := (rfl)
@[simp] theorem raiseLD_box (c o : Nat) (a : Option Nat) : (s.raiseLD c o a).box = s.box := (rfl)
@[simp] theorem raiseLD_dies (c o : Nat) (a : Option Nat) : (s.raiseLD c o a).dies = s.dies := (rfl)
@[simp] theorem raiseLD_legs (c o : Nat) (a : Option Nat) : (s.raiseLD c o a).legs = s.legs := (rfl)
@[simp] theorem raiseLD_regions (c o : Nat) (a : Option Nat) : (s.raiseLD c o a).regions = s.regions := (rfl)
@[simp] theorem raiseLD_carriers (c o : Nat) (a : Option Nat) : (s.raiseLD c o a).carriers = s.carriers := (rfl)
@[simp] theorem raiseLD_wireTests (c o : Nat) (a : Option Nat) : (s.raiseLD c o a).wireTests = s.wireTests := (rfl)
@[simp] theorem raiseLD_leakTests (c o : Nat) (a : Option Nat) : (s.raiseLD c o a).leakTests = s.leakTests := (rfl)
@[simp] theorem raiseLD_seqs (c o : Nat) (a : Option Nat) : (s.raiseLD c o a).seqs = s.seqs := (rfl)
@[simp] theorem raiseLD_cores (c o : Nat) (a : Option Nat) : (s.raiseLD c o a).cores = s.cores := (rfl)
@[simp] theorem raiseLD_meas (c o : Nat) (a : Option Nat) : (s.raiseLD c o a).meas = s.meas := (rfl)
@[simp] theorem raiseLD_calRuns (c o : Nat) (a : Option Nat) : (s.raiseLD c o a).calRuns = s.calRuns := (rfl)
@[simp] theorem raiseLD_cmps (c o : Nat) (a : Option Nat) : (s.raiseLD c o a).cmps = s.cmps := (rfl)
@[simp] theorem raiseLD_audit (c o : Nat) (a : Option Nat) : (s.raiseLD c o a).audit = s.audit := (rfl)
@[simp] theorem raiseLD_inv (c o : Nat) (a : Option Nat) : (s.raiseLD c o a).inv = s.inv := (rfl)
@[simp] theorem raiseLD_invOp (c o : Nat) (a : Option Nat) : (s.raiseLD c o a).invOp = s.invOp := (rfl)
@[simp] theorem raiseLD_pins (c o : Nat) (a : Option Nat) : (s.raiseLD c o a).pins = s.pins := (rfl)
@[simp] theorem raiseLD_jtag (c o : Nat) (a : Option Nat) : (s.raiseLD c o a).jtag = s.jtag := (rfl)
@[simp] theorem raiseLD_engs (c o : Nat) (a : Option Nat) : (s.raiseLD c o a).engs = s.engs := (rfl)
@[simp] theorem raiseLD_engine (c o : Nat) (a : Option Nat) : (s.raiseLD c o a).engine = s.engine := (rfl)
@[simp] theorem raiseLD_axes (c o : Nat) (a : Option Nat) : (s.raiseLD c o a).axes = s.axes := (rfl)
@[simp] theorem raiseLD_chans (c o : Nat) (a : Option Nat) : (s.raiseLD c o a).chans = s.chans := (rfl)
@[simp] theorem raiseLD_compares (c o : Nat) (a : Option Nat) : (s.raiseLD c o a).compares = s.compares := (rfl)
@[simp] theorem raiseLD_larder (c o : Nat) (a : Option Nat) : (s.raiseLD c o a).larder = s.larder := (rfl)
@[simp] theorem raiseLD_ladder (c o : Nat) (a : Option Nat) : (s.raiseLD c o a).ladder = s.ladder := (rfl)
@[simp] theorem raiseLD_planner (c o : Nat) (a : Option Nat) : (s.raiseLD c o a).planner = s.planner := (rfl)
@[simp] theorem raiseLD_comps (c o : Nat) (a : Option Nat) : (s.raiseLD c o a).comps = s.comps := (rfl)
@[simp] theorem raiseLD_guard (c o : Nat) (a : Option Nat) : (s.raiseLD c o a).guard = s.guard := (rfl)
@[simp] theorem raiseLD_seq (c o : Nat) (a : Option Nat) : (s.raiseLD c o a).seq = s.seq := (rfl)
@[simp] theorem raiseLD_flash (c o : Nat) (a : Option Nat) : (s.raiseLD c o a).flash = s.flash := (rfl)
@[simp] theorem raiseLD_hp (c o : Nat) (a : Option Nat) : (s.raiseLD c o a).hp = s.hp := (rfl)
@[simp] theorem raiseLD_prt (c o : Nat) (a : Option Nat) : (s.raiseLD c o a).prt = s.prt := (rfl)
@[simp] theorem raiseLD_hatch (c o : Nat) (a : Option Nat) : (s.raiseLD c o a).hatch = s.hatch := (rfl)
@[simp] theorem raiseLD_stock (c o : Nat) (a : Option Nat) : (s.raiseLD c o a).stock = s.stock := (rfl)
@[simp] theorem raiseLD_access (c o : Nat) (a : Option Nat) : (s.raiseLD c o a).access = s.access := (rfl)
@[simp] theorem raiseLD_pending (c o : Nat) (a : Option Nat) : (s.raiseLD c o a).pending = s.pending := (rfl)
@[simp] theorem raiseLD_reg (c o : Nat) (a : Option Nat) (r : Nat) : (s.raiseLD c o a).reg r = s.reg r := (rfl)
@[simp] theorem raiseLD_fld (c o : Nat) (a : Option Nat) (r : Fld) : (s.raiseLD c o a).fld r = s.fld r := (rfl)
@[simp] theorem raiseLD_sfld (c o : Nat) (a : Option Nat) (r : Fld) : (s.raiseLD c o a).sfld r = s.sfld r := (rfl)
@[simp] theorem raiseLD_flag (c o : Nat) (a : Option Nat) (r : Fld) : (s.raiseLD c o a).flag r = s.flag r := (rfl)
@[simp] theorem raiseLD_live (c o : Nat) (a : Option Nat) : (s.raiseLD c o a).live = s.live := (rfl)
@[simp] theorem raiseLD_implemented (c o : Nat) (a : Option Nat) (r_ : Nat) : (s.raiseLD c o a).implemented r_ = s.implemented r_ := (rfl)
@[simp] theorem raiseLD_linked (c o : Nat) (a : Option Nat) (r_ : Nat) : (s.raiseLD c o a).linked r_ = s.linked r_ := (rfl)
@[simp] theorem raiseLD_reach (c o : Nat) (a : Option Nat) (r_ : Nat) : (s.raiseLD c o a).reach r_ = s.reach r_ := (rfl)
@[simp] theorem raiseLD_hasDie (c o : Nat) (a : Option Nat) (r_ : Nat) : (s.raiseLD c o a).hasDie r_ = s.hasDie r_ := (rfl)
@[simp] theorem raiseLD_hasAxis (c o : Nat) (a : Option Nat) (r_ : Nat) : (s.raiseLD c o a).hasAxis r_ = s.hasAxis r_ := (rfl)
@[simp] theorem raiseLD_planned (c o : Nat) (a : Option Nat) (r_ : Nat) : (s.raiseLD c o a).planned r_ = s.planned r_ := (rfl)
@[simp] theorem raiseLD_stamp (c o : Nat) (a : Option Nat) (r_ : Nat) : (s.raiseLD c o a).stamp r_ = s.stamp r_ := (rfl)
@[simp] theorem raiseLD_fmRuns (c o : Nat) (a : Option Nat) : (s.raiseLD c o a).fmRuns = s.fmRuns := (rfl)
@[simp] theorem raiseLD_axisRec (c o : Nat) (a : Option Nat) (r_ : Nat) : (s.raiseLD c o a).axisRec r_ = s.axisRec r_ := (rfl)
@[simp] theorem raiseLD_schedRec (c o : Nat) (a : Option Nat) (r_ : Nat) : (s.raiseLD c o a).schedRec r_ = s.schedRec r_ := (rfl)
@[simp] theorem raiseLD_feedOf (c o : Nat) (a : Option Nat) (r_ : Nat) : (s.raiseLD c o a).feedOf r_ = s.feedOf r_ := (rfl)
@[simp] theorem raiseLD_feedOfChan (c o : Nat) (a : Option Nat) (r_ : Nat) : (s.raiseLD c o a).feedOfChan r_ = s.feedOfChan r_ := (rfl)
@[simp] theorem raiseLD_loopOf (c o : Nat) (a : Option Nat) (r_ : Nat) : (s.raiseLD c o a).loopOf r_ = s.loopOf r_ := (rfl)
@[simp] theorem raiseLD_protRec (c o : Nat) (a : Option Nat) (r_ : Nat) : (s.raiseLD c o a).protRec r_ = s.protRec r_ := (rfl)
@[simp] theorem raiseLD_axisSt (c o : Nat) (a : Option Nat) (r_ : AxisId) : (s.raiseLD c o a).axisSt r_ = s.axisSt r_ := (rfl)
@[simp] theorem raiseLD_axisOn (c o : Nat) (a : Option Nat) (r_ : AxisId) : (s.raiseLD c o a).axisOn r_ = s.axisOn r_ := (rfl)
@[simp] theorem raiseLD_opStat (c o : Nat) (a : Option Nat) (r_ : Nat) : (s.raiseLD c o a).opStat r_ = s.opStat r_ := (rfl)
@[simp] theorem raiseLD_opBusy (c o : Nat) (a : Option Nat) (r_ : Nat) : (s.raiseLD c o a).opBusy r_ = s.opBusy r_ := (rfl)
@[simp] theorem raiseLD_lastOp (c o : Nat) (a : Option Nat) (r_ : Nat) : (s.raiseLD c o a).lastOp r_ = s.lastOp r_ := (rfl)

/-! ### raiseActed -/

@[simp] theorem raiseActed_variant (c o : Nat) (a : Option Nat) : (s.raiseActed c o a).variant = s.variant := (rfl)
@[simp] theorem raiseActed_power (c o : Nat) (a : Option Nat) : (s.raiseActed c o a).power = s.power := (rfl)
@[simp] theorem raiseActed_clock (c o : Nat) (a : Option Nat) : (s.raiseActed c o a).clock = s.clock := (rfl)
@[simp] theorem raiseActed_tsBase (c o : Nat) (a : Option Nat) : (s.raiseActed c o a).tsBase = s.tsBase := (rfl)
@[simp] theorem raiseActed_frame (c o : Nat) (a : Option Nat) : (s.raiseActed c o a).frame = s.frame := (rfl)
@[simp] theorem raiseActed_lastEngine (c o : Nat) (a : Option Nat) : (s.raiseActed c o a).lastEngine = s.lastEngine := (rfl)
@[simp] theorem raiseActed_lastMotion (c o : Nat) (a : Option Nat) : (s.raiseActed c o a).lastMotion = s.lastMotion := (rfl)
@[simp] theorem raiseActed_free (c o : Nat) (a : Option Nat) : (s.raiseActed c o a).free = s.free := (rfl)
@[simp] theorem raiseActed_regs (c o : Nat) (a : Option Nat) : (s.raiseActed c o a).regs = s.regs := (rfl)
@[simp] theorem raiseActed_fm (c o : Nat) (a : Option Nat) : (s.raiseActed c o a).fm = { s.fm with inbox := s.fm.inbox ++ [⟨c, o, 0, a, s.clock, true⟩] } := (rfl)
@[simp] theorem raiseActed_box (c o : Nat) (a : Option Nat) : (s.raiseActed c o a).box = s.box := (rfl)
@[simp] theorem raiseActed_dies (c o : Nat) (a : Option Nat) : (s.raiseActed c o a).dies = s.dies := (rfl)
@[simp] theorem raiseActed_legs (c o : Nat) (a : Option Nat) : (s.raiseActed c o a).legs = s.legs := (rfl)
@[simp] theorem raiseActed_regions (c o : Nat) (a : Option Nat) : (s.raiseActed c o a).regions = s.regions := (rfl)
@[simp] theorem raiseActed_carriers (c o : Nat) (a : Option Nat) : (s.raiseActed c o a).carriers = s.carriers := (rfl)
@[simp] theorem raiseActed_wireTests (c o : Nat) (a : Option Nat) : (s.raiseActed c o a).wireTests = s.wireTests := (rfl)
@[simp] theorem raiseActed_leakTests (c o : Nat) (a : Option Nat) : (s.raiseActed c o a).leakTests = s.leakTests := (rfl)
@[simp] theorem raiseActed_seqs (c o : Nat) (a : Option Nat) : (s.raiseActed c o a).seqs = s.seqs := (rfl)
@[simp] theorem raiseActed_cores (c o : Nat) (a : Option Nat) : (s.raiseActed c o a).cores = s.cores := (rfl)
@[simp] theorem raiseActed_meas (c o : Nat) (a : Option Nat) : (s.raiseActed c o a).meas = s.meas := (rfl)
@[simp] theorem raiseActed_calRuns (c o : Nat) (a : Option Nat) : (s.raiseActed c o a).calRuns = s.calRuns := (rfl)
@[simp] theorem raiseActed_cmps (c o : Nat) (a : Option Nat) : (s.raiseActed c o a).cmps = s.cmps := (rfl)
@[simp] theorem raiseActed_audit (c o : Nat) (a : Option Nat) : (s.raiseActed c o a).audit = s.audit := (rfl)
@[simp] theorem raiseActed_inv (c o : Nat) (a : Option Nat) : (s.raiseActed c o a).inv = s.inv := (rfl)
@[simp] theorem raiseActed_invOp (c o : Nat) (a : Option Nat) : (s.raiseActed c o a).invOp = s.invOp := (rfl)
@[simp] theorem raiseActed_pins (c o : Nat) (a : Option Nat) : (s.raiseActed c o a).pins = s.pins := (rfl)
@[simp] theorem raiseActed_jtag (c o : Nat) (a : Option Nat) : (s.raiseActed c o a).jtag = s.jtag := (rfl)
@[simp] theorem raiseActed_engs (c o : Nat) (a : Option Nat) : (s.raiseActed c o a).engs = s.engs := (rfl)
@[simp] theorem raiseActed_engine (c o : Nat) (a : Option Nat) : (s.raiseActed c o a).engine = s.engine := (rfl)
@[simp] theorem raiseActed_axes (c o : Nat) (a : Option Nat) : (s.raiseActed c o a).axes = s.axes := (rfl)
@[simp] theorem raiseActed_chans (c o : Nat) (a : Option Nat) : (s.raiseActed c o a).chans = s.chans := (rfl)
@[simp] theorem raiseActed_compares (c o : Nat) (a : Option Nat) : (s.raiseActed c o a).compares = s.compares := (rfl)
@[simp] theorem raiseActed_larder (c o : Nat) (a : Option Nat) : (s.raiseActed c o a).larder = s.larder := (rfl)
@[simp] theorem raiseActed_ladder (c o : Nat) (a : Option Nat) : (s.raiseActed c o a).ladder = s.ladder := (rfl)
@[simp] theorem raiseActed_planner (c o : Nat) (a : Option Nat) : (s.raiseActed c o a).planner = s.planner := (rfl)
@[simp] theorem raiseActed_comps (c o : Nat) (a : Option Nat) : (s.raiseActed c o a).comps = s.comps := (rfl)
@[simp] theorem raiseActed_guard (c o : Nat) (a : Option Nat) : (s.raiseActed c o a).guard = s.guard := (rfl)
@[simp] theorem raiseActed_seq (c o : Nat) (a : Option Nat) : (s.raiseActed c o a).seq = s.seq := (rfl)
@[simp] theorem raiseActed_flash (c o : Nat) (a : Option Nat) : (s.raiseActed c o a).flash = s.flash := (rfl)
@[simp] theorem raiseActed_hp (c o : Nat) (a : Option Nat) : (s.raiseActed c o a).hp = s.hp := (rfl)
@[simp] theorem raiseActed_prt (c o : Nat) (a : Option Nat) : (s.raiseActed c o a).prt = s.prt := (rfl)
@[simp] theorem raiseActed_hatch (c o : Nat) (a : Option Nat) : (s.raiseActed c o a).hatch = s.hatch := (rfl)
@[simp] theorem raiseActed_stock (c o : Nat) (a : Option Nat) : (s.raiseActed c o a).stock = s.stock := (rfl)
@[simp] theorem raiseActed_access (c o : Nat) (a : Option Nat) : (s.raiseActed c o a).access = s.access := (rfl)
@[simp] theorem raiseActed_pending (c o : Nat) (a : Option Nat) : (s.raiseActed c o a).pending = s.pending := (rfl)
@[simp] theorem raiseActed_reg (c o : Nat) (a : Option Nat) (r : Nat) : (s.raiseActed c o a).reg r = s.reg r := (rfl)
@[simp] theorem raiseActed_fld (c o : Nat) (a : Option Nat) (r : Fld) : (s.raiseActed c o a).fld r = s.fld r := (rfl)
@[simp] theorem raiseActed_sfld (c o : Nat) (a : Option Nat) (r : Fld) : (s.raiseActed c o a).sfld r = s.sfld r := (rfl)
@[simp] theorem raiseActed_flag (c o : Nat) (a : Option Nat) (r : Fld) : (s.raiseActed c o a).flag r = s.flag r := (rfl)
@[simp] theorem raiseActed_live (c o : Nat) (a : Option Nat) : (s.raiseActed c o a).live = s.live := (rfl)
@[simp] theorem raiseActed_implemented (c o : Nat) (a : Option Nat) (r_ : Nat) : (s.raiseActed c o a).implemented r_ = s.implemented r_ := (rfl)
@[simp] theorem raiseActed_linked (c o : Nat) (a : Option Nat) (r_ : Nat) : (s.raiseActed c o a).linked r_ = s.linked r_ := (rfl)
@[simp] theorem raiseActed_reach (c o : Nat) (a : Option Nat) (r_ : Nat) : (s.raiseActed c o a).reach r_ = s.reach r_ := (rfl)
@[simp] theorem raiseActed_hasDie (c o : Nat) (a : Option Nat) (r_ : Nat) : (s.raiseActed c o a).hasDie r_ = s.hasDie r_ := (rfl)
@[simp] theorem raiseActed_hasAxis (c o : Nat) (a : Option Nat) (r_ : Nat) : (s.raiseActed c o a).hasAxis r_ = s.hasAxis r_ := (rfl)
@[simp] theorem raiseActed_planned (c o : Nat) (a : Option Nat) (r_ : Nat) : (s.raiseActed c o a).planned r_ = s.planned r_ := (rfl)
@[simp] theorem raiseActed_stamp (c o : Nat) (a : Option Nat) (r_ : Nat) : (s.raiseActed c o a).stamp r_ = s.stamp r_ := (rfl)
@[simp] theorem raiseActed_fmRuns (c o : Nat) (a : Option Nat) : (s.raiseActed c o a).fmRuns = s.fmRuns := (rfl)
@[simp] theorem raiseActed_axisRec (c o : Nat) (a : Option Nat) (r_ : Nat) : (s.raiseActed c o a).axisRec r_ = s.axisRec r_ := (rfl)
@[simp] theorem raiseActed_schedRec (c o : Nat) (a : Option Nat) (r_ : Nat) : (s.raiseActed c o a).schedRec r_ = s.schedRec r_ := (rfl)
@[simp] theorem raiseActed_feedOf (c o : Nat) (a : Option Nat) (r_ : Nat) : (s.raiseActed c o a).feedOf r_ = s.feedOf r_ := (rfl)
@[simp] theorem raiseActed_feedOfChan (c o : Nat) (a : Option Nat) (r_ : Nat) : (s.raiseActed c o a).feedOfChan r_ = s.feedOfChan r_ := (rfl)
@[simp] theorem raiseActed_loopOf (c o : Nat) (a : Option Nat) (r_ : Nat) : (s.raiseActed c o a).loopOf r_ = s.loopOf r_ := (rfl)
@[simp] theorem raiseActed_protRec (c o : Nat) (a : Option Nat) (r_ : Nat) : (s.raiseActed c o a).protRec r_ = s.protRec r_ := (rfl)
@[simp] theorem raiseActed_axisSt (c o : Nat) (a : Option Nat) (r_ : AxisId) : (s.raiseActed c o a).axisSt r_ = s.axisSt r_ := (rfl)
@[simp] theorem raiseActed_axisOn (c o : Nat) (a : Option Nat) (r_ : AxisId) : (s.raiseActed c o a).axisOn r_ = s.axisOn r_ := (rfl)
@[simp] theorem raiseActed_opStat (c o : Nat) (a : Option Nat) (r_ : Nat) : (s.raiseActed c o a).opStat r_ = s.opStat r_ := (rfl)
@[simp] theorem raiseActed_opBusy (c o : Nat) (a : Option Nat) (r_ : Nat) : (s.raiseActed c o a).opBusy r_ = s.opBusy r_ := (rfl)
@[simp] theorem raiseActed_lastOp (c o : Nat) (a : Option Nat) (r_ : Nat) : (s.raiseActed c o a).lastOp r_ = s.lastOp r_ := (rfl)

/-! ### lifeAdd -/

@[simp] theorem lifeAdd_variant (i n : Nat) : (s.lifeAdd i n).variant = s.variant := (rfl)
@[simp] theorem lifeAdd_power (i n : Nat) : (s.lifeAdd i n).power = s.power := (rfl)
@[simp] theorem lifeAdd_clock (i n : Nat) : (s.lifeAdd i n).clock = s.clock := (rfl)
@[simp] theorem lifeAdd_tsBase (i n : Nat) : (s.lifeAdd i n).tsBase = s.tsBase := (rfl)
@[simp] theorem lifeAdd_frame (i n : Nat) : (s.lifeAdd i n).frame = s.frame := (rfl)
@[simp] theorem lifeAdd_lastEngine (i n : Nat) : (s.lifeAdd i n).lastEngine = s.lastEngine := (rfl)
@[simp] theorem lifeAdd_lastMotion (i n : Nat) : (s.lifeAdd i n).lastMotion = s.lastMotion := (rfl)
@[simp] theorem lifeAdd_free (i n : Nat) : (s.lifeAdd i n).free = s.free := (rfl)
@[simp] theorem lifeAdd_regs (i n : Nat) : (s.lifeAdd i n).regs = s.regs := (rfl)
@[simp] theorem lifeAdd_fm (i n : Nat) : (s.lifeAdd i n).fm = s.fm := (rfl)
@[simp] theorem lifeAdd_dies (i n : Nat) : (s.lifeAdd i n).dies = s.dies := (rfl)
@[simp] theorem lifeAdd_legs (i n : Nat) : (s.lifeAdd i n).legs = s.legs := (rfl)
@[simp] theorem lifeAdd_regions (i n : Nat) : (s.lifeAdd i n).regions = s.regions := (rfl)
@[simp] theorem lifeAdd_carriers (i n : Nat) : (s.lifeAdd i n).carriers = s.carriers := (rfl)
@[simp] theorem lifeAdd_wireTests (i n : Nat) : (s.lifeAdd i n).wireTests = s.wireTests := (rfl)
@[simp] theorem lifeAdd_leakTests (i n : Nat) : (s.lifeAdd i n).leakTests = s.leakTests := (rfl)
@[simp] theorem lifeAdd_seqs (i n : Nat) : (s.lifeAdd i n).seqs = s.seqs := (rfl)
@[simp] theorem lifeAdd_cores (i n : Nat) : (s.lifeAdd i n).cores = s.cores := (rfl)
@[simp] theorem lifeAdd_meas (i n : Nat) : (s.lifeAdd i n).meas = s.meas := (rfl)
@[simp] theorem lifeAdd_calRuns (i n : Nat) : (s.lifeAdd i n).calRuns = s.calRuns := (rfl)
@[simp] theorem lifeAdd_cmps (i n : Nat) : (s.lifeAdd i n).cmps = s.cmps := (rfl)
@[simp] theorem lifeAdd_audit (i n : Nat) : (s.lifeAdd i n).audit = s.audit := (rfl)
@[simp] theorem lifeAdd_inv (i n : Nat) : (s.lifeAdd i n).inv = s.inv := (rfl)
@[simp] theorem lifeAdd_invOp (i n : Nat) : (s.lifeAdd i n).invOp = s.invOp := (rfl)
@[simp] theorem lifeAdd_pins (i n : Nat) : (s.lifeAdd i n).pins = s.pins := (rfl)
@[simp] theorem lifeAdd_jtag (i n : Nat) : (s.lifeAdd i n).jtag = s.jtag := (rfl)
@[simp] theorem lifeAdd_engs (i n : Nat) : (s.lifeAdd i n).engs = s.engs := (rfl)
@[simp] theorem lifeAdd_engine (i n : Nat) : (s.lifeAdd i n).engine = s.engine := (rfl)
@[simp] theorem lifeAdd_axes (i n : Nat) : (s.lifeAdd i n).axes = s.axes := (rfl)
@[simp] theorem lifeAdd_chans (i n : Nat) : (s.lifeAdd i n).chans = s.chans := (rfl)
@[simp] theorem lifeAdd_compares (i n : Nat) : (s.lifeAdd i n).compares = s.compares := (rfl)
@[simp] theorem lifeAdd_larder (i n : Nat) : (s.lifeAdd i n).larder = s.larder := (rfl)
@[simp] theorem lifeAdd_ladder (i n : Nat) : (s.lifeAdd i n).ladder = s.ladder := (rfl)
@[simp] theorem lifeAdd_planner (i n : Nat) : (s.lifeAdd i n).planner = s.planner := (rfl)
@[simp] theorem lifeAdd_comps (i n : Nat) : (s.lifeAdd i n).comps = s.comps := (rfl)
@[simp] theorem lifeAdd_guard (i n : Nat) : (s.lifeAdd i n).guard = s.guard := (rfl)
@[simp] theorem lifeAdd_seq (i n : Nat) : (s.lifeAdd i n).seq = s.seq := (rfl)
@[simp] theorem lifeAdd_flash (i n : Nat) : (s.lifeAdd i n).flash = s.flash := (rfl)
@[simp] theorem lifeAdd_hp (i n : Nat) : (s.lifeAdd i n).hp = s.hp := (rfl)
@[simp] theorem lifeAdd_prt (i n : Nat) : (s.lifeAdd i n).prt = s.prt := (rfl)
@[simp] theorem lifeAdd_hatch (i n : Nat) : (s.lifeAdd i n).hatch = s.hatch := (rfl)
@[simp] theorem lifeAdd_stock (i n : Nat) : (s.lifeAdd i n).stock = s.stock := (rfl)
@[simp] theorem lifeAdd_access (i n : Nat) : (s.lifeAdd i n).access = s.access := (rfl)
@[simp] theorem lifeAdd_pending (i n : Nat) : (s.lifeAdd i n).pending = s.pending := (rfl)
@[simp] theorem lifeAdd_reg (i n : Nat) (r : Nat) : (s.lifeAdd i n).reg r = s.reg r := (rfl)
@[simp] theorem lifeAdd_fld (i n : Nat) (r : Fld) : (s.lifeAdd i n).fld r = s.fld r := (rfl)
@[simp] theorem lifeAdd_sfld (i n : Nat) (r : Fld) : (s.lifeAdd i n).sfld r = s.sfld r := (rfl)
@[simp] theorem lifeAdd_flag (i n : Nat) (r : Fld) : (s.lifeAdd i n).flag r = s.flag r := (rfl)
@[simp] theorem lifeAdd_live (i n : Nat) : (s.lifeAdd i n).live = s.live := (rfl)
@[simp] theorem lifeAdd_implemented (i n : Nat) (r_ : Nat) : (s.lifeAdd i n).implemented r_ = s.implemented r_ := (rfl)
@[simp] theorem lifeAdd_linked (i n : Nat) (r_ : Nat) : (s.lifeAdd i n).linked r_ = s.linked r_ := (rfl)
@[simp] theorem lifeAdd_reach (i n : Nat) (r_ : Nat) : (s.lifeAdd i n).reach r_ = s.reach r_ := (rfl)
@[simp] theorem lifeAdd_hasDie (i n : Nat) (r_ : Nat) : (s.lifeAdd i n).hasDie r_ = s.hasDie r_ := (rfl)
@[simp] theorem lifeAdd_hasAxis (i n : Nat) (r_ : Nat) : (s.lifeAdd i n).hasAxis r_ = s.hasAxis r_ := (rfl)
@[simp] theorem lifeAdd_planned (i n : Nat) (r_ : Nat) : (s.lifeAdd i n).planned r_ = s.planned r_ := (rfl)
@[simp] theorem lifeAdd_stamp (i n : Nat) (r_ : Nat) : (s.lifeAdd i n).stamp r_ = s.stamp r_ := (rfl)
@[simp] theorem lifeAdd_fmRuns (i n : Nat) : (s.lifeAdd i n).fmRuns = s.fmRuns := (rfl)
@[simp] theorem lifeAdd_axisRec (i n : Nat) (r_ : Nat) : (s.lifeAdd i n).axisRec r_ = s.axisRec r_ := (rfl)
@[simp] theorem lifeAdd_schedRec (i n : Nat) (r_ : Nat) : (s.lifeAdd i n).schedRec r_ = s.schedRec r_ := (rfl)
@[simp] theorem lifeAdd_feedOf (i n : Nat) (r_ : Nat) : (s.lifeAdd i n).feedOf r_ = s.feedOf r_ := (rfl)
@[simp] theorem lifeAdd_feedOfChan (i n : Nat) (r_ : Nat) : (s.lifeAdd i n).feedOfChan r_ = s.feedOfChan r_ := (rfl)
@[simp] theorem lifeAdd_loopOf (i n : Nat) (r_ : Nat) : (s.lifeAdd i n).loopOf r_ = s.loopOf r_ := (rfl)
@[simp] theorem lifeAdd_protRec (i n : Nat) (r_ : Nat) : (s.lifeAdd i n).protRec r_ = s.protRec r_ := (rfl)
@[simp] theorem lifeAdd_axisSt (i n : Nat) (r_ : AxisId) : (s.lifeAdd i n).axisSt r_ = s.axisSt r_ := (rfl)
@[simp] theorem lifeAdd_axisOn (i n : Nat) (r_ : AxisId) : (s.lifeAdd i n).axisOn r_ = s.axisOn r_ := (rfl)
@[simp] theorem lifeAdd_opStat (i n : Nat) (r_ : Nat) : (s.lifeAdd i n).opStat r_ = s.opStat r_ := (rfl)
@[simp] theorem lifeAdd_opBusy (i n : Nat) (r_ : Nat) : (s.lifeAdd i n).opBusy r_ = s.opBusy r_ := (rfl)
@[simp] theorem lifeAdd_lastOp (i n : Nat) (r_ : Nat) : (s.lifeAdd i n).lastOp r_ = s.lastOp r_ := (rfl)

/-! ### saveGroup -/

@[simp] theorem saveGroup_variant (i : Nat) (l : List Nat) : (s.saveGroup i l).variant = s.variant := (rfl)
@[simp] theorem saveGroup_power (i : Nat) (l : List Nat) : (s.saveGroup i l).power = s.power := (rfl)
@[simp] theorem saveGroup_clock (i : Nat) (l : List Nat) : (s.saveGroup i l).clock = s.clock := (rfl)
@[simp] theorem saveGroup_tsBase (i : Nat) (l : List Nat) : (s.saveGroup i l).tsBase = s.tsBase := (rfl)
@[simp] theorem saveGroup_frame (i : Nat) (l : List Nat) : (s.saveGroup i l).frame = s.frame := (rfl)
@[simp] theorem saveGroup_lastEngine (i : Nat) (l : List Nat) : (s.saveGroup i l).lastEngine = s.lastEngine := (rfl)
@[simp] theorem saveGroup_lastMotion (i : Nat) (l : List Nat) : (s.saveGroup i l).lastMotion = s.lastMotion := (rfl)
@[simp] theorem saveGroup_free (i : Nat) (l : List Nat) : (s.saveGroup i l).free = s.free := (rfl)
@[simp] theorem saveGroup_regs (i : Nat) (l : List Nat) : (s.saveGroup i l).regs = s.regs := (rfl)
@[simp] theorem saveGroup_fm (i : Nat) (l : List Nat) : (s.saveGroup i l).fm = s.fm := (rfl)
@[simp] theorem saveGroup_dies (i : Nat) (l : List Nat) : (s.saveGroup i l).dies = s.dies := (rfl)
@[simp] theorem saveGroup_legs (i : Nat) (l : List Nat) : (s.saveGroup i l).legs = s.legs := (rfl)
@[simp] theorem saveGroup_regions (i : Nat) (l : List Nat) : (s.saveGroup i l).regions = s.regions := (rfl)
@[simp] theorem saveGroup_carriers (i : Nat) (l : List Nat) : (s.saveGroup i l).carriers = s.carriers := (rfl)
@[simp] theorem saveGroup_wireTests (i : Nat) (l : List Nat) : (s.saveGroup i l).wireTests = s.wireTests := (rfl)
@[simp] theorem saveGroup_leakTests (i : Nat) (l : List Nat) : (s.saveGroup i l).leakTests = s.leakTests := (rfl)
@[simp] theorem saveGroup_seqs (i : Nat) (l : List Nat) : (s.saveGroup i l).seqs = s.seqs := (rfl)
@[simp] theorem saveGroup_cores (i : Nat) (l : List Nat) : (s.saveGroup i l).cores = s.cores := (rfl)
@[simp] theorem saveGroup_meas (i : Nat) (l : List Nat) : (s.saveGroup i l).meas = s.meas := (rfl)
@[simp] theorem saveGroup_calRuns (i : Nat) (l : List Nat) : (s.saveGroup i l).calRuns = s.calRuns := (rfl)
@[simp] theorem saveGroup_cmps (i : Nat) (l : List Nat) : (s.saveGroup i l).cmps = s.cmps := (rfl)
@[simp] theorem saveGroup_audit (i : Nat) (l : List Nat) : (s.saveGroup i l).audit = s.audit := (rfl)
@[simp] theorem saveGroup_inv (i : Nat) (l : List Nat) : (s.saveGroup i l).inv = s.inv := (rfl)
@[simp] theorem saveGroup_invOp (i : Nat) (l : List Nat) : (s.saveGroup i l).invOp = s.invOp := (rfl)
@[simp] theorem saveGroup_pins (i : Nat) (l : List Nat) : (s.saveGroup i l).pins = s.pins := (rfl)
@[simp] theorem saveGroup_jtag (i : Nat) (l : List Nat) : (s.saveGroup i l).jtag = s.jtag := (rfl)
@[simp] theorem saveGroup_engs (i : Nat) (l : List Nat) : (s.saveGroup i l).engs = s.engs := (rfl)
@[simp] theorem saveGroup_engine (i : Nat) (l : List Nat) : (s.saveGroup i l).engine = s.engine := (rfl)
@[simp] theorem saveGroup_axes (i : Nat) (l : List Nat) : (s.saveGroup i l).axes = s.axes := (rfl)
@[simp] theorem saveGroup_chans (i : Nat) (l : List Nat) : (s.saveGroup i l).chans = s.chans := (rfl)
@[simp] theorem saveGroup_compares (i : Nat) (l : List Nat) : (s.saveGroup i l).compares = s.compares := (rfl)
@[simp] theorem saveGroup_larder (i : Nat) (l : List Nat) : (s.saveGroup i l).larder = s.larder := (rfl)
@[simp] theorem saveGroup_ladder (i : Nat) (l : List Nat) : (s.saveGroup i l).ladder = s.ladder := (rfl)
@[simp] theorem saveGroup_planner (i : Nat) (l : List Nat) : (s.saveGroup i l).planner = s.planner := (rfl)
@[simp] theorem saveGroup_comps (i : Nat) (l : List Nat) : (s.saveGroup i l).comps = s.comps := (rfl)
@[simp] theorem saveGroup_guard (i : Nat) (l : List Nat) : (s.saveGroup i l).guard = s.guard := (rfl)
@[simp] theorem saveGroup_seq (i : Nat) (l : List Nat) : (s.saveGroup i l).seq = s.seq := (rfl)
@[simp] theorem saveGroup_flash (i : Nat) (l : List Nat) : (s.saveGroup i l).flash = s.flash := (rfl)
@[simp] theorem saveGroup_hp (i : Nat) (l : List Nat) : (s.saveGroup i l).hp = s.hp := (rfl)
@[simp] theorem saveGroup_prt (i : Nat) (l : List Nat) : (s.saveGroup i l).prt = s.prt := (rfl)
@[simp] theorem saveGroup_hatch (i : Nat) (l : List Nat) : (s.saveGroup i l).hatch = s.hatch := (rfl)
@[simp] theorem saveGroup_stock (i : Nat) (l : List Nat) : (s.saveGroup i l).stock = s.stock := (rfl)
@[simp] theorem saveGroup_access (i : Nat) (l : List Nat) : (s.saveGroup i l).access = s.access := (rfl)
@[simp] theorem saveGroup_pending (i : Nat) (l : List Nat) : (s.saveGroup i l).pending = s.pending := (rfl)
@[simp] theorem saveGroup_reg (i : Nat) (l : List Nat) (r : Nat) : (s.saveGroup i l).reg r = s.reg r := (rfl)
@[simp] theorem saveGroup_fld (i : Nat) (l : List Nat) (r : Fld) : (s.saveGroup i l).fld r = s.fld r := (rfl)
@[simp] theorem saveGroup_sfld (i : Nat) (l : List Nat) (r : Fld) : (s.saveGroup i l).sfld r = s.sfld r := (rfl)
@[simp] theorem saveGroup_flag (i : Nat) (l : List Nat) (r : Fld) : (s.saveGroup i l).flag r = s.flag r := (rfl)
@[simp] theorem saveGroup_live (i : Nat) (l : List Nat) : (s.saveGroup i l).live = s.live := (rfl)
@[simp] theorem saveGroup_implemented (i : Nat) (l : List Nat) (r_ : Nat) : (s.saveGroup i l).implemented r_ = s.implemented r_ := (rfl)
@[simp] theorem saveGroup_linked (i : Nat) (l : List Nat) (r_ : Nat) : (s.saveGroup i l).linked r_ = s.linked r_ := (rfl)
@[simp] theorem saveGroup_reach (i : Nat) (l : List Nat) (r_ : Nat) : (s.saveGroup i l).reach r_ = s.reach r_ := (rfl)
@[simp] theorem saveGroup_hasDie (i : Nat) (l : List Nat) (r_ : Nat) : (s.saveGroup i l).hasDie r_ = s.hasDie r_ := (rfl)
@[simp] theorem saveGroup_hasAxis (i : Nat) (l : List Nat) (r_ : Nat) : (s.saveGroup i l).hasAxis r_ = s.hasAxis r_ := (rfl)
@[simp] theorem saveGroup_planned (i : Nat) (l : List Nat) (r_ : Nat) : (s.saveGroup i l).planned r_ = s.planned r_ := (rfl)
@[simp] theorem saveGroup_stamp (i : Nat) (l : List Nat) (r_ : Nat) : (s.saveGroup i l).stamp r_ = s.stamp r_ := (rfl)
@[simp] theorem saveGroup_fmRuns (i : Nat) (l : List Nat) : (s.saveGroup i l).fmRuns = s.fmRuns := (rfl)
@[simp] theorem saveGroup_axisRec (i : Nat) (l : List Nat) (r_ : Nat) : (s.saveGroup i l).axisRec r_ = s.axisRec r_ := (rfl)
@[simp] theorem saveGroup_schedRec (i : Nat) (l : List Nat) (r_ : Nat) : (s.saveGroup i l).schedRec r_ = s.schedRec r_ := (rfl)
@[simp] theorem saveGroup_feedOf (i : Nat) (l : List Nat) (r_ : Nat) : (s.saveGroup i l).feedOf r_ = s.feedOf r_ := (rfl)
@[simp] theorem saveGroup_feedOfChan (i : Nat) (l : List Nat) (r_ : Nat) : (s.saveGroup i l).feedOfChan r_ = s.feedOfChan r_ := (rfl)
@[simp] theorem saveGroup_loopOf (i : Nat) (l : List Nat) (r_ : Nat) : (s.saveGroup i l).loopOf r_ = s.loopOf r_ := (rfl)
@[simp] theorem saveGroup_protRec (i : Nat) (l : List Nat) (r_ : Nat) : (s.saveGroup i l).protRec r_ = s.protRec r_ := (rfl)
@[simp] theorem saveGroup_axisSt (i : Nat) (l : List Nat) (r_ : AxisId) : (s.saveGroup i l).axisSt r_ = s.axisSt r_ := (rfl)
@[simp] theorem saveGroup_axisOn (i : Nat) (l : List Nat) (r_ : AxisId) : (s.saveGroup i l).axisOn r_ = s.axisOn r_ := (rfl)
@[simp] theorem saveGroup_opStat (i : Nat) (l : List Nat) (r_ : Nat) : (s.saveGroup i l).opStat r_ = s.opStat r_ := (rfl)
@[simp] theorem saveGroup_opBusy (i : Nat) (l : List Nat) (r_ : Nat) : (s.saveGroup i l).opBusy r_ = s.opBusy r_ := (rfl)
@[simp] theorem saveGroup_lastOp (i : Nat) (l : List Nat) (r_ : Nat) : (s.saveGroup i l).lastOp r_ = s.lastOp r_ := (rfl)

/-! ### ask -/

@[simp] theorem ask_variant (c : Nat) (u : LineUser) (l : List Nat) : (s.ask c u l).variant = s.variant := (rfl)
@[simp] theorem ask_power (c : Nat) (u : LineUser) (l : List Nat) : (s.ask c u l).power = s.power := (rfl)
@[simp] theorem ask_clock (c : Nat) (u : LineUser) (l : List Nat) : (s.ask c u l).clock = s.clock := (rfl)
@[simp] theorem ask_tsBase (c : Nat) (u : LineUser) (l : List Nat) : (s.ask c u l).tsBase = s.tsBase := (rfl)
@[simp] theorem ask_frame (c : Nat) (u : LineUser) (l : List Nat) : (s.ask c u l).frame = s.frame := (rfl)
@[simp] theorem ask_lastEngine (c : Nat) (u : LineUser) (l : List Nat) : (s.ask c u l).lastEngine = s.lastEngine := (rfl)
@[simp] theorem ask_lastMotion (c : Nat) (u : LineUser) (l : List Nat) : (s.ask c u l).lastMotion = s.lastMotion := (rfl)
@[simp] theorem ask_free (c : Nat) (u : LineUser) (l : List Nat) : (s.ask c u l).free = s.free := (rfl)
@[simp] theorem ask_regs (c : Nat) (u : LineUser) (l : List Nat) : (s.ask c u l).regs = s.regs := (rfl)
@[simp] theorem ask_fm (c : Nat) (u : LineUser) (l : List Nat) : (s.ask c u l).fm = s.fm := (rfl)
@[simp] theorem ask_box (c : Nat) (u : LineUser) (l : List Nat) : (s.ask c u l).box = s.box := (rfl)
@[simp] theorem ask_dies (c : Nat) (u : LineUser) (l : List Nat) : (s.ask c u l).dies = s.dies := (rfl)
@[simp] theorem ask_legs (c : Nat) (u : LineUser) (l : List Nat) : (s.ask c u l).legs = s.legs := (rfl)
@[simp] theorem ask_regions (c : Nat) (u : LineUser) (l : List Nat) : (s.ask c u l).regions = s.regions := (rfl)
@[simp] theorem ask_carriers (c : Nat) (u : LineUser) (l : List Nat) : (s.ask c u l).carriers = s.carriers := (rfl)
@[simp] theorem ask_wireTests (c : Nat) (u : LineUser) (l : List Nat) : (s.ask c u l).wireTests = s.wireTests := (rfl)
@[simp] theorem ask_leakTests (c : Nat) (u : LineUser) (l : List Nat) : (s.ask c u l).leakTests = s.leakTests := (rfl)
@[simp] theorem ask_seqs (c : Nat) (u : LineUser) (l : List Nat) : (s.ask c u l).seqs = s.seqs := (rfl)
@[simp] theorem ask_cores (c : Nat) (u : LineUser) (l : List Nat) : (s.ask c u l).cores = s.cores := (rfl)
@[simp] theorem ask_meas (c : Nat) (u : LineUser) (l : List Nat) : (s.ask c u l).meas = s.meas := (rfl)
@[simp] theorem ask_calRuns (c : Nat) (u : LineUser) (l : List Nat) : (s.ask c u l).calRuns = s.calRuns := (rfl)
@[simp] theorem ask_cmps (c : Nat) (u : LineUser) (l : List Nat) : (s.ask c u l).cmps = s.cmps := (rfl)
@[simp] theorem ask_audit (c : Nat) (u : LineUser) (l : List Nat) : (s.ask c u l).audit = s.audit := (rfl)
@[simp] theorem ask_inv (c : Nat) (u : LineUser) (l : List Nat) : (s.ask c u l).inv = s.inv := (rfl)
@[simp] theorem ask_invOp (c : Nat) (u : LineUser) (l : List Nat) : (s.ask c u l).invOp = s.invOp := (rfl)
@[simp] theorem ask_pins (c : Nat) (u : LineUser) (l : List Nat) : (s.ask c u l).pins = s.pins := (rfl)
@[simp] theorem ask_jtag (c : Nat) (u : LineUser) (l : List Nat) : (s.ask c u l).jtag = s.jtag := (rfl)
@[simp] theorem ask_engs (c : Nat) (u : LineUser) (l : List Nat) : (s.ask c u l).engs = s.engs := (rfl)
@[simp] theorem ask_engine (c : Nat) (u : LineUser) (l : List Nat) : (s.ask c u l).engine = s.engine := (rfl)
@[simp] theorem ask_axes (c : Nat) (u : LineUser) (l : List Nat) : (s.ask c u l).axes = s.axes := (rfl)
@[simp] theorem ask_chans (c : Nat) (u : LineUser) (l : List Nat) : (s.ask c u l).chans = s.chans := (rfl)
@[simp] theorem ask_compares (c : Nat) (u : LineUser) (l : List Nat) : (s.ask c u l).compares = s.compares := (rfl)
@[simp] theorem ask_ladder (c : Nat) (u : LineUser) (l : List Nat) : (s.ask c u l).ladder = s.ladder := (rfl)
@[simp] theorem ask_planner (c : Nat) (u : LineUser) (l : List Nat) : (s.ask c u l).planner = s.planner := (rfl)
@[simp] theorem ask_comps (c : Nat) (u : LineUser) (l : List Nat) : (s.ask c u l).comps = s.comps := (rfl)
@[simp] theorem ask_guard (c : Nat) (u : LineUser) (l : List Nat) : (s.ask c u l).guard = s.guard := (rfl)
@[simp] theorem ask_seq (c : Nat) (u : LineUser) (l : List Nat) : (s.ask c u l).seq = s.seq := (rfl)
@[simp] theorem ask_flash (c : Nat) (u : LineUser) (l : List Nat) : (s.ask c u l).flash = s.flash := (rfl)
@[simp] theorem ask_hp (c : Nat) (u : LineUser) (l : List Nat) : (s.ask c u l).hp = s.hp := (rfl)
@[simp] theorem ask_prt (c : Nat) (u : LineUser) (l : List Nat) : (s.ask c u l).prt = s.prt := (rfl)
@[simp] theorem ask_hatch (c : Nat) (u : LineUser) (l : List Nat) : (s.ask c u l).hatch = s.hatch := (rfl)
@[simp] theorem ask_stock (c : Nat) (u : LineUser) (l : List Nat) : (s.ask c u l).stock = s.stock := (rfl)
@[simp] theorem ask_access (c : Nat) (u : LineUser) (l : List Nat) : (s.ask c u l).access = s.access := (rfl)
@[simp] theorem ask_pending (c : Nat) (u : LineUser) (l : List Nat) : (s.ask c u l).pending = s.pending := (rfl)
@[simp] theorem ask_reg (c : Nat) (u : LineUser) (l : List Nat) (r : Nat) : (s.ask c u l).reg r = s.reg r := (rfl)
@[simp] theorem ask_fld (c : Nat) (u : LineUser) (l : List Nat) (r : Fld) : (s.ask c u l).fld r = s.fld r := (rfl)
@[simp] theorem ask_sfld (c : Nat) (u : LineUser) (l : List Nat) (r : Fld) : (s.ask c u l).sfld r = s.sfld r := (rfl)
@[simp] theorem ask_flag (c : Nat) (u : LineUser) (l : List Nat) (r : Fld) : (s.ask c u l).flag r = s.flag r := (rfl)
@[simp] theorem ask_live (c : Nat) (u : LineUser) (l : List Nat) : (s.ask c u l).live = s.live := (rfl)
@[simp] theorem ask_implemented (c : Nat) (u : LineUser) (l : List Nat) (r_ : Nat) : (s.ask c u l).implemented r_ = s.implemented r_ := (rfl)
@[simp] theorem ask_linked (c : Nat) (u : LineUser) (l : List Nat) (r_ : Nat) : (s.ask c u l).linked r_ = s.linked r_ := (rfl)
@[simp] theorem ask_reach (c : Nat) (u : LineUser) (l : List Nat) (r_ : Nat) : (s.ask c u l).reach r_ = s.reach r_ := (rfl)
@[simp] theorem ask_hasDie (c : Nat) (u : LineUser) (l : List Nat) (r_ : Nat) : (s.ask c u l).hasDie r_ = s.hasDie r_ := (rfl)
@[simp] theorem ask_hasAxis (c : Nat) (u : LineUser) (l : List Nat) (r_ : Nat) : (s.ask c u l).hasAxis r_ = s.hasAxis r_ := (rfl)
@[simp] theorem ask_planned (c : Nat) (u : LineUser) (l : List Nat) (r_ : Nat) : (s.ask c u l).planned r_ = s.planned r_ := (rfl)
@[simp] theorem ask_stamp (c : Nat) (u : LineUser) (l : List Nat) (r_ : Nat) : (s.ask c u l).stamp r_ = s.stamp r_ := (rfl)
@[simp] theorem ask_fmRuns (c : Nat) (u : LineUser) (l : List Nat) : (s.ask c u l).fmRuns = s.fmRuns := (rfl)
@[simp] theorem ask_axisRec (c : Nat) (u : LineUser) (l : List Nat) (r_ : Nat) : (s.ask c u l).axisRec r_ = s.axisRec r_ := (rfl)
@[simp] theorem ask_schedRec (c : Nat) (u : LineUser) (l : List Nat) (r_ : Nat) : (s.ask c u l).schedRec r_ = s.schedRec r_ := (rfl)
@[simp] theorem ask_feedOf (c : Nat) (u : LineUser) (l : List Nat) (r_ : Nat) : (s.ask c u l).feedOf r_ = s.feedOf r_ := (rfl)
@[simp] theorem ask_feedOfChan (c : Nat) (u : LineUser) (l : List Nat) (r_ : Nat) : (s.ask c u l).feedOfChan r_ = s.feedOfChan r_ := (rfl)
@[simp] theorem ask_loopOf (c : Nat) (u : LineUser) (l : List Nat) (r_ : Nat) : (s.ask c u l).loopOf r_ = s.loopOf r_ := (rfl)
@[simp] theorem ask_protRec (c : Nat) (u : LineUser) (l : List Nat) (r_ : Nat) : (s.ask c u l).protRec r_ = s.protRec r_ := (rfl)
@[simp] theorem ask_axisSt (c : Nat) (u : LineUser) (l : List Nat) (r_ : AxisId) : (s.ask c u l).axisSt r_ = s.axisSt r_ := (rfl)
@[simp] theorem ask_axisOn (c : Nat) (u : LineUser) (l : List Nat) (r_ : AxisId) : (s.ask c u l).axisOn r_ = s.axisOn r_ := (rfl)
@[simp] theorem ask_opStat (c : Nat) (u : LineUser) (l : List Nat) (r_ : Nat) : (s.ask c u l).opStat r_ = s.opStat r_ := (rfl)
@[simp] theorem ask_opBusy (c : Nat) (u : LineUser) (l : List Nat) (r_ : Nat) : (s.ask c u l).opBusy r_ = s.opBusy r_ := (rfl)
@[simp] theorem ask_lastOp (c : Nat) (u : LineUser) (l : List Nat) (r_ : Nat) : (s.ask c u l).lastOp r_ = s.lastOp r_ := (rfl)

/-! ### unask -/

@[simp] theorem unask_variant (u : LineUser) : (s.unask u).variant = s.variant := (rfl)
@[simp] theorem unask_power (u : LineUser) : (s.unask u).power = s.power := (rfl)
@[simp] theorem unask_clock (u : LineUser) : (s.unask u).clock = s.clock := (rfl)
@[simp] theorem unask_tsBase (u : LineUser) : (s.unask u).tsBase = s.tsBase := (rfl)
@[simp] theorem unask_frame (u : LineUser) : (s.unask u).frame = s.frame := (rfl)
@[simp] theorem unask_lastEngine (u : LineUser) : (s.unask u).lastEngine = s.lastEngine := (rfl)
@[simp] theorem unask_lastMotion (u : LineUser) : (s.unask u).lastMotion = s.lastMotion := (rfl)
@[simp] theorem unask_free (u : LineUser) : (s.unask u).free = s.free := (rfl)
@[simp] theorem unask_regs (u : LineUser) : (s.unask u).regs = s.regs := (rfl)
@[simp] theorem unask_fm (u : LineUser) : (s.unask u).fm = s.fm := (rfl)
@[simp] theorem unask_box (u : LineUser) : (s.unask u).box = s.box := (rfl)
@[simp] theorem unask_dies (u : LineUser) : (s.unask u).dies = s.dies := (rfl)
@[simp] theorem unask_legs (u : LineUser) : (s.unask u).legs = s.legs := (rfl)
@[simp] theorem unask_regions (u : LineUser) : (s.unask u).regions = s.regions := (rfl)
@[simp] theorem unask_carriers (u : LineUser) : (s.unask u).carriers = s.carriers := (rfl)
@[simp] theorem unask_wireTests (u : LineUser) : (s.unask u).wireTests = s.wireTests := (rfl)
@[simp] theorem unask_leakTests (u : LineUser) : (s.unask u).leakTests = s.leakTests := (rfl)
@[simp] theorem unask_seqs (u : LineUser) : (s.unask u).seqs = s.seqs := (rfl)
@[simp] theorem unask_cores (u : LineUser) : (s.unask u).cores = s.cores := (rfl)
@[simp] theorem unask_meas (u : LineUser) : (s.unask u).meas = s.meas := (rfl)
@[simp] theorem unask_calRuns (u : LineUser) : (s.unask u).calRuns = s.calRuns := (rfl)
@[simp] theorem unask_cmps (u : LineUser) : (s.unask u).cmps = s.cmps := (rfl)
@[simp] theorem unask_audit (u : LineUser) : (s.unask u).audit = s.audit := (rfl)
@[simp] theorem unask_inv (u : LineUser) : (s.unask u).inv = s.inv := (rfl)
@[simp] theorem unask_invOp (u : LineUser) : (s.unask u).invOp = s.invOp := (rfl)
@[simp] theorem unask_pins (u : LineUser) : (s.unask u).pins = s.pins := (rfl)
@[simp] theorem unask_jtag (u : LineUser) : (s.unask u).jtag = s.jtag := (rfl)
@[simp] theorem unask_engs (u : LineUser) : (s.unask u).engs = s.engs := (rfl)
@[simp] theorem unask_engine (u : LineUser) : (s.unask u).engine = s.engine := (rfl)
@[simp] theorem unask_axes (u : LineUser) : (s.unask u).axes = s.axes := (rfl)
@[simp] theorem unask_chans (u : LineUser) : (s.unask u).chans = s.chans := (rfl)
@[simp] theorem unask_compares (u : LineUser) : (s.unask u).compares = s.compares := (rfl)
@[simp] theorem unask_ladder (u : LineUser) : (s.unask u).ladder = s.ladder := (rfl)
@[simp] theorem unask_planner (u : LineUser) : (s.unask u).planner = s.planner := (rfl)
@[simp] theorem unask_comps (u : LineUser) : (s.unask u).comps = s.comps := (rfl)
@[simp] theorem unask_guard (u : LineUser) : (s.unask u).guard = s.guard := (rfl)
@[simp] theorem unask_seq (u : LineUser) : (s.unask u).seq = s.seq := (rfl)
@[simp] theorem unask_flash (u : LineUser) : (s.unask u).flash = s.flash := (rfl)
@[simp] theorem unask_hp (u : LineUser) : (s.unask u).hp = s.hp := (rfl)
@[simp] theorem unask_prt (u : LineUser) : (s.unask u).prt = s.prt := (rfl)
@[simp] theorem unask_hatch (u : LineUser) : (s.unask u).hatch = s.hatch := (rfl)
@[simp] theorem unask_stock (u : LineUser) : (s.unask u).stock = s.stock := (rfl)
@[simp] theorem unask_access (u : LineUser) : (s.unask u).access = s.access := (rfl)
@[simp] theorem unask_pending (u : LineUser) : (s.unask u).pending = s.pending := (rfl)
@[simp] theorem unask_reg (u : LineUser) (r : Nat) : (s.unask u).reg r = s.reg r := (rfl)
@[simp] theorem unask_fld (u : LineUser) (r : Fld) : (s.unask u).fld r = s.fld r := (rfl)
@[simp] theorem unask_sfld (u : LineUser) (r : Fld) : (s.unask u).sfld r = s.sfld r := (rfl)
@[simp] theorem unask_flag (u : LineUser) (r : Fld) : (s.unask u).flag r = s.flag r := (rfl)
@[simp] theorem unask_live (u : LineUser) : (s.unask u).live = s.live := (rfl)
@[simp] theorem unask_implemented (u : LineUser) (r_ : Nat) : (s.unask u).implemented r_ = s.implemented r_ := (rfl)
@[simp] theorem unask_linked (u : LineUser) (r_ : Nat) : (s.unask u).linked r_ = s.linked r_ := (rfl)
@[simp] theorem unask_reach (u : LineUser) (r_ : Nat) : (s.unask u).reach r_ = s.reach r_ := (rfl)
@[simp] theorem unask_hasDie (u : LineUser) (r_ : Nat) : (s.unask u).hasDie r_ = s.hasDie r_ := (rfl)
@[simp] theorem unask_hasAxis (u : LineUser) (r_ : Nat) : (s.unask u).hasAxis r_ = s.hasAxis r_ := (rfl)
@[simp] theorem unask_planned (u : LineUser) (r_ : Nat) : (s.unask u).planned r_ = s.planned r_ := (rfl)
@[simp] theorem unask_stamp (u : LineUser) (r_ : Nat) : (s.unask u).stamp r_ = s.stamp r_ := (rfl)
@[simp] theorem unask_fmRuns (u : LineUser) : (s.unask u).fmRuns = s.fmRuns := (rfl)
@[simp] theorem unask_axisRec (u : LineUser) (r_ : Nat) : (s.unask u).axisRec r_ = s.axisRec r_ := (rfl)
@[simp] theorem unask_schedRec (u : LineUser) (r_ : Nat) : (s.unask u).schedRec r_ = s.schedRec r_ := (rfl)
@[simp] theorem unask_feedOf (u : LineUser) (r_ : Nat) : (s.unask u).feedOf r_ = s.feedOf r_ := (rfl)
@[simp] theorem unask_feedOfChan (u : LineUser) (r_ : Nat) : (s.unask u).feedOfChan r_ = s.feedOfChan r_ := (rfl)
@[simp] theorem unask_loopOf (u : LineUser) (r_ : Nat) : (s.unask u).loopOf r_ = s.loopOf r_ := (rfl)
@[simp] theorem unask_protRec (u : LineUser) (r_ : Nat) : (s.unask u).protRec r_ = s.protRec r_ := (rfl)
@[simp] theorem unask_axisSt (u : LineUser) (r_ : AxisId) : (s.unask u).axisSt r_ = s.axisSt r_ := (rfl)
@[simp] theorem unask_axisOn (u : LineUser) (r_ : AxisId) : (s.unask u).axisOn r_ = s.axisOn r_ := (rfl)
@[simp] theorem unask_opStat (u : LineUser) (r_ : Nat) : (s.unask u).opStat r_ = s.opStat r_ := (rfl)
@[simp] theorem unask_opBusy (u : LineUser) (r_ : Nat) : (s.unask u).opBusy r_ = s.opBusy r_ := (rfl)
@[simp] theorem unask_lastOp (u : LineUser) (r_ : Nat) : (s.unask u).lastOp r_ = s.lastOp r_ := (rfl)

/-! ### setReg -/

@[simp] theorem setReg_variant (k : Nat) (w : Word) : (s.setReg k w).variant = s.variant := (rfl)
@[simp] theorem setReg_power (k : Nat) (w : Word) : (s.setReg k w).power = s.power := (rfl)
@[simp] theorem setReg_clock (k : Nat) (w : Word) : (s.setReg k w).clock = s.clock := (rfl)
@[simp] theorem setReg_tsBase (k : Nat) (w : Word) : (s.setReg k w).tsBase = s.tsBase := (rfl)
@[simp] theorem setReg_frame (k : Nat) (w : Word) : (s.setReg k w).frame = s.frame := (rfl)
@[simp] theorem setReg_lastEngine (k : Nat) (w : Word) : (s.setReg k w).lastEngine = s.lastEngine := (rfl)
@[simp] theorem setReg_lastMotion (k : Nat) (w : Word) : (s.setReg k w).lastMotion = s.lastMotion := (rfl)
@[simp] theorem setReg_free (k : Nat) (w : Word) : (s.setReg k w).free = s.free := (rfl)
@[simp] theorem setReg_fm (k : Nat) (w : Word) : (s.setReg k w).fm = s.fm := (rfl)
@[simp] theorem setReg_box (k : Nat) (w : Word) : (s.setReg k w).box = s.box := (rfl)
@[simp] theorem setReg_dies (k : Nat) (w : Word) : (s.setReg k w).dies = s.dies := (rfl)
@[simp] theorem setReg_legs (k : Nat) (w : Word) : (s.setReg k w).legs = s.legs := (rfl)
@[simp] theorem setReg_regions (k : Nat) (w : Word) : (s.setReg k w).regions = s.regions := (rfl)
@[simp] theorem setReg_carriers (k : Nat) (w : Word) : (s.setReg k w).carriers = s.carriers := (rfl)
@[simp] theorem setReg_wireTests (k : Nat) (w : Word) : (s.setReg k w).wireTests = s.wireTests := (rfl)
@[simp] theorem setReg_leakTests (k : Nat) (w : Word) : (s.setReg k w).leakTests = s.leakTests := (rfl)
@[simp] theorem setReg_seqs (k : Nat) (w : Word) : (s.setReg k w).seqs = s.seqs := (rfl)
@[simp] theorem setReg_cores (k : Nat) (w : Word) : (s.setReg k w).cores = s.cores := (rfl)
@[simp] theorem setReg_meas (k : Nat) (w : Word) : (s.setReg k w).meas = s.meas := (rfl)
@[simp] theorem setReg_calRuns (k : Nat) (w : Word) : (s.setReg k w).calRuns = s.calRuns := (rfl)
@[simp] theorem setReg_cmps (k : Nat) (w : Word) : (s.setReg k w).cmps = s.cmps := (rfl)
@[simp] theorem setReg_audit (k : Nat) (w : Word) : (s.setReg k w).audit = s.audit := (rfl)
@[simp] theorem setReg_inv (k : Nat) (w : Word) : (s.setReg k w).inv = s.inv := (rfl)
@[simp] theorem setReg_invOp (k : Nat) (w : Word) : (s.setReg k w).invOp = s.invOp := (rfl)
@[simp] theorem setReg_pins (k : Nat) (w : Word) : (s.setReg k w).pins = s.pins := (rfl)
@[simp] theorem setReg_jtag (k : Nat) (w : Word) : (s.setReg k w).jtag = s.jtag := (rfl)
@[simp] theorem setReg_engs (k : Nat) (w : Word) : (s.setReg k w).engs = s.engs := (rfl)
@[simp] theorem setReg_engine (k : Nat) (w : Word) : (s.setReg k w).engine = s.engine := (rfl)
@[simp] theorem setReg_axes (k : Nat) (w : Word) : (s.setReg k w).axes = s.axes := (rfl)
@[simp] theorem setReg_chans (k : Nat) (w : Word) : (s.setReg k w).chans = s.chans := (rfl)
@[simp] theorem setReg_compares (k : Nat) (w : Word) : (s.setReg k w).compares = s.compares := (rfl)
@[simp] theorem setReg_larder (k : Nat) (w : Word) : (s.setReg k w).larder = s.larder := (rfl)
@[simp] theorem setReg_ladder (k : Nat) (w : Word) : (s.setReg k w).ladder = s.ladder := (rfl)
@[simp] theorem setReg_planner (k : Nat) (w : Word) : (s.setReg k w).planner = s.planner := (rfl)
@[simp] theorem setReg_comps (k : Nat) (w : Word) : (s.setReg k w).comps = s.comps := (rfl)
@[simp] theorem setReg_guard (k : Nat) (w : Word) : (s.setReg k w).guard = s.guard := (rfl)
@[simp] theorem setReg_seq (k : Nat) (w : Word) : (s.setReg k w).seq = s.seq := (rfl)
@[simp] theorem setReg_flash (k : Nat) (w : Word) : (s.setReg k w).flash = s.flash := (rfl)
@[simp] theorem setReg_hp (k : Nat) (w : Word) : (s.setReg k w).hp = s.hp := (rfl)
@[simp] theorem setReg_prt (k : Nat) (w : Word) : (s.setReg k w).prt = s.prt := (rfl)
@[simp] theorem setReg_hatch (k : Nat) (w : Word) : (s.setReg k w).hatch = s.hatch := (rfl)
@[simp] theorem setReg_stock (k : Nat) (w : Word) : (s.setReg k w).stock = s.stock := (rfl)
@[simp] theorem setReg_access (k : Nat) (w : Word) : (s.setReg k w).access = s.access := (rfl)
@[simp] theorem setReg_pending (k : Nat) (w : Word) : (s.setReg k w).pending = s.pending := (rfl)
@[simp] theorem setReg_implemented (k : Nat) (w : Word) (r_ : Nat) : (s.setReg k w).implemented r_ = s.implemented r_ := (rfl)
@[simp] theorem setReg_linked (k : Nat) (w : Word) (r_ : Nat) : (s.setReg k w).linked r_ = s.linked r_ := (rfl)
@[simp] theorem setReg_hasDie (k : Nat) (w : Word) (r_ : Nat) : (s.setReg k w).hasDie r_ = s.hasDie r_ := (rfl)
@[simp] theorem setReg_hasAxis (k : Nat) (w : Word) (r_ : Nat) : (s.setReg k w).hasAxis r_ = s.hasAxis r_ := (rfl)
@[simp] theorem setReg_planned (k : Nat) (w : Word) (r_ : Nat) : (s.setReg k w).planned r_ = s.planned r_ := (rfl)
@[simp] theorem setReg_stamp (k : Nat) (w : Word) (r_ : Nat) : (s.setReg k w).stamp r_ = s.stamp r_ := (rfl)
@[simp] theorem setReg_axisRec (k : Nat) (w : Word) (r_ : Nat) : (s.setReg k w).axisRec r_ = s.axisRec r_ := (rfl)
@[simp] theorem setReg_schedRec (k : Nat) (w : Word) (r_ : Nat) : (s.setReg k w).schedRec r_ = s.schedRec r_ := (rfl)
@[simp] theorem setReg_feedOf (k : Nat) (w : Word) (r_ : Nat) : (s.setReg k w).feedOf r_ = s.feedOf r_ := (rfl)
@[simp] theorem setReg_feedOfChan (k : Nat) (w : Word) (r_ : Nat) : (s.setReg k w).feedOfChan r_ = s.feedOfChan r_ := (rfl)
@[simp] theorem setReg_loopOf (k : Nat) (w : Word) (r_ : Nat) : (s.setReg k w).loopOf r_ = s.loopOf r_ := (rfl)
@[simp] theorem setReg_protRec (k : Nat) (w : Word) (r_ : Nat) : (s.setReg k w).protRec r_ = s.protRec r_ := (rfl)

/-! ### setFld -/

@[simp] theorem setFld_variant (f : Fld) (v : Nat) : (s.setFld f v).variant = s.variant := (rfl)
@[simp] theorem setFld_power (f : Fld) (v : Nat) : (s.setFld f v).power = s.power := (rfl)
@[simp] theorem setFld_clock (f : Fld) (v : Nat) : (s.setFld f v).clock = s.clock := (rfl)
@[simp] theorem setFld_tsBase (f : Fld) (v : Nat) : (s.setFld f v).tsBase = s.tsBase := (rfl)
@[simp] theorem setFld_frame (f : Fld) (v : Nat) : (s.setFld f v).frame = s.frame := (rfl)
@[simp] theorem setFld_lastEngine (f : Fld) (v : Nat) : (s.setFld f v).lastEngine = s.lastEngine := (rfl)
@[simp] theorem setFld_lastMotion (f : Fld) (v : Nat) : (s.setFld f v).lastMotion = s.lastMotion := (rfl)
@[simp] theorem setFld_free (f : Fld) (v : Nat) : (s.setFld f v).free = s.free := (rfl)
@[simp] theorem setFld_fm (f : Fld) (v : Nat) : (s.setFld f v).fm = s.fm := (rfl)
@[simp] theorem setFld_box (f : Fld) (v : Nat) : (s.setFld f v).box = s.box := (rfl)
@[simp] theorem setFld_dies (f : Fld) (v : Nat) : (s.setFld f v).dies = s.dies := (rfl)
@[simp] theorem setFld_legs (f : Fld) (v : Nat) : (s.setFld f v).legs = s.legs := (rfl)
@[simp] theorem setFld_regions (f : Fld) (v : Nat) : (s.setFld f v).regions = s.regions := (rfl)
@[simp] theorem setFld_carriers (f : Fld) (v : Nat) : (s.setFld f v).carriers = s.carriers := (rfl)
@[simp] theorem setFld_wireTests (f : Fld) (v : Nat) : (s.setFld f v).wireTests = s.wireTests := (rfl)
@[simp] theorem setFld_leakTests (f : Fld) (v : Nat) : (s.setFld f v).leakTests = s.leakTests := (rfl)
@[simp] theorem setFld_seqs (f : Fld) (v : Nat) : (s.setFld f v).seqs = s.seqs := (rfl)
@[simp] theorem setFld_cores (f : Fld) (v : Nat) : (s.setFld f v).cores = s.cores := (rfl)
@[simp] theorem setFld_meas (f : Fld) (v : Nat) : (s.setFld f v).meas = s.meas := (rfl)
@[simp] theorem setFld_calRuns (f : Fld) (v : Nat) : (s.setFld f v).calRuns = s.calRuns := (rfl)
@[simp] theorem setFld_cmps (f : Fld) (v : Nat) : (s.setFld f v).cmps = s.cmps := (rfl)
@[simp] theorem setFld_audit (f : Fld) (v : Nat) : (s.setFld f v).audit = s.audit := (rfl)
@[simp] theorem setFld_inv (f : Fld) (v : Nat) : (s.setFld f v).inv = s.inv := (rfl)
@[simp] theorem setFld_invOp (f : Fld) (v : Nat) : (s.setFld f v).invOp = s.invOp := (rfl)
@[simp] theorem setFld_pins (f : Fld) (v : Nat) : (s.setFld f v).pins = s.pins := (rfl)
@[simp] theorem setFld_jtag (f : Fld) (v : Nat) : (s.setFld f v).jtag = s.jtag := (rfl)
@[simp] theorem setFld_engs (f : Fld) (v : Nat) : (s.setFld f v).engs = s.engs := (rfl)
@[simp] theorem setFld_engine (f : Fld) (v : Nat) : (s.setFld f v).engine = s.engine := (rfl)
@[simp] theorem setFld_axes (f : Fld) (v : Nat) : (s.setFld f v).axes = s.axes := (rfl)
@[simp] theorem setFld_chans (f : Fld) (v : Nat) : (s.setFld f v).chans = s.chans := (rfl)
@[simp] theorem setFld_compares (f : Fld) (v : Nat) : (s.setFld f v).compares = s.compares := (rfl)
@[simp] theorem setFld_larder (f : Fld) (v : Nat) : (s.setFld f v).larder = s.larder := (rfl)
@[simp] theorem setFld_ladder (f : Fld) (v : Nat) : (s.setFld f v).ladder = s.ladder := (rfl)
@[simp] theorem setFld_planner (f : Fld) (v : Nat) : (s.setFld f v).planner = s.planner := (rfl)
@[simp] theorem setFld_comps (f : Fld) (v : Nat) : (s.setFld f v).comps = s.comps := (rfl)
@[simp] theorem setFld_guard (f : Fld) (v : Nat) : (s.setFld f v).guard = s.guard := (rfl)
@[simp] theorem setFld_seq (f : Fld) (v : Nat) : (s.setFld f v).seq = s.seq := (rfl)
@[simp] theorem setFld_flash (f : Fld) (v : Nat) : (s.setFld f v).flash = s.flash := (rfl)
@[simp] theorem setFld_hp (f : Fld) (v : Nat) : (s.setFld f v).hp = s.hp := (rfl)
@[simp] theorem setFld_prt (f : Fld) (v : Nat) : (s.setFld f v).prt = s.prt := (rfl)
@[simp] theorem setFld_hatch (f : Fld) (v : Nat) : (s.setFld f v).hatch = s.hatch := (rfl)
@[simp] theorem setFld_stock (f : Fld) (v : Nat) : (s.setFld f v).stock = s.stock := (rfl)
@[simp] theorem setFld_access (f : Fld) (v : Nat) : (s.setFld f v).access = s.access := (rfl)
@[simp] theorem setFld_pending (f : Fld) (v : Nat) : (s.setFld f v).pending = s.pending := (rfl)
@[simp] theorem setFld_implemented (f : Fld) (v : Nat) (r_ : Nat) : (s.setFld f v).implemented r_ = s.implemented r_ := (rfl)
@[simp] theorem setFld_linked (f : Fld) (v : Nat) (r_ : Nat) : (s.setFld f v).linked r_ = s.linked r_ := (rfl)
@[simp] theorem setFld_hasDie (f : Fld) (v : Nat) (r_ : Nat) : (s.setFld f v).hasDie r_ = s.hasDie r_ := (rfl)
@[simp] theorem setFld_hasAxis (f : Fld) (v : Nat) (r_ : Nat) : (s.setFld f v).hasAxis r_ = s.hasAxis r_ := (rfl)
@[simp] theorem setFld_planned (f : Fld) (v : Nat) (r_ : Nat) : (s.setFld f v).planned r_ = s.planned r_ := (rfl)
@[simp] theorem setFld_stamp (f : Fld) (v : Nat) (r_ : Nat) : (s.setFld f v).stamp r_ = s.stamp r_ := (rfl)
@[simp] theorem setFld_axisRec (f : Fld) (v : Nat) (r_ : Nat) : (s.setFld f v).axisRec r_ = s.axisRec r_ := (rfl)
@[simp] theorem setFld_schedRec (f : Fld) (v : Nat) (r_ : Nat) : (s.setFld f v).schedRec r_ = s.schedRec r_ := (rfl)
@[simp] theorem setFld_feedOf (f : Fld) (v : Nat) (r_ : Nat) : (s.setFld f v).feedOf r_ = s.feedOf r_ := (rfl)
@[simp] theorem setFld_feedOfChan (f : Fld) (v : Nat) (r_ : Nat) : (s.setFld f v).feedOfChan r_ = s.feedOfChan r_ := (rfl)
@[simp] theorem setFld_loopOf (f : Fld) (v : Nat) (r_ : Nat) : (s.setFld f v).loopOf r_ = s.loopOf r_ := (rfl)
@[simp] theorem setFld_protRec (f : Fld) (v : Nat) (r_ : Nat) : (s.setFld f v).protRec r_ = s.protRec r_ := (rfl)

/-! ### setSFld -/

@[simp] theorem setSFld_variant (f : Fld) (v : Int) : (s.setSFld f v).variant = s.variant := (rfl)
@[simp] theorem setSFld_power (f : Fld) (v : Int) : (s.setSFld f v).power = s.power := (rfl)
@[simp] theorem setSFld_clock (f : Fld) (v : Int) : (s.setSFld f v).clock = s.clock := (rfl)
@[simp] theorem setSFld_tsBase (f : Fld) (v : Int) : (s.setSFld f v).tsBase = s.tsBase := (rfl)
@[simp] theorem setSFld_frame (f : Fld) (v : Int) : (s.setSFld f v).frame = s.frame := (rfl)
@[simp] theorem setSFld_lastEngine (f : Fld) (v : Int) : (s.setSFld f v).lastEngine = s.lastEngine := (rfl)
@[simp] theorem setSFld_lastMotion (f : Fld) (v : Int) : (s.setSFld f v).lastMotion = s.lastMotion := (rfl)
@[simp] theorem setSFld_free (f : Fld) (v : Int) : (s.setSFld f v).free = s.free := (rfl)
@[simp] theorem setSFld_fm (f : Fld) (v : Int) : (s.setSFld f v).fm = s.fm := (rfl)
@[simp] theorem setSFld_box (f : Fld) (v : Int) : (s.setSFld f v).box = s.box := (rfl)
@[simp] theorem setSFld_dies (f : Fld) (v : Int) : (s.setSFld f v).dies = s.dies := (rfl)
@[simp] theorem setSFld_legs (f : Fld) (v : Int) : (s.setSFld f v).legs = s.legs := (rfl)
@[simp] theorem setSFld_regions (f : Fld) (v : Int) : (s.setSFld f v).regions = s.regions := (rfl)
@[simp] theorem setSFld_carriers (f : Fld) (v : Int) : (s.setSFld f v).carriers = s.carriers := (rfl)
@[simp] theorem setSFld_wireTests (f : Fld) (v : Int) : (s.setSFld f v).wireTests = s.wireTests := (rfl)
@[simp] theorem setSFld_leakTests (f : Fld) (v : Int) : (s.setSFld f v).leakTests = s.leakTests := (rfl)
@[simp] theorem setSFld_seqs (f : Fld) (v : Int) : (s.setSFld f v).seqs = s.seqs := (rfl)
@[simp] theorem setSFld_cores (f : Fld) (v : Int) : (s.setSFld f v).cores = s.cores := (rfl)
@[simp] theorem setSFld_meas (f : Fld) (v : Int) : (s.setSFld f v).meas = s.meas := (rfl)
@[simp] theorem setSFld_calRuns (f : Fld) (v : Int) : (s.setSFld f v).calRuns = s.calRuns := (rfl)
@[simp] theorem setSFld_cmps (f : Fld) (v : Int) : (s.setSFld f v).cmps = s.cmps := (rfl)
@[simp] theorem setSFld_audit (f : Fld) (v : Int) : (s.setSFld f v).audit = s.audit := (rfl)
@[simp] theorem setSFld_inv (f : Fld) (v : Int) : (s.setSFld f v).inv = s.inv := (rfl)
@[simp] theorem setSFld_invOp (f : Fld) (v : Int) : (s.setSFld f v).invOp = s.invOp := (rfl)
@[simp] theorem setSFld_pins (f : Fld) (v : Int) : (s.setSFld f v).pins = s.pins := (rfl)
@[simp] theorem setSFld_jtag (f : Fld) (v : Int) : (s.setSFld f v).jtag = s.jtag := (rfl)
@[simp] theorem setSFld_engs (f : Fld) (v : Int) : (s.setSFld f v).engs = s.engs := (rfl)
@[simp] theorem setSFld_engine (f : Fld) (v : Int) : (s.setSFld f v).engine = s.engine := (rfl)
@[simp] theorem setSFld_axes (f : Fld) (v : Int) : (s.setSFld f v).axes = s.axes := (rfl)
@[simp] theorem setSFld_chans (f : Fld) (v : Int) : (s.setSFld f v).chans = s.chans := (rfl)
@[simp] theorem setSFld_compares (f : Fld) (v : Int) : (s.setSFld f v).compares = s.compares := (rfl)
@[simp] theorem setSFld_larder (f : Fld) (v : Int) : (s.setSFld f v).larder = s.larder := (rfl)
@[simp] theorem setSFld_ladder (f : Fld) (v : Int) : (s.setSFld f v).ladder = s.ladder := (rfl)
@[simp] theorem setSFld_planner (f : Fld) (v : Int) : (s.setSFld f v).planner = s.planner := (rfl)
@[simp] theorem setSFld_comps (f : Fld) (v : Int) : (s.setSFld f v).comps = s.comps := (rfl)
@[simp] theorem setSFld_guard (f : Fld) (v : Int) : (s.setSFld f v).guard = s.guard := (rfl)
@[simp] theorem setSFld_seq (f : Fld) (v : Int) : (s.setSFld f v).seq = s.seq := (rfl)
@[simp] theorem setSFld_flash (f : Fld) (v : Int) : (s.setSFld f v).flash = s.flash := (rfl)
@[simp] theorem setSFld_hp (f : Fld) (v : Int) : (s.setSFld f v).hp = s.hp := (rfl)
@[simp] theorem setSFld_prt (f : Fld) (v : Int) : (s.setSFld f v).prt = s.prt := (rfl)
@[simp] theorem setSFld_hatch (f : Fld) (v : Int) : (s.setSFld f v).hatch = s.hatch := (rfl)
@[simp] theorem setSFld_stock (f : Fld) (v : Int) : (s.setSFld f v).stock = s.stock := (rfl)
@[simp] theorem setSFld_access (f : Fld) (v : Int) : (s.setSFld f v).access = s.access := (rfl)
@[simp] theorem setSFld_pending (f : Fld) (v : Int) : (s.setSFld f v).pending = s.pending := (rfl)
@[simp] theorem setSFld_implemented (f : Fld) (v : Int) (r_ : Nat) : (s.setSFld f v).implemented r_ = s.implemented r_ := (rfl)
@[simp] theorem setSFld_linked (f : Fld) (v : Int) (r_ : Nat) : (s.setSFld f v).linked r_ = s.linked r_ := (rfl)
@[simp] theorem setSFld_hasDie (f : Fld) (v : Int) (r_ : Nat) : (s.setSFld f v).hasDie r_ = s.hasDie r_ := (rfl)
@[simp] theorem setSFld_hasAxis (f : Fld) (v : Int) (r_ : Nat) : (s.setSFld f v).hasAxis r_ = s.hasAxis r_ := (rfl)
@[simp] theorem setSFld_planned (f : Fld) (v : Int) (r_ : Nat) : (s.setSFld f v).planned r_ = s.planned r_ := (rfl)
@[simp] theorem setSFld_stamp (f : Fld) (v : Int) (r_ : Nat) : (s.setSFld f v).stamp r_ = s.stamp r_ := (rfl)
@[simp] theorem setSFld_axisRec (f : Fld) (v : Int) (r_ : Nat) : (s.setSFld f v).axisRec r_ = s.axisRec r_ := (rfl)
@[simp] theorem setSFld_schedRec (f : Fld) (v : Int) (r_ : Nat) : (s.setSFld f v).schedRec r_ = s.schedRec r_ := (rfl)
@[simp] theorem setSFld_feedOf (f : Fld) (v : Int) (r_ : Nat) : (s.setSFld f v).feedOf r_ = s.feedOf r_ := (rfl)
@[simp] theorem setSFld_feedOfChan (f : Fld) (v : Int) (r_ : Nat) : (s.setSFld f v).feedOfChan r_ = s.feedOfChan r_ := (rfl)
@[simp] theorem setSFld_loopOf (f : Fld) (v : Int) (r_ : Nat) : (s.setSFld f v).loopOf r_ = s.loopOf r_ := (rfl)
@[simp] theorem setSFld_protRec (f : Fld) (v : Int) (r_ : Nat) : (s.setSFld f v).protRec r_ = s.protRec r_ := (rfl)

/-! ### setFlag -/

@[simp] theorem setFlag_variant (f : Fld) (b : Bool) : (s.setFlag f b).variant = s.variant := (rfl)
@[simp] theorem setFlag_power (f : Fld) (b : Bool) : (s.setFlag f b).power = s.power := (rfl)
@[simp] theorem setFlag_clock (f : Fld) (b : Bool) : (s.setFlag f b).clock = s.clock := (rfl)
@[simp] theorem setFlag_tsBase (f : Fld) (b : Bool) : (s.setFlag f b).tsBase = s.tsBase := (rfl)
@[simp] theorem setFlag_frame (f : Fld) (b : Bool) : (s.setFlag f b).frame = s.frame := (rfl)
@[simp] theorem setFlag_lastEngine (f : Fld) (b : Bool) : (s.setFlag f b).lastEngine = s.lastEngine := (rfl)
@[simp] theorem setFlag_lastMotion (f : Fld) (b : Bool) : (s.setFlag f b).lastMotion = s.lastMotion := (rfl)
@[simp] theorem setFlag_free (f : Fld) (b : Bool) : (s.setFlag f b).free = s.free := (rfl)
@[simp] theorem setFlag_fm (f : Fld) (b : Bool) : (s.setFlag f b).fm = s.fm := (rfl)
@[simp] theorem setFlag_box (f : Fld) (b : Bool) : (s.setFlag f b).box = s.box := (rfl)
@[simp] theorem setFlag_dies (f : Fld) (b : Bool) : (s.setFlag f b).dies = s.dies := (rfl)
@[simp] theorem setFlag_legs (f : Fld) (b : Bool) : (s.setFlag f b).legs = s.legs := (rfl)
@[simp] theorem setFlag_regions (f : Fld) (b : Bool) : (s.setFlag f b).regions = s.regions := (rfl)
@[simp] theorem setFlag_carriers (f : Fld) (b : Bool) : (s.setFlag f b).carriers = s.carriers := (rfl)
@[simp] theorem setFlag_wireTests (f : Fld) (b : Bool) : (s.setFlag f b).wireTests = s.wireTests := (rfl)
@[simp] theorem setFlag_leakTests (f : Fld) (b : Bool) : (s.setFlag f b).leakTests = s.leakTests := (rfl)
@[simp] theorem setFlag_seqs (f : Fld) (b : Bool) : (s.setFlag f b).seqs = s.seqs := (rfl)
@[simp] theorem setFlag_cores (f : Fld) (b : Bool) : (s.setFlag f b).cores = s.cores := (rfl)
@[simp] theorem setFlag_meas (f : Fld) (b : Bool) : (s.setFlag f b).meas = s.meas := (rfl)
@[simp] theorem setFlag_calRuns (f : Fld) (b : Bool) : (s.setFlag f b).calRuns = s.calRuns := (rfl)
@[simp] theorem setFlag_cmps (f : Fld) (b : Bool) : (s.setFlag f b).cmps = s.cmps := (rfl)
@[simp] theorem setFlag_audit (f : Fld) (b : Bool) : (s.setFlag f b).audit = s.audit := (rfl)
@[simp] theorem setFlag_inv (f : Fld) (b : Bool) : (s.setFlag f b).inv = s.inv := (rfl)
@[simp] theorem setFlag_invOp (f : Fld) (b : Bool) : (s.setFlag f b).invOp = s.invOp := (rfl)
@[simp] theorem setFlag_pins (f : Fld) (b : Bool) : (s.setFlag f b).pins = s.pins := (rfl)
@[simp] theorem setFlag_jtag (f : Fld) (b : Bool) : (s.setFlag f b).jtag = s.jtag := (rfl)
@[simp] theorem setFlag_engs (f : Fld) (b : Bool) : (s.setFlag f b).engs = s.engs := (rfl)
@[simp] theorem setFlag_engine (f : Fld) (b : Bool) : (s.setFlag f b).engine = s.engine := (rfl)
@[simp] theorem setFlag_axes (f : Fld) (b : Bool) : (s.setFlag f b).axes = s.axes := (rfl)
@[simp] theorem setFlag_chans (f : Fld) (b : Bool) : (s.setFlag f b).chans = s.chans := (rfl)
@[simp] theorem setFlag_compares (f : Fld) (b : Bool) : (s.setFlag f b).compares = s.compares := (rfl)
@[simp] theorem setFlag_larder (f : Fld) (b : Bool) : (s.setFlag f b).larder = s.larder := (rfl)
@[simp] theorem setFlag_ladder (f : Fld) (b : Bool) : (s.setFlag f b).ladder = s.ladder := (rfl)
@[simp] theorem setFlag_planner (f : Fld) (b : Bool) : (s.setFlag f b).planner = s.planner := (rfl)
@[simp] theorem setFlag_comps (f : Fld) (b : Bool) : (s.setFlag f b).comps = s.comps := (rfl)
@[simp] theorem setFlag_guard (f : Fld) (b : Bool) : (s.setFlag f b).guard = s.guard := (rfl)
@[simp] theorem setFlag_seq (f : Fld) (b : Bool) : (s.setFlag f b).seq = s.seq := (rfl)
@[simp] theorem setFlag_flash (f : Fld) (b : Bool) : (s.setFlag f b).flash = s.flash := (rfl)
@[simp] theorem setFlag_hp (f : Fld) (b : Bool) : (s.setFlag f b).hp = s.hp := (rfl)
@[simp] theorem setFlag_prt (f : Fld) (b : Bool) : (s.setFlag f b).prt = s.prt := (rfl)
@[simp] theorem setFlag_hatch (f : Fld) (b : Bool) : (s.setFlag f b).hatch = s.hatch := (rfl)
@[simp] theorem setFlag_stock (f : Fld) (b : Bool) : (s.setFlag f b).stock = s.stock := (rfl)
@[simp] theorem setFlag_access (f : Fld) (b : Bool) : (s.setFlag f b).access = s.access := (rfl)
@[simp] theorem setFlag_pending (f : Fld) (b : Bool) : (s.setFlag f b).pending = s.pending := (rfl)
@[simp] theorem setFlag_implemented (f : Fld) (b : Bool) (r_ : Nat) : (s.setFlag f b).implemented r_ = s.implemented r_ := (rfl)
@[simp] theorem setFlag_linked (f : Fld) (b : Bool) (r_ : Nat) : (s.setFlag f b).linked r_ = s.linked r_ := (rfl)
@[simp] theorem setFlag_hasDie (f : Fld) (b : Bool) (r_ : Nat) : (s.setFlag f b).hasDie r_ = s.hasDie r_ := (rfl)
@[simp] theorem setFlag_hasAxis (f : Fld) (b : Bool) (r_ : Nat) : (s.setFlag f b).hasAxis r_ = s.hasAxis r_ := (rfl)
@[simp] theorem setFlag_planned (f : Fld) (b : Bool) (r_ : Nat) : (s.setFlag f b).planned r_ = s.planned r_ := (rfl)
@[simp] theorem setFlag_stamp (f : Fld) (b : Bool) (r_ : Nat) : (s.setFlag f b).stamp r_ = s.stamp r_ := (rfl)
@[simp] theorem setFlag_axisRec (f : Fld) (b : Bool) (r_ : Nat) : (s.setFlag f b).axisRec r_ = s.axisRec r_ := (rfl)
@[simp] theorem setFlag_schedRec (f : Fld) (b : Bool) (r_ : Nat) : (s.setFlag f b).schedRec r_ = s.schedRec r_ := (rfl)
@[simp] theorem setFlag_feedOf (f : Fld) (b : Bool) (r_ : Nat) : (s.setFlag f b).feedOf r_ = s.feedOf r_ := (rfl)
@[simp] theorem setFlag_feedOfChan (f : Fld) (b : Bool) (r_ : Nat) : (s.setFlag f b).feedOfChan r_ = s.feedOfChan r_ := (rfl)
@[simp] theorem setFlag_loopOf (f : Fld) (b : Bool) (r_ : Nat) : (s.setFlag f b).loopOf r_ = s.loopOf r_ := (rfl)
@[simp] theorem setFlag_protRec (f : Fld) (b : Bool) (r_ : Nat) : (s.setFlag f b).protRec r_ = s.protRec r_ := (rfl)

/-! ### setRegBit -/

@[simp] theorem setRegBit_variant (k i : Nat) (b : Bool) : (s.setRegBit k i b).variant = s.variant := (rfl)
@[simp] theorem setRegBit_power (k i : Nat) (b : Bool) : (s.setRegBit k i b).power = s.power := (rfl)
@[simp] theorem setRegBit_clock (k i : Nat) (b : Bool) : (s.setRegBit k i b).clock = s.clock := (rfl)
@[simp] theorem setRegBit_tsBase (k i : Nat) (b : Bool) : (s.setRegBit k i b).tsBase = s.tsBase := (rfl)
@[simp] theorem setRegBit_frame (k i : Nat) (b : Bool) : (s.setRegBit k i b).frame = s.frame := (rfl)
@[simp] theorem setRegBit_lastEngine (k i : Nat) (b : Bool) : (s.setRegBit k i b).lastEngine = s.lastEngine := (rfl)
@[simp] theorem setRegBit_lastMotion (k i : Nat) (b : Bool) : (s.setRegBit k i b).lastMotion = s.lastMotion := (rfl)
@[simp] theorem setRegBit_free (k i : Nat) (b : Bool) : (s.setRegBit k i b).free = s.free := (rfl)
@[simp] theorem setRegBit_fm (k i : Nat) (b : Bool) : (s.setRegBit k i b).fm = s.fm := (rfl)
@[simp] theorem setRegBit_box (k i : Nat) (b : Bool) : (s.setRegBit k i b).box = s.box := (rfl)
@[simp] theorem setRegBit_dies (k i : Nat) (b : Bool) : (s.setRegBit k i b).dies = s.dies := (rfl)
@[simp] theorem setRegBit_legs (k i : Nat) (b : Bool) : (s.setRegBit k i b).legs = s.legs := (rfl)
@[simp] theorem setRegBit_regions (k i : Nat) (b : Bool) : (s.setRegBit k i b).regions = s.regions := (rfl)
@[simp] theorem setRegBit_carriers (k i : Nat) (b : Bool) : (s.setRegBit k i b).carriers = s.carriers := (rfl)
@[simp] theorem setRegBit_wireTests (k i : Nat) (b : Bool) : (s.setRegBit k i b).wireTests = s.wireTests := (rfl)
@[simp] theorem setRegBit_leakTests (k i : Nat) (b : Bool) : (s.setRegBit k i b).leakTests = s.leakTests := (rfl)
@[simp] theorem setRegBit_seqs (k i : Nat) (b : Bool) : (s.setRegBit k i b).seqs = s.seqs := (rfl)
@[simp] theorem setRegBit_cores (k i : Nat) (b : Bool) : (s.setRegBit k i b).cores = s.cores := (rfl)
@[simp] theorem setRegBit_meas (k i : Nat) (b : Bool) : (s.setRegBit k i b).meas = s.meas := (rfl)
@[simp] theorem setRegBit_calRuns (k i : Nat) (b : Bool) : (s.setRegBit k i b).calRuns = s.calRuns := (rfl)
@[simp] theorem setRegBit_cmps (k i : Nat) (b : Bool) : (s.setRegBit k i b).cmps = s.cmps := (rfl)
@[simp] theorem setRegBit_audit (k i : Nat) (b : Bool) : (s.setRegBit k i b).audit = s.audit := (rfl)
@[simp] theorem setRegBit_inv (k i : Nat) (b : Bool) : (s.setRegBit k i b).inv = s.inv := (rfl)
@[simp] theorem setRegBit_invOp (k i : Nat) (b : Bool) : (s.setRegBit k i b).invOp = s.invOp := (rfl)
@[simp] theorem setRegBit_pins (k i : Nat) (b : Bool) : (s.setRegBit k i b).pins = s.pins := (rfl)
@[simp] theorem setRegBit_jtag (k i : Nat) (b : Bool) : (s.setRegBit k i b).jtag = s.jtag := (rfl)
@[simp] theorem setRegBit_engs (k i : Nat) (b : Bool) : (s.setRegBit k i b).engs = s.engs := (rfl)
@[simp] theorem setRegBit_engine (k i : Nat) (b : Bool) : (s.setRegBit k i b).engine = s.engine := (rfl)
@[simp] theorem setRegBit_axes (k i : Nat) (b : Bool) : (s.setRegBit k i b).axes = s.axes := (rfl)
@[simp] theorem setRegBit_chans (k i : Nat) (b : Bool) : (s.setRegBit k i b).chans = s.chans := (rfl)
@[simp] theorem setRegBit_compares (k i : Nat) (b : Bool) : (s.setRegBit k i b).compares = s.compares := (rfl)
@[simp] theorem setRegBit_larder (k i : Nat) (b : Bool) : (s.setRegBit k i b).larder = s.larder := (rfl)
@[simp] theorem setRegBit_ladder (k i : Nat) (b : Bool) : (s.setRegBit k i b).ladder = s.ladder := (rfl)
@[simp] theorem setRegBit_planner (k i : Nat) (b : Bool) : (s.setRegBit k i b).planner = s.planner := (rfl)
@[simp] theorem setRegBit_comps (k i : Nat) (b : Bool) : (s.setRegBit k i b).comps = s.comps := (rfl)
@[simp] theorem setRegBit_guard (k i : Nat) (b : Bool) : (s.setRegBit k i b).guard = s.guard := (rfl)
@[simp] theorem setRegBit_seq (k i : Nat) (b : Bool) : (s.setRegBit k i b).seq = s.seq := (rfl)
@[simp] theorem setRegBit_flash (k i : Nat) (b : Bool) : (s.setRegBit k i b).flash = s.flash := (rfl)
@[simp] theorem setRegBit_hp (k i : Nat) (b : Bool) : (s.setRegBit k i b).hp = s.hp := (rfl)
@[simp] theorem setRegBit_prt (k i : Nat) (b : Bool) : (s.setRegBit k i b).prt = s.prt := (rfl)
@[simp] theorem setRegBit_hatch (k i : Nat) (b : Bool) : (s.setRegBit k i b).hatch = s.hatch := (rfl)
@[simp] theorem setRegBit_stock (k i : Nat) (b : Bool) : (s.setRegBit k i b).stock = s.stock := (rfl)
@[simp] theorem setRegBit_access (k i : Nat) (b : Bool) : (s.setRegBit k i b).access = s.access := (rfl)
@[simp] theorem setRegBit_pending (k i : Nat) (b : Bool) : (s.setRegBit k i b).pending = s.pending := (rfl)
@[simp] theorem setRegBit_implemented (k i : Nat) (b : Bool) (r_ : Nat) : (s.setRegBit k i b).implemented r_ = s.implemented r_ := (rfl)
@[simp] theorem setRegBit_linked (k i : Nat) (b : Bool) (r_ : Nat) : (s.setRegBit k i b).linked r_ = s.linked r_ := (rfl)
@[simp] theorem setRegBit_hasDie (k i : Nat) (b : Bool) (r_ : Nat) : (s.setRegBit k i b).hasDie r_ = s.hasDie r_ := (rfl)
@[simp] theorem setRegBit_hasAxis (k i : Nat) (b : Bool) (r_ : Nat) : (s.setRegBit k i b).hasAxis r_ = s.hasAxis r_ := (rfl)
@[simp] theorem setRegBit_planned (k i : Nat) (b : Bool) (r_ : Nat) : (s.setRegBit k i b).planned r_ = s.planned r_ := (rfl)
@[simp] theorem setRegBit_stamp (k i : Nat) (b : Bool) (r_ : Nat) : (s.setRegBit k i b).stamp r_ = s.stamp r_ := (rfl)
@[simp] theorem setRegBit_axisRec (k i : Nat) (b : Bool) (r_ : Nat) : (s.setRegBit k i b).axisRec r_ = s.axisRec r_ := (rfl)
@[simp] theorem setRegBit_schedRec (k i : Nat) (b : Bool) (r_ : Nat) : (s.setRegBit k i b).schedRec r_ = s.schedRec r_ := (rfl)
@[simp] theorem setRegBit_feedOf (k i : Nat) (b : Bool) (r_ : Nat) : (s.setRegBit k i b).feedOf r_ = s.feedOf r_ := (rfl)
@[simp] theorem setRegBit_feedOfChan (k i : Nat) (b : Bool) (r_ : Nat) : (s.setRegBit k i b).feedOfChan r_ = s.feedOfChan r_ := (rfl)
@[simp] theorem setRegBit_loopOf (k i : Nat) (b : Bool) (r_ : Nat) : (s.setRegBit k i b).loopOf r_ = s.loopOf r_ := (rfl)
@[simp] theorem setRegBit_protRec (k i : Nat) (b : Bool) (r_ : Nat) : (s.setRegBit k i b).protRec r_ = s.protRec r_ := (rfl)

/-! ### clearRegs -/

@[simp] theorem clearRegs_variant (lo hi : Nat) : (s.clearRegs lo hi).variant = s.variant := (rfl)
@[simp] theorem clearRegs_power (lo hi : Nat) : (s.clearRegs lo hi).power = s.power := (rfl)
@[simp] theorem clearRegs_clock (lo hi : Nat) : (s.clearRegs lo hi).clock = s.clock := (rfl)
@[simp] theorem clearRegs_tsBase (lo hi : Nat) : (s.clearRegs lo hi).tsBase = s.tsBase := (rfl)
@[simp] theorem clearRegs_frame (lo hi : Nat) : (s.clearRegs lo hi).frame = s.frame := (rfl)
@[simp] theorem clearRegs_lastEngine (lo hi : Nat) : (s.clearRegs lo hi).lastEngine = s.lastEngine := (rfl)
@[simp] theorem clearRegs_lastMotion (lo hi : Nat) : (s.clearRegs lo hi).lastMotion = s.lastMotion := (rfl)
@[simp] theorem clearRegs_free (lo hi : Nat) : (s.clearRegs lo hi).free = s.free := (rfl)
@[simp] theorem clearRegs_fm (lo hi : Nat) : (s.clearRegs lo hi).fm = s.fm := (rfl)
@[simp] theorem clearRegs_box (lo hi : Nat) : (s.clearRegs lo hi).box = s.box := (rfl)
@[simp] theorem clearRegs_dies (lo hi : Nat) : (s.clearRegs lo hi).dies = s.dies := (rfl)
@[simp] theorem clearRegs_legs (lo hi : Nat) : (s.clearRegs lo hi).legs = s.legs := (rfl)
@[simp] theorem clearRegs_regions (lo hi : Nat) : (s.clearRegs lo hi).regions = s.regions := (rfl)
@[simp] theorem clearRegs_carriers (lo hi : Nat) : (s.clearRegs lo hi).carriers = s.carriers := (rfl)
@[simp] theorem clearRegs_wireTests (lo hi : Nat) : (s.clearRegs lo hi).wireTests = s.wireTests := (rfl)
@[simp] theorem clearRegs_leakTests (lo hi : Nat) : (s.clearRegs lo hi).leakTests = s.leakTests := (rfl)
@[simp] theorem clearRegs_seqs (lo hi : Nat) : (s.clearRegs lo hi).seqs = s.seqs := (rfl)
@[simp] theorem clearRegs_cores (lo hi : Nat) : (s.clearRegs lo hi).cores = s.cores := (rfl)
@[simp] theorem clearRegs_meas (lo hi : Nat) : (s.clearRegs lo hi).meas = s.meas := (rfl)
@[simp] theorem clearRegs_calRuns (lo hi : Nat) : (s.clearRegs lo hi).calRuns = s.calRuns := (rfl)
@[simp] theorem clearRegs_cmps (lo hi : Nat) : (s.clearRegs lo hi).cmps = s.cmps := (rfl)
@[simp] theorem clearRegs_audit (lo hi : Nat) : (s.clearRegs lo hi).audit = s.audit := (rfl)
@[simp] theorem clearRegs_inv (lo hi : Nat) : (s.clearRegs lo hi).inv = s.inv := (rfl)
@[simp] theorem clearRegs_invOp (lo hi : Nat) : (s.clearRegs lo hi).invOp = s.invOp := (rfl)
@[simp] theorem clearRegs_pins (lo hi : Nat) : (s.clearRegs lo hi).pins = s.pins := (rfl)
@[simp] theorem clearRegs_jtag (lo hi : Nat) : (s.clearRegs lo hi).jtag = s.jtag := (rfl)
@[simp] theorem clearRegs_engs (lo hi : Nat) : (s.clearRegs lo hi).engs = s.engs := (rfl)
@[simp] theorem clearRegs_engine (lo hi : Nat) : (s.clearRegs lo hi).engine = s.engine := (rfl)
@[simp] theorem clearRegs_axes (lo hi : Nat) : (s.clearRegs lo hi).axes = s.axes := (rfl)
@[simp] theorem clearRegs_chans (lo hi : Nat) : (s.clearRegs lo hi).chans = s.chans := (rfl)
@[simp] theorem clearRegs_compares (lo hi : Nat) : (s.clearRegs lo hi).compares = s.compares := (rfl)
@[simp] theorem clearRegs_larder (lo hi : Nat) : (s.clearRegs lo hi).larder = s.larder := (rfl)
@[simp] theorem clearRegs_ladder (lo hi : Nat) : (s.clearRegs lo hi).ladder = s.ladder := (rfl)
@[simp] theorem clearRegs_planner (lo hi : Nat) : (s.clearRegs lo hi).planner = s.planner := (rfl)
@[simp] theorem clearRegs_comps (lo hi : Nat) : (s.clearRegs lo hi).comps = s.comps := (rfl)
@[simp] theorem clearRegs_guard (lo hi : Nat) : (s.clearRegs lo hi).guard = s.guard := (rfl)
@[simp] theorem clearRegs_seq (lo hi : Nat) : (s.clearRegs lo hi).seq = s.seq := (rfl)
@[simp] theorem clearRegs_flash (lo hi : Nat) : (s.clearRegs lo hi).flash = s.flash := (rfl)
@[simp] theorem clearRegs_hp (lo hi : Nat) : (s.clearRegs lo hi).hp = s.hp := (rfl)
@[simp] theorem clearRegs_prt (lo hi : Nat) : (s.clearRegs lo hi).prt = s.prt := (rfl)
@[simp] theorem clearRegs_hatch (lo hi : Nat) : (s.clearRegs lo hi).hatch = s.hatch := (rfl)
@[simp] theorem clearRegs_stock (lo hi : Nat) : (s.clearRegs lo hi).stock = s.stock := (rfl)
@[simp] theorem clearRegs_access (lo hi : Nat) : (s.clearRegs lo hi).access = s.access := (rfl)
@[simp] theorem clearRegs_pending (lo hi : Nat) : (s.clearRegs lo hi).pending = s.pending := (rfl)
@[simp] theorem clearRegs_implemented (lo hi : Nat) (r_ : Nat) : (s.clearRegs lo hi).implemented r_ = s.implemented r_ := (rfl)
@[simp] theorem clearRegs_linked (lo hi : Nat) (r_ : Nat) : (s.clearRegs lo hi).linked r_ = s.linked r_ := (rfl)
@[simp] theorem clearRegs_hasDie (lo hi : Nat) (r_ : Nat) : (s.clearRegs lo hi).hasDie r_ = s.hasDie r_ := (rfl)
@[simp] theorem clearRegs_hasAxis (lo hi : Nat) (r_ : Nat) : (s.clearRegs lo hi).hasAxis r_ = s.hasAxis r_ := (rfl)
@[simp] theorem clearRegs_planned (lo hi : Nat) (r_ : Nat) : (s.clearRegs lo hi).planned r_ = s.planned r_ := (rfl)
@[simp] theorem clearRegs_stamp (lo hi : Nat) (r_ : Nat) : (s.clearRegs lo hi).stamp r_ = s.stamp r_ := (rfl)
@[simp] theorem clearRegs_axisRec (lo hi : Nat) (r_ : Nat) : (s.clearRegs lo hi).axisRec r_ = s.axisRec r_ := (rfl)
@[simp] theorem clearRegs_schedRec (lo hi : Nat) (r_ : Nat) : (s.clearRegs lo hi).schedRec r_ = s.schedRec r_ := (rfl)
@[simp] theorem clearRegs_feedOf (lo hi : Nat) (r_ : Nat) : (s.clearRegs lo hi).feedOf r_ = s.feedOf r_ := (rfl)
@[simp] theorem clearRegs_feedOfChan (lo hi : Nat) (r_ : Nat) : (s.clearRegs lo hi).feedOfChan r_ = s.feedOfChan r_ := (rfl)
@[simp] theorem clearRegs_loopOf (lo hi : Nat) (r_ : Nat) : (s.clearRegs lo hi).loopOf r_ = s.loopOf r_ := (rfl)
@[simp] theorem clearRegs_protRec (lo hi : Nat) (r_ : Nat) : (s.clearRegs lo hi).protRec r_ = s.protRec r_ := (rfl)

/-! ### countOne -/

@[simp] theorem countOne_variant (k w : Nat) : (s.countOne k w).variant = s.variant := by unfold State.countOne; split <;> simp only [setFld_variant]
@[simp] theorem countOne_power (k w : Nat) : (s.countOne k w).power = s.power := by unfold State.countOne; split <;> simp only [setFld_power]
@[simp] theorem countOne_clock (k w : Nat) : (s.countOne k w).clock = s.clock := by unfold State.countOne; split <;> simp only [setFld_clock]
@[simp] theorem countOne_tsBase (k w : Nat) : (s.countOne k w).tsBase = s.tsBase := by unfold State.countOne; split <;> simp only [setFld_tsBase]
@[simp] theorem countOne_frame (k w : Nat) : (s.countOne k w).frame = s.frame := by unfold State.countOne; split <;> simp only [setFld_frame]
@[simp] theorem countOne_lastEngine (k w : Nat) : (s.countOne k w).lastEngine = s.lastEngine := by unfold State.countOne; split <;> simp only [setFld_lastEngine]
@[simp] theorem countOne_lastMotion (k w : Nat) : (s.countOne k w).lastMotion = s.lastMotion := by unfold State.countOne; split <;> simp only [setFld_lastMotion]
@[simp] theorem countOne_free (k w : Nat) : (s.countOne k w).free = s.free := by unfold State.countOne; split <;> simp only [setFld_free]
@[simp] theorem countOne_fm (k w : Nat) : (s.countOne k w).fm = s.fm := by unfold State.countOne; split <;> simp only [setFld_fm]
@[simp] theorem countOne_box (k w : Nat) : (s.countOne k w).box = s.box := by unfold State.countOne; split <;> simp only [setFld_box]
@[simp] theorem countOne_dies (k w : Nat) : (s.countOne k w).dies = s.dies := by unfold State.countOne; split <;> simp only [setFld_dies]
@[simp] theorem countOne_legs (k w : Nat) : (s.countOne k w).legs = s.legs := by unfold State.countOne; split <;> simp only [setFld_legs]
@[simp] theorem countOne_regions (k w : Nat) : (s.countOne k w).regions = s.regions := by unfold State.countOne; split <;> simp only [setFld_regions]
@[simp] theorem countOne_carriers (k w : Nat) : (s.countOne k w).carriers = s.carriers := by unfold State.countOne; split <;> simp only [setFld_carriers]
@[simp] theorem countOne_wireTests (k w : Nat) : (s.countOne k w).wireTests = s.wireTests := by unfold State.countOne; split <;> simp only [setFld_wireTests]
@[simp] theorem countOne_leakTests (k w : Nat) : (s.countOne k w).leakTests = s.leakTests := by unfold State.countOne; split <;> simp only [setFld_leakTests]
@[simp] theorem countOne_seqs (k w : Nat) : (s.countOne k w).seqs = s.seqs := by unfold State.countOne; split <;> simp only [setFld_seqs]
@[simp] theorem countOne_cores (k w : Nat) : (s.countOne k w).cores = s.cores := by unfold State.countOne; split <;> simp only [setFld_cores]
@[simp] theorem countOne_meas (k w : Nat) : (s.countOne k w).meas = s.meas := by unfold State.countOne; split <;> simp only [setFld_meas]
@[simp] theorem countOne_calRuns (k w : Nat) : (s.countOne k w).calRuns = s.calRuns := by unfold State.countOne; split <;> simp only [setFld_calRuns]
@[simp] theorem countOne_cmps (k w : Nat) : (s.countOne k w).cmps = s.cmps := by unfold State.countOne; split <;> simp only [setFld_cmps]
@[simp] theorem countOne_audit (k w : Nat) : (s.countOne k w).audit = s.audit := by unfold State.countOne; split <;> simp only [setFld_audit]
@[simp] theorem countOne_inv (k w : Nat) : (s.countOne k w).inv = s.inv := by unfold State.countOne; split <;> simp only [setFld_inv]
@[simp] theorem countOne_invOp (k w : Nat) : (s.countOne k w).invOp = s.invOp := by unfold State.countOne; split <;> simp only [setFld_invOp]
@[simp] theorem countOne_pins (k w : Nat) : (s.countOne k w).pins = s.pins := by unfold State.countOne; split <;> simp only [setFld_pins]
@[simp] theorem countOne_jtag (k w : Nat) : (s.countOne k w).jtag = s.jtag := by unfold State.countOne; split <;> simp only [setFld_jtag]
@[simp] theorem countOne_engs (k w : Nat) : (s.countOne k w).engs = s.engs := by unfold State.countOne; split <;> simp only [setFld_engs]
@[simp] theorem countOne_engine (k w : Nat) : (s.countOne k w).engine = s.engine := by unfold State.countOne; split <;> simp only [setFld_engine]
@[simp] theorem countOne_axes (k w : Nat) : (s.countOne k w).axes = s.axes := by unfold State.countOne; split <;> simp only [setFld_axes]
@[simp] theorem countOne_chans (k w : Nat) : (s.countOne k w).chans = s.chans := by unfold State.countOne; split <;> simp only [setFld_chans]
@[simp] theorem countOne_compares (k w : Nat) : (s.countOne k w).compares = s.compares := by unfold State.countOne; split <;> simp only [setFld_compares]
@[simp] theorem countOne_larder (k w : Nat) : (s.countOne k w).larder = s.larder := by unfold State.countOne; split <;> simp only [setFld_larder]
@[simp] theorem countOne_ladder (k w : Nat) : (s.countOne k w).ladder = s.ladder := by unfold State.countOne; split <;> simp only [setFld_ladder]
@[simp] theorem countOne_planner (k w : Nat) : (s.countOne k w).planner = s.planner := by unfold State.countOne; split <;> simp only [setFld_planner]
@[simp] theorem countOne_comps (k w : Nat) : (s.countOne k w).comps = s.comps := by unfold State.countOne; split <;> simp only [setFld_comps]
@[simp] theorem countOne_guard (k w : Nat) : (s.countOne k w).guard = s.guard := by unfold State.countOne; split <;> simp only [setFld_guard]
@[simp] theorem countOne_seq (k w : Nat) : (s.countOne k w).seq = s.seq := by unfold State.countOne; split <;> simp only [setFld_seq]
@[simp] theorem countOne_flash (k w : Nat) : (s.countOne k w).flash = s.flash := by unfold State.countOne; split <;> simp only [setFld_flash]
@[simp] theorem countOne_hp (k w : Nat) : (s.countOne k w).hp = s.hp := by unfold State.countOne; split <;> simp only [setFld_hp]
@[simp] theorem countOne_prt (k w : Nat) : (s.countOne k w).prt = s.prt := by unfold State.countOne; split <;> simp only [setFld_prt]
@[simp] theorem countOne_hatch (k w : Nat) : (s.countOne k w).hatch = s.hatch := by unfold State.countOne; split <;> simp only [setFld_hatch]
@[simp] theorem countOne_stock (k w : Nat) : (s.countOne k w).stock = s.stock := by unfold State.countOne; split <;> simp only [setFld_stock]
@[simp] theorem countOne_access (k w : Nat) : (s.countOne k w).access = s.access := by unfold State.countOne; split <;> simp only [setFld_access]
@[simp] theorem countOne_pending (k w : Nat) : (s.countOne k w).pending = s.pending := by unfold State.countOne; split <;> simp only [setFld_pending]
@[simp] theorem countOne_implemented (k w : Nat) (r_ : Nat) : (s.countOne k w).implemented r_ = s.implemented r_ := by unfold State.countOne; split <;> simp only [setFld_implemented]
@[simp] theorem countOne_linked (k w : Nat) (r_ : Nat) : (s.countOne k w).linked r_ = s.linked r_ := by unfold State.countOne; split <;> simp only [setFld_linked]
@[simp] theorem countOne_hasDie (k w : Nat) (r_ : Nat) : (s.countOne k w).hasDie r_ = s.hasDie r_ := by unfold State.countOne; split <;> simp only [setFld_hasDie]
@[simp] theorem countOne_hasAxis (k w : Nat) (r_ : Nat) : (s.countOne k w).hasAxis r_ = s.hasAxis r_ := by unfold State.countOne; split <;> simp only [setFld_hasAxis]
@[simp] theorem countOne_planned (k w : Nat) (r_ : Nat) : (s.countOne k w).planned r_ = s.planned r_ := by unfold State.countOne; split <;> simp only [setFld_planned]
@[simp] theorem countOne_stamp (k w : Nat) (r_ : Nat) : (s.countOne k w).stamp r_ = s.stamp r_ := by unfold State.countOne; split <;> simp only [setFld_stamp]
@[simp] theorem countOne_axisRec (k w : Nat) (r_ : Nat) : (s.countOne k w).axisRec r_ = s.axisRec r_ := by unfold State.countOne; split <;> simp only [setFld_axisRec]
@[simp] theorem countOne_schedRec (k w : Nat) (r_ : Nat) : (s.countOne k w).schedRec r_ = s.schedRec r_ := by unfold State.countOne; split <;> simp only [setFld_schedRec]
@[simp] theorem countOne_feedOf (k w : Nat) (r_ : Nat) : (s.countOne k w).feedOf r_ = s.feedOf r_ := by unfold State.countOne; split <;> simp only [setFld_feedOf]
@[simp] theorem countOne_feedOfChan (k w : Nat) (r_ : Nat) : (s.countOne k w).feedOfChan r_ = s.feedOfChan r_ := by unfold State.countOne; split <;> simp only [setFld_feedOfChan]
@[simp] theorem countOne_loopOf (k w : Nat) (r_ : Nat) : (s.countOne k w).loopOf r_ = s.loopOf r_ := by unfold State.countOne; split <;> simp only [setFld_loopOf]
@[simp] theorem countOne_protRec (k w : Nat) (r_ : Nat) : (s.countOne k w).protRec r_ = s.protRec r_ := by unfold State.countOne; split <;> simp only [setFld_protRec]

/-! ### countN -/

@[simp] theorem countN_variant (k w n : Nat) : (s.countN k w n).variant = s.variant := by unfold State.countN; dsimp only; split <;> simp only [setFld_variant]
@[simp] theorem countN_power (k w n : Nat) : (s.countN k w n).power = s.power := by unfold State.countN; dsimp only; split <;> simp only [setFld_power]
@[simp] theorem countN_clock (k w n : Nat) : (s.countN k w n).clock = s.clock := by unfold State.countN; dsimp only; split <;> simp only [setFld_clock]
@[simp] theorem countN_tsBase (k w n : Nat) : (s.countN k w n).tsBase = s.tsBase := by unfold State.countN; dsimp only; split <;> simp only [setFld_tsBase]
@[simp] theorem countN_frame (k w n : Nat) : (s.countN k w n).frame = s.frame := by unfold State.countN; dsimp only; split <;> simp only [setFld_frame]
@[simp] theorem countN_lastEngine (k w n : Nat) : (s.countN k w n).lastEngine = s.lastEngine := by unfold State.countN; dsimp only; split <;> simp only [setFld_lastEngine]
@[simp] theorem countN_lastMotion (k w n : Nat) : (s.countN k w n).lastMotion = s.lastMotion := by unfold State.countN; dsimp only; split <;> simp only [setFld_lastMotion]
@[simp] theorem countN_free (k w n : Nat) : (s.countN k w n).free = s.free := by unfold State.countN; dsimp only; split <;> simp only [setFld_free]
@[simp] theorem countN_fm (k w n : Nat) : (s.countN k w n).fm = s.fm := by unfold State.countN; dsimp only; split <;> simp only [setFld_fm]
@[simp] theorem countN_box (k w n : Nat) : (s.countN k w n).box = s.box := by unfold State.countN; dsimp only; split <;> simp only [setFld_box]
@[simp] theorem countN_dies (k w n : Nat) : (s.countN k w n).dies = s.dies := by unfold State.countN; dsimp only; split <;> simp only [setFld_dies]
@[simp] theorem countN_legs (k w n : Nat) : (s.countN k w n).legs = s.legs := by unfold State.countN; dsimp only; split <;> simp only [setFld_legs]
@[simp] theorem countN_regions (k w n : Nat) : (s.countN k w n).regions = s.regions := by unfold State.countN; dsimp only; split <;> simp only [setFld_regions]
@[simp] theorem countN_carriers (k w n : Nat) : (s.countN k w n).carriers = s.carriers := by unfold State.countN; dsimp only; split <;> simp only [setFld_carriers]
@[simp] theorem countN_wireTests (k w n : Nat) : (s.countN k w n).wireTests = s.wireTests := by unfold State.countN; dsimp only; split <;> simp only [setFld_wireTests]
@[simp] theorem countN_leakTests (k w n : Nat) : (s.countN k w n).leakTests = s.leakTests := by unfold State.countN; dsimp only; split <;> simp only [setFld_leakTests]
@[simp] theorem countN_seqs (k w n : Nat) : (s.countN k w n).seqs = s.seqs := by unfold State.countN; dsimp only; split <;> simp only [setFld_seqs]
@[simp] theorem countN_cores (k w n : Nat) : (s.countN k w n).cores = s.cores := by unfold State.countN; dsimp only; split <;> simp only [setFld_cores]
@[simp] theorem countN_meas (k w n : Nat) : (s.countN k w n).meas = s.meas := by unfold State.countN; dsimp only; split <;> simp only [setFld_meas]
@[simp] theorem countN_calRuns (k w n : Nat) : (s.countN k w n).calRuns = s.calRuns := by unfold State.countN; dsimp only; split <;> simp only [setFld_calRuns]
@[simp] theorem countN_cmps (k w n : Nat) : (s.countN k w n).cmps = s.cmps := by unfold State.countN; dsimp only; split <;> simp only [setFld_cmps]
@[simp] theorem countN_audit (k w n : Nat) : (s.countN k w n).audit = s.audit := by unfold State.countN; dsimp only; split <;> simp only [setFld_audit]
@[simp] theorem countN_inv (k w n : Nat) : (s.countN k w n).inv = s.inv := by unfold State.countN; dsimp only; split <;> simp only [setFld_inv]
@[simp] theorem countN_invOp (k w n : Nat) : (s.countN k w n).invOp = s.invOp := by unfold State.countN; dsimp only; split <;> simp only [setFld_invOp]
@[simp] theorem countN_pins (k w n : Nat) : (s.countN k w n).pins = s.pins := by unfold State.countN; dsimp only; split <;> simp only [setFld_pins]
@[simp] theorem countN_jtag (k w n : Nat) : (s.countN k w n).jtag = s.jtag := by unfold State.countN; dsimp only; split <;> simp only [setFld_jtag]
@[simp] theorem countN_engs (k w n : Nat) : (s.countN k w n).engs = s.engs := by unfold State.countN; dsimp only; split <;> simp only [setFld_engs]
@[simp] theorem countN_engine (k w n : Nat) : (s.countN k w n).engine = s.engine := by unfold State.countN; dsimp only; split <;> simp only [setFld_engine]
@[simp] theorem countN_axes (k w n : Nat) : (s.countN k w n).axes = s.axes := by unfold State.countN; dsimp only; split <;> simp only [setFld_axes]
@[simp] theorem countN_chans (k w n : Nat) : (s.countN k w n).chans = s.chans := by unfold State.countN; dsimp only; split <;> simp only [setFld_chans]
@[simp] theorem countN_compares (k w n : Nat) : (s.countN k w n).compares = s.compares := by unfold State.countN; dsimp only; split <;> simp only [setFld_compares]
@[simp] theorem countN_larder (k w n : Nat) : (s.countN k w n).larder = s.larder := by unfold State.countN; dsimp only; split <;> simp only [setFld_larder]
@[simp] theorem countN_ladder (k w n : Nat) : (s.countN k w n).ladder = s.ladder := by unfold State.countN; dsimp only; split <;> simp only [setFld_ladder]
@[simp] theorem countN_planner (k w n : Nat) : (s.countN k w n).planner = s.planner := by unfold State.countN; dsimp only; split <;> simp only [setFld_planner]
@[simp] theorem countN_comps (k w n : Nat) : (s.countN k w n).comps = s.comps := by unfold State.countN; dsimp only; split <;> simp only [setFld_comps]
@[simp] theorem countN_guard (k w n : Nat) : (s.countN k w n).guard = s.guard := by unfold State.countN; dsimp only; split <;> simp only [setFld_guard]
@[simp] theorem countN_seq (k w n : Nat) : (s.countN k w n).seq = s.seq := by unfold State.countN; dsimp only; split <;> simp only [setFld_seq]
@[simp] theorem countN_flash (k w n : Nat) : (s.countN k w n).flash = s.flash := by unfold State.countN; dsimp only; split <;> simp only [setFld_flash]
@[simp] theorem countN_hp (k w n : Nat) : (s.countN k w n).hp = s.hp := by unfold State.countN; dsimp only; split <;> simp only [setFld_hp]
@[simp] theorem countN_prt (k w n : Nat) : (s.countN k w n).prt = s.prt := by unfold State.countN; dsimp only; split <;> simp only [setFld_prt]
@[simp] theorem countN_hatch (k w n : Nat) : (s.countN k w n).hatch = s.hatch := by unfold State.countN; dsimp only; split <;> simp only [setFld_hatch]
@[simp] theorem countN_stock (k w n : Nat) : (s.countN k w n).stock = s.stock := by unfold State.countN; dsimp only; split <;> simp only [setFld_stock]
@[simp] theorem countN_access (k w n : Nat) : (s.countN k w n).access = s.access := by unfold State.countN; dsimp only; split <;> simp only [setFld_access]
@[simp] theorem countN_pending (k w n : Nat) : (s.countN k w n).pending = s.pending := by unfold State.countN; dsimp only; split <;> simp only [setFld_pending]
@[simp] theorem countN_implemented (k w n : Nat) (r_ : Nat) : (s.countN k w n).implemented r_ = s.implemented r_ := by unfold State.countN; dsimp only; split <;> simp only [setFld_implemented]
@[simp] theorem countN_linked (k w n : Nat) (r_ : Nat) : (s.countN k w n).linked r_ = s.linked r_ := by unfold State.countN; dsimp only; split <;> simp only [setFld_linked]
@[simp] theorem countN_hasDie (k w n : Nat) (r_ : Nat) : (s.countN k w n).hasDie r_ = s.hasDie r_ := by unfold State.countN; dsimp only; split <;> simp only [setFld_hasDie]
@[simp] theorem countN_hasAxis (k w n : Nat) (r_ : Nat) : (s.countN k w n).hasAxis r_ = s.hasAxis r_ := by unfold State.countN; dsimp only; split <;> simp only [setFld_hasAxis]
@[simp] theorem countN_planned (k w n : Nat) (r_ : Nat) : (s.countN k w n).planned r_ = s.planned r_ := by unfold State.countN; dsimp only; split <;> simp only [setFld_planned]
@[simp] theorem countN_stamp (k w n : Nat) (r_ : Nat) : (s.countN k w n).stamp r_ = s.stamp r_ := by unfold State.countN; dsimp only; split <;> simp only [setFld_stamp]
@[simp] theorem countN_axisRec (k w n : Nat) (r_ : Nat) : (s.countN k w n).axisRec r_ = s.axisRec r_ := by unfold State.countN; dsimp only; split <;> simp only [setFld_axisRec]
@[simp] theorem countN_schedRec (k w n : Nat) (r_ : Nat) : (s.countN k w n).schedRec r_ = s.schedRec r_ := by unfold State.countN; dsimp only; split <;> simp only [setFld_schedRec]
@[simp] theorem countN_feedOf (k w n : Nat) (r_ : Nat) : (s.countN k w n).feedOf r_ = s.feedOf r_ := by unfold State.countN; dsimp only; split <;> simp only [setFld_feedOf]
@[simp] theorem countN_feedOfChan (k w n : Nat) (r_ : Nat) : (s.countN k w n).feedOfChan r_ = s.feedOfChan r_ := by unfold State.countN; dsimp only; split <;> simp only [setFld_feedOfChan]
@[simp] theorem countN_loopOf (k w n : Nat) (r_ : Nat) : (s.countN k w n).loopOf r_ = s.loopOf r_ := by unfold State.countN; dsimp only; split <;> simp only [setFld_loopOf]
@[simp] theorem countN_protRec (k w n : Nat) (r_ : Nat) : (s.countN k w n).protRec r_ = s.protRec r_ := by unfold State.countN; dsimp only; split <;> simp only [setFld_protRec]

/-! ### count -/

@[simp] theorem count_variant (k : Nat) : (s.count k).variant = s.variant := countOne_variant s k 16
@[simp] theorem count_power (k : Nat) : (s.count k).power = s.power := countOne_power s k 16
@[simp] theorem count_clock (k : Nat) : (s.count k).clock = s.clock := countOne_clock s k 16
@[simp] theorem count_tsBase (k : Nat) : (s.count k).tsBase = s.tsBase := countOne_tsBase s k 16
@[simp] theorem count_frame (k : Nat) : (s.count k).frame = s.frame := countOne_frame s k 16
@[simp] theorem count_lastEngine (k : Nat) : (s.count k).lastEngine = s.lastEngine := countOne_lastEngine s k 16
@[simp] theorem count_lastMotion (k : Nat) : (s.count k).lastMotion = s.lastMotion := countOne_lastMotion s k 16
@[simp] theorem count_free (k : Nat) : (s.count k).free = s.free := countOne_free s k 16
@[simp] theorem count_fm (k : Nat) : (s.count k).fm = s.fm := countOne_fm s k 16
@[simp] theorem count_box (k : Nat) : (s.count k).box = s.box := countOne_box s k 16
@[simp] theorem count_dies (k : Nat) : (s.count k).dies = s.dies := countOne_dies s k 16
@[simp] theorem count_legs (k : Nat) : (s.count k).legs = s.legs := countOne_legs s k 16
@[simp] theorem count_regions (k : Nat) : (s.count k).regions = s.regions := countOne_regions s k 16
@[simp] theorem count_carriers (k : Nat) : (s.count k).carriers = s.carriers := countOne_carriers s k 16
@[simp] theorem count_wireTests (k : Nat) : (s.count k).wireTests = s.wireTests := countOne_wireTests s k 16
@[simp] theorem count_leakTests (k : Nat) : (s.count k).leakTests = s.leakTests := countOne_leakTests s k 16
@[simp] theorem count_seqs (k : Nat) : (s.count k).seqs = s.seqs := countOne_seqs s k 16
@[simp] theorem count_cores (k : Nat) : (s.count k).cores = s.cores := countOne_cores s k 16
@[simp] theorem count_meas (k : Nat) : (s.count k).meas = s.meas := countOne_meas s k 16
@[simp] theorem count_calRuns (k : Nat) : (s.count k).calRuns = s.calRuns := countOne_calRuns s k 16
@[simp] theorem count_cmps (k : Nat) : (s.count k).cmps = s.cmps := countOne_cmps s k 16
@[simp] theorem count_audit (k : Nat) : (s.count k).audit = s.audit := countOne_audit s k 16
@[simp] theorem count_inv (k : Nat) : (s.count k).inv = s.inv := countOne_inv s k 16
@[simp] theorem count_invOp (k : Nat) : (s.count k).invOp = s.invOp := countOne_invOp s k 16
@[simp] theorem count_pins (k : Nat) : (s.count k).pins = s.pins := countOne_pins s k 16
@[simp] theorem count_jtag (k : Nat) : (s.count k).jtag = s.jtag := countOne_jtag s k 16
@[simp] theorem count_engs (k : Nat) : (s.count k).engs = s.engs := countOne_engs s k 16
@[simp] theorem count_engine (k : Nat) : (s.count k).engine = s.engine := countOne_engine s k 16
@[simp] theorem count_axes (k : Nat) : (s.count k).axes = s.axes := countOne_axes s k 16
@[simp] theorem count_chans (k : Nat) : (s.count k).chans = s.chans := countOne_chans s k 16
@[simp] theorem count_compares (k : Nat) : (s.count k).compares = s.compares := countOne_compares s k 16
@[simp] theorem count_larder (k : Nat) : (s.count k).larder = s.larder := countOne_larder s k 16
@[simp] theorem count_ladder (k : Nat) : (s.count k).ladder = s.ladder := countOne_ladder s k 16
@[simp] theorem count_planner (k : Nat) : (s.count k).planner = s.planner := countOne_planner s k 16
@[simp] theorem count_comps (k : Nat) : (s.count k).comps = s.comps := countOne_comps s k 16
@[simp] theorem count_guard (k : Nat) : (s.count k).guard = s.guard := countOne_guard s k 16
@[simp] theorem count_seq (k : Nat) : (s.count k).seq = s.seq := countOne_seq s k 16
@[simp] theorem count_flash (k : Nat) : (s.count k).flash = s.flash := countOne_flash s k 16
@[simp] theorem count_hp (k : Nat) : (s.count k).hp = s.hp := countOne_hp s k 16
@[simp] theorem count_prt (k : Nat) : (s.count k).prt = s.prt := countOne_prt s k 16
@[simp] theorem count_hatch (k : Nat) : (s.count k).hatch = s.hatch := countOne_hatch s k 16
@[simp] theorem count_stock (k : Nat) : (s.count k).stock = s.stock := countOne_stock s k 16
@[simp] theorem count_access (k : Nat) : (s.count k).access = s.access := countOne_access s k 16
@[simp] theorem count_pending (k : Nat) : (s.count k).pending = s.pending := countOne_pending s k 16
@[simp] theorem count_implemented (k : Nat) (r_ : Nat) : (s.count k).implemented r_ = s.implemented r_ := countOne_implemented s k 16 r_
@[simp] theorem count_linked (k : Nat) (r_ : Nat) : (s.count k).linked r_ = s.linked r_ := countOne_linked s k 16 r_
@[simp] theorem count_hasDie (k : Nat) (r_ : Nat) : (s.count k).hasDie r_ = s.hasDie r_ := countOne_hasDie s k 16 r_
@[simp] theorem count_hasAxis (k : Nat) (r_ : Nat) : (s.count k).hasAxis r_ = s.hasAxis r_ := countOne_hasAxis s k 16 r_
@[simp] theorem count_planned (k : Nat) (r_ : Nat) : (s.count k).planned r_ = s.planned r_ := countOne_planned s k 16 r_
@[simp] theorem count_stamp (k : Nat) (r_ : Nat) : (s.count k).stamp r_ = s.stamp r_ := countOne_stamp s k 16 r_
@[simp] theorem count_axisRec (k : Nat) (r_ : Nat) : (s.count k).axisRec r_ = s.axisRec r_ := countOne_axisRec s k 16 r_
@[simp] theorem count_schedRec (k : Nat) (r_ : Nat) : (s.count k).schedRec r_ = s.schedRec r_ := countOne_schedRec s k 16 r_
@[simp] theorem count_feedOf (k : Nat) (r_ : Nat) : (s.count k).feedOf r_ = s.feedOf r_ := countOne_feedOf s k 16 r_
@[simp] theorem count_feedOfChan (k : Nat) (r_ : Nat) : (s.count k).feedOfChan r_ = s.feedOfChan r_ := countOne_feedOfChan s k 16 r_
@[simp] theorem count_loopOf (k : Nat) (r_ : Nat) : (s.count k).loopOf r_ = s.loopOf r_ := countOne_loopOf s k 16 r_
@[simp] theorem count_protRec (k : Nat) (r_ : Nat) : (s.count k).protRec r_ = s.protRec r_ := countOne_protRec s k 16 r_

/-! ### opStart -/

@[simp] theorem opStart_variant (k o : Nat) : (s.opStart k o).variant = s.variant := by unfold State.opStart State.setStat; simp only [setFld_variant]
@[simp] theorem opStart_power (k o : Nat) : (s.opStart k o).power = s.power := by unfold State.opStart State.setStat; simp only [setFld_power]
@[simp] theorem opStart_clock (k o : Nat) : (s.opStart k o).clock = s.clock := by unfold State.opStart State.setStat; simp only [setFld_clock]
@[simp] theorem opStart_tsBase (k o : Nat) : (s.opStart k o).tsBase = s.tsBase := by unfold State.opStart State.setStat; simp only [setFld_tsBase]
@[simp] theorem opStart_frame (k o : Nat) : (s.opStart k o).frame = s.frame := by unfold State.opStart State.setStat; simp only [setFld_frame]
@[simp] theorem opStart_lastEngine (k o : Nat) : (s.opStart k o).lastEngine = s.lastEngine := by unfold State.opStart State.setStat; simp only [setFld_lastEngine]
@[simp] theorem opStart_lastMotion (k o : Nat) : (s.opStart k o).lastMotion = s.lastMotion := by unfold State.opStart State.setStat; simp only [setFld_lastMotion]
@[simp] theorem opStart_free (k o : Nat) : (s.opStart k o).free = s.free := by unfold State.opStart State.setStat; simp only [setFld_free]
@[simp] theorem opStart_fm (k o : Nat) : (s.opStart k o).fm = s.fm := by unfold State.opStart State.setStat; simp only [setFld_fm]
@[simp] theorem opStart_box (k o : Nat) : (s.opStart k o).box = s.box := by unfold State.opStart State.setStat; simp only [setFld_box]
@[simp] theorem opStart_dies (k o : Nat) : (s.opStart k o).dies = s.dies := by unfold State.opStart State.setStat; simp only [setFld_dies]
@[simp] theorem opStart_legs (k o : Nat) : (s.opStart k o).legs = s.legs := by unfold State.opStart State.setStat; simp only [setFld_legs]
@[simp] theorem opStart_regions (k o : Nat) : (s.opStart k o).regions = s.regions := by unfold State.opStart State.setStat; simp only [setFld_regions]
@[simp] theorem opStart_carriers (k o : Nat) : (s.opStart k o).carriers = s.carriers := by unfold State.opStart State.setStat; simp only [setFld_carriers]
@[simp] theorem opStart_wireTests (k o : Nat) : (s.opStart k o).wireTests = s.wireTests := by unfold State.opStart State.setStat; simp only [setFld_wireTests]
@[simp] theorem opStart_leakTests (k o : Nat) : (s.opStart k o).leakTests = s.leakTests := by unfold State.opStart State.setStat; simp only [setFld_leakTests]
@[simp] theorem opStart_seqs (k o : Nat) : (s.opStart k o).seqs = s.seqs := by unfold State.opStart State.setStat; simp only [setFld_seqs]
@[simp] theorem opStart_cores (k o : Nat) : (s.opStart k o).cores = s.cores := by unfold State.opStart State.setStat; simp only [setFld_cores]
@[simp] theorem opStart_meas (k o : Nat) : (s.opStart k o).meas = s.meas := by unfold State.opStart State.setStat; simp only [setFld_meas]
@[simp] theorem opStart_calRuns (k o : Nat) : (s.opStart k o).calRuns = s.calRuns := by unfold State.opStart State.setStat; simp only [setFld_calRuns]
@[simp] theorem opStart_cmps (k o : Nat) : (s.opStart k o).cmps = s.cmps := by unfold State.opStart State.setStat; simp only [setFld_cmps]
@[simp] theorem opStart_audit (k o : Nat) : (s.opStart k o).audit = s.audit := by unfold State.opStart State.setStat; simp only [setFld_audit]
@[simp] theorem opStart_inv (k o : Nat) : (s.opStart k o).inv = s.inv := by unfold State.opStart State.setStat; simp only [setFld_inv]
@[simp] theorem opStart_invOp (k o : Nat) : (s.opStart k o).invOp = s.invOp := by unfold State.opStart State.setStat; simp only [setFld_invOp]
@[simp] theorem opStart_pins (k o : Nat) : (s.opStart k o).pins = s.pins := by unfold State.opStart State.setStat; simp only [setFld_pins]
@[simp] theorem opStart_jtag (k o : Nat) : (s.opStart k o).jtag = s.jtag := by unfold State.opStart State.setStat; simp only [setFld_jtag]
@[simp] theorem opStart_engs (k o : Nat) : (s.opStart k o).engs = s.engs := by unfold State.opStart State.setStat; simp only [setFld_engs]
@[simp] theorem opStart_engine (k o : Nat) : (s.opStart k o).engine = s.engine := by unfold State.opStart State.setStat; simp only [setFld_engine]
@[simp] theorem opStart_axes (k o : Nat) : (s.opStart k o).axes = s.axes := by unfold State.opStart State.setStat; simp only [setFld_axes]
@[simp] theorem opStart_chans (k o : Nat) : (s.opStart k o).chans = s.chans := by unfold State.opStart State.setStat; simp only [setFld_chans]
@[simp] theorem opStart_compares (k o : Nat) : (s.opStart k o).compares = s.compares := by unfold State.opStart State.setStat; simp only [setFld_compares]
@[simp] theorem opStart_larder (k o : Nat) : (s.opStart k o).larder = s.larder := by unfold State.opStart State.setStat; simp only [setFld_larder]
@[simp] theorem opStart_ladder (k o : Nat) : (s.opStart k o).ladder = s.ladder := by unfold State.opStart State.setStat; simp only [setFld_ladder]
@[simp] theorem opStart_planner (k o : Nat) : (s.opStart k o).planner = s.planner := by unfold State.opStart State.setStat; simp only [setFld_planner]
@[simp] theorem opStart_comps (k o : Nat) : (s.opStart k o).comps = s.comps := by unfold State.opStart State.setStat; simp only [setFld_comps]
@[simp] theorem opStart_guard (k o : Nat) : (s.opStart k o).guard = s.guard := by unfold State.opStart State.setStat; simp only [setFld_guard]
@[simp] theorem opStart_seq (k o : Nat) : (s.opStart k o).seq = s.seq := by unfold State.opStart State.setStat; simp only [setFld_seq]
@[simp] theorem opStart_flash (k o : Nat) : (s.opStart k o).flash = s.flash := by unfold State.opStart State.setStat; simp only [setFld_flash]
@[simp] theorem opStart_hp (k o : Nat) : (s.opStart k o).hp = s.hp := by unfold State.opStart State.setStat; simp only [setFld_hp]
@[simp] theorem opStart_prt (k o : Nat) : (s.opStart k o).prt = s.prt := by unfold State.opStart State.setStat; simp only [setFld_prt]
@[simp] theorem opStart_hatch (k o : Nat) : (s.opStart k o).hatch = s.hatch := by unfold State.opStart State.setStat; simp only [setFld_hatch]
@[simp] theorem opStart_stock (k o : Nat) : (s.opStart k o).stock = s.stock := by unfold State.opStart State.setStat; simp only [setFld_stock]
@[simp] theorem opStart_access (k o : Nat) : (s.opStart k o).access = s.access := by unfold State.opStart State.setStat; simp only [setFld_access]
@[simp] theorem opStart_pending (k o : Nat) : (s.opStart k o).pending = s.pending := by unfold State.opStart State.setStat; simp only [setFld_pending]
@[simp] theorem opStart_implemented (k o : Nat) (r_ : Nat) : (s.opStart k o).implemented r_ = s.implemented r_ := by unfold State.opStart State.setStat; simp only [setFld_implemented]
@[simp] theorem opStart_linked (k o : Nat) (r_ : Nat) : (s.opStart k o).linked r_ = s.linked r_ := by unfold State.opStart State.setStat; simp only [setFld_linked]
@[simp] theorem opStart_hasDie (k o : Nat) (r_ : Nat) : (s.opStart k o).hasDie r_ = s.hasDie r_ := by unfold State.opStart State.setStat; simp only [setFld_hasDie]
@[simp] theorem opStart_hasAxis (k o : Nat) (r_ : Nat) : (s.opStart k o).hasAxis r_ = s.hasAxis r_ := by unfold State.opStart State.setStat; simp only [setFld_hasAxis]
@[simp] theorem opStart_planned (k o : Nat) (r_ : Nat) : (s.opStart k o).planned r_ = s.planned r_ := by unfold State.opStart State.setStat; simp only [setFld_planned]
@[simp] theorem opStart_stamp (k o : Nat) (r_ : Nat) : (s.opStart k o).stamp r_ = s.stamp r_ := by unfold State.opStart State.setStat; simp only [setFld_stamp]
@[simp] theorem opStart_axisRec (k o : Nat) (r_ : Nat) : (s.opStart k o).axisRec r_ = s.axisRec r_ := by unfold State.opStart State.setStat; simp only [setFld_axisRec]
@[simp] theorem opStart_schedRec (k o : Nat) (r_ : Nat) : (s.opStart k o).schedRec r_ = s.schedRec r_ := by unfold State.opStart State.setStat; simp only [setFld_schedRec]
@[simp] theorem opStart_feedOf (k o : Nat) (r_ : Nat) : (s.opStart k o).feedOf r_ = s.feedOf r_ := by unfold State.opStart State.setStat; simp only [setFld_feedOf]
@[simp] theorem opStart_feedOfChan (k o : Nat) (r_ : Nat) : (s.opStart k o).feedOfChan r_ = s.feedOfChan r_ := by unfold State.opStart State.setStat; simp only [setFld_feedOfChan]
@[simp] theorem opStart_loopOf (k o : Nat) (r_ : Nat) : (s.opStart k o).loopOf r_ = s.loopOf r_ := by unfold State.opStart State.setStat; simp only [setFld_loopOf]
@[simp] theorem opStart_protRec (k o : Nat) (r_ : Nat) : (s.opStart k o).protRec r_ = s.protRec r_ := by unfold State.opStart State.setStat; simp only [setFld_protRec]

/-! ### opDone -/

@[simp] theorem opDone_variant (k : Nat) : (s.opDone k).variant = s.variant := by unfold State.opDone State.setStat; simp only [setFld_variant]
@[simp] theorem opDone_power (k : Nat) : (s.opDone k).power = s.power := by unfold State.opDone State.setStat; simp only [setFld_power]
@[simp] theorem opDone_clock (k : Nat) : (s.opDone k).clock = s.clock := by unfold State.opDone State.setStat; simp only [setFld_clock]
@[simp] theorem opDone_tsBase (k : Nat) : (s.opDone k).tsBase = s.tsBase := by unfold State.opDone State.setStat; simp only [setFld_tsBase]
@[simp] theorem opDone_frame (k : Nat) : (s.opDone k).frame = s.frame := by unfold State.opDone State.setStat; simp only [setFld_frame]
@[simp] theorem opDone_lastEngine (k : Nat) : (s.opDone k).lastEngine = s.lastEngine := by unfold State.opDone State.setStat; simp only [setFld_lastEngine]
@[simp] theorem opDone_lastMotion (k : Nat) : (s.opDone k).lastMotion = s.lastMotion := by unfold State.opDone State.setStat; simp only [setFld_lastMotion]
@[simp] theorem opDone_free (k : Nat) : (s.opDone k).free = s.free := by unfold State.opDone State.setStat; simp only [setFld_free]
@[simp] theorem opDone_fm (k : Nat) : (s.opDone k).fm = s.fm := by unfold State.opDone State.setStat; simp only [setFld_fm]
@[simp] theorem opDone_box (k : Nat) : (s.opDone k).box = s.box := by unfold State.opDone State.setStat; simp only [setFld_box]
@[simp] theorem opDone_dies (k : Nat) : (s.opDone k).dies = s.dies := by unfold State.opDone State.setStat; simp only [setFld_dies]
@[simp] theorem opDone_legs (k : Nat) : (s.opDone k).legs = s.legs := by unfold State.opDone State.setStat; simp only [setFld_legs]
@[simp] theorem opDone_regions (k : Nat) : (s.opDone k).regions = s.regions := by unfold State.opDone State.setStat; simp only [setFld_regions]
@[simp] theorem opDone_carriers (k : Nat) : (s.opDone k).carriers = s.carriers := by unfold State.opDone State.setStat; simp only [setFld_carriers]
@[simp] theorem opDone_wireTests (k : Nat) : (s.opDone k).wireTests = s.wireTests := by unfold State.opDone State.setStat; simp only [setFld_wireTests]
@[simp] theorem opDone_leakTests (k : Nat) : (s.opDone k).leakTests = s.leakTests := by unfold State.opDone State.setStat; simp only [setFld_leakTests]
@[simp] theorem opDone_seqs (k : Nat) : (s.opDone k).seqs = s.seqs := by unfold State.opDone State.setStat; simp only [setFld_seqs]
@[simp] theorem opDone_cores (k : Nat) : (s.opDone k).cores = s.cores := by unfold State.opDone State.setStat; simp only [setFld_cores]
@[simp] theorem opDone_meas (k : Nat) : (s.opDone k).meas = s.meas := by unfold State.opDone State.setStat; simp only [setFld_meas]
@[simp] theorem opDone_calRuns (k : Nat) : (s.opDone k).calRuns = s.calRuns := by unfold State.opDone State.setStat; simp only [setFld_calRuns]
@[simp] theorem opDone_cmps (k : Nat) : (s.opDone k).cmps = s.cmps := by unfold State.opDone State.setStat; simp only [setFld_cmps]
@[simp] theorem opDone_audit (k : Nat) : (s.opDone k).audit = s.audit := by unfold State.opDone State.setStat; simp only [setFld_audit]
@[simp] theorem opDone_inv (k : Nat) : (s.opDone k).inv = s.inv := by unfold State.opDone State.setStat; simp only [setFld_inv]
@[simp] theorem opDone_invOp (k : Nat) : (s.opDone k).invOp = s.invOp := by unfold State.opDone State.setStat; simp only [setFld_invOp]
@[simp] theorem opDone_pins (k : Nat) : (s.opDone k).pins = s.pins := by unfold State.opDone State.setStat; simp only [setFld_pins]
@[simp] theorem opDone_jtag (k : Nat) : (s.opDone k).jtag = s.jtag := by unfold State.opDone State.setStat; simp only [setFld_jtag]
@[simp] theorem opDone_engs (k : Nat) : (s.opDone k).engs = s.engs := by unfold State.opDone State.setStat; simp only [setFld_engs]
@[simp] theorem opDone_engine (k : Nat) : (s.opDone k).engine = s.engine := by unfold State.opDone State.setStat; simp only [setFld_engine]
@[simp] theorem opDone_axes (k : Nat) : (s.opDone k).axes = s.axes := by unfold State.opDone State.setStat; simp only [setFld_axes]
@[simp] theorem opDone_chans (k : Nat) : (s.opDone k).chans = s.chans := by unfold State.opDone State.setStat; simp only [setFld_chans]
@[simp] theorem opDone_compares (k : Nat) : (s.opDone k).compares = s.compares := by unfold State.opDone State.setStat; simp only [setFld_compares]
@[simp] theorem opDone_larder (k : Nat) : (s.opDone k).larder = s.larder := by unfold State.opDone State.setStat; simp only [setFld_larder]
@[simp] theorem opDone_ladder (k : Nat) : (s.opDone k).ladder = s.ladder := by unfold State.opDone State.setStat; simp only [setFld_ladder]
@[simp] theorem opDone_planner (k : Nat) : (s.opDone k).planner = s.planner := by unfold State.opDone State.setStat; simp only [setFld_planner]
@[simp] theorem opDone_comps (k : Nat) : (s.opDone k).comps = s.comps := by unfold State.opDone State.setStat; simp only [setFld_comps]
@[simp] theorem opDone_guard (k : Nat) : (s.opDone k).guard = s.guard := by unfold State.opDone State.setStat; simp only [setFld_guard]
@[simp] theorem opDone_seq (k : Nat) : (s.opDone k).seq = s.seq := by unfold State.opDone State.setStat; simp only [setFld_seq]
@[simp] theorem opDone_flash (k : Nat) : (s.opDone k).flash = s.flash := by unfold State.opDone State.setStat; simp only [setFld_flash]
@[simp] theorem opDone_hp (k : Nat) : (s.opDone k).hp = s.hp := by unfold State.opDone State.setStat; simp only [setFld_hp]
@[simp] theorem opDone_prt (k : Nat) : (s.opDone k).prt = s.prt := by unfold State.opDone State.setStat; simp only [setFld_prt]
@[simp] theorem opDone_hatch (k : Nat) : (s.opDone k).hatch = s.hatch := by unfold State.opDone State.setStat; simp only [setFld_hatch]
@[simp] theorem opDone_stock (k : Nat) : (s.opDone k).stock = s.stock := by unfold State.opDone State.setStat; simp only [setFld_stock]
@[simp] theorem opDone_access (k : Nat) : (s.opDone k).access = s.access := by unfold State.opDone State.setStat; simp only [setFld_access]
@[simp] theorem opDone_pending (k : Nat) : (s.opDone k).pending = s.pending := by unfold State.opDone State.setStat; simp only [setFld_pending]
@[simp] theorem opDone_implemented (k : Nat) (r_ : Nat) : (s.opDone k).implemented r_ = s.implemented r_ := by unfold State.opDone State.setStat; simp only [setFld_implemented]
@[simp] theorem opDone_linked (k : Nat) (r_ : Nat) : (s.opDone k).linked r_ = s.linked r_ := by unfold State.opDone State.setStat; simp only [setFld_linked]
@[simp] theorem opDone_hasDie (k : Nat) (r_ : Nat) : (s.opDone k).hasDie r_ = s.hasDie r_ := by unfold State.opDone State.setStat; simp only [setFld_hasDie]
@[simp] theorem opDone_hasAxis (k : Nat) (r_ : Nat) : (s.opDone k).hasAxis r_ = s.hasAxis r_ := by unfold State.opDone State.setStat; simp only [setFld_hasAxis]
@[simp] theorem opDone_planned (k : Nat) (r_ : Nat) : (s.opDone k).planned r_ = s.planned r_ := by unfold State.opDone State.setStat; simp only [setFld_planned]
@[simp] theorem opDone_stamp (k : Nat) (r_ : Nat) : (s.opDone k).stamp r_ = s.stamp r_ := by unfold State.opDone State.setStat; simp only [setFld_stamp]
@[simp] theorem opDone_axisRec (k : Nat) (r_ : Nat) : (s.opDone k).axisRec r_ = s.axisRec r_ := by unfold State.opDone State.setStat; simp only [setFld_axisRec]
@[simp] theorem opDone_schedRec (k : Nat) (r_ : Nat) : (s.opDone k).schedRec r_ = s.schedRec r_ := by unfold State.opDone State.setStat; simp only [setFld_schedRec]
@[simp] theorem opDone_feedOf (k : Nat) (r_ : Nat) : (s.opDone k).feedOf r_ = s.feedOf r_ := by unfold State.opDone State.setStat; simp only [setFld_feedOf]
@[simp] theorem opDone_feedOfChan (k : Nat) (r_ : Nat) : (s.opDone k).feedOfChan r_ = s.feedOfChan r_ := by unfold State.opDone State.setStat; simp only [setFld_feedOfChan]
@[simp] theorem opDone_loopOf (k : Nat) (r_ : Nat) : (s.opDone k).loopOf r_ = s.loopOf r_ := by unfold State.opDone State.setStat; simp only [setFld_loopOf]
@[simp] theorem opDone_protRec (k : Nat) (r_ : Nat) : (s.opDone k).protRec r_ = s.protRec r_ := by unfold State.opDone State.setStat; simp only [setFld_protRec]

/-! ### opErr -/

@[simp] theorem opErr_variant (k c : Nat) : (s.opErr k c).variant = s.variant := by unfold State.opErr State.setStat; simp only [setFld_variant]
@[simp] theorem opErr_power (k c : Nat) : (s.opErr k c).power = s.power := by unfold State.opErr State.setStat; simp only [setFld_power]
@[simp] theorem opErr_clock (k c : Nat) : (s.opErr k c).clock = s.clock := by unfold State.opErr State.setStat; simp only [setFld_clock]
@[simp] theorem opErr_tsBase (k c : Nat) : (s.opErr k c).tsBase = s.tsBase := by unfold State.opErr State.setStat; simp only [setFld_tsBase]
@[simp] theorem opErr_frame (k c : Nat) : (s.opErr k c).frame = s.frame := by unfold State.opErr State.setStat; simp only [setFld_frame]
@[simp] theorem opErr_lastEngine (k c : Nat) : (s.opErr k c).lastEngine = s.lastEngine := by unfold State.opErr State.setStat; simp only [setFld_lastEngine]
@[simp] theorem opErr_lastMotion (k c : Nat) : (s.opErr k c).lastMotion = s.lastMotion := by unfold State.opErr State.setStat; simp only [setFld_lastMotion]
@[simp] theorem opErr_free (k c : Nat) : (s.opErr k c).free = s.free := by unfold State.opErr State.setStat; simp only [setFld_free]
@[simp] theorem opErr_fm (k c : Nat) : (s.opErr k c).fm = s.fm := by unfold State.opErr State.setStat; simp only [setFld_fm]
@[simp] theorem opErr_box (k c : Nat) : (s.opErr k c).box = s.box := by unfold State.opErr State.setStat; simp only [setFld_box]
@[simp] theorem opErr_dies (k c : Nat) : (s.opErr k c).dies = s.dies := by unfold State.opErr State.setStat; simp only [setFld_dies]
@[simp] theorem opErr_legs (k c : Nat) : (s.opErr k c).legs = s.legs := by unfold State.opErr State.setStat; simp only [setFld_legs]
@[simp] theorem opErr_regions (k c : Nat) : (s.opErr k c).regions = s.regions := by unfold State.opErr State.setStat; simp only [setFld_regions]
@[simp] theorem opErr_carriers (k c : Nat) : (s.opErr k c).carriers = s.carriers := by unfold State.opErr State.setStat; simp only [setFld_carriers]
@[simp] theorem opErr_wireTests (k c : Nat) : (s.opErr k c).wireTests = s.wireTests := by unfold State.opErr State.setStat; simp only [setFld_wireTests]
@[simp] theorem opErr_leakTests (k c : Nat) : (s.opErr k c).leakTests = s.leakTests := by unfold State.opErr State.setStat; simp only [setFld_leakTests]
@[simp] theorem opErr_seqs (k c : Nat) : (s.opErr k c).seqs = s.seqs := by unfold State.opErr State.setStat; simp only [setFld_seqs]
@[simp] theorem opErr_cores (k c : Nat) : (s.opErr k c).cores = s.cores := by unfold State.opErr State.setStat; simp only [setFld_cores]
@[simp] theorem opErr_meas (k c : Nat) : (s.opErr k c).meas = s.meas := by unfold State.opErr State.setStat; simp only [setFld_meas]
@[simp] theorem opErr_calRuns (k c : Nat) : (s.opErr k c).calRuns = s.calRuns := by unfold State.opErr State.setStat; simp only [setFld_calRuns]
@[simp] theorem opErr_cmps (k c : Nat) : (s.opErr k c).cmps = s.cmps := by unfold State.opErr State.setStat; simp only [setFld_cmps]
@[simp] theorem opErr_audit (k c : Nat) : (s.opErr k c).audit = s.audit := by unfold State.opErr State.setStat; simp only [setFld_audit]
@[simp] theorem opErr_inv (k c : Nat) : (s.opErr k c).inv = s.inv := by unfold State.opErr State.setStat; simp only [setFld_inv]
@[simp] theorem opErr_invOp (k c : Nat) : (s.opErr k c).invOp = s.invOp := by unfold State.opErr State.setStat; simp only [setFld_invOp]
@[simp] theorem opErr_pins (k c : Nat) : (s.opErr k c).pins = s.pins := by unfold State.opErr State.setStat; simp only [setFld_pins]
@[simp] theorem opErr_jtag (k c : Nat) : (s.opErr k c).jtag = s.jtag := by unfold State.opErr State.setStat; simp only [setFld_jtag]
@[simp] theorem opErr_engs (k c : Nat) : (s.opErr k c).engs = s.engs := by unfold State.opErr State.setStat; simp only [setFld_engs]
@[simp] theorem opErr_engine (k c : Nat) : (s.opErr k c).engine = s.engine := by unfold State.opErr State.setStat; simp only [setFld_engine]
@[simp] theorem opErr_axes (k c : Nat) : (s.opErr k c).axes = s.axes := by unfold State.opErr State.setStat; simp only [setFld_axes]
@[simp] theorem opErr_chans (k c : Nat) : (s.opErr k c).chans = s.chans := by unfold State.opErr State.setStat; simp only [setFld_chans]
@[simp] theorem opErr_compares (k c : Nat) : (s.opErr k c).compares = s.compares := by unfold State.opErr State.setStat; simp only [setFld_compares]
@[simp] theorem opErr_larder (k c : Nat) : (s.opErr k c).larder = s.larder := by unfold State.opErr State.setStat; simp only [setFld_larder]
@[simp] theorem opErr_ladder (k c : Nat) : (s.opErr k c).ladder = s.ladder := by unfold State.opErr State.setStat; simp only [setFld_ladder]
@[simp] theorem opErr_planner (k c : Nat) : (s.opErr k c).planner = s.planner := by unfold State.opErr State.setStat; simp only [setFld_planner]
@[simp] theorem opErr_comps (k c : Nat) : (s.opErr k c).comps = s.comps := by unfold State.opErr State.setStat; simp only [setFld_comps]
@[simp] theorem opErr_guard (k c : Nat) : (s.opErr k c).guard = s.guard := by unfold State.opErr State.setStat; simp only [setFld_guard]
@[simp] theorem opErr_seq (k c : Nat) : (s.opErr k c).seq = s.seq := by unfold State.opErr State.setStat; simp only [setFld_seq]
@[simp] theorem opErr_flash (k c : Nat) : (s.opErr k c).flash = s.flash := by unfold State.opErr State.setStat; simp only [setFld_flash]
@[simp] theorem opErr_hp (k c : Nat) : (s.opErr k c).hp = s.hp := by unfold State.opErr State.setStat; simp only [setFld_hp]
@[simp] theorem opErr_prt (k c : Nat) : (s.opErr k c).prt = s.prt := by unfold State.opErr State.setStat; simp only [setFld_prt]
@[simp] theorem opErr_hatch (k c : Nat) : (s.opErr k c).hatch = s.hatch := by unfold State.opErr State.setStat; simp only [setFld_hatch]
@[simp] theorem opErr_stock (k c : Nat) : (s.opErr k c).stock = s.stock := by unfold State.opErr State.setStat; simp only [setFld_stock]
@[simp] theorem opErr_access (k c : Nat) : (s.opErr k c).access = s.access := by unfold State.opErr State.setStat; simp only [setFld_access]
@[simp] theorem opErr_pending (k c : Nat) : (s.opErr k c).pending = s.pending := by unfold State.opErr State.setStat; simp only [setFld_pending]
@[simp] theorem opErr_implemented (k c : Nat) (r_ : Nat) : (s.opErr k c).implemented r_ = s.implemented r_ := by unfold State.opErr State.setStat; simp only [setFld_implemented]
@[simp] theorem opErr_linked (k c : Nat) (r_ : Nat) : (s.opErr k c).linked r_ = s.linked r_ := by unfold State.opErr State.setStat; simp only [setFld_linked]
@[simp] theorem opErr_hasDie (k c : Nat) (r_ : Nat) : (s.opErr k c).hasDie r_ = s.hasDie r_ := by unfold State.opErr State.setStat; simp only [setFld_hasDie]
@[simp] theorem opErr_hasAxis (k c : Nat) (r_ : Nat) : (s.opErr k c).hasAxis r_ = s.hasAxis r_ := by unfold State.opErr State.setStat; simp only [setFld_hasAxis]
@[simp] theorem opErr_planned (k c : Nat) (r_ : Nat) : (s.opErr k c).planned r_ = s.planned r_ := by unfold State.opErr State.setStat; simp only [setFld_planned]
@[simp] theorem opErr_stamp (k c : Nat) (r_ : Nat) : (s.opErr k c).stamp r_ = s.stamp r_ := by unfold State.opErr State.setStat; simp only [setFld_stamp]
@[simp] theorem opErr_axisRec (k c : Nat) (r_ : Nat) : (s.opErr k c).axisRec r_ = s.axisRec r_ := by unfold State.opErr State.setStat; simp only [setFld_axisRec]
@[simp] theorem opErr_schedRec (k c : Nat) (r_ : Nat) : (s.opErr k c).schedRec r_ = s.schedRec r_ := by unfold State.opErr State.setStat; simp only [setFld_schedRec]
@[simp] theorem opErr_feedOf (k c : Nat) (r_ : Nat) : (s.opErr k c).feedOf r_ = s.feedOf r_ := by unfold State.opErr State.setStat; simp only [setFld_feedOf]
@[simp] theorem opErr_feedOfChan (k c : Nat) (r_ : Nat) : (s.opErr k c).feedOfChan r_ = s.feedOfChan r_ := by unfold State.opErr State.setStat; simp only [setFld_feedOfChan]
@[simp] theorem opErr_loopOf (k c : Nat) (r_ : Nat) : (s.opErr k c).loopOf r_ = s.loopOf r_ := by unfold State.opErr State.setStat; simp only [setFld_loopOf]
@[simp] theorem opErr_protRec (k c : Nat) (r_ : Nat) : (s.opErr k c).protRec r_ = s.protRec r_ := by unfold State.opErr State.setStat; simp only [setFld_protRec]

/-! ### opAborted -/

@[simp] theorem opAborted_variant (k : Nat) : (s.opAborted k).variant = s.variant := by unfold State.opAborted State.setStat; simp only [setFld_variant]
@[simp] theorem opAborted_power (k : Nat) : (s.opAborted k).power = s.power := by unfold State.opAborted State.setStat; simp only [setFld_power]
@[simp] theorem opAborted_clock (k : Nat) : (s.opAborted k).clock = s.clock := by unfold State.opAborted State.setStat; simp only [setFld_clock]
@[simp] theorem opAborted_tsBase (k : Nat) : (s.opAborted k).tsBase = s.tsBase := by unfold State.opAborted State.setStat; simp only [setFld_tsBase]
@[simp] theorem opAborted_frame (k : Nat) : (s.opAborted k).frame = s.frame := by unfold State.opAborted State.setStat; simp only [setFld_frame]
@[simp] theorem opAborted_lastEngine (k : Nat) : (s.opAborted k).lastEngine = s.lastEngine := by unfold State.opAborted State.setStat; simp only [setFld_lastEngine]
@[simp] theorem opAborted_lastMotion (k : Nat) : (s.opAborted k).lastMotion = s.lastMotion := by unfold State.opAborted State.setStat; simp only [setFld_lastMotion]
@[simp] theorem opAborted_free (k : Nat) : (s.opAborted k).free = s.free := by unfold State.opAborted State.setStat; simp only [setFld_free]
@[simp] theorem opAborted_fm (k : Nat) : (s.opAborted k).fm = s.fm := by unfold State.opAborted State.setStat; simp only [setFld_fm]
@[simp] theorem opAborted_box (k : Nat) : (s.opAborted k).box = s.box := by unfold State.opAborted State.setStat; simp only [setFld_box]
@[simp] theorem opAborted_dies (k : Nat) : (s.opAborted k).dies = s.dies := by unfold State.opAborted State.setStat; simp only [setFld_dies]
@[simp] theorem opAborted_legs (k : Nat) : (s.opAborted k).legs = s.legs := by unfold State.opAborted State.setStat; simp only [setFld_legs]
@[simp] theorem opAborted_regions (k : Nat) : (s.opAborted k).regions = s.regions := by unfold State.opAborted State.setStat; simp only [setFld_regions]
@[simp] theorem opAborted_carriers (k : Nat) : (s.opAborted k).carriers = s.carriers := by unfold State.opAborted State.setStat; simp only [setFld_carriers]
@[simp] theorem opAborted_wireTests (k : Nat) : (s.opAborted k).wireTests = s.wireTests := by unfold State.opAborted State.setStat; simp only [setFld_wireTests]
@[simp] theorem opAborted_leakTests (k : Nat) : (s.opAborted k).leakTests = s.leakTests := by unfold State.opAborted State.setStat; simp only [setFld_leakTests]
@[simp] theorem opAborted_seqs (k : Nat) : (s.opAborted k).seqs = s.seqs := by unfold State.opAborted State.setStat; simp only [setFld_seqs]
@[simp] theorem opAborted_cores (k : Nat) : (s.opAborted k).cores = s.cores := by unfold State.opAborted State.setStat; simp only [setFld_cores]
@[simp] theorem opAborted_meas (k : Nat) : (s.opAborted k).meas = s.meas := by unfold State.opAborted State.setStat; simp only [setFld_meas]
@[simp] theorem opAborted_calRuns (k : Nat) : (s.opAborted k).calRuns = s.calRuns := by unfold State.opAborted State.setStat; simp only [setFld_calRuns]
@[simp] theorem opAborted_cmps (k : Nat) : (s.opAborted k).cmps = s.cmps := by unfold State.opAborted State.setStat; simp only [setFld_cmps]
@[simp] theorem opAborted_audit (k : Nat) : (s.opAborted k).audit = s.audit := by unfold State.opAborted State.setStat; simp only [setFld_audit]
@[simp] theorem opAborted_inv (k : Nat) : (s.opAborted k).inv = s.inv := by unfold State.opAborted State.setStat; simp only [setFld_inv]
@[simp] theorem opAborted_invOp (k : Nat) : (s.opAborted k).invOp = s.invOp := by unfold State.opAborted State.setStat; simp only [setFld_invOp]
@[simp] theorem opAborted_pins (k : Nat) : (s.opAborted k).pins = s.pins := by unfold State.opAborted State.setStat; simp only [setFld_pins]
@[simp] theorem opAborted_jtag (k : Nat) : (s.opAborted k).jtag = s.jtag := by unfold State.opAborted State.setStat; simp only [setFld_jtag]
@[simp] theorem opAborted_engs (k : Nat) : (s.opAborted k).engs = s.engs := by unfold State.opAborted State.setStat; simp only [setFld_engs]
@[simp] theorem opAborted_engine (k : Nat) : (s.opAborted k).engine = s.engine := by unfold State.opAborted State.setStat; simp only [setFld_engine]
@[simp] theorem opAborted_axes (k : Nat) : (s.opAborted k).axes = s.axes := by unfold State.opAborted State.setStat; simp only [setFld_axes]
@[simp] theorem opAborted_chans (k : Nat) : (s.opAborted k).chans = s.chans := by unfold State.opAborted State.setStat; simp only [setFld_chans]
@[simp] theorem opAborted_compares (k : Nat) : (s.opAborted k).compares = s.compares := by unfold State.opAborted State.setStat; simp only [setFld_compares]
@[simp] theorem opAborted_larder (k : Nat) : (s.opAborted k).larder = s.larder := by unfold State.opAborted State.setStat; simp only [setFld_larder]
@[simp] theorem opAborted_ladder (k : Nat) : (s.opAborted k).ladder = s.ladder := by unfold State.opAborted State.setStat; simp only [setFld_ladder]
@[simp] theorem opAborted_planner (k : Nat) : (s.opAborted k).planner = s.planner := by unfold State.opAborted State.setStat; simp only [setFld_planner]
@[simp] theorem opAborted_comps (k : Nat) : (s.opAborted k).comps = s.comps := by unfold State.opAborted State.setStat; simp only [setFld_comps]
@[simp] theorem opAborted_guard (k : Nat) : (s.opAborted k).guard = s.guard := by unfold State.opAborted State.setStat; simp only [setFld_guard]
@[simp] theorem opAborted_seq (k : Nat) : (s.opAborted k).seq = s.seq := by unfold State.opAborted State.setStat; simp only [setFld_seq]
@[simp] theorem opAborted_flash (k : Nat) : (s.opAborted k).flash = s.flash := by unfold State.opAborted State.setStat; simp only [setFld_flash]
@[simp] theorem opAborted_hp (k : Nat) : (s.opAborted k).hp = s.hp := by unfold State.opAborted State.setStat; simp only [setFld_hp]
@[simp] theorem opAborted_prt (k : Nat) : (s.opAborted k).prt = s.prt := by unfold State.opAborted State.setStat; simp only [setFld_prt]
@[simp] theorem opAborted_hatch (k : Nat) : (s.opAborted k).hatch = s.hatch := by unfold State.opAborted State.setStat; simp only [setFld_hatch]
@[simp] theorem opAborted_stock (k : Nat) : (s.opAborted k).stock = s.stock := by unfold State.opAborted State.setStat; simp only [setFld_stock]
@[simp] theorem opAborted_access (k : Nat) : (s.opAborted k).access = s.access := by unfold State.opAborted State.setStat; simp only [setFld_access]
@[simp] theorem opAborted_pending (k : Nat) : (s.opAborted k).pending = s.pending := by unfold State.opAborted State.setStat; simp only [setFld_pending]
@[simp] theorem opAborted_implemented (k : Nat) (r_ : Nat) : (s.opAborted k).implemented r_ = s.implemented r_ := by unfold State.opAborted State.setStat; simp only [setFld_implemented]
@[simp] theorem opAborted_linked (k : Nat) (r_ : Nat) : (s.opAborted k).linked r_ = s.linked r_ := by unfold State.opAborted State.setStat; simp only [setFld_linked]
@[simp] theorem opAborted_hasDie (k : Nat) (r_ : Nat) : (s.opAborted k).hasDie r_ = s.hasDie r_ := by unfold State.opAborted State.setStat; simp only [setFld_hasDie]
@[simp] theorem opAborted_hasAxis (k : Nat) (r_ : Nat) : (s.opAborted k).hasAxis r_ = s.hasAxis r_ := by unfold State.opAborted State.setStat; simp only [setFld_hasAxis]
@[simp] theorem opAborted_planned (k : Nat) (r_ : Nat) : (s.opAborted k).planned r_ = s.planned r_ := by unfold State.opAborted State.setStat; simp only [setFld_planned]
@[simp] theorem opAborted_stamp (k : Nat) (r_ : Nat) : (s.opAborted k).stamp r_ = s.stamp r_ := by unfold State.opAborted State.setStat; simp only [setFld_stamp]
@[simp] theorem opAborted_axisRec (k : Nat) (r_ : Nat) : (s.opAborted k).axisRec r_ = s.axisRec r_ := by unfold State.opAborted State.setStat; simp only [setFld_axisRec]
@[simp] theorem opAborted_schedRec (k : Nat) (r_ : Nat) : (s.opAborted k).schedRec r_ = s.schedRec r_ := by unfold State.opAborted State.setStat; simp only [setFld_schedRec]
@[simp] theorem opAborted_feedOf (k : Nat) (r_ : Nat) : (s.opAborted k).feedOf r_ = s.feedOf r_ := by unfold State.opAborted State.setStat; simp only [setFld_feedOf]
@[simp] theorem opAborted_feedOfChan (k : Nat) (r_ : Nat) : (s.opAborted k).feedOfChan r_ = s.feedOfChan r_ := by unfold State.opAborted State.setStat; simp only [setFld_feedOfChan]
@[simp] theorem opAborted_loopOf (k : Nat) (r_ : Nat) : (s.opAborted k).loopOf r_ = s.loopOf r_ := by unfold State.opAborted State.setStat; simp only [setFld_loopOf]
@[simp] theorem opAborted_protRec (k : Nat) (r_ : Nat) : (s.opAborted k).protRec r_ = s.protRec r_ := by unfold State.opAborted State.setStat; simp only [setFld_protRec]

/-! ### opWhole -/

@[simp] theorem opWhole_variant (k o : Nat) : (s.opWhole k o).variant = s.variant := by unfold State.opWhole; simp only [opDone_variant, opStart_variant]
@[simp] theorem opWhole_power (k o : Nat) : (s.opWhole k o).power = s.power := by unfold State.opWhole; simp only [opDone_power, opStart_power]
@[simp] theorem opWhole_clock (k o : Nat) : (s.opWhole k o).clock = s.clock := by unfold State.opWhole; simp only [opDone_clock, opStart_clock]
@[simp] theorem opWhole_tsBase (k o : Nat) : (s.opWhole k o).tsBase = s.tsBase := by unfold State.opWhole; simp only [opDone_tsBase, opStart_tsBase]
@[simp] theorem opWhole_frame (k o : Nat) : (s.opWhole k o).frame = s.frame := by unfold State.opWhole; simp only [opDone_frame, opStart_frame]
@[simp] theorem opWhole_lastEngine (k o : Nat) : (s.opWhole k o).lastEngine = s.lastEngine := by unfold State.opWhole; simp only [opDone_lastEngine, opStart_lastEngine]
@[simp] theorem opWhole_lastMotion (k o : Nat) : (s.opWhole k o).lastMotion = s.lastMotion := by unfold State.opWhole; simp only [opDone_lastMotion, opStart_lastMotion]
@[simp] theorem opWhole_free (k o : Nat) : (s.opWhole k o).free = s.free := by unfold State.opWhole; simp only [opDone_free, opStart_free]
@[simp] theorem opWhole_fm (k o : Nat) : (s.opWhole k o).fm = s.fm := by unfold State.opWhole; simp only [opDone_fm, opStart_fm]
@[simp] theorem opWhole_box (k o : Nat) : (s.opWhole k o).box = s.box := by unfold State.opWhole; simp only [opDone_box, opStart_box]
@[simp] theorem opWhole_dies (k o : Nat) : (s.opWhole k o).dies = s.dies := by unfold State.opWhole; simp only [opDone_dies, opStart_dies]
@[simp] theorem opWhole_legs (k o : Nat) : (s.opWhole k o).legs = s.legs := by unfold State.opWhole; simp only [opDone_legs, opStart_legs]
@[simp] theorem opWhole_regions (k o : Nat) : (s.opWhole k o).regions = s.regions := by unfold State.opWhole; simp only [opDone_regions, opStart_regions]
@[simp] theorem opWhole_carriers (k o : Nat) : (s.opWhole k o).carriers = s.carriers := by unfold State.opWhole; simp only [opDone_carriers, opStart_carriers]
@[simp] theorem opWhole_wireTests (k o : Nat) : (s.opWhole k o).wireTests = s.wireTests := by unfold State.opWhole; simp only [opDone_wireTests, opStart_wireTests]
@[simp] theorem opWhole_leakTests (k o : Nat) : (s.opWhole k o).leakTests = s.leakTests := by unfold State.opWhole; simp only [opDone_leakTests, opStart_leakTests]
@[simp] theorem opWhole_seqs (k o : Nat) : (s.opWhole k o).seqs = s.seqs := by unfold State.opWhole; simp only [opDone_seqs, opStart_seqs]
@[simp] theorem opWhole_cores (k o : Nat) : (s.opWhole k o).cores = s.cores := by unfold State.opWhole; simp only [opDone_cores, opStart_cores]
@[simp] theorem opWhole_meas (k o : Nat) : (s.opWhole k o).meas = s.meas := by unfold State.opWhole; simp only [opDone_meas, opStart_meas]
@[simp] theorem opWhole_calRuns (k o : Nat) : (s.opWhole k o).calRuns = s.calRuns := by unfold State.opWhole; simp only [opDone_calRuns, opStart_calRuns]
@[simp] theorem opWhole_cmps (k o : Nat) : (s.opWhole k o).cmps = s.cmps := by unfold State.opWhole; simp only [opDone_cmps, opStart_cmps]
@[simp] theorem opWhole_audit (k o : Nat) : (s.opWhole k o).audit = s.audit := by unfold State.opWhole; simp only [opDone_audit, opStart_audit]
@[simp] theorem opWhole_inv (k o : Nat) : (s.opWhole k o).inv = s.inv := by unfold State.opWhole; simp only [opDone_inv, opStart_inv]
@[simp] theorem opWhole_invOp (k o : Nat) : (s.opWhole k o).invOp = s.invOp := by unfold State.opWhole; simp only [opDone_invOp, opStart_invOp]
@[simp] theorem opWhole_pins (k o : Nat) : (s.opWhole k o).pins = s.pins := by unfold State.opWhole; simp only [opDone_pins, opStart_pins]
@[simp] theorem opWhole_jtag (k o : Nat) : (s.opWhole k o).jtag = s.jtag := by unfold State.opWhole; simp only [opDone_jtag, opStart_jtag]
@[simp] theorem opWhole_engs (k o : Nat) : (s.opWhole k o).engs = s.engs := by unfold State.opWhole; simp only [opDone_engs, opStart_engs]
@[simp] theorem opWhole_engine (k o : Nat) : (s.opWhole k o).engine = s.engine := by unfold State.opWhole; simp only [opDone_engine, opStart_engine]
@[simp] theorem opWhole_axes (k o : Nat) : (s.opWhole k o).axes = s.axes := by unfold State.opWhole; simp only [opDone_axes, opStart_axes]
@[simp] theorem opWhole_chans (k o : Nat) : (s.opWhole k o).chans = s.chans := by unfold State.opWhole; simp only [opDone_chans, opStart_chans]
@[simp] theorem opWhole_compares (k o : Nat) : (s.opWhole k o).compares = s.compares := by unfold State.opWhole; simp only [opDone_compares, opStart_compares]
@[simp] theorem opWhole_larder (k o : Nat) : (s.opWhole k o).larder = s.larder := by unfold State.opWhole; simp only [opDone_larder, opStart_larder]
@[simp] theorem opWhole_ladder (k o : Nat) : (s.opWhole k o).ladder = s.ladder := by unfold State.opWhole; simp only [opDone_ladder, opStart_ladder]
@[simp] theorem opWhole_planner (k o : Nat) : (s.opWhole k o).planner = s.planner := by unfold State.opWhole; simp only [opDone_planner, opStart_planner]
@[simp] theorem opWhole_comps (k o : Nat) : (s.opWhole k o).comps = s.comps := by unfold State.opWhole; simp only [opDone_comps, opStart_comps]
@[simp] theorem opWhole_guard (k o : Nat) : (s.opWhole k o).guard = s.guard := by unfold State.opWhole; simp only [opDone_guard, opStart_guard]
@[simp] theorem opWhole_seq (k o : Nat) : (s.opWhole k o).seq = s.seq := by unfold State.opWhole; simp only [opDone_seq, opStart_seq]
@[simp] theorem opWhole_flash (k o : Nat) : (s.opWhole k o).flash = s.flash := by unfold State.opWhole; simp only [opDone_flash, opStart_flash]
@[simp] theorem opWhole_hp (k o : Nat) : (s.opWhole k o).hp = s.hp := by unfold State.opWhole; simp only [opDone_hp, opStart_hp]
@[simp] theorem opWhole_prt (k o : Nat) : (s.opWhole k o).prt = s.prt := by unfold State.opWhole; simp only [opDone_prt, opStart_prt]
@[simp] theorem opWhole_hatch (k o : Nat) : (s.opWhole k o).hatch = s.hatch := by unfold State.opWhole; simp only [opDone_hatch, opStart_hatch]
@[simp] theorem opWhole_stock (k o : Nat) : (s.opWhole k o).stock = s.stock := by unfold State.opWhole; simp only [opDone_stock, opStart_stock]
@[simp] theorem opWhole_access (k o : Nat) : (s.opWhole k o).access = s.access := by unfold State.opWhole; simp only [opDone_access, opStart_access]
@[simp] theorem opWhole_pending (k o : Nat) : (s.opWhole k o).pending = s.pending := by unfold State.opWhole; simp only [opDone_pending, opStart_pending]
@[simp] theorem opWhole_implemented (k o : Nat) (r_ : Nat) : (s.opWhole k o).implemented r_ = s.implemented r_ := by unfold State.opWhole; simp only [opDone_implemented, opStart_implemented]
@[simp] theorem opWhole_linked (k o : Nat) (r_ : Nat) : (s.opWhole k o).linked r_ = s.linked r_ := by unfold State.opWhole; simp only [opDone_linked, opStart_linked]
@[simp] theorem opWhole_hasDie (k o : Nat) (r_ : Nat) : (s.opWhole k o).hasDie r_ = s.hasDie r_ := by unfold State.opWhole; simp only [opDone_hasDie, opStart_hasDie]
@[simp] theorem opWhole_hasAxis (k o : Nat) (r_ : Nat) : (s.opWhole k o).hasAxis r_ = s.hasAxis r_ := by unfold State.opWhole; simp only [opDone_hasAxis, opStart_hasAxis]
@[simp] theorem opWhole_planned (k o : Nat) (r_ : Nat) : (s.opWhole k o).planned r_ = s.planned r_ := by unfold State.opWhole; simp only [opDone_planned, opStart_planned]
@[simp] theorem opWhole_stamp (k o : Nat) (r_ : Nat) : (s.opWhole k o).stamp r_ = s.stamp r_ := by unfold State.opWhole; simp only [opDone_stamp, opStart_stamp]
@[simp] theorem opWhole_axisRec (k o : Nat) (r_ : Nat) : (s.opWhole k o).axisRec r_ = s.axisRec r_ := by unfold State.opWhole; simp only [opDone_axisRec, opStart_axisRec]
@[simp] theorem opWhole_schedRec (k o : Nat) (r_ : Nat) : (s.opWhole k o).schedRec r_ = s.schedRec r_ := by unfold State.opWhole; simp only [opDone_schedRec, opStart_schedRec]
@[simp] theorem opWhole_feedOf (k o : Nat) (r_ : Nat) : (s.opWhole k o).feedOf r_ = s.feedOf r_ := by unfold State.opWhole; simp only [opDone_feedOf, opStart_feedOf]
@[simp] theorem opWhole_feedOfChan (k o : Nat) (r_ : Nat) : (s.opWhole k o).feedOfChan r_ = s.feedOfChan r_ := by unfold State.opWhole; simp only [opDone_feedOfChan, opStart_feedOfChan]
@[simp] theorem opWhole_loopOf (k o : Nat) (r_ : Nat) : (s.opWhole k o).loopOf r_ = s.loopOf r_ := by unfold State.opWhole; simp only [opDone_loopOf, opStart_loopOf]
@[simp] theorem opWhole_protRec (k o : Nat) (r_ : Nat) : (s.opWhole k o).protRec r_ = s.protRec r_ := by unfold State.opWhole; simp only [opDone_protRec, opStart_protRec]

/-! ### abortIdle -/

@[simp] theorem abortIdle_variant (k : Nat) : (s.abortIdle k).variant = s.variant := by unfold State.abortIdle; split <;> simp only [setFld_variant]
@[simp] theorem abortIdle_power (k : Nat) : (s.abortIdle k).power = s.power := by unfold State.abortIdle; split <;> simp only [setFld_power]
@[simp] theorem abortIdle_clock (k : Nat) : (s.abortIdle k).clock = s.clock := by unfold State.abortIdle; split <;> simp only [setFld_clock]
@[simp] theorem abortIdle_tsBase (k : Nat) : (s.abortIdle k).tsBase = s.tsBase := by unfold State.abortIdle; split <;> simp only [setFld_tsBase]
@[simp] theorem abortIdle_frame (k : Nat) : (s.abortIdle k).frame = s.frame := by unfold State.abortIdle; split <;> simp only [setFld_frame]
@[simp] theorem abortIdle_lastEngine (k : Nat) : (s.abortIdle k).lastEngine = s.lastEngine := by unfold State.abortIdle; split <;> simp only [setFld_lastEngine]
@[simp] theorem abortIdle_lastMotion (k : Nat) : (s.abortIdle k).lastMotion = s.lastMotion := by unfold State.abortIdle; split <;> simp only [setFld_lastMotion]
@[simp] theorem abortIdle_free (k : Nat) : (s.abortIdle k).free = s.free := by unfold State.abortIdle; split <;> simp only [setFld_free]
@[simp] theorem abortIdle_fm (k : Nat) : (s.abortIdle k).fm = s.fm := by unfold State.abortIdle; split <;> simp only [setFld_fm]
@[simp] theorem abortIdle_box (k : Nat) : (s.abortIdle k).box = s.box := by unfold State.abortIdle; split <;> simp only [setFld_box]
@[simp] theorem abortIdle_dies (k : Nat) : (s.abortIdle k).dies = s.dies := by unfold State.abortIdle; split <;> simp only [setFld_dies]
@[simp] theorem abortIdle_legs (k : Nat) : (s.abortIdle k).legs = s.legs := by unfold State.abortIdle; split <;> simp only [setFld_legs]
@[simp] theorem abortIdle_regions (k : Nat) : (s.abortIdle k).regions = s.regions := by unfold State.abortIdle; split <;> simp only [setFld_regions]
@[simp] theorem abortIdle_carriers (k : Nat) : (s.abortIdle k).carriers = s.carriers := by unfold State.abortIdle; split <;> simp only [setFld_carriers]
@[simp] theorem abortIdle_wireTests (k : Nat) : (s.abortIdle k).wireTests = s.wireTests := by unfold State.abortIdle; split <;> simp only [setFld_wireTests]
@[simp] theorem abortIdle_leakTests (k : Nat) : (s.abortIdle k).leakTests = s.leakTests := by unfold State.abortIdle; split <;> simp only [setFld_leakTests]
@[simp] theorem abortIdle_seqs (k : Nat) : (s.abortIdle k).seqs = s.seqs := by unfold State.abortIdle; split <;> simp only [setFld_seqs]
@[simp] theorem abortIdle_cores (k : Nat) : (s.abortIdle k).cores = s.cores := by unfold State.abortIdle; split <;> simp only [setFld_cores]
@[simp] theorem abortIdle_meas (k : Nat) : (s.abortIdle k).meas = s.meas := by unfold State.abortIdle; split <;> simp only [setFld_meas]
@[simp] theorem abortIdle_calRuns (k : Nat) : (s.abortIdle k).calRuns = s.calRuns := by unfold State.abortIdle; split <;> simp only [setFld_calRuns]
@[simp] theorem abortIdle_cmps (k : Nat) : (s.abortIdle k).cmps = s.cmps := by unfold State.abortIdle; split <;> simp only [setFld_cmps]
@[simp] theorem abortIdle_audit (k : Nat) : (s.abortIdle k).audit = s.audit := by unfold State.abortIdle; split <;> simp only [setFld_audit]
@[simp] theorem abortIdle_inv (k : Nat) : (s.abortIdle k).inv = s.inv := by unfold State.abortIdle; split <;> simp only [setFld_inv]
@[simp] theorem abortIdle_invOp (k : Nat) : (s.abortIdle k).invOp = s.invOp := by unfold State.abortIdle; split <;> simp only [setFld_invOp]
@[simp] theorem abortIdle_pins (k : Nat) : (s.abortIdle k).pins = s.pins := by unfold State.abortIdle; split <;> simp only [setFld_pins]
@[simp] theorem abortIdle_jtag (k : Nat) : (s.abortIdle k).jtag = s.jtag := by unfold State.abortIdle; split <;> simp only [setFld_jtag]
@[simp] theorem abortIdle_engs (k : Nat) : (s.abortIdle k).engs = s.engs := by unfold State.abortIdle; split <;> simp only [setFld_engs]
@[simp] theorem abortIdle_engine (k : Nat) : (s.abortIdle k).engine = s.engine := by unfold State.abortIdle; split <;> simp only [setFld_engine]
@[simp] theorem abortIdle_axes (k : Nat) : (s.abortIdle k).axes = s.axes := by unfold State.abortIdle; split <;> simp only [setFld_axes]
@[simp] theorem abortIdle_chans (k : Nat) : (s.abortIdle k).chans = s.chans := by unfold State.abortIdle; split <;> simp only [setFld_chans]
@[simp] theorem abortIdle_compares (k : Nat) : (s.abortIdle k).compares = s.compares := by unfold State.abortIdle; split <;> simp only [setFld_compares]
@[simp] theorem abortIdle_larder (k : Nat) : (s.abortIdle k).larder = s.larder := by unfold State.abortIdle; split <;> simp only [setFld_larder]
@[simp] theorem abortIdle_ladder (k : Nat) : (s.abortIdle k).ladder = s.ladder := by unfold State.abortIdle; split <;> simp only [setFld_ladder]
@[simp] theorem abortIdle_planner (k : Nat) : (s.abortIdle k).planner = s.planner := by unfold State.abortIdle; split <;> simp only [setFld_planner]
@[simp] theorem abortIdle_comps (k : Nat) : (s.abortIdle k).comps = s.comps := by unfold State.abortIdle; split <;> simp only [setFld_comps]
@[simp] theorem abortIdle_guard (k : Nat) : (s.abortIdle k).guard = s.guard := by unfold State.abortIdle; split <;> simp only [setFld_guard]
@[simp] theorem abortIdle_seq (k : Nat) : (s.abortIdle k).seq = s.seq := by unfold State.abortIdle; split <;> simp only [setFld_seq]
@[simp] theorem abortIdle_flash (k : Nat) : (s.abortIdle k).flash = s.flash := by unfold State.abortIdle; split <;> simp only [setFld_flash]
@[simp] theorem abortIdle_hp (k : Nat) : (s.abortIdle k).hp = s.hp := by unfold State.abortIdle; split <;> simp only [setFld_hp]
@[simp] theorem abortIdle_prt (k : Nat) : (s.abortIdle k).prt = s.prt := by unfold State.abortIdle; split <;> simp only [setFld_prt]
@[simp] theorem abortIdle_hatch (k : Nat) : (s.abortIdle k).hatch = s.hatch := by unfold State.abortIdle; split <;> simp only [setFld_hatch]
@[simp] theorem abortIdle_stock (k : Nat) : (s.abortIdle k).stock = s.stock := by unfold State.abortIdle; split <;> simp only [setFld_stock]
@[simp] theorem abortIdle_access (k : Nat) : (s.abortIdle k).access = s.access := by unfold State.abortIdle; split <;> simp only [setFld_access]
@[simp] theorem abortIdle_pending (k : Nat) : (s.abortIdle k).pending = s.pending := by unfold State.abortIdle; split <;> simp only [setFld_pending]
@[simp] theorem abortIdle_implemented (k : Nat) (r_ : Nat) : (s.abortIdle k).implemented r_ = s.implemented r_ := by unfold State.abortIdle; split <;> simp only [setFld_implemented]
@[simp] theorem abortIdle_linked (k : Nat) (r_ : Nat) : (s.abortIdle k).linked r_ = s.linked r_ := by unfold State.abortIdle; split <;> simp only [setFld_linked]
@[simp] theorem abortIdle_hasDie (k : Nat) (r_ : Nat) : (s.abortIdle k).hasDie r_ = s.hasDie r_ := by unfold State.abortIdle; split <;> simp only [setFld_hasDie]
@[simp] theorem abortIdle_hasAxis (k : Nat) (r_ : Nat) : (s.abortIdle k).hasAxis r_ = s.hasAxis r_ := by unfold State.abortIdle; split <;> simp only [setFld_hasAxis]
@[simp] theorem abortIdle_planned (k : Nat) (r_ : Nat) : (s.abortIdle k).planned r_ = s.planned r_ := by unfold State.abortIdle; split <;> simp only [setFld_planned]
@[simp] theorem abortIdle_stamp (k : Nat) (r_ : Nat) : (s.abortIdle k).stamp r_ = s.stamp r_ := by unfold State.abortIdle; split <;> simp only [setFld_stamp]
@[simp] theorem abortIdle_axisRec (k : Nat) (r_ : Nat) : (s.abortIdle k).axisRec r_ = s.axisRec r_ := by unfold State.abortIdle; split <;> simp only [setFld_axisRec]
@[simp] theorem abortIdle_schedRec (k : Nat) (r_ : Nat) : (s.abortIdle k).schedRec r_ = s.schedRec r_ := by unfold State.abortIdle; split <;> simp only [setFld_schedRec]
@[simp] theorem abortIdle_feedOf (k : Nat) (r_ : Nat) : (s.abortIdle k).feedOf r_ = s.feedOf r_ := by unfold State.abortIdle; split <;> simp only [setFld_feedOf]
@[simp] theorem abortIdle_feedOfChan (k : Nat) (r_ : Nat) : (s.abortIdle k).feedOfChan r_ = s.feedOfChan r_ := by unfold State.abortIdle; split <;> simp only [setFld_feedOfChan]
@[simp] theorem abortIdle_loopOf (k : Nat) (r_ : Nat) : (s.abortIdle k).loopOf r_ = s.loopOf r_ := by unfold State.abortIdle; split <;> simp only [setFld_loopOf]
@[simp] theorem abortIdle_protRec (k : Nat) (r_ : Nat) : (s.abortIdle k).protRec r_ = s.protRec r_ := by unfold State.abortIdle; split <;> simp only [setFld_protRec]

/-! ### raiseGD -/

@[simp] theorem raiseGD_variant (d : DieId) (c o : Nat) (a : Option Nat) : (s.raiseGD d c o a).variant = s.variant := by unfold State.raiseGD; dsimp only; split <;> simp only [modDie_variant]
@[simp] theorem raiseGD_power (d : DieId) (c o : Nat) (a : Option Nat) : (s.raiseGD d c o a).power = s.power := by unfold State.raiseGD; dsimp only; split <;> simp only [modDie_power]
@[simp] theorem raiseGD_clock (d : DieId) (c o : Nat) (a : Option Nat) : (s.raiseGD d c o a).clock = s.clock := by unfold State.raiseGD; dsimp only; split <;> simp only [modDie_clock]
@[simp] theorem raiseGD_tsBase (d : DieId) (c o : Nat) (a : Option Nat) : (s.raiseGD d c o a).tsBase = s.tsBase := by unfold State.raiseGD; dsimp only; split <;> simp only [modDie_tsBase]
@[simp] theorem raiseGD_frame (d : DieId) (c o : Nat) (a : Option Nat) : (s.raiseGD d c o a).frame = s.frame := by unfold State.raiseGD; dsimp only; split <;> simp only [modDie_frame]
@[simp] theorem raiseGD_lastEngine (d : DieId) (c o : Nat) (a : Option Nat) : (s.raiseGD d c o a).lastEngine = s.lastEngine := by unfold State.raiseGD; dsimp only; split <;> simp only [modDie_lastEngine]
@[simp] theorem raiseGD_lastMotion (d : DieId) (c o : Nat) (a : Option Nat) : (s.raiseGD d c o a).lastMotion = s.lastMotion := by unfold State.raiseGD; dsimp only; split <;> simp only [modDie_lastMotion]
@[simp] theorem raiseGD_free (d : DieId) (c o : Nat) (a : Option Nat) : (s.raiseGD d c o a).free = s.free := by unfold State.raiseGD; dsimp only; split <;> simp only [modDie_free]
@[simp] theorem raiseGD_regs (d : DieId) (c o : Nat) (a : Option Nat) : (s.raiseGD d c o a).regs = s.regs := by unfold State.raiseGD; dsimp only; split <;> simp only [modDie_regs]
@[simp] theorem raiseGD_fm (d : DieId) (c o : Nat) (a : Option Nat) : (s.raiseGD d c o a).fm = s.fm := by unfold State.raiseGD; dsimp only; split <;> simp only [modDie_fm]
@[simp] theorem raiseGD_box (d : DieId) (c o : Nat) (a : Option Nat) : (s.raiseGD d c o a).box = s.box := by unfold State.raiseGD; dsimp only; split <;> simp only [modDie_box]
@[simp] theorem raiseGD_legs (d : DieId) (c o : Nat) (a : Option Nat) : (s.raiseGD d c o a).legs = s.legs := by unfold State.raiseGD; dsimp only; split <;> simp only [modDie_legs]
@[simp] theorem raiseGD_regions (d : DieId) (c o : Nat) (a : Option Nat) : (s.raiseGD d c o a).regions = s.regions := by unfold State.raiseGD; dsimp only; split <;> simp only [modDie_regions]
@[simp] theorem raiseGD_carriers (d : DieId) (c o : Nat) (a : Option Nat) : (s.raiseGD d c o a).carriers = s.carriers := by unfold State.raiseGD; dsimp only; split <;> simp only [modDie_carriers]
@[simp] theorem raiseGD_wireTests (d : DieId) (c o : Nat) (a : Option Nat) : (s.raiseGD d c o a).wireTests = s.wireTests := by unfold State.raiseGD; dsimp only; split <;> simp only [modDie_wireTests]
@[simp] theorem raiseGD_leakTests (d : DieId) (c o : Nat) (a : Option Nat) : (s.raiseGD d c o a).leakTests = s.leakTests := by unfold State.raiseGD; dsimp only; split <;> simp only [modDie_leakTests]
@[simp] theorem raiseGD_seqs (d : DieId) (c o : Nat) (a : Option Nat) : (s.raiseGD d c o a).seqs = s.seqs := by unfold State.raiseGD; dsimp only; split <;> simp only [modDie_seqs]
@[simp] theorem raiseGD_cores (d : DieId) (c o : Nat) (a : Option Nat) : (s.raiseGD d c o a).cores = s.cores := by unfold State.raiseGD; dsimp only; split <;> simp only [modDie_cores]
@[simp] theorem raiseGD_meas (d : DieId) (c o : Nat) (a : Option Nat) : (s.raiseGD d c o a).meas = s.meas := by unfold State.raiseGD; dsimp only; split <;> simp only [modDie_meas]
@[simp] theorem raiseGD_calRuns (d : DieId) (c o : Nat) (a : Option Nat) : (s.raiseGD d c o a).calRuns = s.calRuns := by unfold State.raiseGD; dsimp only; split <;> simp only [modDie_calRuns]
@[simp] theorem raiseGD_cmps (d : DieId) (c o : Nat) (a : Option Nat) : (s.raiseGD d c o a).cmps = s.cmps := by unfold State.raiseGD; dsimp only; split <;> simp only [modDie_cmps]
@[simp] theorem raiseGD_audit (d : DieId) (c o : Nat) (a : Option Nat) : (s.raiseGD d c o a).audit = s.audit := by unfold State.raiseGD; dsimp only; split <;> simp only [modDie_audit]
@[simp] theorem raiseGD_inv (d : DieId) (c o : Nat) (a : Option Nat) : (s.raiseGD d c o a).inv = s.inv := by unfold State.raiseGD; dsimp only; split <;> simp only [modDie_inv]
@[simp] theorem raiseGD_invOp (d : DieId) (c o : Nat) (a : Option Nat) : (s.raiseGD d c o a).invOp = s.invOp := by unfold State.raiseGD; dsimp only; split <;> simp only [modDie_invOp]
@[simp] theorem raiseGD_pins (d : DieId) (c o : Nat) (a : Option Nat) : (s.raiseGD d c o a).pins = s.pins := by unfold State.raiseGD; dsimp only; split <;> simp only [modDie_pins]
@[simp] theorem raiseGD_jtag (d : DieId) (c o : Nat) (a : Option Nat) : (s.raiseGD d c o a).jtag = s.jtag := by unfold State.raiseGD; dsimp only; split <;> simp only [modDie_jtag]
@[simp] theorem raiseGD_engs (d : DieId) (c o : Nat) (a : Option Nat) : (s.raiseGD d c o a).engs = s.engs := by unfold State.raiseGD; dsimp only; split <;> simp only [modDie_engs]
@[simp] theorem raiseGD_engine (d : DieId) (c o : Nat) (a : Option Nat) : (s.raiseGD d c o a).engine = s.engine := by unfold State.raiseGD; dsimp only; split <;> simp only [modDie_engine]
@[simp] theorem raiseGD_axes (d : DieId) (c o : Nat) (a : Option Nat) : (s.raiseGD d c o a).axes = s.axes := by unfold State.raiseGD; dsimp only; split <;> simp only [modDie_axes]
@[simp] theorem raiseGD_chans (d : DieId) (c o : Nat) (a : Option Nat) : (s.raiseGD d c o a).chans = s.chans := by unfold State.raiseGD; dsimp only; split <;> simp only [modDie_chans]
@[simp] theorem raiseGD_compares (d : DieId) (c o : Nat) (a : Option Nat) : (s.raiseGD d c o a).compares = s.compares := by unfold State.raiseGD; dsimp only; split <;> simp only [modDie_compares]
@[simp] theorem raiseGD_larder (d : DieId) (c o : Nat) (a : Option Nat) : (s.raiseGD d c o a).larder = s.larder := by unfold State.raiseGD; dsimp only; split <;> simp only [modDie_larder]
@[simp] theorem raiseGD_ladder (d : DieId) (c o : Nat) (a : Option Nat) : (s.raiseGD d c o a).ladder = s.ladder := by unfold State.raiseGD; dsimp only; split <;> simp only [modDie_ladder]
@[simp] theorem raiseGD_planner (d : DieId) (c o : Nat) (a : Option Nat) : (s.raiseGD d c o a).planner = s.planner := by unfold State.raiseGD; dsimp only; split <;> simp only [modDie_planner]
@[simp] theorem raiseGD_comps (d : DieId) (c o : Nat) (a : Option Nat) : (s.raiseGD d c o a).comps = s.comps := by unfold State.raiseGD; dsimp only; split <;> simp only [modDie_comps]
@[simp] theorem raiseGD_guard (d : DieId) (c o : Nat) (a : Option Nat) : (s.raiseGD d c o a).guard = s.guard := by unfold State.raiseGD; dsimp only; split <;> simp only [modDie_guard]
@[simp] theorem raiseGD_seq (d : DieId) (c o : Nat) (a : Option Nat) : (s.raiseGD d c o a).seq = s.seq := by unfold State.raiseGD; dsimp only; split <;> simp only [modDie_seq]
@[simp] theorem raiseGD_flash (d : DieId) (c o : Nat) (a : Option Nat) : (s.raiseGD d c o a).flash = s.flash := by unfold State.raiseGD; dsimp only; split <;> simp only [modDie_flash]
@[simp] theorem raiseGD_hp (d : DieId) (c o : Nat) (a : Option Nat) : (s.raiseGD d c o a).hp = s.hp := by unfold State.raiseGD; dsimp only; split <;> simp only [modDie_hp]
@[simp] theorem raiseGD_prt (d : DieId) (c o : Nat) (a : Option Nat) : (s.raiseGD d c o a).prt = s.prt := by unfold State.raiseGD; dsimp only; split <;> simp only [modDie_prt]
@[simp] theorem raiseGD_hatch (d : DieId) (c o : Nat) (a : Option Nat) : (s.raiseGD d c o a).hatch = s.hatch := by unfold State.raiseGD; dsimp only; split <;> simp only [modDie_hatch]
@[simp] theorem raiseGD_stock (d : DieId) (c o : Nat) (a : Option Nat) : (s.raiseGD d c o a).stock = s.stock := by unfold State.raiseGD; dsimp only; split <;> simp only [modDie_stock]
@[simp] theorem raiseGD_access (d : DieId) (c o : Nat) (a : Option Nat) : (s.raiseGD d c o a).access = s.access := by unfold State.raiseGD; dsimp only; split <;> simp only [modDie_access]
@[simp] theorem raiseGD_pending (d : DieId) (c o : Nat) (a : Option Nat) : (s.raiseGD d c o a).pending = s.pending := by unfold State.raiseGD; dsimp only; split <;> simp only [modDie_pending]
@[simp] theorem raiseGD_reg (d : DieId) (c o : Nat) (a : Option Nat) (r : Nat) : (s.raiseGD d c o a).reg r = s.reg r := by unfold State.raiseGD; dsimp only; split <;> simp only [modDie_reg]
@[simp] theorem raiseGD_fld (d : DieId) (c o : Nat) (a : Option Nat) (r : Fld) : (s.raiseGD d c o a).fld r = s.fld r := by unfold State.raiseGD; dsimp only; split <;> simp only [modDie_fld]
@[simp] theorem raiseGD_sfld (d : DieId) (c o : Nat) (a : Option Nat) (r : Fld) : (s.raiseGD d c o a).sfld r = s.sfld r := by unfold State.raiseGD; dsimp only; split <;> simp only [modDie_sfld]
@[simp] theorem raiseGD_flag (d : DieId) (c o : Nat) (a : Option Nat) (r : Fld) : (s.raiseGD d c o a).flag r = s.flag r := by unfold State.raiseGD; dsimp only; split <;> simp only [modDie_flag]
@[simp] theorem raiseGD_live (d : DieId) (c o : Nat) (a : Option Nat) : (s.raiseGD d c o a).live = s.live := by unfold State.raiseGD; dsimp only; split <;> simp only [modDie_live]
@[simp] theorem raiseGD_implemented (d : DieId) (c o : Nat) (a : Option Nat) (r_ : Nat) : (s.raiseGD d c o a).implemented r_ = s.implemented r_ := by unfold State.raiseGD; dsimp only; split <;> simp only [modDie_implemented]
@[simp] theorem raiseGD_hasDie (d : DieId) (c o : Nat) (a : Option Nat) (r_ : Nat) : (s.raiseGD d c o a).hasDie r_ = s.hasDie r_ := by unfold State.raiseGD; dsimp only; split <;> simp only [modDie_hasDie]
@[simp] theorem raiseGD_hasAxis (d : DieId) (c o : Nat) (a : Option Nat) (r_ : Nat) : (s.raiseGD d c o a).hasAxis r_ = s.hasAxis r_ := by unfold State.raiseGD; dsimp only; split <;> simp only [modDie_hasAxis]
@[simp] theorem raiseGD_planned (d : DieId) (c o : Nat) (a : Option Nat) (r_ : Nat) : (s.raiseGD d c o a).planned r_ = s.planned r_ := by unfold State.raiseGD; dsimp only; split <;> simp only [modDie_planned]
@[simp] theorem raiseGD_stamp (d : DieId) (c o : Nat) (a : Option Nat) (r_ : Nat) : (s.raiseGD d c o a).stamp r_ = s.stamp r_ := by unfold State.raiseGD; dsimp only; split <;> simp only [modDie_stamp]
@[simp] theorem raiseGD_fmRuns (d : DieId) (c o : Nat) (a : Option Nat) : (s.raiseGD d c o a).fmRuns = s.fmRuns := by unfold State.raiseGD; dsimp only; split <;> simp only [modDie_fmRuns]
@[simp] theorem raiseGD_axisRec (d : DieId) (c o : Nat) (a : Option Nat) (r_ : Nat) : (s.raiseGD d c o a).axisRec r_ = s.axisRec r_ := by unfold State.raiseGD; dsimp only; split <;> simp only [modDie_axisRec]
@[simp] theorem raiseGD_schedRec (d : DieId) (c o : Nat) (a : Option Nat) (r_ : Nat) : (s.raiseGD d c o a).schedRec r_ = s.schedRec r_ := by unfold State.raiseGD; dsimp only; split <;> simp only [modDie_schedRec]
@[simp] theorem raiseGD_feedOf (d : DieId) (c o : Nat) (a : Option Nat) (r_ : Nat) : (s.raiseGD d c o a).feedOf r_ = s.feedOf r_ := by unfold State.raiseGD; dsimp only; split <;> simp only [modDie_feedOf]
@[simp] theorem raiseGD_feedOfChan (d : DieId) (c o : Nat) (a : Option Nat) (r_ : Nat) : (s.raiseGD d c o a).feedOfChan r_ = s.feedOfChan r_ := by unfold State.raiseGD; dsimp only; split <;> simp only [modDie_feedOfChan]
@[simp] theorem raiseGD_loopOf (d : DieId) (c o : Nat) (a : Option Nat) (r_ : Nat) : (s.raiseGD d c o a).loopOf r_ = s.loopOf r_ := by unfold State.raiseGD; dsimp only; split <;> simp only [modDie_loopOf]
@[simp] theorem raiseGD_protRec (d : DieId) (c o : Nat) (a : Option Nat) (r_ : Nat) : (s.raiseGD d c o a).protRec r_ = s.protRec r_ := by unfold State.raiseGD; dsimp only; split <;> simp only [modDie_protRec]
@[simp] theorem raiseGD_axisSt (d : DieId) (c o : Nat) (a : Option Nat) (r_ : AxisId) : (s.raiseGD d c o a).axisSt r_ = s.axisSt r_ := by unfold State.raiseGD; dsimp only; split <;> simp only [modDie_axisSt]
@[simp] theorem raiseGD_axisOn (d : DieId) (c o : Nat) (a : Option Nat) (r_ : AxisId) : (s.raiseGD d c o a).axisOn r_ = s.axisOn r_ := by unfold State.raiseGD; dsimp only; split <;> simp only [modDie_axisOn]
@[simp] theorem raiseGD_opStat (d : DieId) (c o : Nat) (a : Option Nat) (r_ : Nat) : (s.raiseGD d c o a).opStat r_ = s.opStat r_ := by unfold State.raiseGD; dsimp only; split <;> simp only [modDie_opStat]
@[simp] theorem raiseGD_opBusy (d : DieId) (c o : Nat) (a : Option Nat) (r_ : Nat) : (s.raiseGD d c o a).opBusy r_ = s.opBusy r_ := by unfold State.raiseGD; dsimp only; split <;> simp only [modDie_opBusy]
@[simp] theorem raiseGD_lastOp (d : DieId) (c o : Nat) (a : Option Nat) (r_ : Nat) : (s.raiseGD d c o a).lastOp r_ = s.lastOp r_ := by unfold State.raiseGD; dsimp only; split <;> simp only [modDie_lastOp]

/-! ### raiseGDActed -/

@[simp] theorem raiseGDActed_variant (d : DieId) (c o : Nat) (a : Option Nat) : (s.raiseGDActed d c o a).variant = s.variant := by unfold State.raiseGDActed; dsimp only; split <;> simp only [modDie_variant]
@[simp] theorem raiseGDActed_power (d : DieId) (c o : Nat) (a : Option Nat) : (s.raiseGDActed d c o a).power = s.power := by unfold State.raiseGDActed; dsimp only; split <;> simp only [modDie_power]
@[simp] theorem raiseGDActed_clock (d : DieId) (c o : Nat) (a : Option Nat) : (s.raiseGDActed d c o a).clock = s.clock := by unfold State.raiseGDActed; dsimp only; split <;> simp only [modDie_clock]
@[simp] theorem raiseGDActed_tsBase (d : DieId) (c o : Nat) (a : Option Nat) : (s.raiseGDActed d c o a).tsBase = s.tsBase := by unfold State.raiseGDActed; dsimp only; split <;> simp only [modDie_tsBase]
@[simp] theorem raiseGDActed_frame (d : DieId) (c o : Nat) (a : Option Nat) : (s.raiseGDActed d c o a).frame = s.frame := by unfold State.raiseGDActed; dsimp only; split <;> simp only [modDie_frame]
@[simp] theorem raiseGDActed_lastEngine (d : DieId) (c o : Nat) (a : Option Nat) : (s.raiseGDActed d c o a).lastEngine = s.lastEngine := by unfold State.raiseGDActed; dsimp only; split <;> simp only [modDie_lastEngine]
@[simp] theorem raiseGDActed_lastMotion (d : DieId) (c o : Nat) (a : Option Nat) : (s.raiseGDActed d c o a).lastMotion = s.lastMotion := by unfold State.raiseGDActed; dsimp only; split <;> simp only [modDie_lastMotion]
@[simp] theorem raiseGDActed_free (d : DieId) (c o : Nat) (a : Option Nat) : (s.raiseGDActed d c o a).free = s.free := by unfold State.raiseGDActed; dsimp only; split <;> simp only [modDie_free]
@[simp] theorem raiseGDActed_regs (d : DieId) (c o : Nat) (a : Option Nat) : (s.raiseGDActed d c o a).regs = s.regs := by unfold State.raiseGDActed; dsimp only; split <;> simp only [modDie_regs]
@[simp] theorem raiseGDActed_fm (d : DieId) (c o : Nat) (a : Option Nat) : (s.raiseGDActed d c o a).fm = s.fm := by unfold State.raiseGDActed; dsimp only; split <;> simp only [modDie_fm]
@[simp] theorem raiseGDActed_box (d : DieId) (c o : Nat) (a : Option Nat) : (s.raiseGDActed d c o a).box = s.box := by unfold State.raiseGDActed; dsimp only; split <;> simp only [modDie_box]
@[simp] theorem raiseGDActed_legs (d : DieId) (c o : Nat) (a : Option Nat) : (s.raiseGDActed d c o a).legs = s.legs := by unfold State.raiseGDActed; dsimp only; split <;> simp only [modDie_legs]
@[simp] theorem raiseGDActed_regions (d : DieId) (c o : Nat) (a : Option Nat) : (s.raiseGDActed d c o a).regions = s.regions := by unfold State.raiseGDActed; dsimp only; split <;> simp only [modDie_regions]
@[simp] theorem raiseGDActed_carriers (d : DieId) (c o : Nat) (a : Option Nat) : (s.raiseGDActed d c o a).carriers = s.carriers := by unfold State.raiseGDActed; dsimp only; split <;> simp only [modDie_carriers]
@[simp] theorem raiseGDActed_wireTests (d : DieId) (c o : Nat) (a : Option Nat) : (s.raiseGDActed d c o a).wireTests = s.wireTests := by unfold State.raiseGDActed; dsimp only; split <;> simp only [modDie_wireTests]
@[simp] theorem raiseGDActed_leakTests (d : DieId) (c o : Nat) (a : Option Nat) : (s.raiseGDActed d c o a).leakTests = s.leakTests := by unfold State.raiseGDActed; dsimp only; split <;> simp only [modDie_leakTests]
@[simp] theorem raiseGDActed_seqs (d : DieId) (c o : Nat) (a : Option Nat) : (s.raiseGDActed d c o a).seqs = s.seqs := by unfold State.raiseGDActed; dsimp only; split <;> simp only [modDie_seqs]
@[simp] theorem raiseGDActed_cores (d : DieId) (c o : Nat) (a : Option Nat) : (s.raiseGDActed d c o a).cores = s.cores := by unfold State.raiseGDActed; dsimp only; split <;> simp only [modDie_cores]
@[simp] theorem raiseGDActed_meas (d : DieId) (c o : Nat) (a : Option Nat) : (s.raiseGDActed d c o a).meas = s.meas := by unfold State.raiseGDActed; dsimp only; split <;> simp only [modDie_meas]
@[simp] theorem raiseGDActed_calRuns (d : DieId) (c o : Nat) (a : Option Nat) : (s.raiseGDActed d c o a).calRuns = s.calRuns := by unfold State.raiseGDActed; dsimp only; split <;> simp only [modDie_calRuns]
@[simp] theorem raiseGDActed_cmps (d : DieId) (c o : Nat) (a : Option Nat) : (s.raiseGDActed d c o a).cmps = s.cmps := by unfold State.raiseGDActed; dsimp only; split <;> simp only [modDie_cmps]
@[simp] theorem raiseGDActed_audit (d : DieId) (c o : Nat) (a : Option Nat) : (s.raiseGDActed d c o a).audit = s.audit := by unfold State.raiseGDActed; dsimp only; split <;> simp only [modDie_audit]
@[simp] theorem raiseGDActed_inv (d : DieId) (c o : Nat) (a : Option Nat) : (s.raiseGDActed d c o a).inv = s.inv := by unfold State.raiseGDActed; dsimp only; split <;> simp only [modDie_inv]
@[simp] theorem raiseGDActed_invOp (d : DieId) (c o : Nat) (a : Option Nat) : (s.raiseGDActed d c o a).invOp = s.invOp := by unfold State.raiseGDActed; dsimp only; split <;> simp only [modDie_invOp]
@[simp] theorem raiseGDActed_pins (d : DieId) (c o : Nat) (a : Option Nat) : (s.raiseGDActed d c o a).pins = s.pins := by unfold State.raiseGDActed; dsimp only; split <;> simp only [modDie_pins]
@[simp] theorem raiseGDActed_jtag (d : DieId) (c o : Nat) (a : Option Nat) : (s.raiseGDActed d c o a).jtag = s.jtag := by unfold State.raiseGDActed; dsimp only; split <;> simp only [modDie_jtag]
@[simp] theorem raiseGDActed_engs (d : DieId) (c o : Nat) (a : Option Nat) : (s.raiseGDActed d c o a).engs = s.engs := by unfold State.raiseGDActed; dsimp only; split <;> simp only [modDie_engs]
@[simp] theorem raiseGDActed_engine (d : DieId) (c o : Nat) (a : Option Nat) : (s.raiseGDActed d c o a).engine = s.engine := by unfold State.raiseGDActed; dsimp only; split <;> simp only [modDie_engine]
@[simp] theorem raiseGDActed_axes (d : DieId) (c o : Nat) (a : Option Nat) : (s.raiseGDActed d c o a).axes = s.axes := by unfold State.raiseGDActed; dsimp only; split <;> simp only [modDie_axes]
@[simp] theorem raiseGDActed_chans (d : DieId) (c o : Nat) (a : Option Nat) : (s.raiseGDActed d c o a).chans = s.chans := by unfold State.raiseGDActed; dsimp only; split <;> simp only [modDie_chans]
@[simp] theorem raiseGDActed_compares (d : DieId) (c o : Nat) (a : Option Nat) : (s.raiseGDActed d c o a).compares = s.compares := by unfold State.raiseGDActed; dsimp only; split <;> simp only [modDie_compares]
@[simp] theorem raiseGDActed_larder (d : DieId) (c o : Nat) (a : Option Nat) : (s.raiseGDActed d c o a).larder = s.larder := by unfold State.raiseGDActed; dsimp only; split <;> simp only [modDie_larder]
@[simp] theorem raiseGDActed_ladder (d : DieId) (c o : Nat) (a : Option Nat) : (s.raiseGDActed d c o a).ladder = s.ladder := by unfold State.raiseGDActed; dsimp only; split <;> simp only [modDie_ladder]
@[simp] theorem raiseGDActed_planner (d : DieId) (c o : Nat) (a : Option Nat) : (s.raiseGDActed d c o a).planner = s.planner := by unfold State.raiseGDActed; dsimp only; split <;> simp only [modDie_planner]
@[simp] theorem raiseGDActed_comps (d : DieId) (c o : Nat) (a : Option Nat) : (s.raiseGDActed d c o a).comps = s.comps := by unfold State.raiseGDActed; dsimp only; split <;> simp only [modDie_comps]
@[simp] theorem raiseGDActed_guard (d : DieId) (c o : Nat) (a : Option Nat) : (s.raiseGDActed d c o a).guard = s.guard := by unfold State.raiseGDActed; dsimp only; split <;> simp only [modDie_guard]
@[simp] theorem raiseGDActed_seq (d : DieId) (c o : Nat) (a : Option Nat) : (s.raiseGDActed d c o a).seq = s.seq := by unfold State.raiseGDActed; dsimp only; split <;> simp only [modDie_seq]
@[simp] theorem raiseGDActed_flash (d : DieId) (c o : Nat) (a : Option Nat) : (s.raiseGDActed d c o a).flash = s.flash := by unfold State.raiseGDActed; dsimp only; split <;> simp only [modDie_flash]
@[simp] theorem raiseGDActed_hp (d : DieId) (c o : Nat) (a : Option Nat) : (s.raiseGDActed d c o a).hp = s.hp := by unfold State.raiseGDActed; dsimp only; split <;> simp only [modDie_hp]
@[simp] theorem raiseGDActed_prt (d : DieId) (c o : Nat) (a : Option Nat) : (s.raiseGDActed d c o a).prt = s.prt := by unfold State.raiseGDActed; dsimp only; split <;> simp only [modDie_prt]
@[simp] theorem raiseGDActed_hatch (d : DieId) (c o : Nat) (a : Option Nat) : (s.raiseGDActed d c o a).hatch = s.hatch := by unfold State.raiseGDActed; dsimp only; split <;> simp only [modDie_hatch]
@[simp] theorem raiseGDActed_stock (d : DieId) (c o : Nat) (a : Option Nat) : (s.raiseGDActed d c o a).stock = s.stock := by unfold State.raiseGDActed; dsimp only; split <;> simp only [modDie_stock]
@[simp] theorem raiseGDActed_access (d : DieId) (c o : Nat) (a : Option Nat) : (s.raiseGDActed d c o a).access = s.access := by unfold State.raiseGDActed; dsimp only; split <;> simp only [modDie_access]
@[simp] theorem raiseGDActed_pending (d : DieId) (c o : Nat) (a : Option Nat) : (s.raiseGDActed d c o a).pending = s.pending := by unfold State.raiseGDActed; dsimp only; split <;> simp only [modDie_pending]
@[simp] theorem raiseGDActed_reg (d : DieId) (c o : Nat) (a : Option Nat) (r : Nat) : (s.raiseGDActed d c o a).reg r = s.reg r := by unfold State.raiseGDActed; dsimp only; split <;> simp only [modDie_reg]
@[simp] theorem raiseGDActed_fld (d : DieId) (c o : Nat) (a : Option Nat) (r : Fld) : (s.raiseGDActed d c o a).fld r = s.fld r := by unfold State.raiseGDActed; dsimp only; split <;> simp only [modDie_fld]
@[simp] theorem raiseGDActed_sfld (d : DieId) (c o : Nat) (a : Option Nat) (r : Fld) : (s.raiseGDActed d c o a).sfld r = s.sfld r := by unfold State.raiseGDActed; dsimp only; split <;> simp only [modDie_sfld]
@[simp] theorem raiseGDActed_flag (d : DieId) (c o : Nat) (a : Option Nat) (r : Fld) : (s.raiseGDActed d c o a).flag r = s.flag r := by unfold State.raiseGDActed; dsimp only; split <;> simp only [modDie_flag]
@[simp] theorem raiseGDActed_live (d : DieId) (c o : Nat) (a : Option Nat) : (s.raiseGDActed d c o a).live = s.live := by unfold State.raiseGDActed; dsimp only; split <;> simp only [modDie_live]
@[simp] theorem raiseGDActed_implemented (d : DieId) (c o : Nat) (a : Option Nat) (r_ : Nat) : (s.raiseGDActed d c o a).implemented r_ = s.implemented r_ := by unfold State.raiseGDActed; dsimp only; split <;> simp only [modDie_implemented]
@[simp] theorem raiseGDActed_hasDie (d : DieId) (c o : Nat) (a : Option Nat) (r_ : Nat) : (s.raiseGDActed d c o a).hasDie r_ = s.hasDie r_ := by unfold State.raiseGDActed; dsimp only; split <;> simp only [modDie_hasDie]
@[simp] theorem raiseGDActed_hasAxis (d : DieId) (c o : Nat) (a : Option Nat) (r_ : Nat) : (s.raiseGDActed d c o a).hasAxis r_ = s.hasAxis r_ := by unfold State.raiseGDActed; dsimp only; split <;> simp only [modDie_hasAxis]
@[simp] theorem raiseGDActed_planned (d : DieId) (c o : Nat) (a : Option Nat) (r_ : Nat) : (s.raiseGDActed d c o a).planned r_ = s.planned r_ := by unfold State.raiseGDActed; dsimp only; split <;> simp only [modDie_planned]
@[simp] theorem raiseGDActed_stamp (d : DieId) (c o : Nat) (a : Option Nat) (r_ : Nat) : (s.raiseGDActed d c o a).stamp r_ = s.stamp r_ := by unfold State.raiseGDActed; dsimp only; split <;> simp only [modDie_stamp]
@[simp] theorem raiseGDActed_fmRuns (d : DieId) (c o : Nat) (a : Option Nat) : (s.raiseGDActed d c o a).fmRuns = s.fmRuns := by unfold State.raiseGDActed; dsimp only; split <;> simp only [modDie_fmRuns]
@[simp] theorem raiseGDActed_axisRec (d : DieId) (c o : Nat) (a : Option Nat) (r_ : Nat) : (s.raiseGDActed d c o a).axisRec r_ = s.axisRec r_ := by unfold State.raiseGDActed; dsimp only; split <;> simp only [modDie_axisRec]
@[simp] theorem raiseGDActed_schedRec (d : DieId) (c o : Nat) (a : Option Nat) (r_ : Nat) : (s.raiseGDActed d c o a).schedRec r_ = s.schedRec r_ := by unfold State.raiseGDActed; dsimp only; split <;> simp only [modDie_schedRec]
@[simp] theorem raiseGDActed_feedOf (d : DieId) (c o : Nat) (a : Option Nat) (r_ : Nat) : (s.raiseGDActed d c o a).feedOf r_ = s.feedOf r_ := by unfold State.raiseGDActed; dsimp only; split <;> simp only [modDie_feedOf]
@[simp] theorem raiseGDActed_feedOfChan (d : DieId) (c o : Nat) (a : Option Nat) (r_ : Nat) : (s.raiseGDActed d c o a).feedOfChan r_ = s.feedOfChan r_ := by unfold State.raiseGDActed; dsimp only; split <;> simp only [modDie_feedOfChan]
@[simp] theorem raiseGDActed_loopOf (d : DieId) (c o : Nat) (a : Option Nat) (r_ : Nat) : (s.raiseGDActed d c o a).loopOf r_ = s.loopOf r_ := by unfold State.raiseGDActed; dsimp only; split <;> simp only [modDie_loopOf]
@[simp] theorem raiseGDActed_protRec (d : DieId) (c o : Nat) (a : Option Nat) (r_ : Nat) : (s.raiseGDActed d c o a).protRec r_ = s.protRec r_ := by unfold State.raiseGDActed; dsimp only; split <;> simp only [modDie_protRec]
@[simp] theorem raiseGDActed_axisSt (d : DieId) (c o : Nat) (a : Option Nat) (r_ : AxisId) : (s.raiseGDActed d c o a).axisSt r_ = s.axisSt r_ := by unfold State.raiseGDActed; dsimp only; split <;> simp only [modDie_axisSt]
@[simp] theorem raiseGDActed_axisOn (d : DieId) (c o : Nat) (a : Option Nat) (r_ : AxisId) : (s.raiseGDActed d c o a).axisOn r_ = s.axisOn r_ := by unfold State.raiseGDActed; dsimp only; split <;> simp only [modDie_axisOn]
@[simp] theorem raiseGDActed_opStat (d : DieId) (c o : Nat) (a : Option Nat) (r_ : Nat) : (s.raiseGDActed d c o a).opStat r_ = s.opStat r_ := by unfold State.raiseGDActed; dsimp only; split <;> simp only [modDie_opStat]
@[simp] theorem raiseGDActed_opBusy (d : DieId) (c o : Nat) (a : Option Nat) (r_ : Nat) : (s.raiseGDActed d c o a).opBusy r_ = s.opBusy r_ := by unfold State.raiseGDActed; dsimp only; split <;> simp only [modDie_opBusy]
@[simp] theorem raiseGDActed_lastOp (d : DieId) (c o : Nat) (a : Option Nat) (r_ : Nat) : (s.raiseGDActed d c o a).lastOp r_ = s.lastOp r_ := by unfold State.raiseGDActed; dsimp only; split <;> simp only [modDie_lastOp]

/-! ### boxWriteFail -/

@[simp] theorem boxWriteFail_variant : (s.boxWriteFail).variant = s.variant := by unfold State.boxWriteFail; simp only [raiseLD_variant, setFlag_variant]
@[simp] theorem boxWriteFail_power : (s.boxWriteFail).power = s.power := by unfold State.boxWriteFail; simp only [raiseLD_power, setFlag_power]
@[simp] theorem boxWriteFail_clock : (s.boxWriteFail).clock = s.clock := by unfold State.boxWriteFail; simp only [raiseLD_clock, setFlag_clock]
@[simp] theorem boxWriteFail_tsBase : (s.boxWriteFail).tsBase = s.tsBase := by unfold State.boxWriteFail; simp only [raiseLD_tsBase, setFlag_tsBase]
@[simp] theorem boxWriteFail_frame : (s.boxWriteFail).frame = s.frame := by unfold State.boxWriteFail; simp only [raiseLD_frame, setFlag_frame]
@[simp] theorem boxWriteFail_lastEngine : (s.boxWriteFail).lastEngine = s.lastEngine := by unfold State.boxWriteFail; simp only [raiseLD_lastEngine, setFlag_lastEngine]
@[simp] theorem boxWriteFail_lastMotion : (s.boxWriteFail).lastMotion = s.lastMotion := by unfold State.boxWriteFail; simp only [raiseLD_lastMotion, setFlag_lastMotion]
@[simp] theorem boxWriteFail_free : (s.boxWriteFail).free = s.free := by unfold State.boxWriteFail; simp only [raiseLD_free, setFlag_free]
@[simp] theorem boxWriteFail_box : (s.boxWriteFail).box = s.box := by unfold State.boxWriteFail; simp only [raiseLD_box, setFlag_box]
@[simp] theorem boxWriteFail_dies : (s.boxWriteFail).dies = s.dies := by unfold State.boxWriteFail; simp only [raiseLD_dies, setFlag_dies]
@[simp] theorem boxWriteFail_legs : (s.boxWriteFail).legs = s.legs := by unfold State.boxWriteFail; simp only [raiseLD_legs, setFlag_legs]
@[simp] theorem boxWriteFail_regions : (s.boxWriteFail).regions = s.regions := by unfold State.boxWriteFail; simp only [raiseLD_regions, setFlag_regions]
@[simp] theorem boxWriteFail_carriers : (s.boxWriteFail).carriers = s.carriers := by unfold State.boxWriteFail; simp only [raiseLD_carriers, setFlag_carriers]
@[simp] theorem boxWriteFail_wireTests : (s.boxWriteFail).wireTests = s.wireTests := by unfold State.boxWriteFail; simp only [raiseLD_wireTests, setFlag_wireTests]
@[simp] theorem boxWriteFail_leakTests : (s.boxWriteFail).leakTests = s.leakTests := by unfold State.boxWriteFail; simp only [raiseLD_leakTests, setFlag_leakTests]
@[simp] theorem boxWriteFail_seqs : (s.boxWriteFail).seqs = s.seqs := by unfold State.boxWriteFail; simp only [raiseLD_seqs, setFlag_seqs]
@[simp] theorem boxWriteFail_cores : (s.boxWriteFail).cores = s.cores := by unfold State.boxWriteFail; simp only [raiseLD_cores, setFlag_cores]
@[simp] theorem boxWriteFail_meas : (s.boxWriteFail).meas = s.meas := by unfold State.boxWriteFail; simp only [raiseLD_meas, setFlag_meas]
@[simp] theorem boxWriteFail_calRuns : (s.boxWriteFail).calRuns = s.calRuns := by unfold State.boxWriteFail; simp only [raiseLD_calRuns, setFlag_calRuns]
@[simp] theorem boxWriteFail_cmps : (s.boxWriteFail).cmps = s.cmps := by unfold State.boxWriteFail; simp only [raiseLD_cmps, setFlag_cmps]
@[simp] theorem boxWriteFail_audit : (s.boxWriteFail).audit = s.audit := by unfold State.boxWriteFail; simp only [raiseLD_audit, setFlag_audit]
@[simp] theorem boxWriteFail_inv : (s.boxWriteFail).inv = s.inv := by unfold State.boxWriteFail; simp only [raiseLD_inv, setFlag_inv]
@[simp] theorem boxWriteFail_invOp : (s.boxWriteFail).invOp = s.invOp := by unfold State.boxWriteFail; simp only [raiseLD_invOp, setFlag_invOp]
@[simp] theorem boxWriteFail_pins : (s.boxWriteFail).pins = s.pins := by unfold State.boxWriteFail; simp only [raiseLD_pins, setFlag_pins]
@[simp] theorem boxWriteFail_jtag : (s.boxWriteFail).jtag = s.jtag := by unfold State.boxWriteFail; simp only [raiseLD_jtag, setFlag_jtag]
@[simp] theorem boxWriteFail_engs : (s.boxWriteFail).engs = s.engs := by unfold State.boxWriteFail; simp only [raiseLD_engs, setFlag_engs]
@[simp] theorem boxWriteFail_engine : (s.boxWriteFail).engine = s.engine := by unfold State.boxWriteFail; simp only [raiseLD_engine, setFlag_engine]
@[simp] theorem boxWriteFail_axes : (s.boxWriteFail).axes = s.axes := by unfold State.boxWriteFail; simp only [raiseLD_axes, setFlag_axes]
@[simp] theorem boxWriteFail_chans : (s.boxWriteFail).chans = s.chans := by unfold State.boxWriteFail; simp only [raiseLD_chans, setFlag_chans]
@[simp] theorem boxWriteFail_compares : (s.boxWriteFail).compares = s.compares := by unfold State.boxWriteFail; simp only [raiseLD_compares, setFlag_compares]
@[simp] theorem boxWriteFail_larder : (s.boxWriteFail).larder = s.larder := by unfold State.boxWriteFail; simp only [raiseLD_larder, setFlag_larder]
@[simp] theorem boxWriteFail_ladder : (s.boxWriteFail).ladder = s.ladder := by unfold State.boxWriteFail; simp only [raiseLD_ladder, setFlag_ladder]
@[simp] theorem boxWriteFail_planner : (s.boxWriteFail).planner = s.planner := by unfold State.boxWriteFail; simp only [raiseLD_planner, setFlag_planner]
@[simp] theorem boxWriteFail_comps : (s.boxWriteFail).comps = s.comps := by unfold State.boxWriteFail; simp only [raiseLD_comps, setFlag_comps]
@[simp] theorem boxWriteFail_guard : (s.boxWriteFail).guard = s.guard := by unfold State.boxWriteFail; simp only [raiseLD_guard, setFlag_guard]
@[simp] theorem boxWriteFail_seq : (s.boxWriteFail).seq = s.seq := by unfold State.boxWriteFail; simp only [raiseLD_seq, setFlag_seq]
@[simp] theorem boxWriteFail_flash : (s.boxWriteFail).flash = s.flash := by unfold State.boxWriteFail; simp only [raiseLD_flash, setFlag_flash]
@[simp] theorem boxWriteFail_hp : (s.boxWriteFail).hp = s.hp := by unfold State.boxWriteFail; simp only [raiseLD_hp, setFlag_hp]
@[simp] theorem boxWriteFail_prt : (s.boxWriteFail).prt = s.prt := by unfold State.boxWriteFail; simp only [raiseLD_prt, setFlag_prt]
@[simp] theorem boxWriteFail_hatch : (s.boxWriteFail).hatch = s.hatch := by unfold State.boxWriteFail; simp only [raiseLD_hatch, setFlag_hatch]
@[simp] theorem boxWriteFail_stock : (s.boxWriteFail).stock = s.stock := by unfold State.boxWriteFail; simp only [raiseLD_stock, setFlag_stock]
@[simp] theorem boxWriteFail_access : (s.boxWriteFail).access = s.access := by unfold State.boxWriteFail; simp only [raiseLD_access, setFlag_access]
@[simp] theorem boxWriteFail_pending : (s.boxWriteFail).pending = s.pending := by unfold State.boxWriteFail; simp only [raiseLD_pending, setFlag_pending]
@[simp] theorem boxWriteFail_implemented (r_ : Nat) : (s.boxWriteFail).implemented r_ = s.implemented r_ := by unfold State.boxWriteFail; simp only [raiseLD_implemented, setFlag_implemented]
@[simp] theorem boxWriteFail_linked (r_ : Nat) : (s.boxWriteFail).linked r_ = s.linked r_ := by unfold State.boxWriteFail; simp only [raiseLD_linked, setFlag_linked]
@[simp] theorem boxWriteFail_hasDie (r_ : Nat) : (s.boxWriteFail).hasDie r_ = s.hasDie r_ := by unfold State.boxWriteFail; simp only [raiseLD_hasDie, setFlag_hasDie]
@[simp] theorem boxWriteFail_hasAxis (r_ : Nat) : (s.boxWriteFail).hasAxis r_ = s.hasAxis r_ := by unfold State.boxWriteFail; simp only [raiseLD_hasAxis, setFlag_hasAxis]
@[simp] theorem boxWriteFail_planned (r_ : Nat) : (s.boxWriteFail).planned r_ = s.planned r_ := by unfold State.boxWriteFail; simp only [raiseLD_planned, setFlag_planned]
@[simp] theorem boxWriteFail_stamp (r_ : Nat) : (s.boxWriteFail).stamp r_ = s.stamp r_ := by unfold State.boxWriteFail; simp only [raiseLD_stamp, setFlag_stamp]
@[simp] theorem boxWriteFail_axisRec (r_ : Nat) : (s.boxWriteFail).axisRec r_ = s.axisRec r_ := by unfold State.boxWriteFail; simp only [raiseLD_axisRec, setFlag_axisRec]
@[simp] theorem boxWriteFail_schedRec (r_ : Nat) : (s.boxWriteFail).schedRec r_ = s.schedRec r_ := by unfold State.boxWriteFail; simp only [raiseLD_schedRec, setFlag_schedRec]
@[simp] theorem boxWriteFail_feedOf (r_ : Nat) : (s.boxWriteFail).feedOf r_ = s.feedOf r_ := by unfold State.boxWriteFail; simp only [raiseLD_feedOf, setFlag_feedOf]
@[simp] theorem boxWriteFail_feedOfChan (r_ : Nat) : (s.boxWriteFail).feedOfChan r_ = s.feedOfChan r_ := by unfold State.boxWriteFail; simp only [raiseLD_feedOfChan, setFlag_feedOfChan]
@[simp] theorem boxWriteFail_loopOf (r_ : Nat) : (s.boxWriteFail).loopOf r_ = s.loopOf r_ := by unfold State.boxWriteFail; simp only [raiseLD_loopOf, setFlag_loopOf]
@[simp] theorem boxWriteFail_protRec (r_ : Nat) : (s.boxWriteFail).protRec r_ = s.protRec r_ := by unfold State.boxWriteFail; simp only [raiseLD_protRec, setFlag_protRec]

/-! ### saveOr -/

@[simp] theorem saveOr_variant (ok : Bool) (i : Nat) (l : List Nat) : (s.saveOr ok i l).variant = s.variant := by unfold State.saveOr; split <;> simp only [saveGroup_variant, boxWriteFail_variant]
@[simp] theorem saveOr_power (ok : Bool) (i : Nat) (l : List Nat) : (s.saveOr ok i l).power = s.power := by unfold State.saveOr; split <;> simp only [saveGroup_power, boxWriteFail_power]
@[simp] theorem saveOr_clock (ok : Bool) (i : Nat) (l : List Nat) : (s.saveOr ok i l).clock = s.clock := by unfold State.saveOr; split <;> simp only [saveGroup_clock, boxWriteFail_clock]
@[simp] theorem saveOr_tsBase (ok : Bool) (i : Nat) (l : List Nat) : (s.saveOr ok i l).tsBase = s.tsBase := by unfold State.saveOr; split <;> simp only [saveGroup_tsBase, boxWriteFail_tsBase]
@[simp] theorem saveOr_frame (ok : Bool) (i : Nat) (l : List Nat) : (s.saveOr ok i l).frame = s.frame := by unfold State.saveOr; split <;> simp only [saveGroup_frame, boxWriteFail_frame]
@[simp] theorem saveOr_lastEngine (ok : Bool) (i : Nat) (l : List Nat) : (s.saveOr ok i l).lastEngine = s.lastEngine := by unfold State.saveOr; split <;> simp only [saveGroup_lastEngine, boxWriteFail_lastEngine]
@[simp] theorem saveOr_lastMotion (ok : Bool) (i : Nat) (l : List Nat) : (s.saveOr ok i l).lastMotion = s.lastMotion := by unfold State.saveOr; split <;> simp only [saveGroup_lastMotion, boxWriteFail_lastMotion]
@[simp] theorem saveOr_free (ok : Bool) (i : Nat) (l : List Nat) : (s.saveOr ok i l).free = s.free := by unfold State.saveOr; split <;> simp only [saveGroup_free, boxWriteFail_free]
@[simp] theorem saveOr_dies (ok : Bool) (i : Nat) (l : List Nat) : (s.saveOr ok i l).dies = s.dies := by unfold State.saveOr; split <;> simp only [saveGroup_dies, boxWriteFail_dies]
@[simp] theorem saveOr_legs (ok : Bool) (i : Nat) (l : List Nat) : (s.saveOr ok i l).legs = s.legs := by unfold State.saveOr; split <;> simp only [saveGroup_legs, boxWriteFail_legs]
@[simp] theorem saveOr_regions (ok : Bool) (i : Nat) (l : List Nat) : (s.saveOr ok i l).regions = s.regions := by unfold State.saveOr; split <;> simp only [saveGroup_regions, boxWriteFail_regions]
@[simp] theorem saveOr_carriers (ok : Bool) (i : Nat) (l : List Nat) : (s.saveOr ok i l).carriers = s.carriers := by unfold State.saveOr; split <;> simp only [saveGroup_carriers, boxWriteFail_carriers]
@[simp] theorem saveOr_wireTests (ok : Bool) (i : Nat) (l : List Nat) : (s.saveOr ok i l).wireTests = s.wireTests := by unfold State.saveOr; split <;> simp only [saveGroup_wireTests, boxWriteFail_wireTests]
@[simp] theorem saveOr_leakTests (ok : Bool) (i : Nat) (l : List Nat) : (s.saveOr ok i l).leakTests = s.leakTests := by unfold State.saveOr; split <;> simp only [saveGroup_leakTests, boxWriteFail_leakTests]
@[simp] theorem saveOr_seqs (ok : Bool) (i : Nat) (l : List Nat) : (s.saveOr ok i l).seqs = s.seqs := by unfold State.saveOr; split <;> simp only [saveGroup_seqs, boxWriteFail_seqs]
@[simp] theorem saveOr_cores (ok : Bool) (i : Nat) (l : List Nat) : (s.saveOr ok i l).cores = s.cores := by unfold State.saveOr; split <;> simp only [saveGroup_cores, boxWriteFail_cores]
@[simp] theorem saveOr_meas (ok : Bool) (i : Nat) (l : List Nat) : (s.saveOr ok i l).meas = s.meas := by unfold State.saveOr; split <;> simp only [saveGroup_meas, boxWriteFail_meas]
@[simp] theorem saveOr_calRuns (ok : Bool) (i : Nat) (l : List Nat) : (s.saveOr ok i l).calRuns = s.calRuns := by unfold State.saveOr; split <;> simp only [saveGroup_calRuns, boxWriteFail_calRuns]
@[simp] theorem saveOr_cmps (ok : Bool) (i : Nat) (l : List Nat) : (s.saveOr ok i l).cmps = s.cmps := by unfold State.saveOr; split <;> simp only [saveGroup_cmps, boxWriteFail_cmps]
@[simp] theorem saveOr_audit (ok : Bool) (i : Nat) (l : List Nat) : (s.saveOr ok i l).audit = s.audit := by unfold State.saveOr; split <;> simp only [saveGroup_audit, boxWriteFail_audit]
@[simp] theorem saveOr_inv (ok : Bool) (i : Nat) (l : List Nat) : (s.saveOr ok i l).inv = s.inv := by unfold State.saveOr; split <;> simp only [saveGroup_inv, boxWriteFail_inv]
@[simp] theorem saveOr_invOp (ok : Bool) (i : Nat) (l : List Nat) : (s.saveOr ok i l).invOp = s.invOp := by unfold State.saveOr; split <;> simp only [saveGroup_invOp, boxWriteFail_invOp]
@[simp] theorem saveOr_pins (ok : Bool) (i : Nat) (l : List Nat) : (s.saveOr ok i l).pins = s.pins := by unfold State.saveOr; split <;> simp only [saveGroup_pins, boxWriteFail_pins]
@[simp] theorem saveOr_jtag (ok : Bool) (i : Nat) (l : List Nat) : (s.saveOr ok i l).jtag = s.jtag := by unfold State.saveOr; split <;> simp only [saveGroup_jtag, boxWriteFail_jtag]
@[simp] theorem saveOr_engs (ok : Bool) (i : Nat) (l : List Nat) : (s.saveOr ok i l).engs = s.engs := by unfold State.saveOr; split <;> simp only [saveGroup_engs, boxWriteFail_engs]
@[simp] theorem saveOr_engine (ok : Bool) (i : Nat) (l : List Nat) : (s.saveOr ok i l).engine = s.engine := by unfold State.saveOr; split <;> simp only [saveGroup_engine, boxWriteFail_engine]
@[simp] theorem saveOr_axes (ok : Bool) (i : Nat) (l : List Nat) : (s.saveOr ok i l).axes = s.axes := by unfold State.saveOr; split <;> simp only [saveGroup_axes, boxWriteFail_axes]
@[simp] theorem saveOr_chans (ok : Bool) (i : Nat) (l : List Nat) : (s.saveOr ok i l).chans = s.chans := by unfold State.saveOr; split <;> simp only [saveGroup_chans, boxWriteFail_chans]
@[simp] theorem saveOr_compares (ok : Bool) (i : Nat) (l : List Nat) : (s.saveOr ok i l).compares = s.compares := by unfold State.saveOr; split <;> simp only [saveGroup_compares, boxWriteFail_compares]
@[simp] theorem saveOr_larder (ok : Bool) (i : Nat) (l : List Nat) : (s.saveOr ok i l).larder = s.larder := by unfold State.saveOr; split <;> simp only [saveGroup_larder, boxWriteFail_larder]
@[simp] theorem saveOr_ladder (ok : Bool) (i : Nat) (l : List Nat) : (s.saveOr ok i l).ladder = s.ladder := by unfold State.saveOr; split <;> simp only [saveGroup_ladder, boxWriteFail_ladder]
@[simp] theorem saveOr_planner (ok : Bool) (i : Nat) (l : List Nat) : (s.saveOr ok i l).planner = s.planner := by unfold State.saveOr; split <;> simp only [saveGroup_planner, boxWriteFail_planner]
@[simp] theorem saveOr_comps (ok : Bool) (i : Nat) (l : List Nat) : (s.saveOr ok i l).comps = s.comps := by unfold State.saveOr; split <;> simp only [saveGroup_comps, boxWriteFail_comps]
@[simp] theorem saveOr_guard (ok : Bool) (i : Nat) (l : List Nat) : (s.saveOr ok i l).guard = s.guard := by unfold State.saveOr; split <;> simp only [saveGroup_guard, boxWriteFail_guard]
@[simp] theorem saveOr_seq (ok : Bool) (i : Nat) (l : List Nat) : (s.saveOr ok i l).seq = s.seq := by unfold State.saveOr; split <;> simp only [saveGroup_seq, boxWriteFail_seq]
@[simp] theorem saveOr_flash (ok : Bool) (i : Nat) (l : List Nat) : (s.saveOr ok i l).flash = s.flash := by unfold State.saveOr; split <;> simp only [saveGroup_flash, boxWriteFail_flash]
@[simp] theorem saveOr_hp (ok : Bool) (i : Nat) (l : List Nat) : (s.saveOr ok i l).hp = s.hp := by unfold State.saveOr; split <;> simp only [saveGroup_hp, boxWriteFail_hp]
@[simp] theorem saveOr_prt (ok : Bool) (i : Nat) (l : List Nat) : (s.saveOr ok i l).prt = s.prt := by unfold State.saveOr; split <;> simp only [saveGroup_prt, boxWriteFail_prt]
@[simp] theorem saveOr_hatch (ok : Bool) (i : Nat) (l : List Nat) : (s.saveOr ok i l).hatch = s.hatch := by unfold State.saveOr; split <;> simp only [saveGroup_hatch, boxWriteFail_hatch]
@[simp] theorem saveOr_stock (ok : Bool) (i : Nat) (l : List Nat) : (s.saveOr ok i l).stock = s.stock := by unfold State.saveOr; split <;> simp only [saveGroup_stock, boxWriteFail_stock]
@[simp] theorem saveOr_access (ok : Bool) (i : Nat) (l : List Nat) : (s.saveOr ok i l).access = s.access := by unfold State.saveOr; split <;> simp only [saveGroup_access, boxWriteFail_access]
@[simp] theorem saveOr_pending (ok : Bool) (i : Nat) (l : List Nat) : (s.saveOr ok i l).pending = s.pending := by unfold State.saveOr; split <;> simp only [saveGroup_pending, boxWriteFail_pending]
@[simp] theorem saveOr_implemented (ok : Bool) (i : Nat) (l : List Nat) (r_ : Nat) : (s.saveOr ok i l).implemented r_ = s.implemented r_ := by unfold State.saveOr; split <;> simp only [saveGroup_implemented, boxWriteFail_implemented]
@[simp] theorem saveOr_linked (ok : Bool) (i : Nat) (l : List Nat) (r_ : Nat) : (s.saveOr ok i l).linked r_ = s.linked r_ := by unfold State.saveOr; split <;> simp only [saveGroup_linked, boxWriteFail_linked]
@[simp] theorem saveOr_hasDie (ok : Bool) (i : Nat) (l : List Nat) (r_ : Nat) : (s.saveOr ok i l).hasDie r_ = s.hasDie r_ := by unfold State.saveOr; split <;> simp only [saveGroup_hasDie, boxWriteFail_hasDie]
@[simp] theorem saveOr_hasAxis (ok : Bool) (i : Nat) (l : List Nat) (r_ : Nat) : (s.saveOr ok i l).hasAxis r_ = s.hasAxis r_ := by unfold State.saveOr; split <;> simp only [saveGroup_hasAxis, boxWriteFail_hasAxis]
@[simp] theorem saveOr_planned (ok : Bool) (i : Nat) (l : List Nat) (r_ : Nat) : (s.saveOr ok i l).planned r_ = s.planned r_ := by unfold State.saveOr; split <;> simp only [saveGroup_planned, boxWriteFail_planned]
@[simp] theorem saveOr_stamp (ok : Bool) (i : Nat) (l : List Nat) (r_ : Nat) : (s.saveOr ok i l).stamp r_ = s.stamp r_ := by unfold State.saveOr; split <;> simp only [saveGroup_stamp, boxWriteFail_stamp]
@[simp] theorem saveOr_axisRec (ok : Bool) (i : Nat) (l : List Nat) (r_ : Nat) : (s.saveOr ok i l).axisRec r_ = s.axisRec r_ := by unfold State.saveOr; split <;> simp only [saveGroup_axisRec, boxWriteFail_axisRec]
@[simp] theorem saveOr_schedRec (ok : Bool) (i : Nat) (l : List Nat) (r_ : Nat) : (s.saveOr ok i l).schedRec r_ = s.schedRec r_ := by unfold State.saveOr; split <;> simp only [saveGroup_schedRec, boxWriteFail_schedRec]
@[simp] theorem saveOr_feedOf (ok : Bool) (i : Nat) (l : List Nat) (r_ : Nat) : (s.saveOr ok i l).feedOf r_ = s.feedOf r_ := by unfold State.saveOr; split <;> simp only [saveGroup_feedOf, boxWriteFail_feedOf]
@[simp] theorem saveOr_feedOfChan (ok : Bool) (i : Nat) (l : List Nat) (r_ : Nat) : (s.saveOr ok i l).feedOfChan r_ = s.feedOfChan r_ := by unfold State.saveOr; split <;> simp only [saveGroup_feedOfChan, boxWriteFail_feedOfChan]
@[simp] theorem saveOr_loopOf (ok : Bool) (i : Nat) (l : List Nat) (r_ : Nat) : (s.saveOr ok i l).loopOf r_ = s.loopOf r_ := by unfold State.saveOr; split <;> simp only [saveGroup_loopOf, boxWriteFail_loopOf]
@[simp] theorem saveOr_protRec (ok : Bool) (i : Nat) (l : List Nat) (r_ : Nat) : (s.saveOr ok i l).protRec r_ = s.protRec r_ := by unfold State.saveOr; split <;> simp only [saveGroup_protRec, boxWriteFail_protRec]

/-! ### after -/

@[simp] theorem after_variant (t : State) : (s.after t).variant = t.variant := (rfl)
@[simp] theorem after_power (t : State) : (s.after t).power = t.power := (rfl)
@[simp] theorem after_clock (t : State) : (s.after t).clock = max s.clock t.clock := (rfl)
@[simp] theorem after_tsBase (t : State) : (s.after t).tsBase = t.tsBase := (rfl)
@[simp] theorem after_frame (t : State) : (s.after t).frame = t.frame := (rfl)
@[simp] theorem after_lastEngine (t : State) : (s.after t).lastEngine = t.lastEngine := (rfl)
@[simp] theorem after_lastMotion (t : State) : (s.after t).lastMotion = t.lastMotion := (rfl)
@[simp] theorem after_free (t : State) : (s.after t).free = t.free := (rfl)
@[simp] theorem after_regs (t : State) : (s.after t).regs = t.regs := (rfl)
@[simp] theorem after_fm (t : State) : (s.after t).fm = t.fm := (rfl)
@[simp] theorem after_box (t : State) : (s.after t).box = t.box := (rfl)
@[simp] theorem after_dies (t : State) : (s.after t).dies = t.dies := (rfl)
@[simp] theorem after_legs (t : State) : (s.after t).legs = t.legs.map Leg.interlock := (rfl)
@[simp] theorem after_regions (t : State) : (s.after t).regions = t.regions := (rfl)
@[simp] theorem after_carriers (t : State) : (s.after t).carriers = t.carriers := (rfl)
@[simp] theorem after_wireTests (t : State) : (s.after t).wireTests = t.wireTests := (rfl)
@[simp] theorem after_leakTests (t : State) : (s.after t).leakTests = t.leakTests := (rfl)
@[simp] theorem after_seqs (t : State) : (s.after t).seqs = t.seqs := (rfl)
@[simp] theorem after_cores (t : State) : (s.after t).cores = t.cores := (rfl)
@[simp] theorem after_meas (t : State) : (s.after t).meas = t.meas := (rfl)
@[simp] theorem after_calRuns (t : State) : (s.after t).calRuns = t.calRuns := (rfl)
@[simp] theorem after_cmps (t : State) : (s.after t).cmps = t.cmps := (rfl)
@[simp] theorem after_audit (t : State) : (s.after t).audit = t.audit := (rfl)
@[simp] theorem after_inv (t : State) : (s.after t).inv = t.inv := (rfl)
@[simp] theorem after_invOp (t : State) : (s.after t).invOp = t.invOp := (rfl)
@[simp] theorem after_pins (t : State) : (s.after t).pins = t.pins := (rfl)
@[simp] theorem after_jtag (t : State) : (s.after t).jtag = t.jtag := (rfl)
@[simp] theorem after_engs (t : State) : (s.after t).engs = t.engs := (rfl)
@[simp] theorem after_engine (t : State) : (s.after t).engine = t.engine := (rfl)
@[simp] theorem after_axes (t : State) : (s.after t).axes = t.axes := (rfl)
@[simp] theorem after_chans (t : State) : (s.after t).chans = t.chans := (rfl)
@[simp] theorem after_compares (t : State) : (s.after t).compares = t.compares := (rfl)
@[simp] theorem after_larder (t : State) : (s.after t).larder = t.larder := (rfl)
@[simp] theorem after_ladder (t : State) : (s.after t).ladder = t.ladder := (rfl)
@[simp] theorem after_planner (t : State) : (s.after t).planner = t.planner := (rfl)
@[simp] theorem after_comps (t : State) : (s.after t).comps = t.comps := (rfl)
@[simp] theorem after_guard (t : State) : (s.after t).guard = t.guard := (rfl)
@[simp] theorem after_seq (t : State) : (s.after t).seq = t.seq := (rfl)
@[simp] theorem after_flash (t : State) : (s.after t).flash = t.flash := (rfl)
@[simp] theorem after_hp (t : State) : (s.after t).hp = t.hp := (rfl)
@[simp] theorem after_prt (t : State) : (s.after t).prt = t.prt := (rfl)
@[simp] theorem after_hatch (t : State) : (s.after t).hatch = t.hatch := (rfl)
@[simp] theorem after_stock (t : State) : (s.after t).stock = t.stock := (rfl)
@[simp] theorem after_access (t : State) : (s.after t).access = t.access := (rfl)
@[simp] theorem after_pending (t : State) : (s.after t).pending = s.pending := (rfl)
@[simp] theorem after_reg (t : State) (r : Nat) : (s.after t).reg r = t.reg r := (rfl)
@[simp] theorem after_fld (t : State) (r : Fld) : (s.after t).fld r = t.fld r := (rfl)
@[simp] theorem after_sfld (t : State) (r : Fld) : (s.after t).sfld r = t.sfld r := (rfl)
@[simp] theorem after_flag (t : State) (r : Fld) : (s.after t).flag r = t.flag r := (rfl)

end Sys2Proof.Machine
end

