-- ==== Sys2Proof/Laws/Ops.lean ====
section
/-! SUPPORT. What the shared operations over registers, fields, counters and operation status do: a field written is read
back modulo its width, every other field and register reads as before. -/

namespace Sys2Proof.Machine

open Sys2Proof

variable {s : State}

/-! ### Registers -/

/-- A register written is read back; every other reads as before. -/
theorem reg_setReg {k j : Nat} {w : Word} : (s.setReg k w).reg j = if j = k then w else s.reg j := Cells.read_write

@[simp] theorem reg_setReg_self {k : Nat} {w : Word} : (s.setReg k w).reg k = w := Cells.read_write_self

theorem reg_setReg_ne {k j : Nat} {w : Word} (h : j ≠ k) : (s.setReg k w).reg j = s.reg j := Cells.read_write_ne h

theorem reg_setFld_ne {f : Fld} {v j : Nat} (h : j ≠ f.key) : (s.setFld f v).reg j = s.reg j := reg_setReg_ne h

theorem reg_setSFld_ne {f : Fld} {v : Int} {j : Nat} (h : j ≠ f.key) : (s.setSFld f v).reg j = s.reg j := reg_setReg_ne h

theorem reg_setFlag_ne {f : Fld} {b : Bool} {j : Nat} (h : j ≠ f.key) : (s.setFlag f b).reg j = s.reg j := reg_setReg_ne h

theorem reg_setRegBit_ne {k i j : Nat} {b : Bool} (h : j ≠ k) : (s.setRegBit k i b).reg j = s.reg j := reg_setReg_ne h

theorem reg_clearRegs {lo hi j : Nat} :
    (s.clearRegs lo hi).reg j = if lo ≤ j ∧ j < hi then resetWord s.variant j else s.reg j := Cells.read_clear

/-! ### Bit fields -/

theorem bitsPut_lt {n hi lo v : Nat} (hn : n < 2 ^ 36) (h : lo ≤ hi) (h36 : hi < 36) : bitsPut n hi lo v < 2 ^ 36 := by
  unfold bitsPut
  have h1 : n % 2 ^ lo < 2 ^ lo := Nat.mod_lt _ (Nat.two_pow_pos _)
  have h2 : v % 2 ^ (hi + 1 - lo) < 2 ^ (hi + 1 - lo) := Nat.mod_lt _ (Nat.two_pow_pos _)
  have h3 : 2 ^ (hi + 1) = 2 ^ (hi + 1 - lo) * 2 ^ lo := by rw [← Nat.pow_add]; congr 1; omega
  have h4 : 2 ^ 36 = 2 ^ (36 - (hi + 1)) * 2 ^ (hi + 1) := by rw [← Nat.pow_add]; congr 1; omega
  have h5 : n / 2 ^ (hi + 1) < 2 ^ (36 - (hi + 1)) := by
    rw [Nat.div_lt_iff_lt_mul (Nat.two_pow_pos _), ← h4]; exact hn
  have h6 : n % 2 ^ lo + v % 2 ^ (hi + 1 - lo) * 2 ^ lo < 2 ^ (hi + 1) := by
    rw [h3]
    calc n % 2 ^ lo + v % 2 ^ (hi + 1 - lo) * 2 ^ lo < 2 ^ lo + v % 2 ^ (hi + 1 - lo) * 2 ^ lo := by omega
      _ = (v % 2 ^ (hi + 1 - lo) + 1) * 2 ^ lo := by rw [Nat.add_mul, Nat.one_mul, Nat.add_comm]
      _ ≤ 2 ^ (hi + 1 - lo) * 2 ^ lo := Nat.mul_le_mul_right _ h2
  rw [h4]
  calc n % 2 ^ lo + v % 2 ^ (hi + 1 - lo) * 2 ^ lo + n / 2 ^ (hi + 1) * 2 ^ (hi + 1)
      < 2 ^ (hi + 1) + n / 2 ^ (hi + 1) * 2 ^ (hi + 1) := by omega
    _ = (n / 2 ^ (hi + 1) + 1) * 2 ^ (hi + 1) := by rw [Nat.add_mul, Nat.one_mul, Nat.add_comm]
    _ ≤ 2 ^ (36 - (hi + 1)) * 2 ^ (hi + 1) := Nat.mul_le_mul_right _ h5

/-- Bit `i` of a number with a field put in. -/
theorem bitsPut_testBit {n hi lo v i : Nat} (h : lo ≤ hi) :
    (bitsPut n hi lo v).testBit i = if lo ≤ i ∧ i ≤ hi then v.testBit (i - lo) else n.testBit i := by
  have e : bitsPut n hi lo v = 2 ^ (hi + 1) * (n / 2 ^ (hi + 1)) + (2 ^ lo * (v % 2 ^ (hi + 1 - lo)) + n % 2 ^ lo) := by
    unfold bitsPut; rw [Nat.mul_comm (2 ^ (hi + 1)), Nat.mul_comm (2 ^ lo)]; omega
  have h1 : n % 2 ^ lo < 2 ^ lo := Nat.mod_lt _ (Nat.two_pow_pos _)
  have h3 : 2 ^ (hi + 1) = 2 ^ lo * 2 ^ (hi + 1 - lo) := by rw [← Nat.pow_add]; congr 1; omega
  have h2 : v % 2 ^ (hi + 1 - lo) < 2 ^ (hi + 1 - lo) := Nat.mod_lt _ (Nat.two_pow_pos _)
  have h6 : 2 ^ lo * (v % 2 ^ (hi + 1 - lo)) + n % 2 ^ lo < 2 ^ (hi + 1) := by
    rw [h3]
    calc 2 ^ lo * (v % 2 ^ (hi + 1 - lo)) + n % 2 ^ lo < 2 ^ lo * (v % 2 ^ (hi + 1 - lo)) + 2 ^ lo := by omega
      _ = 2 ^ lo * (v % 2 ^ (hi + 1 - lo) + 1) := by rw [Nat.mul_add, Nat.mul_one]
      _ ≤ 2 ^ lo * 2 ^ (hi + 1 - lo) := Nat.mul_le_mul_left _ h2
  rw [e, Nat.testBit_two_pow_mul_add _ h6, Nat.testBit_two_pow_mul_add _ h1]
  by_cases a : i < hi + 1
  · by_cases b : i < lo
    · have c : ¬ lo ≤ i := by omega
      simp [a, b, c, Nat.testBit_mod_two_pow]
    · have c : lo ≤ i ∧ i ≤ hi := ⟨by omega, by omega⟩
      have d : i - lo < hi + 1 - lo := by omega
      simp [a, b, c, d, Nat.testBit_mod_two_pow]
  · have c : ¬ (i ≤ hi) := by omega
    simp [a, c, Nat.testBit_div_two_pow]
    congr 1; omega

/-- A field put in reads back modulo its width. -/
theorem bitsOf_bitsPut {n hi lo v : Nat} (h : lo ≤ hi) : bitsOf (bitsPut n hi lo v) hi lo = v % 2 ^ (hi + 1 - lo) := by
  apply Nat.eq_of_testBit_eq
  intro i
  unfold bitsOf
  rw [Nat.testBit_mod_two_pow, Nat.testBit_mod_two_pow, Nat.testBit_shiftRight, bitsPut_testBit h]
  by_cases a : i < hi + 1 - lo
  · have c : lo ≤ lo + i ∧ lo + i ≤ hi := ⟨by omega, by omega⟩
    simp [a, c]
  · simp [a]

/-- A field apart from the one put in reads as before. -/
theorem bitsOf_bitsPut_apart {n hi lo v hj lj : Nat} (h : lo ≤ hi) (ha : hj < lo ∨ hi < lj) :
    bitsOf (bitsPut n hi lo v) hj lj = bitsOf n hj lj := by
  apply Nat.eq_of_testBit_eq
  intro i
  unfold bitsOf
  rw [Nat.testBit_mod_two_pow, Nat.testBit_mod_two_pow, Nat.testBit_shiftRight, Nat.testBit_shiftRight, bitsPut_testBit h]
  by_cases a : i < hj + 1 - lj
  · have c : ¬ (lo ≤ lj + i ∧ lj + i ≤ hi) := by omega
    simp [a, c]
  · simp [a]

/-! ### Fields -/

theorem reg_setFld_self {f : Fld} {v : Nat} :
    (s.setFld f v).reg f.key = BitVec.ofNat 36 (bitsPut (s.reg f.key).toNat f.hi f.lo v) := reg_setReg_self

/-- A field written reads back modulo its width. -/
theorem fld_setFld_self {f : Fld} {v : Nat} (h : f.lo ≤ f.hi ∧ f.hi < 36) :
    (s.setFld f v).fld f = v % 2 ^ (f.hi + 1 - f.lo) := by
  unfold State.fld
  rw [reg_setFld_self, BitVec.toNat_ofNat, Nat.mod_eq_of_lt (bitsPut_lt (BitVec.isLt _) h.1 h.2), bitsOf_bitsPut h.1]

/-- A field of another register reads as before. -/
theorem fld_setFld_key {f g : Fld} {v : Nat} (h : g.key ≠ f.key) : (s.setFld f v).fld g = s.fld g := by
  unfold State.fld; rw [reg_setFld_ne h]

/-- A field that shares no bit with the one written reads as before. -/
theorem fld_setFld_apart {f g : Fld} {v : Nat} (h : f.lo ≤ f.hi ∧ f.hi < 36) (ha : g.hi < f.lo ∨ f.hi < g.lo) :
    (s.setFld f v).fld g = s.fld g := by
  by_cases hk : g.key = f.key
  · unfold State.fld
    rw [hk, reg_setFld_self, BitVec.toNat_ofNat, Nat.mod_eq_of_lt (bitsPut_lt (BitVec.isLt _) h.1 h.2),
      bitsOf_bitsPut_apart h.1 ha]
  · exact fld_setFld_key hk

theorem bit_mod {b : Bool} {k : Nat} : bit b % 2 ^ (k + 1) = bit b := by
  have : 2 ≤ 2 ^ (k + 1) := by rw [Nat.pow_succ]; have := Nat.two_pow_pos k; omega
  unfold bit; split <;> exact Nat.mod_eq_of_lt (by omega)

/-- A flag written reads back. -/
theorem flag_setFlag_self {f : Fld} {b : Bool} (h : f.lo ≤ f.hi ∧ f.hi < 36) : (s.setFlag f b).flag f = b := by
  have e : f.hi + 1 - f.lo = f.hi - f.lo + 1 := by omega
  unfold State.flag State.setFlag
  rw [fld_setFld_self h, e, bit_mod]
  cases b <;> simp [bit]

theorem flag_setFld_key {f g : Fld} {v : Nat} (h : g.key ≠ f.key) : (s.setFld f v).flag g = s.flag g := by
  unfold State.flag; rw [fld_setFld_key h]

theorem flag_setFld_apart {f g : Fld} {v : Nat} (h : f.lo ≤ f.hi ∧ f.hi < 36) (ha : g.hi < f.lo ∨ f.hi < g.lo) :
    (s.setFld f v).flag g = s.flag g := by unfold State.flag; rw [fld_setFld_apart h ha]

theorem flag_setFlag_key {f g : Fld} {b : Bool} (h : g.key ≠ f.key) : (s.setFlag f b).flag g = s.flag g :=
  flag_setFld_key h

theorem flag_setFlag_apart {f g : Fld} {b : Bool} (h : f.lo ≤ f.hi ∧ f.hi < 36) (ha : g.hi < f.lo ∨ f.hi < g.lo) :
    (s.setFlag f b).flag g = s.flag g := flag_setFld_apart h ha

theorem fld_setFlag_key {f g : Fld} {b : Bool} (h : g.key ≠ f.key) : (s.setFlag f b).fld g = s.fld g :=
  fld_setFld_key h

theorem fld_setFlag_apart {f g : Fld} {b : Bool} (h : f.lo ≤ f.hi ∧ f.hi < 36) (ha : g.hi < f.lo ∨ f.hi < g.lo) :
    (s.setFlag f b).fld g = s.fld g := fld_setFld_apart h ha

theorem fld_setReg_key {g : Fld} {k : Nat} {w : Word} (h : g.key ≠ k) : (s.setReg k w).fld g = s.fld g := by
  unfold State.fld; rw [reg_setReg_ne h]

theorem flag_setReg_key {g : Fld} {k : Nat} {w : Word} (h : g.key ≠ k) : (s.setReg k w).flag g = s.flag g := by
  unfold State.flag; rw [fld_setReg_key h]

/-- A field of a register just written is that of the word. -/
theorem fld_setReg_self {g : Fld} {w : Word} : (s.setReg g.key w).fld g = bitsOf w.toNat g.hi g.lo := by
  unfold State.fld; rw [reg_setReg_self]

/-- The same, the register named otherwise than by the field. -/
theorem fld_setReg {g : Fld} {k : Nat} {w : Word} (h : g.key = k) : (s.setReg k w).fld g = bitsOf w.toNat g.hi g.lo := by
  subst h; exact fld_setReg_self

theorem flag_setReg {g : Fld} {k : Nat} {w : Word} (h : g.key = k) :
    (s.setReg k w).flag g = decide (bitsOf w.toNat g.hi g.lo = 1) := by unfold State.flag; rw [fld_setReg h]

/-! ### Reach -/


theorem live_setReg {k : Nat} {w : Word} (h : F.CLK_PLL_STAT_LOCK.key ≠ k) : (s.setReg k w).live = s.live := by
  unfold State.live; rw [flag_setReg_key h]; rfl

theorem live_setFld {f : Fld} {v : Nat} (h : F.CLK_PLL_STAT_LOCK.key ≠ f.key) : (s.setFld f v).live = s.live := live_setReg h

theorem live_setFlag {f : Fld} {b : Bool} (h : F.CLK_PLL_STAT_LOCK.key ≠ f.key) : (s.setFlag f b).live = s.live := live_setReg h

theorem reach_setReg {k b : Nat} {w : Word} (h : F.CLK_PLL_STAT_LOCK.key ≠ k) : (s.setReg k w).reach b = s.reach b := by
  unfold State.reach; rw [live_setReg h]; rfl

theorem reach_setFld {f : Fld} {b v : Nat} (h : F.CLK_PLL_STAT_LOCK.key ≠ f.key) : (s.setFld f v).reach b = s.reach b :=
  reach_setReg h

theorem reach_setFlag {f : Fld} {b : Nat} {v : Bool} (h : F.CLK_PLL_STAT_LOCK.key ≠ f.key) :
    (s.setFlag f v).reach b = s.reach b := reach_setReg h

/-! ### Counters -/

theorem reg_countOne_ne {k w j : Nat} (h : j ≠ k) : (s.countOne k w).reg j = s.reg j := by
  unfold State.countOne; split <;> exact reg_setFld_ne h

theorem reg_count_ne {k j : Nat} (h : j ≠ k) : (s.count k).reg j = s.reg j := reg_countOne_ne h

theorem reg_countN_ne {k w n j : Nat} (h : j ≠ k) : (s.countN k w n).reg j = s.reg j := by
  unfold State.countN; dsimp only; split
  · exact reg_setFld_ne h
  · rw [reg_setFld_ne h, reg_setFld_ne h]

/-- R42: a counter below its largest value goes up by one. -/
theorem fld_countOne {k w : Nat} (hw : 1 ≤ w ∧ w ≤ 36) (h : s.fld ⟨k, w - 1, 0⟩ ≠ 2 ^ w - 1) :
    (s.countOne k w).fld ⟨k, w - 1, 0⟩ = s.fld ⟨k, w - 1, 0⟩ + 1 := by
  unfold State.countOne
  rw [if_neg h, fld_setFld_self ⟨Nat.zero_le _, by show w - 1 < 36; omega⟩]
  have hb : s.fld ⟨k, w - 1, 0⟩ < 2 ^ w := by
    have := Nat.mod_lt ((s.reg k).toNat >>> 0) (Nat.two_pow_pos (w - 1 + 1 - 0))
    have e : w - 1 + 1 - 0 = w := by omega
    unfold State.fld bitsOf
    rw [e] at this ⊢; exact this
  have e : w - 1 + 1 - 0 = w := by omega
  simp only [e]
  exact Nat.mod_eq_of_lt (by omega)

/-- R42: a counter at its largest value stands. -/
theorem fld_countOne_top {k w : Nat} (hw : 1 ≤ w ∧ w < 36) (h : s.fld ⟨k, w - 1, 0⟩ = 2 ^ w - 1) :
    (s.countOne k w).fld ⟨k, w - 1, 0⟩ = 2 ^ w - 1 := by
  unfold State.countOne
  rw [if_pos h, fld_setFld_apart (by simp) (by left; show w - 1 < 35; omega), h]

/-- R42: a counter takes increments up to its largest value. -/
theorem fld_countN {k w n : Nat} (hw : 1 ≤ w ∧ w < 36) :
    (s.countN k w n).fld ⟨k, w - 1, 0⟩ = min (s.fld ⟨k, w - 1, 0⟩ + n) (2 ^ w - 1) := by
  have e : w - 1 + 1 - 0 = w := by omega
  have h36 : (0 : Nat) ≤ w - 1 ∧ w - 1 < 36 := by omega
  have hp := Nat.two_pow_pos w
  unfold State.countN; dsimp only; split
  · rename_i h
    rw [fld_setFld_self (by simpa using h36)]
    simp only [e]
    rw [Nat.mod_eq_of_lt (by omega)]; omega
  · rename_i h
    rw [fld_setFld_apart (by simp) (by left; show w - 1 < 35; omega), fld_setFld_self (by simpa using h36)]
    simp only [e]
    rw [Nat.mod_eq_of_lt (by omega)]; omega

/-! ### Operation status -/

theorem reg_opStart_ne {k op j : Nat} (h : j ≠ k) : (s.opStart k op).reg j = s.reg j := by
  unfold State.opStart State.setStat; rw [reg_setFld_ne h, reg_setFld_ne h, reg_setFld_ne h]

theorem reg_opDone_ne {k j : Nat} (h : j ≠ k) : (s.opDone k).reg j = s.reg j := by
  unfold State.opDone State.setStat; rw [reg_setFld_ne h]

theorem reg_opErr_ne {k c j : Nat} (h : j ≠ k) : (s.opErr k c).reg j = s.reg j := by
  unfold State.opErr State.setStat; rw [reg_setFld_ne h, reg_setFld_ne h]

theorem reg_opAborted_ne {k j : Nat} (h : j ≠ k) : (s.opAborted k).reg j = s.reg j := by
  unfold State.opAborted State.setStat; rw [reg_setFld_ne h]

theorem opStat_setStat {k v : Nat} : (s.setStat k v).opStat k = v % 32 := fld_setFld_self (by simp)

/-- R44: a start leaves BUSY alone in STAT. -/
theorem opStat_opStart {k op : Nat} : (s.opStart k op).opStat k = statBusy := by
  unfold State.opStart State.opStat
  rw [fld_setFld_apart (by simp) (by simp), fld_setFld_apart (by simp) (by simp)]
  exact opStat_setStat

theorem opBusy_opStart {k op : Nat} : (s.opStart k op).opBusy k = true := by unfold State.opBusy; rw [opStat_opStart]; rfl

/-- R44: a start names the operation. -/
theorem lastOp_opStart {k op : Nat} : (s.opStart k op).lastOp k = op % 16 := by
  unfold State.opStart State.lastOp
  rw [fld_setFld_apart (by simp) (by simp), fld_setFld_self (by simp)]
  rfl

theorem opStat_opDone {k : Nat} : (s.opDone k).opStat k = statDone := opStat_setStat

theorem opStat_opErr {k c : Nat} : (s.opErr k c).opStat k = statErr := by
  unfold State.opErr State.opStat
  rw [fld_setFld_apart (by simp) (by simp)]
  exact opStat_setStat

theorem opStat_opAborted {k : Nat} : (s.opAborted k).opStat k = statAborted := opStat_setStat

/-! ### Fields of other registers -/

theorem fld_opStart_key {k op : Nat} {g : Fld} (h : g.key ≠ k) : (s.opStart k op).fld g = s.fld g := by
  unfold State.fld; rw [reg_opStart_ne h]
theorem flag_opStart_key {k op : Nat} {g : Fld} (h : g.key ≠ k) : (s.opStart k op).flag g = s.flag g := by
  unfold State.flag; rw [fld_opStart_key h]
theorem fld_opDone_key {k : Nat} {g : Fld} (h : g.key ≠ k) : (s.opDone k).fld g = s.fld g := by
  unfold State.fld; rw [reg_opDone_ne h]
theorem flag_opDone_key {k : Nat} {g : Fld} (h : g.key ≠ k) : (s.opDone k).flag g = s.flag g := by
  unfold State.flag; rw [fld_opDone_key h]
theorem fld_opErr_key {k c : Nat} {g : Fld} (h : g.key ≠ k) : (s.opErr k c).fld g = s.fld g := by
  unfold State.fld; rw [reg_opErr_ne h]
theorem flag_opErr_key {k c : Nat} {g : Fld} (h : g.key ≠ k) : (s.opErr k c).flag g = s.flag g := by
  unfold State.flag; rw [fld_opErr_key h]
theorem fld_opAborted_key {k : Nat} {g : Fld} (h : g.key ≠ k) : (s.opAborted k).fld g = s.fld g := by
  unfold State.fld; rw [reg_opAborted_ne h]
theorem flag_opAborted_key {k : Nat} {g : Fld} (h : g.key ≠ k) : (s.opAborted k).flag g = s.flag g := by
  unfold State.flag; rw [fld_opAborted_key h]
theorem fld_count_key {k : Nat} {g : Fld} (h : g.key ≠ k) : (s.count k).fld g = s.fld g := by
  unfold State.fld; rw [reg_count_ne h]
theorem flag_count_key {k : Nat} {g : Fld} (h : g.key ≠ k) : (s.count k).flag g = s.flag g := by
  unfold State.flag; rw [fld_count_key h]
theorem fld_countN_key {k w n : Nat} {g : Fld} (h : g.key ≠ k) : (s.countN k w n).fld g = s.fld g := by
  unfold State.fld; rw [reg_countN_ne h]
theorem flag_countN_key {k w n : Nat} {g : Fld} (h : g.key ≠ k) : (s.countN k w n).flag g = s.flag g := by
  unfold State.flag; rw [fld_countN_key h]

theorem fld_count_self {k : Nat} : (s.count k).fld ⟨k, 15, 0⟩ = min (s.fld ⟨k, 15, 0⟩ + 1) 65535 := by
  by_cases h : s.fld ⟨k, 15, 0⟩ = 65535
  · rw [show (s.count k).fld ⟨k, 15, 0⟩ = 65535 from fld_countOne_top (w := 16) (by decide) h, h]; rfl
  · have hl : s.fld ⟨k, 15, 0⟩ < 65536 := by unfold State.fld bitsOf; exact Nat.mod_lt _ (Nat.two_pow_pos _)
    rw [show (s.count k).fld ⟨k, 15, 0⟩ = _ from fld_countOne (w := 16) (by decide) h]
    show s.fld ⟨k, 15, 0⟩ + 1 = _
    omega

/-! ### Lists of operations -/

/-- What every step keeps, a list of steps keeps. -/
theorem forEach_keeps {α β : Type} (p : State → β) {l : List α} {f : α → State → State}
    (h : ∀ x t, p (f x t) = p t) : p (s.forEach l f) = p s := by
  unfold State.forEach
  induction l generalizing s with
  | nil => rfl
  | cons a t ih => rw [List.foldl_cons, ih, h]

/-- The same, for steps of the list's own members. -/
theorem forEach_keeps_mem {α β : Type} (p : State → β) {l : List α} {f : α → State → State}
    (h : ∀ x ∈ l, ∀ t, p (f x t) = p t) : p (s.forEach l f) = p s := by
  unfold State.forEach
  induction l generalizing s with
  | nil => rfl
  | cons a t ih =>
    rw [List.foldl_cons, ih (fun x hx t => h x (List.mem_cons_of_mem _ hx) t), h a (by simp)]

/-! ### Every command -/

/-- A command answers with a next state. -/
@[simp] theorem after_opStat {t : State} {k : Nat} : (s.after t).opStat k = t.opStat k := (rfl)
@[simp] theorem after_opBusy {t : State} {k : Nat} : (s.after t).opBusy k = t.opBusy k := (rfl)
@[simp] theorem after_lastOp {t : State} {k : Nat} : (s.after t).lastOp k = t.lastOp k := (rfl)
@[simp] theorem after_axisSt {t : State} {n : AxisId} : (s.after t).axisSt n = t.axisSt n := (rfl)

theorem answer_next {t : State} : s.answer t = .next (s.after t) := rfl

/-- R104: no leg of a state after a command has both switches on. -/
theorem after_legsSafe {t : State} : (s.after t).legsSafe = true := by
  unfold State.legsSafe
  rw [after_legs, List.all_eq_true]
  intro g hg
  simp only [Vector.toList_map, List.mem_map] at hg
  obtain ⟨x, -, rfl⟩ := hg
  unfold Leg.interlock Leg.safe
  cases h : x.hi.on <;> cases k : x.lo.on <;> simp [h, k]

end Sys2Proof.Machine
end

