-- ==== Sys2Proof/Laws/Quiet.lean ====
section
/-! SUPPORT. What the reactions of chapters 4, 8 and 15 leave alone: legs, axes, the planner and what hangs on them change,
but no power state, no time, no Inventory, no bus access, and no register of SYS, CLK, INV, BOX, PRT, LAD, HST or LDC. One
lemma per operation, each about the operation done after others that leave the same alone. -/

namespace Sys2Proof.Machine

open Sys2Proof

theorem inner_one {k : Nat} (h : ¬ (k < 2048 ∨ (2560 ≤ k ∧ k < 4608))) : ¬ outer k := h
theorem inner_two {a b : Nat} (h : 4608 ≤ a) : ¬ outer (a + b) := by unfold outer; omega
theorem inner_three {a b c : Nat} (h : 4608 ≤ a) : ¬ outer (a + b + c) := by unfold outer; omega

/-- From `s` to `t` only legs, axes, the planner and what hangs on them have changed. -/
structure Quiet (s t : State) : Prop where
  variant : t.variant = s.variant
  power : t.power = s.power
  clock : t.clock = s.clock
  tsBase : t.tsBase = s.tsBase
  frame : t.frame = s.frame
  lastEngine : t.lastEngine = s.lastEngine
  lastMotion : t.lastMotion = s.lastMotion
  inv : t.inv = s.inv
  invOp : t.invOp = s.invOp
  flash : t.flash = s.flash
  jtag : t.jtag = s.jtag
  seq : t.seq = s.seq
  stock : t.stock = s.stock
  access : t.access = s.access
  hp : t.hp = s.hp
  prt : t.prt = s.prt
  cmps : t.cmps = s.cmps
  audit : t.audit = s.audit
  seqs : t.seqs = s.seqs
  cores : t.cores = s.cores
  meas : t.meas = s.meas
  calRuns : t.calRuns = s.calRuns
  compares : t.compares = s.compares
  guard : t.guard = s.guard
  pending : t.pending = s.pending
  reg : ∀ k, outer k → t.reg k = s.reg k

namespace Quiet

variable {s t : State}

theorem refl : Quiet s s := ⟨rfl, rfl, rfl, rfl, rfl, rfl, rfl, rfl, rfl, rfl, rfl, rfl, rfl, rfl, rfl, rfl, rfl, rfl, rfl, rfl, rfl, rfl, rfl, rfl, rfl, fun _ _ => rfl⟩

theorem trans {u : State} (h : Quiet s t) (g : Quiet t u) : Quiet s u :=
  ⟨g.variant.trans h.variant,
    g.power.trans h.power,
    g.clock.trans h.clock,
    g.tsBase.trans h.tsBase,
    g.frame.trans h.frame,
    g.lastEngine.trans h.lastEngine,
    g.lastMotion.trans h.lastMotion,
    g.inv.trans h.inv,
    g.invOp.trans h.invOp,
    g.flash.trans h.flash,
    g.jtag.trans h.jtag,
    g.seq.trans h.seq,
    g.stock.trans h.stock,
    g.access.trans h.access,
    g.hp.trans h.hp,
    g.prt.trans h.prt,
    g.cmps.trans h.cmps,
    g.audit.trans h.audit,
    g.seqs.trans h.seqs,
    g.cores.trans h.cores,
    g.meas.trans h.meas,
    g.calRuns.trans h.calRuns,
    g.compares.trans h.compares,
    g.guard.trans h.guard,
    g.pending.trans h.pending,
    fun k hk => (g.reg k hk).trans (h.reg k hk)⟩

/-- The same of a state between commands. -/
theorem only (h : Quiet s t) : ReactionsOnly s t :=
  ⟨by
    apply State.same <;> first | exact rfl | skip
    · exact h.variant
    · exact h.power
    · exact h.tsBase
    · exact h.frame
    · exact h.lastEngine
    · exact h.lastMotion
    · exact h.seqs
    · exact h.cores
    · exact h.meas
    · exact h.calRuns
    · exact h.cmps
    · exact h.audit
    · exact h.inv
    · exact h.invOp
    · exact h.jtag
    · exact h.compares
    · exact h.guard
    · exact h.seq
    · exact h.flash
    · exact h.hp
    · exact h.prt
    · exact h.stock
    · exact h.access
    · exact h.pending
    , h.reg⟩

/-- A register outside. -/
theorem setReg {k : Nat} {w : Word} (h : Quiet s t) (hk : ¬ outer k) : Quiet s (t.setReg k w) :=
  ⟨h.variant, h.power, h.clock, h.tsBase, h.frame, h.lastEngine, h.lastMotion, h.inv, h.invOp, h.flash, h.jtag, h.seq, h.stock, h.access, h.hp, h.prt, h.cmps, h.audit, h.seqs, h.cores, h.meas, h.calRuns, h.compares, h.guard, h.pending,
    fun j hj => (reg_setReg_ne (fun e => hk (by rw [← e]; exact hj))).trans (h.reg j hj)⟩

theorem setFld {f : Fld} {v : Nat} (h : Quiet s t) (hk : ¬ outer f.key) : Quiet s (t.setFld f v) := h.setReg hk
theorem setSFld {f : Fld} {v : Int} (h : Quiet s t) (hk : ¬ outer f.key) : Quiet s (t.setSFld f v) := h.setReg hk
theorem setFlag {f : Fld} {b : Bool} (h : Quiet s t) (hk : ¬ outer f.key) : Quiet s (t.setFlag f b) := h.setReg hk
theorem setRegBit {k i : Nat} {b : Bool} (h : Quiet s t) (hk : ¬ outer k) : Quiet s (t.setRegBit k i b) := h.setReg hk
theorem count {k : Nat} (h : Quiet s t) (hk : ¬ outer k) : Quiet s (t.count k) := by
  unfold State.count State.countOne; split <;> exact h.setReg hk
theorem opStart {k op : Nat} (h : Quiet s t) (hk : ¬ outer k) : Quiet s (t.opStart k op) :=
  ((h.setFld (f := ⟨k, 4, 0⟩) hk).setFld (f := ⟨k, 19, 16⟩) hk).setFld (f := ⟨k, 31, 20⟩) hk
theorem opDone {k : Nat} (h : Quiet s t) (hk : ¬ outer k) : Quiet s (t.opDone k) := h.setFld (f := ⟨k, 4, 0⟩) hk
theorem opErr {k c : Nat} (h : Quiet s t) (hk : ¬ outer k) : Quiet s (t.opErr k c) :=
  (h.setFld (f := ⟨k, 4, 0⟩) hk).setFld (f := ⟨k, 31, 20⟩) hk
theorem opAborted {k : Nat} (h : Quiet s t) (hk : ¬ outer k) : Quiet s (t.opAborted k) := h.setFld (f := ⟨k, 4, 0⟩) hk

/-- A list of steps. -/
theorem forEach {α : Type} {l : List α} {f : α → State → State} (h : Quiet s t)
    (hf : ∀ x u, Quiet s u → Quiet s (f x u)) : Quiet s (t.forEach l f) := by
  unfold State.forEach
  induction l generalizing t with
  | nil => exact h
  | cons a l ih => exact ih (hf a t h)

theorem modDie {i : Fin 2} {f : Die → Die} (h : Quiet s t) : Quiet s (t.modDie i f) := ⟨h.variant, h.power, h.clock, h.tsBase, h.frame, h.lastEngine, h.lastMotion, h.inv, h.invOp, h.flash, h.jtag, h.seq, h.stock, h.access, h.hp, h.prt, h.cmps, h.audit, h.seqs, h.cores, h.meas, h.calRuns, h.compares, h.guard, h.pending, h.reg⟩
theorem modLeg {i : Fin 32} {f : Leg → Leg} (h : Quiet s t) : Quiet s (t.modLeg i f) := ⟨h.variant, h.power, h.clock, h.tsBase, h.frame, h.lastEngine, h.lastMotion, h.inv, h.invOp, h.flash, h.jtag, h.seq, h.stock, h.access, h.hp, h.prt, h.cmps, h.audit, h.seqs, h.cores, h.meas, h.calRuns, h.compares, h.guard, h.pending, h.reg⟩
theorem modRegion {i : Fin 4} {f : Region → Region} (h : Quiet s t) : Quiet s (t.modRegion i f) := ⟨h.variant, h.power, h.clock, h.tsBase, h.frame, h.lastEngine, h.lastMotion, h.inv, h.invOp, h.flash, h.jtag, h.seq, h.stock, h.access, h.hp, h.prt, h.cmps, h.audit, h.seqs, h.cores, h.meas, h.calRuns, h.compares, h.guard, h.pending, h.reg⟩
theorem modCarrier {i : Fin 8} {f : Carrier → Carrier} (h : Quiet s t) : Quiet s (t.modCarrier i f) := ⟨h.variant, h.power, h.clock, h.tsBase, h.frame, h.lastEngine, h.lastMotion, h.inv, h.invOp, h.flash, h.jtag, h.seq, h.stock, h.access, h.hp, h.prt, h.cmps, h.audit, h.seqs, h.cores, h.meas, h.calRuns, h.compares, h.guard, h.pending, h.reg⟩
theorem modEng {i : Fin 8} {f : AxisEng → AxisEng} (h : Quiet s t) : Quiet s (t.modEng i f) := ⟨h.variant, h.power, h.clock, h.tsBase, h.frame, h.lastEngine, h.lastMotion, h.inv, h.invOp, h.flash, h.jtag, h.seq, h.stock, h.access, h.hp, h.prt, h.cmps, h.audit, h.seqs, h.cores, h.meas, h.calRuns, h.compares, h.guard, h.pending, h.reg⟩
theorem modAxis {i : Fin 8} {f : AxisMot → AxisMot} (h : Quiet s t) : Quiet s (t.modAxis i f) := ⟨h.variant, h.power, h.clock, h.tsBase, h.frame, h.lastEngine, h.lastMotion, h.inv, h.invOp, h.flash, h.jtag, h.seq, h.stock, h.access, h.hp, h.prt, h.cmps, h.audit, h.seqs, h.cores, h.meas, h.calRuns, h.compares, h.guard, h.pending, h.reg⟩
theorem modChan {i : Fin 8} {f : FbChan → FbChan} (h : Quiet s t) : Quiet s (t.modChan i f) := ⟨h.variant, h.power, h.clock, h.tsBase, h.frame, h.lastEngine, h.lastMotion, h.inv, h.invOp, h.flash, h.jtag, h.seq, h.stock, h.access, h.hp, h.prt, h.cmps, h.audit, h.seqs, h.cores, h.meas, h.calRuns, h.compares, h.guard, h.pending, h.reg⟩
theorem modComp {i : Fin 8} {f : Comp → Comp} (h : Quiet s t) : Quiet s (t.modComp i f) := ⟨h.variant, h.power, h.clock, h.tsBase, h.frame, h.lastEngine, h.lastMotion, h.inv, h.invOp, h.flash, h.jtag, h.seq, h.stock, h.access, h.hp, h.prt, h.cmps, h.audit, h.seqs, h.cores, h.meas, h.calRuns, h.compares, h.guard, h.pending, h.reg⟩
theorem modPlan {f : Planner → Planner} (h : Quiet s t) : Quiet s (t.modPlan f) := ⟨h.variant, h.power, h.clock, h.tsBase, h.frame, h.lastEngine, h.lastMotion, h.inv, h.invOp, h.flash, h.jtag, h.seq, h.stock, h.access, h.hp, h.prt, h.cmps, h.audit, h.seqs, h.cores, h.meas, h.calRuns, h.compares, h.guard, h.pending, h.reg⟩
theorem modHatch {f : Hatch → Hatch} (h : Quiet s t) : Quiet s (t.modHatch f) := ⟨h.variant, h.power, h.clock, h.tsBase, h.frame, h.lastEngine, h.lastMotion, h.inv, h.invOp, h.flash, h.jtag, h.seq, h.stock, h.access, h.hp, h.prt, h.cmps, h.audit, h.seqs, h.cores, h.meas, h.calRuns, h.compares, h.guard, h.pending, h.reg⟩
theorem modLadder {f : Ladder → Ladder} (h : Quiet s t) : Quiet s (t.modLadder f) := ⟨h.variant, h.power, h.clock, h.tsBase, h.frame, h.lastEngine, h.lastMotion, h.inv, h.invOp, h.flash, h.jtag, h.seq, h.stock, h.access, h.hp, h.prt, h.cmps, h.audit, h.seqs, h.cores, h.meas, h.calRuns, h.compares, h.guard, h.pending, h.reg⟩
theorem modLarder {f : Larder → Larder} (h : Quiet s t) : Quiet s (t.modLarder f) := ⟨h.variant, h.power, h.clock, h.tsBase, h.frame, h.lastEngine, h.lastMotion, h.inv, h.invOp, h.flash, h.jtag, h.seq, h.stock, h.access, h.hp, h.prt, h.cmps, h.audit, h.seqs, h.cores, h.meas, h.calRuns, h.compares, h.guard, h.pending, h.reg⟩
theorem modBox {f : Strongbox → Strongbox} (h : Quiet s t) : Quiet s (t.modBox f) := ⟨h.variant, h.power, h.clock, h.tsBase, h.frame, h.lastEngine, h.lastMotion, h.inv, h.invOp, h.flash, h.jtag, h.seq, h.stock, h.access, h.hp, h.prt, h.cmps, h.audit, h.seqs, h.cores, h.meas, h.calRuns, h.compares, h.guard, h.pending, h.reg⟩
theorem modFm {f : FaultMgr → FaultMgr} (h : Quiet s t) : Quiet s (t.modFm f) := ⟨h.variant, h.power, h.clock, h.tsBase, h.frame, h.lastEngine, h.lastMotion, h.inv, h.invOp, h.flash, h.jtag, h.seq, h.stock, h.access, h.hp, h.prt, h.cmps, h.audit, h.seqs, h.cores, h.meas, h.calRuns, h.compares, h.guard, h.pending, h.reg⟩
theorem modPins {f : Pins → Pins} (h : Quiet s t) : Quiet s (t.modPins f) := ⟨h.variant, h.power, h.clock, h.tsBase, h.frame, h.lastEngine, h.lastMotion, h.inv, h.invOp, h.flash, h.jtag, h.seq, h.stock, h.access, h.hp, h.prt, h.cmps, h.audit, h.seqs, h.cores, h.meas, h.calRuns, h.compares, h.guard, h.pending, h.reg⟩
theorem modWires {f : List WireTest → List WireTest} (h : Quiet s t) : Quiet s (t.modWires f) := ⟨h.variant, h.power, h.clock, h.tsBase, h.frame, h.lastEngine, h.lastMotion, h.inv, h.invOp, h.flash, h.jtag, h.seq, h.stock, h.access, h.hp, h.prt, h.cmps, h.audit, h.seqs, h.cores, h.meas, h.calRuns, h.compares, h.guard, h.pending, h.reg⟩
theorem modLeaks {f : List LeakTest → List LeakTest} (h : Quiet s t) : Quiet s (t.modLeaks f) := ⟨h.variant, h.power, h.clock, h.tsBase, h.frame, h.lastEngine, h.lastMotion, h.inv, h.invOp, h.flash, h.jtag, h.seq, h.stock, h.access, h.hp, h.prt, h.cmps, h.audit, h.seqs, h.cores, h.meas, h.calRuns, h.compares, h.guard, h.pending, h.reg⟩
theorem modEngine {f : Engine → Engine} (h : Quiet s t) : Quiet s (t.modEngine f) := ⟨h.variant, h.power, h.clock, h.tsBase, h.frame, h.lastEngine, h.lastMotion, h.inv, h.invOp, h.flash, h.jtag, h.seq, h.stock, h.access, h.hp, h.prt, h.cmps, h.audit, h.seqs, h.cores, h.meas, h.calRuns, h.compares, h.guard, h.pending, h.reg⟩
theorem freeNext (h : Quiet s t) : Quiet s (t.freeNext) := ⟨h.variant, h.power, h.clock, h.tsBase, h.frame, h.lastEngine, h.lastMotion, h.inv, h.invOp, h.flash, h.jtag, h.seq, h.stock, h.access, h.hp, h.prt, h.cmps, h.audit, h.seqs, h.cores, h.meas, h.calRuns, h.compares, h.guard, h.pending, h.reg⟩
theorem raiseLD {c o : Nat} {a : Option Nat} (h : Quiet s t) : Quiet s (t.raiseLD c o a) := ⟨h.variant, h.power, h.clock, h.tsBase, h.frame, h.lastEngine, h.lastMotion, h.inv, h.invOp, h.flash, h.jtag, h.seq, h.stock, h.access, h.hp, h.prt, h.cmps, h.audit, h.seqs, h.cores, h.meas, h.calRuns, h.compares, h.guard, h.pending, h.reg⟩
theorem raiseActed {c o : Nat} {a : Option Nat} (h : Quiet s t) : Quiet s (t.raiseActed c o a) := ⟨h.variant, h.power, h.clock, h.tsBase, h.frame, h.lastEngine, h.lastMotion, h.inv, h.invOp, h.flash, h.jtag, h.seq, h.stock, h.access, h.hp, h.prt, h.cmps, h.audit, h.seqs, h.cores, h.meas, h.calRuns, h.compares, h.guard, h.pending, h.reg⟩
theorem lifeAdd {i n : Nat} (h : Quiet s t) : Quiet s (t.lifeAdd i n) := ⟨h.variant, h.power, h.clock, h.tsBase, h.frame, h.lastEngine, h.lastMotion, h.inv, h.invOp, h.flash, h.jtag, h.seq, h.stock, h.access, h.hp, h.prt, h.cmps, h.audit, h.seqs, h.cores, h.meas, h.calRuns, h.compares, h.guard, h.pending, h.reg⟩
theorem ask {c : Nat} {u : LineUser} {l : List Nat} (h : Quiet s t) : Quiet s (t.ask c u l) := ⟨h.variant, h.power, h.clock, h.tsBase, h.frame, h.lastEngine, h.lastMotion, h.inv, h.invOp, h.flash, h.jtag, h.seq, h.stock, h.access, h.hp, h.prt, h.cmps, h.audit, h.seqs, h.cores, h.meas, h.calRuns, h.compares, h.guard, h.pending, h.reg⟩
theorem unask {u : LineUser} (h : Quiet s t) : Quiet s (t.unask u) := ⟨h.variant, h.power, h.clock, h.tsBase, h.frame, h.lastEngine, h.lastMotion, h.inv, h.invOp, h.flash, h.jtag, h.seq, h.stock, h.access, h.hp, h.prt, h.cmps, h.audit, h.seqs, h.cores, h.meas, h.calRuns, h.compares, h.guard, h.pending, h.reg⟩
theorem raiseGD {d : DieId} {c o : Nat} {a : Option Nat} (h : Quiet s t) : Quiet s (t.raiseGD d c o a) := by
  unfold State.raiseGD; dsimp only; split
  · exact h
  · exact h.modDie
theorem raiseGDActed {d : DieId} {c o : Nat} {a : Option Nat} (h : Quiet s t) : Quiet s (t.raiseGDActed d c o a) := by
  unfold State.raiseGDActed; dsimp only; split
  · exact h
  · exact h.modDie

theorem modSw {l : LegId} {hi : Bool} {f : Switch → Switch} (h : Quiet s t) : Quiet s (t.modSw l hi f) := by
  unfold State.modSw
  try dsimp only
  repeat' first
    | with_reducible assumption
    | with_reducible apply forEach
    | (intro x u hu; try dsimp only)
    | with_reducible apply modLeg
    | exact hk _
    | exact inner_one (by decide)
    | exact inner_three (by decide)
    | exact inner_two (by decide)
    | split

theorem setLegState {l : LegId} {v : Nat} (h : Quiet s t) : Quiet s (t.setLegState l v) := by
  unfold State.setLegState
  try dsimp only
  repeat' first
    | with_reducible assumption
    | with_reducible apply forEach
    | (intro x u hu; try dsimp only)
    | with_reducible apply setFld
    | exact hk _
    | exact inner_one (by decide)
    | exact inner_three (by decide)
    | exact inner_two (by decide)
    | split

theorem openBlank {l : LegId} {k : Nat} (h : Quiet s t) : Quiet s (t.openBlank l k) := by
  unfold State.openBlank
  try dsimp only
  repeat' first
    | with_reducible assumption
    | with_reducible apply forEach
    | (intro x u hu; try dsimp only)
    | with_reducible apply modDie
    | exact hk _
    | exact inner_one (by decide)
    | exact inner_three (by decide)
    | exact inner_two (by decide)
    | split

theorem turnOff {l : LegId} {hi : Bool} {k : Nat} (h : Quiet s t) : Quiet s (t.turnOff l hi k) := by
  unfold State.turnOff
  try dsimp only
  repeat' first
    | with_reducible assumption
    | with_reducible apply forEach
    | (intro x u hu; try dsimp only)
    | with_reducible apply modSw
    | with_reducible apply openBlank
    | exact hk _
    | exact inner_one (by decide)
    | exact inner_three (by decide)
    | exact inner_two (by decide)
    | split

theorem turnOn {l : LegId} {hi : Bool} {k : Nat} (h : Quiet s t) : Quiet s (t.turnOn l hi k) := by
  unfold State.turnOn
  try dsimp only
  repeat' first
    | with_reducible assumption
    | with_reducible apply forEach
    | (intro x u hu; try dsimp only)
    | with_reducible apply modSw
    | with_reducible apply openBlank
    | exact hk _
    | exact inner_one (by decide)
    | exact inner_three (by decide)
    | exact inner_two (by decide)
    | split

theorem follow {l : LegId} {hi : Bool} {k : Nat} (h : Quiet s t) : Quiet s (t.follow l hi k) := by
  unfold State.follow
  try dsimp only
  repeat' first
    | with_reducible assumption
    | with_reducible apply forEach
    | (intro x u hu; try dsimp only)
    | with_reducible apply modSw
    | with_reducible apply turnOff
    | exact hk _
    | exact inner_one (by decide)
    | exact inner_three (by decide)
    | exact inner_two (by decide)
    | split

theorem bothOnCheck {l : LegId} (h : Quiet s t) : Quiet s (t.bothOnCheck l) := by
  unfold State.bothOnCheck
  try dsimp only
  repeat' first
    | with_reducible assumption
    | with_reducible apply forEach
    | (intro x u hu; try dsimp only)
    | with_reducible apply setFlag
    | with_reducible apply modLeg
    | with_reducible apply raiseGD
    | exact hk _
    | exact inner_one (by decide)
    | exact inner_three (by decide)
    | exact inner_two (by decide)
    | split

theorem settleAt {l : LegId} {k : Nat} (h : Quiet s t) : Quiet s (t.settleAt l k) := by
  unfold State.settleAt
  try dsimp only
  repeat' first
    | with_reducible assumption
    | with_reducible apply forEach
    | (intro x u hu; try dsimp only)
    | with_reducible apply follow
    | with_reducible apply bothOnCheck
    | exact hk _
    | exact inner_one (by decide)
    | exact inner_three (by decide)
    | exact inner_two (by decide)
    | split

theorem settle {l : LegId} (h : Quiet s t) : Quiet s (t.settle l) := by
  unfold State.settle
  try dsimp only
  repeat' first
    | with_reducible assumption
    | with_reducible apply forEach
    | (intro x u hu; try dsimp only)
    | with_reducible apply settleAt
    | exact hk _
    | exact inner_one (by decide)
    | exact inner_three (by decide)
    | exact inner_two (by decide)
    | split

theorem settleAxis {n : AxisId} (h : Quiet s t) : Quiet s (t.settleAxis n) := by
  unfold State.settleAxis
  try dsimp only
  repeat' first
    | with_reducible assumption
    | with_reducible apply forEach
    | (intro x u hu; try dsimp only)
    | with_reducible apply settle
    | exact hk _
    | exact inner_one (by decide)
    | exact inner_three (by decide)
    | exact inner_two (by decide)
    | split

theorem settleDie {d : DieId} (h : Quiet s t) : Quiet s (t.settleDie d) := by
  unfold State.settleDie
  try dsimp only
  repeat' first
    | with_reducible assumption
    | with_reducible apply forEach
    | (intro x u hu; try dsimp only)
    | with_reducible apply settle
    | exact hk _
    | exact inner_one (by decide)
    | exact inner_three (by decide)
    | exact inner_two (by decide)
    | split

theorem settleAll (h : Quiet s t) : Quiet s (t.settleAll) := by
  unfold State.settleAll
  try dsimp only
  repeat' first
    | with_reducible assumption
    | with_reducible apply forEach
    | (intro x u hu; try dsimp only)
    | with_reducible apply settle
    | exact hk _
    | exact inner_one (by decide)
    | exact inner_three (by decide)
    | exact inner_two (by decide)
    | split

theorem legOff {l : LegId} {v : Nat} (h : Quiet s t) : Quiet s (t.legOff l v) := by
  unfold State.legOff
  try dsimp only
  repeat' first
    | with_reducible assumption
    | with_reducible apply forEach
    | (intro x u hu; try dsimp only)
    | with_reducible apply modLeg
    | with_reducible apply setLegState
    | with_reducible apply settle
    | exact hk _
    | exact inner_one (by decide)
    | exact inner_three (by decide)
    | exact inner_two (by decide)
    | split

theorem setSupply {d : DieId} {f : Quad → Fld} {v : Nat} (hk : ∀ q, ¬ outer (f q).key) (h : Quiet s t) : Quiet s (t.setSupply d f v) := by
  unfold State.setSupply
  try dsimp only
  repeat' first
    | with_reducible assumption
    | with_reducible apply forEach
    | (intro x u hu; try dsimp only)
    | with_reducible apply setFld
    | exact hk _
    | exact inner_one (by decide)
    | exact inner_three (by decide)
    | exact inner_two (by decide)
    | split

theorem setCfReady {l : LegId} {b : Bool} (h : Quiet s t) : Quiet s (t.setCfReady l b) := by
  unfold State.setCfReady
  try dsimp only
  repeat' first
    | with_reducible assumption
    | with_reducible apply forEach
    | (intro x u hu; try dsimp only)
    | with_reducible apply setFlag
    | with_reducible apply setRegBit
    | exact hk _
    | exact inner_one (by decide)
    | exact inner_three (by decide)
    | exact inner_two (by decide)
    | split

theorem releaseTrap {n : AxisId} (h : Quiet s t) : Quiet s (t.releaseTrap n) := by
  unfold State.releaseTrap
  try dsimp only
  repeat' first
    | with_reducible assumption
    | with_reducible apply forEach
    | (intro x u hu; try dsimp only)
    | with_reducible apply setRegBit
    | with_reducible apply modLeg
    | with_reducible apply modAxis
    | exact hk _
    | exact inner_one (by decide)
    | exact inner_three (by decide)
    | exact inner_two (by decide)
    | split

theorem takeGroup {n : AxisId} {g : Group} {m : Nat} (h : Quiet s t) : Quiet s (t.takeGroup n g m) := by
  unfold State.takeGroup
  try dsimp only
  repeat' first
    | with_reducible assumption
    | with_reducible apply forEach
    | (intro x u hu; try dsimp only)
    | with_reducible apply setFld
    | with_reducible apply setFlag
    | exact hk _
    | exact inner_one (by decide)
    | exact inner_three (by decide)
    | exact inner_two (by decide)
    | split

theorem openPeriod {n : AxisId} {m : Nat} (h : Quiet s t) : Quiet s (t.openPeriod n m) := by
  unfold State.openPeriod
  try dsimp only
  repeat' first
    | with_reducible assumption
    | with_reducible apply forEach
    | (intro x u hu; try dsimp only)
    | with_reducible apply modLeg
    | exact hk _
    | exact inner_one (by decide)
    | exact inner_three (by decide)
    | exact inner_two (by decide)
    | split

theorem countBothOn {l : LegId} (h : Quiet s t) : Quiet s (t.countBothOn l) := by
  unfold State.countBothOn
  try dsimp only
  repeat' first
    | with_reducible assumption
    | with_reducible apply forEach
    | (intro x u hu; try dsimp only)
    | with_reducible apply count
    | with_reducible apply modLeg
    | with_reducible apply raiseGD
    | with_reducible apply legOff
    | exact hk _
    | exact inner_one (by decide)
    | exact inner_three (by decide)
    | exact inner_two (by decide)
    | split

theorem showCarrier {n : AxisId} {m : Nat} (h : Quiet s t) : Quiet s (t.showCarrier n m) := by
  unfold State.showCarrier
  try dsimp only
  repeat' first
    | with_reducible assumption
    | with_reducible apply forEach
    | (intro x u hu; try dsimp only)
    | with_reducible apply setFld
    | exact hk _
    | exact inner_one (by decide)
    | exact inner_three (by decide)
    | exact inner_two (by decide)
    | split

theorem startCarrier {n : AxisId} (h : Quiet s t) : Quiet s (t.startCarrier n) := by
  unfold State.startCarrier
  try dsimp only
  repeat' first
    | with_reducible assumption
    | with_reducible apply forEach
    | (intro x u hu; try dsimp only)
    | with_reducible apply modCarrier
    | with_reducible apply showCarrier
    | exact hk _
    | exact inner_one (by decide)
    | exact inner_three (by decide)
    | exact inner_two (by decide)
    | split

theorem stopCarrier {n : AxisId} (h : Quiet s t) : Quiet s (t.stopCarrier n) := by
  unfold State.stopCarrier
  try dsimp only
  repeat' first
    | with_reducible assumption
    | with_reducible apply forEach
    | (intro x u hu; try dsimp only)
    | with_reducible apply modCarrier
    | exact hk _
    | exact inner_one (by decide)
    | exact inner_three (by decide)
    | exact inner_two (by decide)
    | split

theorem commitGroup {n : AxisId} {l : List Nat} {k : Nat} {b : Bool} (h : Quiet s t) : Quiet s (t.commitGroup n l k b) := by
  unfold State.commitGroup
  try dsimp only
  repeat' first
    | with_reducible assumption
    | with_reducible apply forEach
    | (intro x u hu; try dsimp only)
    | with_reducible apply modDie
    | exact hk _
    | exact inner_one (by decide)
    | exact inner_three (by decide)
    | exact inner_two (by decide)
    | split

theorem applyRegion {q : Quad} (h : Quiet s t) : Quiet s (t.applyRegion q) := by
  unfold State.applyRegion
  try dsimp only
  repeat' first
    | with_reducible assumption
    | with_reducible apply forEach
    | (intro x u hu; try dsimp only)
    | with_reducible apply setFld
    | with_reducible apply setFlag
    | with_reducible apply count
    | with_reducible apply modRegion
    | with_reducible apply raiseGD
    | exact hk _
    | exact inner_one (by decide)
    | exact inner_three (by decide)
    | exact inner_two (by decide)
    | split

theorem latchTrip {q : Quad} {n : Fin 8} (h : Quiet s t) : Quiet s (t.latchTrip q n) := by
  unfold State.latchTrip
  try dsimp only
  repeat' first
    | with_reducible assumption
    | with_reducible apply forEach
    | (intro x u hu; try dsimp only)
    | with_reducible apply setRegBit
    | with_reducible apply raiseGD
    | with_reducible apply settle
    | exact hk _
    | exact inner_one (by decide)
    | exact inner_three (by decide)
    | exact inner_two (by decide)
    | split

theorem latchTrips {l : List Quad} {n : Fin 8} (h : Quiet s t) : Quiet s (t.latchTrips l n) := by
  unfold State.latchTrips
  try dsimp only
  repeat' first
    | with_reducible assumption
    | with_reducible apply forEach
    | (intro x u hu; try dsimp only)
    | with_reducible apply latchTrip
    | exact hk _
    | exact inner_one (by decide)
    | exact inner_three (by decide)
    | exact inner_two (by decide)
    | split

theorem setPin {a b : Nat} {v : Bool} (h : Quiet s t) : Quiet s (t.setPin a b v) := by
  unfold State.setPin
  try dsimp only
  repeat' first
    | with_reducible assumption
    | with_reducible apply forEach
    | (intro x u hu; try dsimp only)
    | with_reducible apply modPins
    | exact hk _
    | exact inner_one (by decide)
    | exact inner_three (by decide)
    | exact inner_two (by decide)
    | split

theorem tripChanged {n : Fin 8} (h : Quiet s t) : Quiet s (t.tripChanged n) := by
  unfold State.tripChanged
  try dsimp only
  repeat' first
    | with_reducible assumption
    | with_reducible apply forEach
    | (intro x u hu; try dsimp only)
    | with_reducible apply setRegBit
    | with_reducible apply latchTrips
    | exact hk _
    | exact inner_one (by decide)
    | exact inner_three (by decide)
    | exact inner_two (by decide)
    | split

theorem clearTripOne {q : Quad} {n : Fin 8} (h : Quiet s t) : Quiet s (t.clearTripOne q n) := by
  unfold State.clearTripOne
  try dsimp only
  repeat' first
    | with_reducible assumption
    | with_reducible apply forEach
    | (intro x u hu; try dsimp only)
    | with_reducible apply setFlag
    | with_reducible apply setRegBit
    | with_reducible apply settle
    | exact hk _
    | exact inner_one (by decide)
    | exact inner_three (by decide)
    | exact inner_two (by decide)
    | split

theorem showHolding {d : DieId} (h : Quiet s t) : Quiet s (t.showHolding d) := by
  unfold State.showHolding
  try dsimp only
  repeat' first
    | with_reducible assumption
    | with_reducible apply forEach
    | (intro x u hu; try dsimp only)
    | with_reducible apply setFlag
    | exact hk _
    | exact inner_one (by decide)
    | exact inner_three (by decide)
    | exact inner_two (by decide)
    | split

theorem actByHalt {d : DieId} (h : Quiet s t) : Quiet s (t.actByHalt d) := by
  unfold State.actByHalt
  try dsimp only
  repeat' first
    | with_reducible assumption
    | with_reducible apply forEach
    | (intro x u hu; try dsimp only)
    | with_reducible apply setFlag
    | with_reducible apply modDie
    | with_reducible apply settleDie
    | with_reducible apply showHolding
    | exact hk _
    | exact inner_one (by decide)
    | exact inner_three (by decide)
    | exact inner_two (by decide)
    | split

theorem endHalt {d : DieId} (h : Quiet s t) : Quiet s (t.endHalt d) := by
  unfold State.endHalt
  try dsimp only
  repeat' first
    | with_reducible assumption
    | with_reducible apply forEach
    | (intro x u hu; try dsimp only)
    | with_reducible apply setFlag
    | with_reducible apply modDie
    | with_reducible apply modCarrier
    | with_reducible apply settleDie
    | exact hk _
    | exact inner_one (by decide)
    | exact inner_three (by decide)
    | exact inner_two (by decide)
    | split

theorem driveTrip {j : Fin 64} {b : Bool} (h : Quiet s t) : Quiet s (t.driveTrip j b) := by
  unfold State.driveTrip
  try dsimp only
  repeat' first
    | with_reducible assumption
    | with_reducible apply forEach
    | (intro x u hu; try dsimp only)
    | with_reducible apply modPins
    | with_reducible apply tripChanged
    | exact hk _
    | exact inner_one (by decide)
    | exact inner_three (by decide)
    | exact inner_two (by decide)
    | split

theorem setRegime {n : AxisId} {r : Nat} (h : Quiet s t) : Quiet s (t.setRegime n r) := by
  unfold State.setRegime
  try dsimp only
  repeat' first
    | with_reducible assumption
    | with_reducible apply forEach
    | (intro x u hu; try dsimp only)
    | with_reducible apply setFld
    | exact hk _
    | exact inner_one (by decide)
    | exact inner_three (by decide)
    | exact inner_two (by decide)
    | split

theorem axisOpErr {n : AxisId} {c : Nat} (h : Quiet s t) : Quiet s (t.axisOpErr n c) := by
  unfold State.axisOpErr
  try dsimp only
  repeat' first
    | with_reducible assumption
    | with_reducible apply forEach
    | (intro x u hu; try dsimp only)
    | with_reducible apply opErr
    | exact hk _
    | exact inner_one (by decide)
    | exact inner_three (by decide)
    | exact inner_two (by decide)
    | split

theorem axisOpAbort {n : AxisId} (h : Quiet s t) : Quiet s (t.axisOpAbort n) := by
  unfold State.axisOpAbort
  try dsimp only
  repeat' first
    | with_reducible assumption
    | with_reducible apply forEach
    | (intro x u hu; try dsimp only)
    | with_reducible apply opAborted
    | exact hk _
    | exact inner_one (by decide)
    | exact inner_three (by decide)
    | exact inner_two (by decide)
    | split

theorem axisOpDone {n : AxisId} (h : Quiet s t) : Quiet s (t.axisOpDone n) := by
  unfold State.axisOpDone
  try dsimp only
  repeat' first
    | with_reducible assumption
    | with_reducible apply forEach
    | (intro x u hu; try dsimp only)
    | with_reducible apply opDone
    | exact hk _
    | exact inner_one (by decide)
    | exact inner_three (by decide)
    | exact inner_two (by decide)
    | split

theorem sendPolicy {n : AxisId} {b : Bool} (h : Quiet s t) : Quiet s (t.sendPolicy n b) := by
  unfold State.sendPolicy
  try dsimp only
  repeat' first
    | with_reducible assumption
    | with_reducible apply forEach
    | (intro x u hu; try dsimp only)
    | with_reducible apply modLeg
    | with_reducible apply settleAxis
    | exact hk _
    | exact inner_one (by decide)
    | exact inner_three (by decide)
    | exact inner_two (by decide)
    | split

theorem toShort {n : AxisId} (h : Quiet s t) : Quiet s (t.toShort n) := by
  unfold State.toShort
  try dsimp only
  repeat' first
    | with_reducible assumption
    | with_reducible apply forEach
    | (intro x u hu; try dsimp only)
    | with_reducible apply setRegBit
    | with_reducible apply count
    | with_reducible apply modAxis
    | with_reducible apply lifeAdd
    | with_reducible apply sendPolicy
    | exact hk _
    | exact inner_one (by decide)
    | exact inner_three (by decide)
    | exact inner_two (by decide)
    | split

theorem toOpen {n : AxisId} (h : Quiet s t) : Quiet s (t.toOpen n) := by
  unfold State.toOpen
  try dsimp only
  repeat' first
    | with_reducible assumption
    | with_reducible apply forEach
    | (intro x u hu; try dsimp only)
    | with_reducible apply setRegBit
    | with_reducible apply sendPolicy
    | exact hk _
    | exact inner_one (by decide)
    | exact inner_three (by decide)
    | exact inner_two (by decide)
    | split

theorem engage {n : AxisId} (h : Quiet s t) : Quiet s (t.engage n) := by
  unfold State.engage
  try dsimp only
  repeat' first
    | with_reducible assumption
    | with_reducible apply forEach
    | (intro x u hu; try dsimp only)
    | with_reducible apply setRegBit
    | with_reducible apply sendPolicy
    | with_reducible apply toShort
    | exact hk _
    | exact inner_one (by decide)
    | exact inner_three (by decide)
    | exact inner_two (by decide)
    | split

theorem faultOut (h : Quiet s t) : Quiet s (t.faultOut) := by
  unfold State.faultOut
  try dsimp only
  repeat' first
    | with_reducible assumption
    | with_reducible apply forEach
    | (intro x u hu; try dsimp only)
    | with_reducible apply setFlag
    | exact hk _
    | exact inner_one (by decide)
    | exact inner_three (by decide)
    | exact inner_two (by decide)
    | split

theorem dropReady {n : AxisId} (h : Quiet s t) : Quiet s (t.dropReady n) := by
  unfold State.dropReady
  try dsimp only
  repeat' first
    | with_reducible assumption
    | with_reducible apply forEach
    | (intro x u hu; try dsimp only)
    | with_reducible apply setRegBit
    | exact hk _
    | exact inner_one (by decide)
    | exact inner_three (by decide)
    | exact inner_two (by decide)
    | split

theorem rebaseHatch {n : AxisId} (h : Quiet s t) : Quiet s (t.rebaseHatch n) := by
  unfold State.rebaseHatch
  try dsimp only
  repeat' first
    | with_reducible assumption
    | with_reducible apply forEach
    | (intro x u hu; try dsimp only)
    | with_reducible apply setReg
    | with_reducible apply modHatch
    | exact hk _
    | exact inner_one (by decide)
    | exact inner_three (by decide)
    | exact inner_two (by decide)
    | split

theorem holdAnew {n : AxisId} (h : Quiet s t) : Quiet s (t.holdAnew n) := by
  unfold State.holdAnew
  try dsimp only
  repeat' first
    | with_reducible assumption
    | with_reducible apply forEach
    | (intro x u hu; try dsimp only)
    | with_reducible apply modAxis
    | exact hk _
    | exact inner_one (by decide)
    | exact inner_three (by decide)
    | exact inner_two (by decide)
    | split

theorem axisTo {n : AxisId} {v : Nat} (h : Quiet s t) : Quiet s (t.axisTo n v) := by
  unfold State.axisTo
  try dsimp only
  repeat' first
    | with_reducible assumption
    | with_reducible apply forEach
    | (intro x u hu; try dsimp only)
    | with_reducible apply setFld
    | with_reducible apply setFlag
    | with_reducible apply setRegBit
    | with_reducible apply modLadder
    | with_reducible apply setLegState
    | with_reducible apply stopCarrier
    | with_reducible apply faultOut
    | with_reducible apply dropReady
    | with_reducible apply rebaseHatch
    | with_reducible apply holdAnew
    | exact hk _
    | exact inner_one (by decide)
    | exact inner_three (by decide)
    | exact inner_two (by decide)
    | split

theorem standStill {n : AxisId} (h : Quiet s t) : Quiet s (t.standStill n) := by
  unfold State.standStill
  try dsimp only
  repeat' first
    | with_reducible assumption
    | with_reducible apply forEach
    | (intro x u hu; try dsimp only)
    | with_reducible apply modAxis
    | exact hk _
    | exact inner_one (by decide)
    | exact inner_three (by decide)
    | exact inner_two (by decide)
    | split

theorem endLegTest {l : LegId} (h : Quiet s t) : Quiet s (t.endLegTest l) := by
  unfold State.endLegTest
  try dsimp only
  repeat' first
    | with_reducible assumption
    | with_reducible apply forEach
    | (intro x u hu; try dsimp only)
    | with_reducible apply setLegState
    | with_reducible apply settle
    | exact hk _
    | exact inner_one (by decide)
    | exact inner_three (by decide)
    | exact inner_two (by decide)
    | split

theorem endTests {n : AxisId} (h : Quiet s t) : Quiet s (t.endTests n) := by
  unfold State.endTests
  try dsimp only
  repeat' first
    | with_reducible assumption
    | with_reducible apply forEach
    | (intro x u hu; try dsimp only)
    | with_reducible apply modWires
    | with_reducible apply modLeaks
    | with_reducible apply endLegTest
    | exact hk _
    | exact inner_one (by decide)
    | exact inner_three (by decide)
    | exact inner_two (by decide)
    | split

theorem enterOff {n : AxisId} {v c : Nat} (h : Quiet s t) : Quiet s (t.enterOff n v c) := by
  unfold State.enterOff
  try dsimp only
  repeat' first
    | with_reducible assumption
    | with_reducible apply forEach
    | (intro x u hu; try dsimp only)
    | with_reducible apply setFlag
    | with_reducible apply modAxis
    | with_reducible apply settleAxis
    | with_reducible apply axisOpErr
    | with_reducible apply engage
    | with_reducible apply axisTo
    | with_reducible apply standStill
    | with_reducible apply endTests
    | exact hk _
    | exact inner_one (by decide)
    | exact inner_three (by decide)
    | exact inner_two (by decide)
    | split

theorem trap {n : AxisId} {c : Nat} (h : Quiet s t) : Quiet s (t.trap n c) := by
  unfold State.trap
  try dsimp only
  repeat' first
    | with_reducible assumption
    | with_reducible apply forEach
    | (intro x u hu; try dsimp only)
    | with_reducible apply modAxis
    | with_reducible apply enterOff
    | exact hk _
    | exact inner_one (by decide)
    | exact inner_three (by decide)
    | exact inner_two (by decide)
    | split

theorem latchAxis {n : AxisId} {c : Nat} (h : Quiet s t) : Quiet s (t.latchAxis n c) := by
  unfold State.latchAxis
  try dsimp only
  repeat' first
    | with_reducible assumption
    | with_reducible apply forEach
    | (intro x u hu; try dsimp only)
    | with_reducible apply enterOff
    | exact hk _
    | exact inner_one (by decide)
    | exact inner_three (by decide)
    | exact inner_two (by decide)
    | split

theorem disable {n : AxisId} (h : Quiet s t) : Quiet s (t.disable n) := by
  unfold State.disable
  try dsimp only
  repeat' first
    | with_reducible assumption
    | with_reducible apply forEach
    | (intro x u hu; try dsimp only)
    | with_reducible apply enterOff
    | exact hk _
    | exact inner_one (by decide)
    | exact inner_three (by decide)
    | exact inner_two (by decide)
    | split

theorem stopAxis {n : AxisId} {a b : Bool} (h : Quiet s t) : Quiet s (t.stopAxis n a b) := by
  unfold State.stopAxis
  try dsimp only
  repeat' first
    | with_reducible assumption
    | with_reducible apply forEach
    | (intro x u hu; try dsimp only)
    | with_reducible apply setFlag
    | with_reducible apply modAxis
    | with_reducible apply axisOpAbort
    | with_reducible apply axisTo
    | exact hk _
    | exact inner_one (by decide)
    | exact inner_three (by decide)
    | exact inner_two (by decide)
    | split

theorem faultStop {n : AxisId} {c : Nat} (h : Quiet s t) : Quiet s (t.faultStop n c) := by
  unfold State.faultStop
  try dsimp only
  repeat' first
    | with_reducible assumption
    | with_reducible apply forEach
    | (intro x u hu; try dsimp only)
    | with_reducible apply setFlag
    | with_reducible apply modAxis
    | with_reducible apply axisOpErr
    | with_reducible apply dropReady
    | with_reducible apply axisTo
    | with_reducible apply trap
    | exact hk _
    | exact inner_one (by decide)
    | exact inner_three (by decide)
    | exact inner_two (by decide)
    | split

theorem startXfer {n : AxisId} {d : Nat} (h : Quiet s t) : Quiet s (t.startXfer n d) := by
  unfold State.startXfer
  try dsimp only
  repeat' first
    | with_reducible assumption
    | with_reducible apply forEach
    | (intro x u hu; try dsimp only)
    | with_reducible apply setFlag
    | with_reducible apply modAxis
    | exact hk _
    | exact inner_one (by decide)
    | exact inner_three (by decide)
    | exact inner_two (by decide)
    | split

theorem feedbackLoss {n : AxisId} {c : Nat} (h : Quiet s t) : Quiet s (t.feedbackLoss n c) := by
  unfold State.feedbackLoss
  try dsimp only
  repeat' first
    | with_reducible assumption
    | with_reducible apply forEach
    | (intro x u hu; try dsimp only)
    | with_reducible apply trap
    | with_reducible apply stopAxis
    | with_reducible apply startXfer
    | exact hk _
    | exact inner_one (by decide)
    | exact inner_three (by decide)
    | exact inner_two (by decide)
    | split

theorem suspect {n : AxisId} {c : Nat} (h : Quiet s t) : Quiet s (t.suspect n c) := by
  unfold State.suspect
  try dsimp only
  repeat' first
    | with_reducible assumption
    | with_reducible apply forEach
    | (intro x u hu; try dsimp only)
    | with_reducible apply setFlag
    | with_reducible apply feedbackLoss
    | exact hk _
    | exact inner_one (by decide)
    | exact inner_three (by decide)
    | exact inner_two (by decide)
    | split

theorem refuseStart {n : AxisId} (h : Quiet s t) : Quiet s (t.refuseStart n) := by
  unfold State.refuseStart
  try dsimp only
  repeat' first
    | with_reducible assumption
    | with_reducible apply forEach
    | (intro x u hu; try dsimp only)
    | with_reducible apply setFlag
    | with_reducible apply count
    | with_reducible apply raiseLD
    | exact hk _
    | exact inner_one (by decide)
    | exact inner_three (by decide)
    | exact inner_two (by decide)
    | split

theorem catchRotor {n : AxisId} {v : Int} (h : Quiet s t) : Quiet s (t.catchRotor n v) := by
  unfold State.catchRotor
  try dsimp only
  repeat' first
    | with_reducible assumption
    | with_reducible apply forEach
    | (intro x u hu; try dsimp only)
    | with_reducible apply modAxis
    | exact hk _
    | exact inner_one (by decide)
    | exact inner_three (by decide)
    | exact inner_two (by decide)
    | split

theorem runAxis {n : AxisId} {r : Nat} (h : Quiet s t) : Quiet s (t.runAxis n r) := by
  unfold State.runAxis
  try dsimp only
  repeat' first
    | with_reducible assumption
    | with_reducible apply forEach
    | (intro x u hu; try dsimp only)
    | with_reducible apply setFlag
    | with_reducible apply modAxis
    | with_reducible apply axisTo
    | with_reducible apply catchRotor
    | exact hk _
    | exact inner_one (by decide)
    | exact inner_three (by decide)
    | exact inner_two (by decide)
    | split

theorem commFromHall {n : AxisId} (h : Quiet s t) : Quiet s (t.commFromHall n) := by
  unfold State.commFromHall
  try dsimp only
  repeat' first
    | with_reducible assumption
    | with_reducible apply forEach
    | (intro x u hu; try dsimp only)
    | with_reducible apply setSFld
    | exact hk _
    | exact inner_one (by decide)
    | exact inner_three (by decide)
    | exact inner_two (by decide)
    | split

theorem beginAlign {n : AxisId} {b : Bool} (h : Quiet s t) : Quiet s (t.beginAlign n b) := by
  unfold State.beginAlign
  try dsimp only
  repeat' first
    | with_reducible assumption
    | with_reducible apply forEach
    | (intro x u hu; try dsimp only)
    | with_reducible apply setFld
    | with_reducible apply opStart
    | with_reducible apply modAxis
    | exact hk _
    | exact inner_one (by decide)
    | exact inner_three (by decide)
    | exact inner_two (by decide)
    | split

theorem enterArmed {n : AxisId} {p : Purpose} (h : Quiet s t) : Quiet s (t.enterArmed n p) := by
  unfold State.enterArmed
  try dsimp only
  repeat' first
    | with_reducible assumption
    | with_reducible apply forEach
    | (intro x u hu; try dsimp only)
    | with_reducible apply setFld
    | with_reducible apply setFlag
    | with_reducible apply modEng
    | with_reducible apply modAxis
    | with_reducible apply modComp
    | with_reducible apply settleAxis
    | with_reducible apply startCarrier
    | with_reducible apply setRegime
    | with_reducible apply axisTo
    | with_reducible apply commFromHall
    | with_reducible apply beginAlign
    | exact hk _
    | exact inner_one (by decide)
    | exact inner_three (by decide)
    | exact inner_two (by decide)
    | split

theorem emit {q : Nat} {p : List Nat} {b : SentBody} (h : Quiet s t) : Quiet s (t.emit q p b) := by
  unfold State.emit
  try dsimp only
  repeat' first
    | with_reducible assumption
    | with_reducible apply forEach
    | (intro x u hu; try dsimp only)
    | with_reducible apply modLadder
    | exact hk _
    | exact inner_one (by decide)
    | exact inner_three (by decide)
    | exact inner_two (by decide)
    | split

theorem sendTo {q : Nat} {ip : BitVec 32} {p : BitVec 16} {b : List Nat} (h : Quiet s t) : Quiet s (t.sendTo q ip p b) := by
  unfold State.sendTo
  try dsimp only
  repeat' first
    | with_reducible assumption
    | with_reducible apply forEach
    | (intro x u hu; try dsimp only)
    | with_reducible apply emit
    | exact hk _
    | exact inner_one (by decide)
    | exact inner_three (by decide)
    | exact inner_two (by decide)
    | split

theorem modSession {i : Nat} {f : Session → Session} (h : Quiet s t) : Quiet s (t.modSession i f) := by
  unfold State.modSession
  try dsimp only
  repeat' first
    | with_reducible assumption
    | with_reducible apply forEach
    | (intro x u hu; try dsimp only)
    | with_reducible apply modLadder
    | exact hk _
    | exact inner_one (by decide)
    | exact inner_three (by decide)
    | exact inner_two (by decide)
    | split

theorem sendIn {a b c d e : Nat} {l : List Nat} (h : Quiet s t) : Quiet s (t.sendIn a b c d e l) := by
  unfold State.sendIn
  try dsimp only
  repeat' first
    | with_reducible assumption
    | with_reducible apply forEach
    | (intro x u hu; try dsimp only)
    | with_reducible apply sendTo
    | with_reducible apply modSession
    | exact hk _
    | exact inner_one (by decide)
    | exact inner_three (by decide)
    | exact inner_two (by decide)
    | split

theorem sendEvent {a b c d : Nat} (h : Quiet s t) : Quiet s (t.sendEvent a b c d) := by
  unfold State.sendEvent
  try dsimp only
  repeat' first
    | with_reducible assumption
    | with_reducible apply forEach
    | (intro x u hu; try dsimp only)
    | with_reducible apply sendIn
    | exact hk _
    | exact inner_one (by decide)
    | exact inner_three (by decide)
    | exact inner_two (by decide)
    | split

theorem newEvent {a b c : Nat} (h : Quiet s t) : Quiet s (t.newEvent a b c) := by
  unfold State.newEvent
  try dsimp only
  repeat' first
    | with_reducible assumption
    | with_reducible apply forEach
    | (intro x u hu; try dsimp only)
    | with_reducible apply modLadder
    | with_reducible apply sendEvent
    | exact hk _
    | exact inner_one (by decide)
    | exact inner_three (by decide)
    | exact inner_two (by decide)
    | split

theorem planClear (h : Quiet s t) : Quiet s (t.planClear) := by
  unfold State.planClear
  try dsimp only
  repeat' first
    | with_reducible assumption
    | with_reducible apply forEach
    | (intro x u hu; try dsimp only)
    | with_reducible apply setReg
    | with_reducible apply setFld
    | with_reducible apply modPlan
    | with_reducible apply unask
    | exact hk _
    | exact inner_one (by decide)
    | exact inner_three (by decide)
    | exact inner_two (by decide)
    | split

theorem planShow (h : Quiet s t) : Quiet s (t.planShow) := by
  unfold State.planShow
  try dsimp only
  repeat' first
    | with_reducible assumption
    | with_reducible apply forEach
    | (intro x u hu; try dsimp only)
    | with_reducible apply setReg
    | with_reducible apply setFld
    | with_reducible apply setFlag
    | exact hk _
    | exact inner_one (by decide)
    | exact inner_three (by decide)
    | exact inner_two (by decide)
    | split

theorem groupTell {k : Nat} (h : Quiet s t) : Quiet s (t.groupTell k) := by
  unfold State.groupTell
  try dsimp only
  repeat' first
    | with_reducible assumption
    | with_reducible apply forEach
    | (intro x u hu; try dsimp only)
    | with_reducible apply modPlan
    | with_reducible apply newEvent
    | exact hk _
    | exact inner_one (by decide)
    | exact inner_three (by decide)
    | exact inner_two (by decide)
    | split

theorem programCheck (h : Quiet s t) : Quiet s (t.programCheck) := by
  unfold State.programCheck
  try dsimp only
  repeat' first
    | with_reducible assumption
    | with_reducible apply forEach
    | (intro x u hu; try dsimp only)
    | with_reducible apply opErr
    | with_reducible apply raiseLD
    | with_reducible apply stopAxis
    | with_reducible apply planClear
    | with_reducible apply groupTell
    | exact hk _
    | exact inner_one (by decide)
    | exact inner_three (by decide)
    | exact inner_two (by decide)
    | split

theorem pathCheck {n : AxisId} {a b c : Nat} (h : Quiet s t) : Quiet s (t.pathCheck n a b c) := by
  unfold State.pathCheck
  try dsimp only
  repeat' first
    | with_reducible assumption
    | with_reducible apply forEach
    | (intro x u hu; try dsimp only)
    | with_reducible apply modFm
    | with_reducible apply trap
    | with_reducible apply faultStop
    | exact hk _
    | exact inner_one (by decide)
    | exact inner_three (by decide)
    | exact inner_two (by decide)
    | split

theorem allTrap {c : Nat} (h : Quiet s t) : Quiet s (t.allTrap c) := by
  unfold State.allTrap
  try dsimp only
  repeat' first
    | with_reducible assumption
    | with_reducible apply forEach
    | (intro x u hu; try dsimp only)
    | with_reducible apply trap
    | exact hk _
    | exact inner_one (by decide)
    | exact inner_three (by decide)
    | exact inner_two (by decide)
    | split

theorem allLatch {c : Nat} (h : Quiet s t) : Quiet s (t.allLatch c) := by
  unfold State.allLatch
  try dsimp only
  repeat' first
    | with_reducible assumption
    | with_reducible apply forEach
    | (intro x u hu; try dsimp only)
    | with_reducible apply latchAxis
    | exact hk _
    | exact inner_one (by decide)
    | exact inner_three (by decide)
    | exact inner_two (by decide)
    | split

end Quiet

end Sys2Proof.Machine
end

