-- ==== Sys2Proof/Laws/AxisState.lean ====
section
/-! SUPPORT. Which operations leave the state of every axis (Table 8.1) alone, and what the others make of it. -/

namespace Sys2Proof.Machine

open Sys2Proof

/-- From `s` to `t` no axis has changed its state. -/
def SameStates (s t : State) : Prop := ∀ m : AxisId, t.axisSt m = s.axisSt m

theorem axState_ne {k : Nat} (h : k < 8192 ∨ 12288 ≤ k) (m : AxisId) : R.AX_STATE m ≠ k := by
  have := m.isLt; simp only [R.AX_STATE]; omega
theorem axState_ne_two {a b : Nat} (h : 12288 ≤ a) : ∀ m : AxisId, R.AX_STATE m ≠ a + b := fun m => axState_ne (.inr (by omega)) m
theorem axState_ne_three {a b c : Nat} (h : 12288 ≤ a) : ∀ m : AxisId, R.AX_STATE m ≠ a + b + c :=
  fun m => axState_ne (.inr (by omega)) m

theorem axState_ne_ax {b : Nat} {n : AxisId} (h : b ≠ 8193 ∧ 8192 ≤ b ∧ b < 8704) : ∀ m : AxisId, R.AX_STATE m ≠ b + 512 * n.val := by
  intro m; simp only [R.AX_STATE]; omega

namespace SameStates

variable {s t : State}

theorem refl : SameStates s s := fun _ => rfl

theorem setReg {k : Nat} {w : Word} (h : SameStates s t) (hk : ∀ m : AxisId, R.AX_STATE m ≠ k) : SameStates s (t.setReg k w) :=
  fun m => (fld_setReg_key (hk m)).trans (h m)
theorem setFld {f : Fld} {v : Nat} (h : SameStates s t) (hk : ∀ m : AxisId, R.AX_STATE m ≠ f.key) : SameStates s (t.setFld f v) :=
  h.setReg hk
theorem setFlag {f : Fld} {b : Bool} (h : SameStates s t) (hk : ∀ m : AxisId, R.AX_STATE m ≠ f.key) : SameStates s (t.setFlag f b) :=
  h.setReg hk
theorem setFldApart {k hi lo v : Nat} (h : SameStates s t) (hb : lo ≤ hi ∧ hi < 36) (ha : 17 < lo ∨ hi < 15) :
    SameStates s (t.setFld ⟨k, hi, lo⟩ v) :=
  fun m => (fld_setFld_apart (f := ⟨k, hi, lo⟩) (g := F.AX_STATE_STATE m) hb ha).trans (h m)
theorem setFlagApart {k hi lo : Nat} {b : Bool} (h : SameStates s t) (hb : lo ≤ hi ∧ hi < 36) (ha : 17 < lo ∨ hi < 15) :
    SameStates s (t.setFlag ⟨k, hi, lo⟩ b) :=
  fun m => (fld_setFlag_apart (f := ⟨k, hi, lo⟩) (g := F.AX_STATE_STATE m) hb ha).trans (h m)
theorem setSFld {f : Fld} {v : Int} (h : SameStates s t) (hk : ∀ m : AxisId, R.AX_STATE m ≠ f.key) : SameStates s (t.setSFld f v) :=
  h.setReg hk
theorem setRegBit {k i : Nat} {b : Bool} (h : SameStates s t) (hk : ∀ m : AxisId, R.AX_STATE m ≠ k) :
    SameStates s (t.setRegBit k i b) := h.setReg hk
theorem count {k : Nat} (h : SameStates s t) (hk : ∀ m : AxisId, R.AX_STATE m ≠ k) : SameStates s (t.count k) := by
  unfold State.count State.countOne; split <;> exact h.setReg hk
theorem opStart {k op : Nat} (h : SameStates s t) (hk : ∀ m : AxisId, R.AX_STATE m ≠ k) : SameStates s (t.opStart k op) :=
  ((h.setFld (f := ⟨k, 4, 0⟩) hk).setFld (f := ⟨k, 19, 16⟩) hk).setFld (f := ⟨k, 31, 20⟩) hk
theorem opDone {k : Nat} (h : SameStates s t) (hk : ∀ m : AxisId, R.AX_STATE m ≠ k) : SameStates s (t.opDone k) :=
  h.setFld (f := ⟨k, 4, 0⟩) hk
theorem opErr {k c : Nat} (h : SameStates s t) (hk : ∀ m : AxisId, R.AX_STATE m ≠ k) : SameStates s (t.opErr k c) :=
  (h.setFld (f := ⟨k, 4, 0⟩) hk).setFld (f := ⟨k, 31, 20⟩) hk
theorem opAborted {k : Nat} (h : SameStates s t) (hk : ∀ m : AxisId, R.AX_STATE m ≠ k) : SameStates s (t.opAborted k) :=
  h.setFld (f := ⟨k, 4, 0⟩) hk

/-- A list of steps. -/
theorem forEach {α : Type} {l : List α} {f : α → State → State} (h : SameStates s t)
    (hf : ∀ x u, SameStates s u → SameStates s (f x u)) : SameStates s (t.forEach l f) := by
  unfold State.forEach
  induction l generalizing t with
  | nil => exact h
  | cons a l ih => exact ih (hf a t h)

theorem modDie {i : Fin 2} {f : Die → Die} (h : SameStates s t) : SameStates s (t.modDie i f) := h
theorem modLeg {i : Fin 32} {f : Leg → Leg} (h : SameStates s t) : SameStates s (t.modLeg i f) := h
theorem modRegion {i : Fin 4} {f : Region → Region} (h : SameStates s t) : SameStates s (t.modRegion i f) := h
theorem modCarrier {i : Fin 8} {f : Carrier → Carrier} (h : SameStates s t) : SameStates s (t.modCarrier i f) := h
theorem modEng {i : Fin 8} {f : AxisEng → AxisEng} (h : SameStates s t) : SameStates s (t.modEng i f) := h
theorem modAxis {i : Fin 8} {f : AxisMot → AxisMot} (h : SameStates s t) : SameStates s (t.modAxis i f) := h
theorem modChan {i : Fin 8} {f : FbChan → FbChan} (h : SameStates s t) : SameStates s (t.modChan i f) := h
theorem modComp {i : Fin 8} {f : Comp → Comp} (h : SameStates s t) : SameStates s (t.modComp i f) := h
theorem modPlan {f : Planner → Planner} (h : SameStates s t) : SameStates s (t.modPlan f) := h
theorem modHatch {f : Hatch → Hatch} (h : SameStates s t) : SameStates s (t.modHatch f) := h
theorem modLadder {f : Ladder → Ladder} (h : SameStates s t) : SameStates s (t.modLadder f) := h
theorem modLarder {f : Larder → Larder} (h : SameStates s t) : SameStates s (t.modLarder f) := h
theorem modBox {f : Strongbox → Strongbox} (h : SameStates s t) : SameStates s (t.modBox f) := h
theorem modFm {f : FaultMgr → FaultMgr} (h : SameStates s t) : SameStates s (t.modFm f) := h
theorem modPins {f : Pins → Pins} (h : SameStates s t) : SameStates s (t.modPins f) := h
theorem modWires {f : List WireTest → List WireTest} (h : SameStates s t) : SameStates s (t.modWires f) := h
theorem modLeaks {f : List LeakTest → List LeakTest} (h : SameStates s t) : SameStates s (t.modLeaks f) := h
theorem modEngine {f : Engine → Engine} (h : SameStates s t) : SameStates s (t.modEngine f) := h
theorem freeNext (h : SameStates s t) : SameStates s (t.freeNext) := h
theorem raiseLD {c o : Nat} {a : Option Nat} (h : SameStates s t) : SameStates s (t.raiseLD c o a) := h
theorem raiseActed {c o : Nat} {a : Option Nat} (h : SameStates s t) : SameStates s (t.raiseActed c o a) := h
theorem lifeAdd {i n : Nat} (h : SameStates s t) : SameStates s (t.lifeAdd i n) := h
theorem ask {c : Nat} {u : LineUser} {l : List Nat} (h : SameStates s t) : SameStates s (t.ask c u l) := h
theorem unask {u : LineUser} (h : SameStates s t) : SameStates s (t.unask u) := h
theorem raiseGD {d : DieId} {c o : Nat} {a : Option Nat} (h : SameStates s t) : SameStates s (t.raiseGD d c o a) := by
  unfold State.raiseGD; dsimp only; split <;> exact h
theorem raiseGDActed {d : DieId} {c o : Nat} {a : Option Nat} (h : SameStates s t) : SameStates s (t.raiseGDActed d c o a) := by
  unfold State.raiseGDActed; dsimp only; split <;> exact h

theorem modSw {l : LegId} {hi : Bool} {f : Switch → Switch} (h : SameStates s t) : SameStates s (t.modSw l hi f) := by
  unfold State.modSw
  try dsimp only
  repeat' first
    | with_reducible assumption
    | with_reducible apply forEach
    | (intro x u hu; try dsimp only)
    | with_reducible apply modLeg
    | split

theorem setLegState {l : LegId} {v : Nat} (h : SameStates s t) : SameStates s (t.setLegState l v) := by
  unfold State.setLegState
  try dsimp only
  repeat' first
    | with_reducible assumption
    | with_reducible apply forEach
    | (intro x u hu; try dsimp only)
    | (with_reducible refine setFld ?_ (by (first | exact axState_ne (by decide) | exact axState_ne_three (by decide) | exact axState_ne_ax (by decide) | exact axState_ne_two (by decide) | decide +revert)))
    | (with_reducible refine setFldApart ?_ (by decide) (by decide))
    | split

theorem openBlank {l : LegId} {k : Nat} (h : SameStates s t) : SameStates s (t.openBlank l k) := by
  unfold State.openBlank
  try dsimp only
  repeat' first
    | with_reducible assumption
    | with_reducible apply forEach
    | (intro x u hu; try dsimp only)
    | with_reducible apply modDie
    | split

theorem turnOff {l : LegId} {hi : Bool} {k : Nat} (h : SameStates s t) : SameStates s (t.turnOff l hi k) := by
  unfold State.turnOff
  try dsimp only
  repeat' first
    | with_reducible assumption
    | with_reducible apply forEach
    | (intro x u hu; try dsimp only)
    | with_reducible apply modSw
    | with_reducible apply openBlank
    | split

theorem turnOn {l : LegId} {hi : Bool} {k : Nat} (h : SameStates s t) : SameStates s (t.turnOn l hi k) := by
  unfold State.turnOn
  try dsimp only
  repeat' first
    | with_reducible assumption
    | with_reducible apply forEach
    | (intro x u hu; try dsimp only)
    | with_reducible apply modSw
    | with_reducible apply openBlank
    | split

theorem follow {l : LegId} {hi : Bool} {k : Nat} (h : SameStates s t) : SameStates s (t.follow l hi k) := by
  unfold State.follow
  try dsimp only
  repeat' first
    | with_reducible assumption
    | with_reducible apply forEach
    | (intro x u hu; try dsimp only)
    | with_reducible apply modSw
    | with_reducible apply turnOff
    | split

theorem bothOnCheck {l : LegId} (h : SameStates s t) : SameStates s (t.bothOnCheck l) := by
  unfold State.bothOnCheck
  try dsimp only
  repeat' first
    | with_reducible assumption
    | with_reducible apply forEach
    | (intro x u hu; try dsimp only)
    | (with_reducible refine setFlag ?_ (by (first | exact axState_ne (by decide) | exact axState_ne_three (by decide) | exact axState_ne_ax (by decide) | exact axState_ne_two (by decide) | decide +revert)))
    | (with_reducible refine setFlagApart ?_ (by decide) (by decide))
    | with_reducible apply modLeg
    | with_reducible apply raiseGD
    | split

theorem settleAt {l : LegId} {k : Nat} (h : SameStates s t) : SameStates s (t.settleAt l k) := by
  unfold State.settleAt
  try dsimp only
  repeat' first
    | with_reducible assumption
    | with_reducible apply forEach
    | (intro x u hu; try dsimp only)
    | with_reducible apply follow
    | with_reducible apply bothOnCheck
    | split

theorem settle {l : LegId} (h : SameStates s t) : SameStates s (t.settle l) := by
  unfold State.settle
  try dsimp only
  repeat' first
    | with_reducible assumption
    | with_reducible apply forEach
    | (intro x u hu; try dsimp only)
    | with_reducible apply settleAt
    | split

theorem settleAxis {n : AxisId} (h : SameStates s t) : SameStates s (t.settleAxis n) := by
  unfold State.settleAxis
  try dsimp only
  repeat' first
    | with_reducible assumption
    | with_reducible apply forEach
    | (intro x u hu; try dsimp only)
    | with_reducible apply settle
    | split

theorem settleDie {d : DieId} (h : SameStates s t) : SameStates s (t.settleDie d) := by
  unfold State.settleDie
  try dsimp only
  repeat' first
    | with_reducible assumption
    | with_reducible apply forEach
    | (intro x u hu; try dsimp only)
    | with_reducible apply settle
    | split

theorem settleAll (h : SameStates s t) : SameStates s (t.settleAll) := by
  unfold State.settleAll
  try dsimp only
  repeat' first
    | with_reducible assumption
    | with_reducible apply forEach
    | (intro x u hu; try dsimp only)
    | with_reducible apply settle
    | split

theorem legOff {l : LegId} {v : Nat} (h : SameStates s t) : SameStates s (t.legOff l v) := by
  unfold State.legOff
  try dsimp only
  repeat' first
    | with_reducible assumption
    | with_reducible apply forEach
    | (intro x u hu; try dsimp only)
    | with_reducible apply modLeg
    | with_reducible apply setLegState
    | with_reducible apply settle
    | split

theorem setSupply {d : DieId} {f : Quad → Fld} {v : Nat} (hk : ∀ q (m : AxisId), R.AX_STATE m ≠ (f q).key) (h : SameStates s t) :
    SameStates s (t.setSupply d f v) := by
  unfold State.setSupply
  exact h.forEach (fun x u hu => hu.setFld (hk x))

theorem setCfReady {l : LegId} {b : Bool} (h : SameStates s t) : SameStates s (t.setCfReady l b) := by
  unfold State.setCfReady
  try dsimp only
  repeat' first
    | with_reducible assumption
    | with_reducible apply forEach
    | (intro x u hu; try dsimp only)
    | (with_reducible refine setFlag ?_ (by (first | exact axState_ne (by decide) | exact axState_ne_three (by decide) | exact axState_ne_ax (by decide) | exact axState_ne_two (by decide) | decide +revert)))
    | (with_reducible refine setRegBit ?_ (by (first | exact axState_ne (by decide) | exact axState_ne_three (by decide) | exact axState_ne_ax (by decide) | exact axState_ne_two (by decide) | decide +revert)))
    | (with_reducible refine setFlagApart ?_ (by decide) (by decide))
    | split

theorem releaseTrap {n : AxisId} (h : SameStates s t) : SameStates s (t.releaseTrap n) := by
  unfold State.releaseTrap
  try dsimp only
  repeat' first
    | with_reducible assumption
    | with_reducible apply forEach
    | (intro x u hu; try dsimp only)
    | (with_reducible refine setRegBit ?_ (by (first | exact axState_ne (by decide) | exact axState_ne_three (by decide) | exact axState_ne_ax (by decide) | exact axState_ne_two (by decide) | decide +revert)))
    | with_reducible apply modLeg
    | with_reducible apply modAxis
    | split

theorem takeGroup {n : AxisId} {g : Group} {m : Nat} (h : SameStates s t) : SameStates s (t.takeGroup n g m) := by
  unfold State.takeGroup
  try dsimp only
  repeat' first
    | with_reducible assumption
    | with_reducible apply forEach
    | (intro x u hu; try dsimp only)
    | (with_reducible refine setFld ?_ (by (first | exact axState_ne (by decide) | exact axState_ne_three (by decide) | exact axState_ne_ax (by decide) | exact axState_ne_two (by decide) | decide +revert)))
    | (with_reducible refine setFlag ?_ (by (first | exact axState_ne (by decide) | exact axState_ne_three (by decide) | exact axState_ne_ax (by decide) | exact axState_ne_two (by decide) | decide +revert)))
    | (with_reducible refine setFldApart ?_ (by decide) (by decide))
    | (with_reducible refine setFlagApart ?_ (by decide) (by decide))
    | split

theorem openPeriod {n : AxisId} {m : Nat} (h : SameStates s t) : SameStates s (t.openPeriod n m) := by
  unfold State.openPeriod
  try dsimp only
  repeat' first
    | with_reducible assumption
    | with_reducible apply forEach
    | (intro x u hu; try dsimp only)
    | with_reducible apply modLeg
    | split

theorem countBothOn {l : LegId} (h : SameStates s t) : SameStates s (t.countBothOn l) := by
  unfold State.countBothOn
  try dsimp only
  repeat' first
    | with_reducible assumption
    | with_reducible apply forEach
    | (intro x u hu; try dsimp only)
    | (with_reducible refine count ?_ (by (first | exact axState_ne (by decide) | exact axState_ne_three (by decide) | exact axState_ne_ax (by decide) | exact axState_ne_two (by decide) | decide +revert)))
    | with_reducible apply modLeg
    | with_reducible apply raiseGD
    | with_reducible apply legOff
    | split

theorem showCarrier {n : AxisId} {m : Nat} (h : SameStates s t) : SameStates s (t.showCarrier n m) := by
  unfold State.showCarrier
  try dsimp only
  repeat' first
    | with_reducible assumption
    | with_reducible apply forEach
    | (intro x u hu; try dsimp only)
    | (with_reducible refine setFld ?_ (by (first | exact axState_ne (by decide) | exact axState_ne_three (by decide) | exact axState_ne_ax (by decide) | exact axState_ne_two (by decide) | decide +revert)))
    | (with_reducible refine setFldApart ?_ (by decide) (by decide))
    | split

theorem startCarrier {n : AxisId} (h : SameStates s t) : SameStates s (t.startCarrier n) := by
  unfold State.startCarrier
  try dsimp only
  repeat' first
    | with_reducible assumption
    | with_reducible apply forEach
    | (intro x u hu; try dsimp only)
    | with_reducible apply modCarrier
    | with_reducible apply showCarrier
    | split

theorem stopCarrier {n : AxisId} (h : SameStates s t) : SameStates s (t.stopCarrier n) := by
  unfold State.stopCarrier
  try dsimp only
  repeat' first
    | with_reducible assumption
    | with_reducible apply forEach
    | (intro x u hu; try dsimp only)
    | with_reducible apply modCarrier
    | split

theorem commitGroup {n : AxisId} {l : List Nat} {k : Nat} {b : Bool} (h : SameStates s t) : SameStates s (t.commitGroup n l k b) := by
  unfold State.commitGroup
  try dsimp only
  repeat' first
    | with_reducible assumption
    | with_reducible apply forEach
    | (intro x u hu; try dsimp only)
    | with_reducible apply modDie
    | split

theorem applyRegion {q : Quad} (h : SameStates s t) : SameStates s (t.applyRegion q) := by
  unfold State.applyRegion
  try dsimp only
  repeat' first
    | with_reducible assumption
    | with_reducible apply forEach
    | (intro x u hu; try dsimp only)
    | (with_reducible refine setFld ?_ (by (first | exact axState_ne (by decide) | exact axState_ne_three (by decide) | exact axState_ne_ax (by decide) | exact axState_ne_two (by decide) | decide +revert)))
    | (with_reducible refine setFlag ?_ (by (first | exact axState_ne (by decide) | exact axState_ne_three (by decide) | exact axState_ne_ax (by decide) | exact axState_ne_two (by decide) | decide +revert)))
    | (with_reducible refine count ?_ (by (first | exact axState_ne (by decide) | exact axState_ne_three (by decide) | exact axState_ne_ax (by decide) | exact axState_ne_two (by decide) | decide +revert)))
    | (with_reducible refine setFldApart ?_ (by decide) (by decide))
    | (with_reducible refine setFlagApart ?_ (by decide) (by decide))
    | with_reducible apply modRegion
    | with_reducible apply raiseGD
    | split

theorem latchTrip {q : Quad} {n : Fin 8} (h : SameStates s t) : SameStates s (t.latchTrip q n) := by
  unfold State.latchTrip
  try dsimp only
  repeat' first
    | with_reducible assumption
    | with_reducible apply forEach
    | (intro x u hu; try dsimp only)
    | (with_reducible refine setRegBit ?_ (by (first | exact axState_ne (by decide) | exact axState_ne_three (by decide) | exact axState_ne_ax (by decide) | exact axState_ne_two (by decide) | decide +revert)))
    | with_reducible apply raiseGD
    | with_reducible apply settle
    | split

theorem latchTrips {l : List Quad} {n : Fin 8} (h : SameStates s t) : SameStates s (t.latchTrips l n) := by
  unfold State.latchTrips
  try dsimp only
  repeat' first
    | with_reducible assumption
    | with_reducible apply forEach
    | (intro x u hu; try dsimp only)
    | with_reducible apply latchTrip
    | split

theorem setPin {a b : Nat} {v : Bool} (h : SameStates s t) : SameStates s (t.setPin a b v) := by
  unfold State.setPin
  try dsimp only
  repeat' first
    | with_reducible assumption
    | with_reducible apply forEach
    | (intro x u hu; try dsimp only)
    | with_reducible apply modPins
    | split

theorem tripChanged {n : Fin 8} (h : SameStates s t) : SameStates s (t.tripChanged n) := by
  unfold State.tripChanged
  try dsimp only
  repeat' first
    | with_reducible assumption
    | with_reducible apply forEach
    | (intro x u hu; try dsimp only)
    | (with_reducible refine setRegBit ?_ (by (first | exact axState_ne (by decide) | exact axState_ne_three (by decide) | exact axState_ne_ax (by decide) | exact axState_ne_two (by decide) | decide +revert)))
    | with_reducible apply latchTrips
    | split

theorem clearTripOne {q : Quad} {n : Fin 8} (h : SameStates s t) : SameStates s (t.clearTripOne q n) := by
  unfold State.clearTripOne
  try dsimp only
  repeat' first
    | with_reducible assumption
    | with_reducible apply forEach
    | (intro x u hu; try dsimp only)
    | (with_reducible refine setFlag ?_ (by (first | exact axState_ne (by decide) | exact axState_ne_three (by decide) | exact axState_ne_ax (by decide) | exact axState_ne_two (by decide) | decide +revert)))
    | (with_reducible refine setRegBit ?_ (by (first | exact axState_ne (by decide) | exact axState_ne_three (by decide) | exact axState_ne_ax (by decide) | exact axState_ne_two (by decide) | decide +revert)))
    | (with_reducible refine setFlagApart ?_ (by decide) (by decide))
    | with_reducible apply settle
    | split

theorem showHolding {d : DieId} (h : SameStates s t) : SameStates s (t.showHolding d) := by
  unfold State.showHolding
  try dsimp only
  repeat' first
    | with_reducible assumption
    | with_reducible apply forEach
    | (intro x u hu; try dsimp only)
    | (with_reducible refine setFlag ?_ (by (first | exact axState_ne (by decide) | exact axState_ne_three (by decide) | exact axState_ne_ax (by decide) | exact axState_ne_two (by decide) | decide +revert)))
    | (with_reducible refine setFlagApart ?_ (by decide) (by decide))
    | split

theorem actByHalt {d : DieId} (h : SameStates s t) : SameStates s (t.actByHalt d) := by
  unfold State.actByHalt
  try dsimp only
  repeat' first
    | with_reducible assumption
    | with_reducible apply forEach
    | (intro x u hu; try dsimp only)
    | (with_reducible refine setFlag ?_ (by (first | exact axState_ne (by decide) | exact axState_ne_three (by decide) | exact axState_ne_ax (by decide) | exact axState_ne_two (by decide) | decide +revert)))
    | (with_reducible refine setFlagApart ?_ (by decide) (by decide))
    | with_reducible apply modDie
    | with_reducible apply settleDie
    | with_reducible apply showHolding
    | split

theorem endHalt {d : DieId} (h : SameStates s t) : SameStates s (t.endHalt d) := by
  unfold State.endHalt
  try dsimp only
  repeat' first
    | with_reducible assumption
    | with_reducible apply forEach
    | (intro x u hu; try dsimp only)
    | (with_reducible refine setFlag ?_ (by (first | exact axState_ne (by decide) | exact axState_ne_three (by decide) | exact axState_ne_ax (by decide) | exact axState_ne_two (by decide) | decide +revert)))
    | (with_reducible refine setFlagApart ?_ (by decide) (by decide))
    | with_reducible apply modDie
    | with_reducible apply modCarrier
    | with_reducible apply settleDie
    | split

theorem driveTrip {j : Fin 64} {b : Bool} (h : SameStates s t) : SameStates s (t.driveTrip j b) := by
  unfold State.driveTrip
  try dsimp only
  repeat' first
    | with_reducible assumption
    | with_reducible apply forEach
    | (intro x u hu; try dsimp only)
    | with_reducible apply modPins
    | with_reducible apply tripChanged
    | split

theorem setRegime {n : AxisId} {r : Nat} (h : SameStates s t) : SameStates s (t.setRegime n r) := by
  unfold State.setRegime
  try dsimp only
  repeat' first
    | with_reducible assumption
    | with_reducible apply forEach
    | (intro x u hu; try dsimp only)
    | (with_reducible refine setFld ?_ (by (first | exact axState_ne (by decide) | exact axState_ne_three (by decide) | exact axState_ne_ax (by decide) | exact axState_ne_two (by decide) | decide +revert)))
    | (with_reducible refine setFldApart ?_ (by decide) (by decide))
    | split

theorem axisOpErr {n : AxisId} {c : Nat} (h : SameStates s t) : SameStates s (t.axisOpErr n c) := by
  unfold State.axisOpErr
  try dsimp only
  repeat' first
    | with_reducible assumption
    | with_reducible apply forEach
    | (intro x u hu; try dsimp only)
    | (with_reducible refine opErr ?_ (by (first | exact axState_ne (by decide) | exact axState_ne_three (by decide) | exact axState_ne_ax (by decide) | exact axState_ne_two (by decide) | decide +revert)))
    | split

theorem axisOpAbort {n : AxisId} (h : SameStates s t) : SameStates s (t.axisOpAbort n) := by
  unfold State.axisOpAbort
  try dsimp only
  repeat' first
    | with_reducible assumption
    | with_reducible apply forEach
    | (intro x u hu; try dsimp only)
    | (with_reducible refine opAborted ?_ (by (first | exact axState_ne (by decide) | exact axState_ne_three (by decide) | exact axState_ne_ax (by decide) | exact axState_ne_two (by decide) | decide +revert)))
    | split

theorem axisOpDone {n : AxisId} (h : SameStates s t) : SameStates s (t.axisOpDone n) := by
  unfold State.axisOpDone
  try dsimp only
  repeat' first
    | with_reducible assumption
    | with_reducible apply forEach
    | (intro x u hu; try dsimp only)
    | (with_reducible refine opDone ?_ (by (first | exact axState_ne (by decide) | exact axState_ne_three (by decide) | exact axState_ne_ax (by decide) | exact axState_ne_two (by decide) | decide +revert)))
    | split

theorem sendPolicy {n : AxisId} {b : Bool} (h : SameStates s t) : SameStates s (t.sendPolicy n b) := by
  unfold State.sendPolicy
  try dsimp only
  repeat' first
    | with_reducible assumption
    | with_reducible apply forEach
    | (intro x u hu; try dsimp only)
    | with_reducible apply modLeg
    | with_reducible apply settleAxis
    | split

theorem toShort {n : AxisId} (h : SameStates s t) : SameStates s (t.toShort n) := by
  unfold State.toShort
  try dsimp only
  repeat' first
    | with_reducible assumption
    | with_reducible apply forEach
    | (intro x u hu; try dsimp only)
    | (with_reducible refine setRegBit ?_ (by (first | exact axState_ne (by decide) | exact axState_ne_three (by decide) | exact axState_ne_ax (by decide) | exact axState_ne_two (by decide) | decide +revert)))
    | (with_reducible refine count ?_ (by (first | exact axState_ne (by decide) | exact axState_ne_three (by decide) | exact axState_ne_ax (by decide) | exact axState_ne_two (by decide) | decide +revert)))
    | with_reducible apply modAxis
    | with_reducible apply lifeAdd
    | with_reducible apply sendPolicy
    | split

theorem toOpen {n : AxisId} (h : SameStates s t) : SameStates s (t.toOpen n) := by
  unfold State.toOpen
  try dsimp only
  repeat' first
    | with_reducible assumption
    | with_reducible apply forEach
    | (intro x u hu; try dsimp only)
    | (with_reducible refine setRegBit ?_ (by (first | exact axState_ne (by decide) | exact axState_ne_three (by decide) | exact axState_ne_ax (by decide) | exact axState_ne_two (by decide) | decide +revert)))
    | with_reducible apply sendPolicy
    | split

theorem engage {n : AxisId} (h : SameStates s t) : SameStates s (t.engage n) := by
  unfold State.engage
  try dsimp only
  repeat' first
    | with_reducible assumption
    | with_reducible apply forEach
    | (intro x u hu; try dsimp only)
    | (with_reducible refine setRegBit ?_ (by (first | exact axState_ne (by decide) | exact axState_ne_three (by decide) | exact axState_ne_ax (by decide) | exact axState_ne_two (by decide) | decide +revert)))
    | with_reducible apply sendPolicy
    | with_reducible apply toShort
    | split

theorem faultOut (h : SameStates s t) : SameStates s (t.faultOut) := by
  unfold State.faultOut
  try dsimp only
  repeat' first
    | with_reducible assumption
    | with_reducible apply forEach
    | (intro x u hu; try dsimp only)
    | (with_reducible refine setFlag ?_ (by (first | exact axState_ne (by decide) | exact axState_ne_three (by decide) | exact axState_ne_ax (by decide) | exact axState_ne_two (by decide) | decide +revert)))
    | (with_reducible refine setFlagApart ?_ (by decide) (by decide))
    | split

theorem dropReady {n : AxisId} (h : SameStates s t) : SameStates s (t.dropReady n) := by
  unfold State.dropReady
  try dsimp only
  repeat' first
    | with_reducible assumption
    | with_reducible apply forEach
    | (intro x u hu; try dsimp only)
    | (with_reducible refine setRegBit ?_ (by (first | exact axState_ne (by decide) | exact axState_ne_three (by decide) | exact axState_ne_ax (by decide) | exact axState_ne_two (by decide) | decide +revert)))
    | split

theorem rebaseHatch {n : AxisId} (h : SameStates s t) : SameStates s (t.rebaseHatch n) := by
  unfold State.rebaseHatch
  try dsimp only
  repeat' first
    | with_reducible assumption
    | with_reducible apply forEach
    | (intro x u hu; try dsimp only)
    | (with_reducible refine setReg ?_ (by (first | exact axState_ne (by decide) | exact axState_ne_three (by decide) | exact axState_ne_ax (by decide) | exact axState_ne_two (by decide) | decide +revert)))
    | with_reducible apply modHatch
    | split

theorem holdAnew {n : AxisId} (h : SameStates s t) : SameStates s (t.holdAnew n) := by
  unfold State.holdAnew
  try dsimp only
  repeat' first
    | with_reducible assumption
    | with_reducible apply forEach
    | (intro x u hu; try dsimp only)
    | with_reducible apply modAxis
    | split

theorem standStill {n : AxisId} (h : SameStates s t) : SameStates s (t.standStill n) := by
  unfold State.standStill
  try dsimp only
  repeat' first
    | with_reducible assumption
    | with_reducible apply forEach
    | (intro x u hu; try dsimp only)
    | with_reducible apply modAxis
    | split

theorem endLegTest {l : LegId} (h : SameStates s t) : SameStates s (t.endLegTest l) := by
  unfold State.endLegTest
  try dsimp only
  repeat' first
    | with_reducible assumption
    | with_reducible apply forEach
    | (intro x u hu; try dsimp only)
    | with_reducible apply setLegState
    | with_reducible apply settle
    | split

theorem endTests {n : AxisId} (h : SameStates s t) : SameStates s (t.endTests n) := by
  unfold State.endTests
  try dsimp only
  repeat' first
    | with_reducible assumption
    | with_reducible apply forEach
    | (intro x u hu; try dsimp only)
    | with_reducible apply modWires
    | with_reducible apply modLeaks
    | with_reducible apply endLegTest
    | split

theorem startXfer {n : AxisId} {d : Nat} (h : SameStates s t) : SameStates s (t.startXfer n d) := by
  unfold State.startXfer
  try dsimp only
  repeat' first
    | with_reducible assumption
    | with_reducible apply forEach
    | (intro x u hu; try dsimp only)
    | (with_reducible refine setFlag ?_ (by (first | exact axState_ne (by decide) | exact axState_ne_three (by decide) | exact axState_ne_ax (by decide) | exact axState_ne_two (by decide) | decide +revert)))
    | (with_reducible refine setFlagApart ?_ (by decide) (by decide))
    | with_reducible apply modAxis
    | split

theorem commFromHall {n : AxisId} (h : SameStates s t) : SameStates s (t.commFromHall n) := by
  unfold State.commFromHall
  try dsimp only
  repeat' first
    | with_reducible assumption
    | with_reducible apply forEach
    | (intro x u hu; try dsimp only)
    | (with_reducible refine setSFld ?_ (by (first | exact axState_ne (by decide) | exact axState_ne_three (by decide) | exact axState_ne_ax (by decide) | exact axState_ne_two (by decide) | decide +revert)))
    | split

theorem emit {q : Nat} {p : List Nat} {b : SentBody} (h : SameStates s t) : SameStates s (t.emit q p b) := by
  unfold State.emit
  try dsimp only
  repeat' first
    | with_reducible assumption
    | with_reducible apply forEach
    | (intro x u hu; try dsimp only)
    | with_reducible apply modLadder
    | split

theorem sendTo {q : Nat} {ip : BitVec 32} {p : BitVec 16} {b : List Nat} (h : SameStates s t) : SameStates s (t.sendTo q ip p b) := by
  unfold State.sendTo
  try dsimp only
  repeat' first
    | with_reducible assumption
    | with_reducible apply forEach
    | (intro x u hu; try dsimp only)
    | with_reducible apply emit
    | split

theorem modSession {i : Nat} {f : Session → Session} (h : SameStates s t) : SameStates s (t.modSession i f) := by
  unfold State.modSession
  try dsimp only
  repeat' first
    | with_reducible assumption
    | with_reducible apply forEach
    | (intro x u hu; try dsimp only)
    | with_reducible apply modLadder
    | split

theorem sendIn {a b c d e : Nat} {l : List Nat} (h : SameStates s t) : SameStates s (t.sendIn a b c d e l) := by
  unfold State.sendIn
  try dsimp only
  repeat' first
    | with_reducible assumption
    | with_reducible apply forEach
    | (intro x u hu; try dsimp only)
    | with_reducible apply sendTo
    | with_reducible apply modSession
    | split

theorem sendEvent {a b c d : Nat} (h : SameStates s t) : SameStates s (t.sendEvent a b c d) := by
  unfold State.sendEvent
  try dsimp only
  repeat' first
    | with_reducible assumption
    | with_reducible apply forEach
    | (intro x u hu; try dsimp only)
    | with_reducible apply sendIn
    | split

theorem newEvent {a b c : Nat} (h : SameStates s t) : SameStates s (t.newEvent a b c) := by
  unfold State.newEvent
  try dsimp only
  repeat' first
    | with_reducible assumption
    | with_reducible apply forEach
    | (intro x u hu; try dsimp only)
    | with_reducible apply modLadder
    | with_reducible apply sendEvent
    | split

theorem planClear (h : SameStates s t) : SameStates s (t.planClear) := by
  unfold State.planClear
  try dsimp only
  repeat' first
    | with_reducible assumption
    | with_reducible apply forEach
    | (intro x u hu; try dsimp only)
    | (with_reducible refine setReg ?_ (by (first | exact axState_ne (by decide) | exact axState_ne_three (by decide) | exact axState_ne_ax (by decide) | exact axState_ne_two (by decide) | decide +revert)))
    | (with_reducible refine setFld ?_ (by (first | exact axState_ne (by decide) | exact axState_ne_three (by decide) | exact axState_ne_ax (by decide) | exact axState_ne_two (by decide) | decide +revert)))
    | (with_reducible refine setFldApart ?_ (by decide) (by decide))
    | with_reducible apply modPlan
    | with_reducible apply unask
    | split

theorem planShow (h : SameStates s t) : SameStates s (t.planShow) := by
  unfold State.planShow
  try dsimp only
  repeat' first
    | with_reducible assumption
    | with_reducible apply forEach
    | (intro x u hu; try dsimp only)
    | (with_reducible refine setReg ?_ (by (first | exact axState_ne (by decide) | exact axState_ne_three (by decide) | exact axState_ne_ax (by decide) | exact axState_ne_two (by decide) | decide +revert)))
    | (with_reducible refine setFld ?_ (by (first | exact axState_ne (by decide) | exact axState_ne_three (by decide) | exact axState_ne_ax (by decide) | exact axState_ne_two (by decide) | decide +revert)))
    | (with_reducible refine setFlag ?_ (by (first | exact axState_ne (by decide) | exact axState_ne_three (by decide) | exact axState_ne_ax (by decide) | exact axState_ne_two (by decide) | decide +revert)))
    | (with_reducible refine setFldApart ?_ (by decide) (by decide))
    | (with_reducible refine setFlagApart ?_ (by decide) (by decide))
    | split

theorem groupTell {k : Nat} (h : SameStates s t) : SameStates s (t.groupTell k) := by
  unfold State.groupTell
  try dsimp only
  repeat' first
    | with_reducible assumption
    | with_reducible apply forEach
    | (intro x u hu; try dsimp only)
    | with_reducible apply modPlan
    | with_reducible apply newEvent
    | split

end SameStates

variable {s : State} {n m : AxisId} {v c : Nat}

theorem axisSt_setState : (s.setFld (F.AX_STATE_STATE n) v).axisSt m = if m = n then v % 8 else s.axisSt m := by
  by_cases e : m = n
  · subst e; rw [if_pos rfl]; exact fld_setFld_self ⟨by show 15 ≤ 17; omega, by show 17 < 36; omega⟩
  · rw [if_neg e]
    apply fld_setFld_key
    intro h; apply e; apply Fin.ext; simp only [R.AX_STATE] at h; omega

/-- R224: `axisTo` changes the state of its axis alone. -/
theorem axisSt_axisTo : (s.axisTo n v).axisSt m = if m = n then v % 8 else s.axisSt m := by
  rw [← axisSt_setState (s := s)]
  have h : SameStates (s.setFld (F.AX_STATE_STATE n) v) (s.axisTo n v) := by
    unfold State.axisTo
    dsimp only
    apply SameStates.faultOut
    apply SameStates.dropReady
    have h1 : ∀ u, SameStates (s.setFld (F.AX_STATE_STATE n) v) u → ∀ b, SameStates (s.setFld (F.AX_STATE_STATE n) v)
        ((u.setRegBit R.ENG_STATUS (10 + n.val) b).setFlag (F.ENG_SLOT_RUN n) b) := fun u hu b =>
      (hu.setRegBit (axState_ne (by decide))).setFlag (axState_ne (.inl (by simp only [R.ENG_SLOT]; omega)))
    have h2 : ∀ (u w : State) (c : LegId → State → Bool), SameStates w u → SameStates w (u.forEach (u.axisLegs n) (fun l t =>
        if c l t = true then t.setLegState l (t.restState l) else t)) := by
      intro u w c hu
      apply hu.forEach
      intro x y hy
      split
      · exact hy.setLegState
      · exact hy
    have h3 : ∀ u w : State, SameStates w u → SameStates w ((u.stopCarrier n).modLadder (fun l => { l with owners := l.owners.set n.val none })) :=
      fun u w hu => hu.stopCarrier.modLadder
    split
    · apply SameStates.holdAnew
      apply SameStates.rebaseHatch
      apply h2
      split
      · exact h1 _ SameStates.refl _
      · exact h3 _ _ (h1 _ SameStates.refl _)
    · apply h2
      split
      · exact h1 _ SameStates.refl _
      · exact h3 _ _ (h1 _ SameStates.refl _)
  exact h m

/-- R225: so does `enterOff`. -/
theorem axisSt_enterOff : (s.enterOff n v c).axisSt m = if m = n then v % 8 else s.axisSt m := by
  have h : ∀ u : State, SameStates s u → (((u.axisTo n v).endTests n).engage n |>.settleAxis n).axisSt m = if m = n then v % 8 else s.axisSt m := by
    intro u hu
    have h1 : SameStates (u.axisTo n v) ((((u.axisTo n v).endTests n).engage n).settleAxis n) :=
      ((SameStates.refl.endTests).engage).settleAxis
    rw [h1 m, axisSt_axisTo, hu m]
  unfold State.enterOff
  dsimp only
  apply h
  exact (((SameStates.refl.axisOpErr).standStill).modAxis).setFlagApart (by decide) (by decide)

/-- R434: what `trap` makes of the state of an axis. -/
theorem axisSt_trap : (s.trap n c).axisSt m =
    if m = n ∧ s.planned n.val = true ∧ s.axisSt n ≠ stDisabled ∧ s.axisSt n ≠ stFaulted ∧ s.axisSt n ≠ stLatched then
      (if s.fld F.FLT_LATCH_CFG_REPEAT_MAX ≠ 0 ∧ s.fld F.FLT_LATCH_CFG_REPEAT_MAX ≤ (s.faultedTimes n).length then stLatched else stFaulted)
    else s.axisSt m := by
  unfold State.trap
  split
  · rename_i h
    rw [if_neg]
    intro ⟨_, h1, h2, h3, h4⟩
    simp [h1, h2, h3, h4] at h
  · rename_i h
    dsimp only
    rw [axisSt_enterOff]
    simp only [Bool.or_eq_true, Bool.not_eq_true', decide_eq_true_eq, not_or, Bool.not_eq_false] at h
    obtain ⟨⟨⟨h1, h2⟩, h3⟩, h4⟩ := h
    by_cases e : m = n
    · simp only [e, if_true, h1, h2, h3, h4, ne_eq, not_false_eq_true, and_self]
      split <;> decide
    · rw [if_neg e, if_neg (fun h => e h.1)]; rfl

theorem axisSt_latchAxis : (s.latchAxis n c).axisSt m = if m = n ∧ s.planned n.val = true then stLatched else s.axisSt m := by
  unfold State.latchAxis
  split
  · rename_i h
    split
    · rename_i e; obtain ⟨e, p⟩ := e; subst e; simpa [p] using h
    · rfl
  · rename_i h
    rw [axisSt_enterOff]
    by_cases e : m = n
    · have p : s.planned n.val = true := by cases q : s.planned n.val <;> simp [q] at h ⊢
      rw [if_pos e, if_pos ⟨e, p⟩]; rfl
    · rw [if_neg e, if_neg (fun h => e h.1)]

theorem axisSt_disable : (s.disable n).axisSt m = if m = n then stDisabled else s.axisSt m := axisSt_enterOff

/-- R229: a stop leads to STOPPING. -/
theorem axisSt_stopAxis {q d : Bool} : (s.stopAxis n q d).axisSt m = if m = n then stStopping else s.axisSt m := by
  unfold State.stopAxis
  split
  · rename_i e
    simp only [State.faultStopping, Bool.and_eq_true, decide_eq_true_eq] at e
    split
    · rename_i e'; subst e'; exact e.1
    · rfl
  dsimp only
  have h : SameStates s ((s.axisOpAbort n).setFlag (F.AX_STATE_FAULT_STOP n) false) :=
    (SameStates.refl.axisOpAbort).setFlagApart (by decide) (by decide)
  rw [show ∀ u : State, ∀ f, (u.modAxis n f).axisSt m = u.axisSt m from fun _ _ => rfl]
  split
  · rename_i e
    rw [h m]
    split
    · rename_i e'; subst e'; exact e
    · rfl
  · rw [axisSt_axisTo, h m]; rfl

/-- R229, R440: a fault stop leads to STOPPING from ARMED, RUNNING and STOPPING. -/
theorem axisSt_faultStop (h : s.axisOn n = true) : (s.faultStop n c).axisSt m = if m = n then stStopping else s.axisSt m := by
  unfold State.faultStop
  have hc : s.axisSt n ≠ stChecking := by
    intro e; revert h; simp only [State.axisOn, e]; decide
  rw [if_neg hc]
  split
  · rename_i h2
    simp only [h, Bool.not_true, Bool.false_or] at h2
    split
    · rename_i e; subst e; simp only [State.faultStopping, Bool.and_eq_true, decide_eq_true_eq] at h2; exact h2.1
    · rfl
  · dsimp only
    rw [show ∀ u : State, ∀ f, (u.modAxis n f).axisSt m = u.axisSt m from fun _ _ => rfl]
    have h1 : SameStates ((s.axisOpErr n c).axisTo n stStopping)
        ((((s.axisOpErr n c).axisTo n stStopping).setFlag (F.AX_STATE_FAULT_STOP n) true).dropReady n) :=
      (SameStates.refl.setFlagApart (by decide) (by decide)).dropReady
    rw [h1 m, axisSt_axisTo, SameStates.axisOpErr SameStates.refl m]; rfl

/-! ### Lists of axes, and the program -/

/-- An axis at rest of switching stays so through TRAP. -/
theorem axisSt_trap_off (h : s.axisSt m ∈ [stDisabled, stFaulted, stLatched]) : (s.trap n c).axisSt m = s.axisSt m := by
  rw [axisSt_trap]
  split
  · rename_i e; obtain ⟨e, _, h1, h2, h3⟩ := e; subst e; simp [h1, h2, h3] at h
  · rfl

theorem axisSt_trap_self (h : s.planned n.val = true) : (s.trap n c).axisSt n ∈ [stDisabled, stFaulted, stLatched] := by
  rw [axisSt_trap]
  split
  · split <;> simp
  · rename_i e
    by_cases h1 : s.axisSt n = stDisabled
    · simp [h1]
    · by_cases h2 : s.axisSt n = stFaulted
      · simp [h2]
      · by_cases h3 : s.axisSt n = stLatched
        · simp [h3]
        · exact absurd ⟨rfl, h, h1, h2, h3⟩ e

theorem planned_trap : (s.trap n c).planned m.val = s.planned m.val := by
  unfold State.planned State.axisRec; rw [(Quiet.refl.trap (n := n) (c := c)).inv]

/-- TRAP over a list: an axis that already switches nothing stays as it is. -/
theorem axisSt_traps_off {l : List AxisId} (h : s.axisSt m ∈ [stDisabled, stFaulted, stLatched]) :
    (s.forEach l (fun n t => t.trap n c)).axisSt m = s.axisSt m := by
  unfold State.forEach
  induction l generalizing s with
  | nil => rfl
  | cons a l ih =>
    rw [List.foldl_cons]
    have e := axisSt_trap_off (n := a) (c := c) h
    rw [ih (by rw [e]; exact h), e]

/-- TRAP over a list: a planned axis of the list switches nothing afterwards. -/
theorem axisSt_traps_self {l : List AxisId} (h : m ∈ l) (hp : s.planned m.val = true) :
    (s.forEach l (fun n t => t.trap n c)).axisSt m ∈ [stDisabled, stFaulted, stLatched] := by
  induction l generalizing s with
  | nil => simp at h
  | cons a l ih =>
    show ((s.trap a c).forEach l (fun n t => t.trap n c)).axisSt m ∈ _
    by_cases e : m = a
    · subst e
      have := axisSt_trap_self (c := c) hp
      rw [axisSt_traps_off this]; exact this
    · exact ih (by simpa [e] using h) (by rw [planned_trap]; exact hp)

/-- TRAP over a list leaves every other axis alone. -/
theorem axisSt_traps_ne {l : List AxisId} (h : m ∉ l) : (s.forEach l (fun n t => t.trap n c)).axisSt m = s.axisSt m := by
  unfold State.forEach
  induction l generalizing s with
  | nil => rfl
  | cons a l ih =>
    rw [List.foldl_cons, ih (fun e => h (List.mem_cons_of_mem _ e)), axisSt_trap, if_neg (fun e => h (by simp [e.1]))]

/-- R310: the end of a program leaves an axis that does not run as it is. -/
theorem axisSt_programCheck : s.programCheck.axisSt m = s.axisSt m ∨ (s.axisSt m = stRunning ∧ s.programCheck.axisSt m = stStopping) := by
  have key : ∀ (l : List AxisId) (u : State), (u.axisSt m = s.axisSt m ∨ (s.axisSt m = stRunning ∧ u.axisSt m = stStopping)) →
      ((u.forEach l (fun m t => if t.axisSt m = stRunning then t.stopAxis m true false else t)).axisSt m = s.axisSt m ∨
        (s.axisSt m = stRunning ∧ (u.forEach l (fun m t => if t.axisSt m = stRunning then t.stopAxis m true false else t)).axisSt m = stStopping)) := by
    intro l
    induction l with
    | nil => intro u h; exact h
    | cons a l ih =>
      intro u h
      refine ih _ ?_
      dsimp only
      split
      · rename_i e
        rw [axisSt_stopAxis]
        by_cases em : m = a
        · subst em
          rw [if_pos rfl]
          rcases h with h | ⟨_, h⟩
          · exact .inr ⟨by rw [← h]; exact e, rfl⟩
          · rw [h] at e; simp at e
        · rw [if_neg em]; exact h
      · exact h
  unfold State.programCheck
  split
  · exact .inl rfl
  · rename_i x _ _
    split
    · exact .inl rfl
    · dsimp only
      have h := key (idsOf s.planner.axes) (s.raiseLD 0x711 x.val (some x.val)) (.inl rfl)
      generalize (State.forEach _ (idsOf s.planner.axes) _) = w at h ⊢
      have e : SameStates w ((((if s.opBusy R.PLN_OP_STAT then w.opErr R.PLN_OP_STAT 0x711 else w)).groupTell 1).planClear) := by
        apply SameStates.planClear
        apply SameStates.groupTell
        split
        · exact SameStates.refl.opErr (axState_ne (by decide))
        · exact SameStates.refl
      rw [e m]; exact h

theorem axisSt_programCheck_off (h : s.axisSt m ≠ stRunning) : s.programCheck.axisSt m = s.axisSt m :=
  axisSt_programCheck.resolve_right (fun e => h e.1)

end Sys2Proof.Machine
end

