-- ==== Sys2Proof/Laws/Bus.lean ====
section
/-! SUPPORT. The register bus (R23): an idle bus grants a single access at once. -/

namespace Sys2Proof.Machine

open Sys2Proof

variable {s : State}

/-- The one word of a single access moves. -/
theorem moved_left {x : Txn} {k : Nat} {w : Word} (h : x.left = 1) : (x.moved k w).left = 0 := by
  unfold Txn.moved; simp only [h]; split <;> rfl

@[simp] theorem newTxn_left {read : Bool} {addr : BitVec 16} {n : Nat} {data : List Word} :
    (s.newTxn read addr n data).left = n := rfl
@[simp] theorem newTxn_wait {read : Bool} {addr : BitVec 16} {n : Nat} {data : List Word} :
    (s.newTxn read addr n data).wait = .none := rfl
@[simp] theorem newTxn_blk {read : Bool} {addr : BitVec 16} {n : Nat} {data : List Word} :
    (s.newTxn read addr n data).blk = addr.toNat / 1024 := rfl
@[simp] theorem newTxn_read {read : Bool} {addr : BitVec 16} {n : Nat} {data : List Word} :
    (s.newTxn read addr n data).read = read := rfl

/-- A transaction with words left and no stall requests its next access now. -/
theorem txnRequest_bus {x : Txn} (h : x.left ≠ 0) (hw : x.wait = .none) : s.txnRequest x = { x with wait := .bus s.clock } := by
  unfold State.txnRequest; simp [h, hw]

/-- A bus with no request makes no grant. -/
theorem busRun_none {limit : Option Nat} {n : Nat} (h : s.busWants = []) : s.busRun limit n = s := by
  cases n with
  | zero => rfl
  | succ n =>
    unfold State.busRun
    split
    · rfl
    · simp [h, bestWant]

/-- What an idle bus says: no request of any kind waits. -/
theorem busIdle_wants (h : s.busIdle = true) : s.busWants = [] ∧ s.access.freeAt ≤ 3 * s.clock := by
  simp only [State.busIdle, Bool.and_eq_true, decide_eq_true_eq, List.isEmpty_iff] at h
  exact ⟨h.2, h.1⟩

/-- The only request of a bus that was idle. -/
theorem busWants_one {req : Req} {x : Txn} {k : Nat} (h : s.busWants = []) (hx : x.wait = .bus k) :
    (s.modAccess (fun a => { a with open_ := a.open_ ++ [(req, x)] })).busWants = [⟨reqRank req, k, .single s.access.open_.length⟩] := by
  unfold State.busWants at *
  simp only [List.append_eq_nil_iff, List.map_eq_nil_iff] at h
  obtain ⟨⟨⟨h1, h2⟩, h3⟩, h4⟩ := h
  have e : Txn.onBus x = some k := by unfold Txn.onBus; rw [hx]
  have hh : (s.modAccess (fun a => { a with open_ := a.open_ ++ [(req, x)] })).hp = s.hp := rfl
  have hl : (s.modAccess (fun a => { a with open_ := a.open_ ++ [(req, x)] })).ladder = s.ladder := rfl
  simp only [State.modAccess, List.zipIdx_append, List.filterMap_append, h1, h2, h3, h4, List.map_nil, List.nil_append, List.append_nil]
  simp [e]

/-- R23: the grant of a single access over an idle bus: the access is made at once. -/
theorem singleAccess_idle {req : Req} {read : Bool} {addr : BitVec 16} {data : List Word} {e : AccessEnv}
    (h : s.live = true) (hi : s.busIdle = true) :
    s.singleAccess req read addr data e =
      (let x := { s.newTxn read addr 1 data with wait := .bus s.clock, envs := [e] }
       let u := s.modAccess (fun a => { a with open_ := a.open_ ++ [(req, x)] })
       (u.busGrant (3 * s.clock) ⟨reqRank req, s.clock, .single s.access.open_.length⟩).busRun none (u.busFuel - 1)) := by
  obtain ⟨hw, hf⟩ := busIdle_wants hi
  unfold State.singleAccess
  simp only [h, Bool.not_true, Bool.false_eq_true, if_false]
  rw [txnRequest_bus (by simp) (by simp)]
  unfold State.busGo
  rw [if_pos hi]
  generalize hx : ({ s.newTxn read addr 1 data with wait := .bus s.clock, envs := [e] } : Txn) = x
  have hxw : x.wait = .bus s.clock := by rw [← hx]
  generalize hu : s.modAccess (fun a => { a with open_ := a.open_ ++ [(req, x)] }) = u
  have hwu : u.busWants = [⟨reqRank req, s.clock, .single s.access.open_.length⟩] := by rw [← hu]; exact busWants_one hw hxw
  have hlu : u.live = true := by rw [← hu]; exact h
  have hfu : u.access.freeAt = s.access.freeAt := by rw [← hu]; rfl
  have hn : u.busFuel = (u.busFuel - 1) + 1 := by unfold State.busFuel; omega
  have hat : u.busAt u.busWants = 3 * s.clock := by
    unfold State.busAt; rw [hwu, hfu]; simp; omega
  show u.busRun none u.busFuel = _
  rw [hwu] at hat
  rw [hn]
  conv => lhs; unfold State.busRun
  simp only [hlu, Bool.not_true, Bool.false_eq_true, if_false, hwu, hat, bestWant, Option.any_none, Nat.add_sub_cancel]

/-- Time that has already come changes nothing. -/
theorem atLeast_self {k : Nat} (h : k ≤ s.clock) : s.atLeast k = s := by
  unfold State.atLeast; rw [Nat.max_eq_left h]

theorem atLeast_add {dt : Nat} : s.atLeast (s.clock + dt) = s.pass dt := by
  unfold State.atLeast State.pass; rw [Nat.max_eq_right (by omega)]

/-- A bus on which nothing waits makes no grant while time passes, and stays idle. -/
theorem busPass_idle {dt : Nat} (h : s.busIdle = true) : s.busPass dt = s.pass dt := by
  unfold State.busPass; rw [busRun_none (busIdle_wants h).1, atLeast_add]

theorem busIdle_pass {dt : Nat} (h : s.busIdle = true) : (s.pass dt).busIdle = true := by
  obtain ⟨h1, h2⟩ := busIdle_wants h
  have e : (s.pass dt).busWants = s.busWants := rfl
  have e2 : (s.pass dt).access = s.access := rfl
  simp only [State.busIdle, e, h1, e2, List.isEmpty_nil, Bool.and_true, decide_eq_true_eq]
  show s.access.freeAt ≤ 3 * (s.clock + dt)
  omega

/-- A single access with words left stays under way. -/
theorem keepAccess_on {b a : List (Req × Txn)} {req : Req} {x : Txn} (h : s.live = true) (hl : x.left ≠ 0) :
    s.keepAccess b req x a = s.modAccess (fun c => { c with open_ := b ++ [(req, x)] ++ a }) := by
  unfold State.keepAccess; rw [h]; exact if_neg hl

/-- A single access without words left is complete. -/
theorem keepAccess_off {b a : List (Req × Txn)} {req : Req} {x : Txn} (h : s.live = true) (hl : x.left = 0) :
    s.keepAccess b req x a = s.modAccess (fun c => { c with open_ := b ++ a, read := x.out }) := by
  unfold State.keepAccess; rw [h]; exact if_pos hl

/-- R34: a grant to a transaction on LD: its next word moves, or it stalls. -/
theorem txnGranted_local {req : Req} {x : Txn} (hl : x.left ≠ 0) (hc : s.crosses x = false) :
    s.txnGranted req x = s.txnAccess req (x.envs.headD quiet) { x with wait := .none, envs := x.envs.drop 1 } := by
  have hc2 : ¬ s.crosses { x with wait := .none } = true := by
    have e : s.crosses { x with wait := .none } = s.crosses x := rfl
    rw [e, hc]; decide
  unfold State.txnGranted
  exact (if_neg hl).trans (if_neg hc2)

/-- R36: a grant to a transaction on a GD die: its next access goes onto the gate link. -/
theorem txnGranted_link {req : Req} {x : Txn} (hl : x.left ≠ 0) (hc : s.crosses x = true) :
    s.txnGranted req x = (s, { x with wait := .link s.clock }) := by
  have hc2 : s.crosses { x with wait := .none } = true := hc
  unfold State.txnGranted
  exact (if_neg hl).trans (if_pos hc2)

/-- The bus with a single access's request granted at once. -/
def State.granted (s : State) (req : Req) (x : Txn) (e : AccessEnv) : State :=
  s.modAccess (fun a => { a with
    open_ := a.open_ ++ [(req, { x with wait := .bus s.clock, envs := [e] })], freeAt := 3 * s.clock + busSlot })

/-- R23: the grant of a single access: the access is made and the transaction asks for its next one. -/
theorem busGrant_single {v : State} {at_ r k i : Nat} {req : Req} {x y : Txn} (ho : s.access.open_[i]? = some (req, x))
    (hg : ((s.atLeast (ceilDiv at_ 3)).modAccess (fun a => { a with freeAt := at_ + busSlot })).txnGranted req x = (v, y)) :
    s.busGrant at_ ⟨r, k, .single i⟩ =
      v.keepAccess (s.access.open_.take i) req (v.txnRequest y) (s.access.open_.drop (i + 1)) := by
  unfold State.busGrant
  simp only [ho, hg]

/-- The first request of an idle bus is granted in the state `granted`. -/
theorem granted_grant {req : Req} {x : Txn} {e : AccessEnv} :
    ((s.modAccess (fun a => { a with open_ := a.open_ ++ [(req, { x with wait := .bus s.clock, envs := [e] })] })).atLeast
        (ceilDiv (3 * s.clock) 3)).modAccess (fun a => { a with freeAt := 3 * s.clock + busSlot }) = s.granted req x e := by
  rw [atLeast_self (by show ceilDiv (3 * s.clock) 3 ≤ s.clock; unfold ceilDiv; omega)]; rfl

/-- R23: a single access over an idle bus that crosses no link and does not stall completes. -/
theorem singleAccess_done {req : Req} {read : Bool} {addr : BitVec 16} {data : List Word} {e : AccessEnv} {x y : Txn} {t : State}
    (h : s.live = true) (hi : s.busIdle = true) (hx : s.newTxn read addr 1 data = x) (hc : s.crosses x = false)
    (ha : (s.granted req x e).txnAccess req e x = (t, y)) (hy : y.left = 0) (ht : t.live = true)
    (hw : (t.modAccess (fun a => { a with open_ := s.access.open_, read := y.out })).busWants = []) :
    s.singleAccess req read addr data e = t.modAccess (fun a => { a with open_ := s.access.open_, read := y.out }) := by
  rw [singleAccess_idle h hi]
  have hl : x.left = 1 := by rw [← hx]; rfl
  have hxn : { x with wait := .none, envs := [] } = x := by rw [← hx]; rfl
  have hgr : (s.granted req x e).txnGranted req { x with wait := .bus s.clock, envs := [e] } = (t, y) := by
    rw [txnGranted_local (s := s.granted req x e) (x := { x with wait := .bus s.clock, envs := [e] }) (by rw [hl]; decide) hc]
    simp only [List.headD_cons, List.drop_succ_cons, List.drop_zero]
    rw [hxn, ha]
  have hr : t.txnRequest y = y := by unfold State.txnRequest; simp [hy]
  simp only
  rw [hx, busGrant_single (v := t) (y := y) List.getElem?_concat_length ((congrArg (fun z => State.txnGranted z req _) granted_grant).trans hgr), hr, keepAccess_off ht hy]
  have e2 : ∀ l : List (Req × Txn), l = s.access.open_ →
      t.modAccess (fun c => { c with open_ := l, read := y.out }) = t.modAccess (fun a => { a with open_ := s.access.open_, read := y.out }) :=
    fun l h => by rw [h]
  rw [e2 _ (by simp [State.modAccess]), busRun_none hw]

/-- A single access that no grant can serve stays out of the requests that wait. -/
theorem busWants_other {f : Nat} {req : Req} {x : Txn} (h : s.busWants = []) (hx : x.onBus = none) :
    (s.modAccess (fun a => { a with open_ := a.open_ ++ [(req, x)], freeAt := f })).busWants = [] := by
  unfold State.busWants at *
  simp only [List.append_eq_nil_iff, List.map_eq_nil_iff] at h
  obtain ⟨⟨⟨h1, h2⟩, h3⟩, h4⟩ := h
  simp only [State.modAccess, List.zipIdx_append, List.filterMap_append, h1, h2, h3, h4, List.map_nil, List.nil_append, List.append_nil]
  simp [hx]

/-- R23, R40: a single access over an idle bus that stalls at once stays under way. -/
theorem singleAccess_stalls {req : Req} {read : Bool} {addr : BitVec 16} {data : List Word} {e : AccessEnv} {x y : Txn}
    (h : s.live = true) (hi : s.busIdle = true) (hx : s.newTxn read addr 1 data = x) (hc : s.crosses x = false)
    (ha : (s.granted req x e).txnAccess req e x = (s.granted req x e, y)) (hy : y.left ≠ 0) (hw : y.wait = .held) :
    s.singleAccess req read addr data e =
      s.modAccess (fun a => { a with open_ := a.open_ ++ [(req, y)], freeAt := 3 * s.clock + busSlot }) := by
  rw [singleAccess_idle h hi]
  have hl : x.left = 1 := by rw [← hx]; rfl
  have hxn : { x with wait := .none, envs := [] } = x := by rw [← hx]; rfl
  have hgr : (s.granted req x e).txnGranted req { x with wait := .bus s.clock, envs := [e] } = (s.granted req x e, y) := by
    rw [txnGranted_local (s := s.granted req x e) (x := { x with wait := .bus s.clock, envs := [e] }) (by rw [hl]; decide) hc]
    simp only [List.headD_cons, List.drop_succ_cons, List.drop_zero]
    rw [hxn, ha]
  have hr : (s.granted req x e).txnRequest y = y := by unfold State.txnRequest; simp [hw]
  have hlive : (s.granted req x e).live = true := h
  simp only
  rw [hx, busGrant_single (v := s.granted req x e) (y := y) List.getElem?_concat_length
    ((congrArg (fun z => State.txnGranted z req _) granted_grant).trans hgr), hr, keepAccess_on hlive hy]
  have e2 : ∀ l : List (Req × Txn), l = s.access.open_ ++ [(req, y)] →
      (s.granted req x e).modAccess (fun c => { c with open_ := l }) =
        s.modAccess (fun a => { a with open_ := a.open_ ++ [(req, y)], freeAt := 3 * s.clock + busSlot }) :=
    fun l h => by rw [h]; rfl
  rw [e2 _ (by simp [State.modAccess])]
  exact busRun_none (busWants_other (busIdle_wants hi).1 (by unfold Txn.onBus; rw [hw]))

/-- R23, R36: a single access over an idle bus to a block on a GD die goes onto the gate link at once. -/
theorem singleAccess_waits {req : Req} {read : Bool} {addr : BitVec 16} {data : List Word} {e : AccessEnv} {x : Txn}
    (h : s.live = true) (hi : s.busIdle = true) (hx : s.newTxn read addr 1 data = x) (hc : s.crosses x = true) :
    s.singleAccess req read addr data e = s.modAccess (fun a => { a with
      open_ := a.open_ ++ [(req, { x with wait := .link s.clock, envs := [e] })], freeAt := 3 * s.clock + busSlot }) := by
  rw [singleAccess_idle h hi]
  have hl : x.left = 1 := by rw [← hx]; rfl
  have hgr : (s.granted req x e).txnGranted req { x with wait := .bus s.clock, envs := [e] } =
      (s.granted req x e, { x with wait := .link s.clock, envs := [e] }) :=
    txnGranted_link (s := s.granted req x e) (x := { x with wait := .bus s.clock, envs := [e] }) (by rw [hl]; decide) hc
  have hr : (s.granted req x e).txnRequest { x with wait := .link s.clock, envs := [e] } =
      { x with wait := .link s.clock, envs := [e] } := by
    unfold State.txnRequest; simp
  have hlive : (s.granted req x e).live = true := h
  simp only
  rw [hx, busGrant_single (v := s.granted req x e) (y := { x with wait := .link s.clock, envs := [e] })
      List.getElem?_concat_length ((congrArg (fun z => State.txnGranted z req _) granted_grant).trans hgr), hr,
    keepAccess_on (x := { x with wait := .link s.clock, envs := [e] }) hlive (show x.left ≠ 0 by rw [hl]; decide)]
  have e2 : (s.granted req x e).modAccess (fun c => { c with
      open_ := ((s.modAccess (fun a => { a with open_ := a.open_ ++ [(req, { x with wait := .bus s.clock, envs := [e] })] })).access.open_.take
          s.access.open_.length) ++ [(req, { x with wait := .link s.clock, envs := [e] })] ++
        ((s.modAccess (fun a => { a with open_ := a.open_ ++ [(req, { x with wait := .bus s.clock, envs := [e] })] })).access.open_.drop
          (s.access.open_.length + 1)) }) =
      s.modAccess (fun a => { a with
        open_ := a.open_ ++ [(req, { x with wait := .link s.clock, envs := [e] })], freeAt := 3 * s.clock + busSlot }) := by
    simp [State.granted, State.modAccess]
  rw [e2]
  exact busRun_none (busWants_other (busIdle_wants hi).1 rfl)

end Sys2Proof.Machine
end

