-- ==== Sys2Proof/Laws/LegsOnly.lean ====
section
/-! SUPPORT. What legs taking up their requests changes: the legs, their dies, and the BOTH_ON bits of LEG_STAT. -/

namespace Sys2Proof.Machine

open Sys2Proof

/-- From `s` to `t` only legs, dies and LEG_STAT registers have changed, and those only as `LegsFollow` says. -/
structure LegsOnly (s t : State) : Prop where
  variant : t.variant = s.variant
  power : t.power = s.power
  clock : t.clock = s.clock
  tsBase : t.tsBase = s.tsBase
  frame : t.frame = s.frame
  lastEngine : t.lastEngine = s.lastEngine
  lastMotion : t.lastMotion = s.lastMotion
  free : t.free = s.free
  fm : t.fm = s.fm
  box : t.box = s.box
  regions : t.regions = s.regions
  carriers : t.carriers = s.carriers
  wireTests : t.wireTests = s.wireTests
  leakTests : t.leakTests = s.leakTests
  seqs : t.seqs = s.seqs
  cores : t.cores = s.cores
  meas : t.meas = s.meas
  calRuns : t.calRuns = s.calRuns
  cmps : t.cmps = s.cmps
  audit : t.audit = s.audit
  inv : t.inv = s.inv
  invOp : t.invOp = s.invOp
  pins : t.pins = s.pins
  jtag : t.jtag = s.jtag
  engs : t.engs = s.engs
  engine : t.engine = s.engine
  axes : t.axes = s.axes
  chans : t.chans = s.chans
  compares : t.compares = s.compares
  larder : t.larder = s.larder
  ladder : t.ladder = s.ladder
  planner : t.planner = s.planner
  comps : t.comps = s.comps
  guard : t.guard = s.guard
  seq : t.seq = s.seq
  flash : t.flash = s.flash
  hp : t.hp = s.hp
  prt : t.prt = s.prt
  hatch : t.hatch = s.hatch
  stock : t.stock = s.stock
  access : t.access = s.access
  pending : t.pending = s.pending
  leg : ∀ l : LegId, t.legs[l].still = s.legs[l].still
  die : ∀ d : DieId, t.dies[d].still = s.dies[d].still
  events : ∀ d : DieId, s.dies[d].events <+: t.dies[d].events
  stat : ∀ (q : Quad) (m : Fin 8) (hi lo : Nat), hi < (F.LG_LEG_STAT_BOTH_ON q m).lo ∨ (F.LG_LEG_STAT_BOTH_ON q m).hi < lo →
    t.fld ⟨R.LG_LEG_STAT q m, hi, lo⟩ = s.fld ⟨R.LG_LEG_STAT q m, hi, lo⟩
  reg : ∀ k, (∀ q m, k ≠ R.LG_LEG_STAT q m) → t.reg k = s.reg k

namespace LegsOnly

variable {s t : State}

theorem refl : LegsOnly s s := ⟨rfl, rfl, rfl, rfl, rfl, rfl, rfl, rfl, rfl, rfl, rfl, rfl, rfl, rfl, rfl, rfl, rfl, rfl, rfl, rfl, rfl, rfl, rfl, rfl, rfl, rfl, rfl, rfl, rfl, rfl, rfl, rfl, rfl, rfl, rfl, rfl, rfl, rfl, rfl, rfl, rfl, rfl, fun _ => rfl, fun _ => rfl, fun _ => List.prefix_rfl, fun _ _ _ _ _ => rfl, fun _ _ => rfl⟩

theorem bothOn {q : Quad} {m : Fin 8} {b : Bool} (h : LegsOnly s t) : LegsOnly s (t.setFlag (F.LG_LEG_STAT_BOTH_ON q m) b) :=
  ⟨h.variant, h.power, h.clock, h.tsBase, h.frame, h.lastEngine, h.lastMotion, h.free, h.fm, h.box, h.regions, h.carriers, h.wireTests, h.leakTests, h.seqs, h.cores, h.meas, h.calRuns, h.cmps, h.audit, h.inv, h.invOp, h.pins, h.jtag, h.engs, h.engine, h.axes, h.chans, h.compares, h.larder, h.ladder, h.planner, h.comps, h.guard, h.seq, h.flash, h.hp, h.prt, h.hatch, h.stock, h.access, h.pending, h.leg, h.die, h.events,
    fun q' m' hi lo ha => by
      by_cases e : R.LG_LEG_STAT q' m' = R.LG_LEG_STAT q m
      · have e' : hi < (F.LG_LEG_STAT_BOTH_ON q m).lo ∨ (F.LG_LEG_STAT_BOTH_ON q m).hi < lo := ha
        rw [fld_setFlag_apart (f := F.LG_LEG_STAT_BOTH_ON q m) (g := ⟨R.LG_LEG_STAT q' m', hi, lo⟩) ⟨Nat.le_refl 3, by show 3 < 36; omega⟩ e']
        exact h.stat q' m' hi lo ha
      · rw [fld_setFlag_key (f := F.LG_LEG_STAT_BOTH_ON q m) (g := ⟨R.LG_LEG_STAT q' m', hi, lo⟩) e]
        exact h.stat q' m' hi lo ha,
    fun j hj => (reg_setFld_ne (fun e => hj q m e)).trans (h.reg j hj)⟩

theorem modDie {i : Fin 2} {f : Die → Die} (h : LegsOnly s t) (hf : ∀ d, (f d).still = d.still)
    (he : t.dies[i].events <+: (f t.dies[i]).events) : LegsOnly s (t.modDie i f) :=
  ⟨h.variant, h.power, h.clock, h.tsBase, h.frame, h.lastEngine, h.lastMotion, h.free, h.fm, h.box, h.regions, h.carriers, h.wireTests, h.leakTests, h.seqs, h.cores, h.meas, h.calRuns, h.cmps, h.audit, h.inv, h.invOp, h.pins, h.jtag, h.engs, h.engine, h.axes, h.chans, h.compares, h.larder, h.ladder, h.planner, h.comps, h.guard, h.seq, h.flash, h.hp, h.prt, h.hatch, h.stock, h.access, h.pending, h.leg,
    fun d => by
      rw [modDie_dies, Fin.getElem_fin, Vector.getElem_set]
      split
      · rename_i e; have e : i = d := Fin.ext e; subst e; exact (hf _).trans (h.die i)
      · exact h.die d,
    fun d => by
      rw [modDie_dies, Fin.getElem_fin, Fin.getElem_fin, Vector.getElem_set]
      split
      · rename_i e; have e : i = d := Fin.ext e; subst e; exact (h.events i).trans he
      · exact h.events d,
    h.stat, h.reg⟩
theorem modLeg {i : Fin 32} {f : Leg → Leg} (h : LegsOnly s t) (hf : ∀ g, (f g).still = g.still) : LegsOnly s (t.modLeg i f) :=
  ⟨h.variant, h.power, h.clock, h.tsBase, h.frame, h.lastEngine, h.lastMotion, h.free, h.fm, h.box, h.regions, h.carriers, h.wireTests, h.leakTests, h.seqs, h.cores, h.meas, h.calRuns, h.cmps, h.audit, h.inv, h.invOp, h.pins, h.jtag, h.engs, h.engine, h.axes, h.chans, h.compares, h.larder, h.ladder, h.planner, h.comps, h.guard, h.seq, h.flash, h.hp, h.prt, h.hatch, h.stock, h.access, h.pending,
    fun d => by
      rw [modLeg_legs, Fin.getElem_fin, Vector.getElem_set]
      split
      · rename_i e; have e : i = d := Fin.ext e; subst e; exact (hf _).trans (h.leg i)
      · exact h.leg d,
    h.die, h.events, h.stat, h.reg⟩
theorem modSw {l : LegId} {hi : Bool} {f : Switch → Switch} (h : LegsOnly s t) (hf : ∀ w, (f w).still = w.still) :
    LegsOnly s (t.modSw l hi f) := by
  apply h.modLeg
  intro g
  unfold Leg.setSw Leg.sw Leg.still
  cases hi
  · simp only [hf, Bool.false_eq_true, if_false]
  · simp only [hf, if_true]
theorem raiseGD {d : DieId} {c o : Nat} {a : Option Nat} (h : LegsOnly s t) : LegsOnly s (t.raiseGD d c o a) := by
  unfold State.raiseGD; dsimp only; split
  · exact h
  · exact h.modDie (fun _ => rfl) ⟨_, rfl⟩

theorem openBlank {l : LegId} {k : Nat} (h : LegsOnly s t) : LegsOnly s (t.openBlank l k) := h.modDie (fun _ => rfl) List.prefix_rfl
theorem turnOff {l : LegId} {hi : Bool} {k : Nat} (h : LegsOnly s t) : LegsOnly s (t.turnOff l hi k) := by
  unfold State.turnOff; apply LegsOnly.openBlank; exact h.modSw (fun _ => rfl)
theorem turnOn {l : LegId} {hi : Bool} {k : Nat} (h : LegsOnly s t) : LegsOnly s (t.turnOn l hi k) := by
  unfold State.turnOn; apply LegsOnly.openBlank; exact h.modSw (fun _ => rfl)

theorem follow {l : LegId} {hi : Bool} {k : Nat} (h : LegsOnly s t) : LegsOnly s (t.follow l hi k) := by
  unfold State.follow; dsimp only
  split
  · split
    · exact h
    · exact h.modSw (fun _ => rfl)
  · split
    · exact h.turnOff
    · exact h.modSw (fun _ => rfl)

theorem bothOnCheck {l : LegId} (h : LegsOnly s t) : LegsOnly s (t.bothOnCheck l) := by
  unfold State.bothOnCheck; dsimp only
  split
  · apply LegsOnly.bothOn; apply LegsOnly.raiseGD; exact h.modLeg (fun _ => rfl)
  · exact h.modLeg (fun _ => rfl)

theorem settleAt {l : LegId} {k : Nat} (h : LegsOnly s t) : LegsOnly s (t.settleAt l k) := ((h.follow).follow).bothOnCheck
theorem settle {l : LegId} (h : LegsOnly s t) : LegsOnly s (t.settle l) := h.settleAt

theorem forEach {α : Type} {l : List α} {f : α → State → State} (h : LegsOnly s t)
    (hf : ∀ x u, LegsOnly s u → LegsOnly s (f x u)) : LegsOnly s (t.forEach l f) := by
  unfold State.forEach
  induction l generalizing t with
  | nil => exact h
  | cons a l ih => exact ih (hf a t h)

theorem settleAxis {n : AxisId} (h : LegsOnly s t) : LegsOnly s (t.settleAxis n) := h.forEach (fun _ _ g => g.settle)
theorem settleDie {d : DieId} (h : LegsOnly s t) : LegsOnly s (t.settleDie d) := h.forEach (fun _ _ g => g.settle)
theorem settleAll (h : LegsOnly s t) : LegsOnly s t.settleAll := h.forEach (fun _ _ g => g.settle)

theorem still_interlock (g : Leg) : g.interlock.still = g.still := by
  unfold Leg.interlock; split <;> rfl

/-- What a command that lets legs follow answers with. -/
theorem after {s₀ : State} (h : LegsOnly s t) (hc : s₀.clock ≤ s.clock) (hp : s.pending = s₀.pending) :
    LegsFollow s (s₀.after t) := by
  refine ⟨?_, h.die, h.events, ?_, ?_, ?_⟩
  · intro l
    rw [after_legs, Fin.getElem_fin, Vector.getElem_map, still_interlock]
    exact h.leg l
  · exact fun k hk => (after_reg _ _ k).trans (h.reg k hk)
  · exact fun q m hi lo ha => (after_fld _ _ _).trans (h.stat q m hi lo ha)
  · apply State.same
    all_goals first | exact rfl | exact h.lastEngine | skip
    · exact h.variant
    · exact h.power
    · show max s₀.clock t.clock = s.clock; rw [h.clock]; omega
    · exact h.tsBase
    · exact h.frame
    · exact h.lastMotion
    · exact h.free
    · exact h.fm
    · exact h.box
    · exact h.regions
    · exact h.carriers
    · exact h.wireTests
    · exact h.leakTests
    · exact h.seqs
    · exact h.cores
    · exact h.meas
    · exact h.calRuns
    · exact h.cmps
    · exact h.audit
    · exact h.inv
    · exact h.invOp
    · exact h.pins
    · exact h.jtag
    · exact h.engs
    · exact h.engine
    · exact h.axes
    · exact h.chans
    · exact h.compares
    · exact h.larder
    · exact h.ladder
    · exact h.planner
    · exact h.comps
    · exact h.guard
    · exact h.seq
    · exact h.flash
    · exact h.hp
    · exact h.prt
    · exact h.hatch
    · exact h.stock
    · exact h.access
    · exact hp.symm

end LegsOnly

end Sys2Proof.Machine
end

