-- ==== Sys2Proof/WellFormed.lean ====
section
/-! DEFINITION. Which commands are well formed: operands that stand for something the module can meet. -/

namespace Sys2Proof

/-- R325: a disturbance flips bits of the 48 bytes of a line. -/
def Disturb.fits (d : Disturb) : Bool := d.first.all (fun e => decide (e.1 < 48)) && d.again.all (fun e => decide (e.1 < 48))

/-- The widths of IPv4 header fields. -/
def IpHdr.fits (h : IpHdr) : Bool := decide (h.version < 16) && decide (h.ihl < 16) && decide (h.frag < 8192)

/-- The widths of the fields of a PTP message. -/
def PtpMsg.fits (m : PtpMsg) : Bool := decide (m.domain < 256) && decide (m.seq < 65536)

/-- R345, R346: what a frame carries fits its length. -/
def Frame.fits (f : Frame) : Bool :=
  match f.body with
  | .icmp h _ data => h.fits && decide (data.length + 46 ≤ f.bytes)
  | .udp h _ _ _ payload => h.fits && decide (payload.length + 46 ≤ f.bytes)
  | .ptp h m => h.fits && m.fits
  | .ipOther h => h.fits
  | .arp .. | .pause | .other => true

/-- The command is well formed. -/
def Instr.wellFormed : Instr → Bool
  | .linkCycle _ errs => decide (errs ≤ 200)
  | .faultRecord .. => true
  | .registerWrite .. => true
  | .rhRead .. => true
  | .crossDomainReturn .. => true
  | .crossDomainTimeout .. => true
  | .stocktake .. => true
  | .stocktakeCapture .. => true
  | .stocktakeConfirm .. => true
  | .stocktakeMissing => true
  | .timestampWrap => true
  | .reset .. => true
  | .boot .. => true
  | .slotCheckEnd .. => true
  | .check .. => true
  | .apply .. => true
  | .applySlotA .. => true
  | .applySlotB .. => true
  | .programA .. => true
  | .programB .. => true
  | .verifyA .. => true
  | .verifyB .. => true
  | .invAbort .. => true
  | .invCheckEnd .. => true
  | .applyComplete .. => true
  | .partialApplyComplete .. => true
  | .programComplete .. => true
  | .gatePowerUpdate .. => true
  | .vgLow .. => true
  | .vgRecover .. => true
  | .floatingSupplyLow .. => true
  | .floatingSupplyReady .. => true
  | .commandedEdge .. => true
  | .switchTurnOn .. => true
  | .gateTimeout .. => true
  | .shortConfirm .. => true
  | .softHoldEnd .. => true
  | .retryWaitEnd .. => true
  | .clearLeg .. => true
  | .wireTest .. => true
  | .wireTestStepEnd .. => true
  | .wireTestEnd .. => true
  | .leakTest .. => true
  | .leakCheckHourly .. => true
  | .leakCheckEnd .. => true
  | .lgSave .. => true
  | .relearn .. => true
  | .readmit .. => true
  | .lgAbort .. => true
  | .legCfgWrite .. => true
  | .carrierReload .. => true
  | .groupArrival .. => true
  | .delayCalibration _ cells temp => decide (cells < 128) && decide (-2048 ≤ temp) && decide (temp < 2048)
  | .coarseTimeout .. => true
  | .hallEdge .. => true
  | .tripLatch .. => true
  | .blankEnd .. => true
  | .clearTrip .. => true
  | .pwSave .. => true
  | .outcfgWrite .. => true
  | .pclkLoss .. => true
  | .pclkReturn .. => true
  | .holdLimitExpiry .. => true
  | .adcTrigger .. => true
  | .conversionEnd .. => true
  | .housekeepingConversion .. => true
  | .hkPeriodEnd .. => true
  | .adcResult .. => true
  | .calZero .. => true
  | .calFull .. => true
  | .calClear .. => true
  | .adcAbort .. => true
  | .calComplete .. => true
  | .comparatorTick levels => decide (levels.length = 64) && levels.all (fun v => decide (v < 4096))
  | .comparatorActive _ _ level => decide (level < 4096)
  | .comparatorRelease _ _ level => decide (level < 4096)
  | .audit .. => true
  | .autoAudit .. => true
  | .auditEnd .. => true
  | .cmpSave .. => true
  | .cmpAbort .. => true
  | .cmpCfgWrite .. => true
  | .engineFrame => true
  | .motionFrame env => decide (env.cmda.length = 4) && decide (env.vaux < 65536) && decide (-2048 ≤ env.tempLd) && decide (env.tempLd < 2048)
  | .slotStart .. => true
  | .slotOverrun .. => true
  | .storeScrub .. => true
  | .speedEstStale .. => true
  | .winDataAccess .. => true
  | .applyCoef .. => true
  | .coefBatchApply => true
  | .discard .. => true
  | .engAbort .. => true
  | .arm .. => true
  | .cfReadyTimeout .. => true
  | .checkingEnd .. => true
  | .disarm .. => true
  | .disarmRampEnd .. => true
  | .stop .. => true
  | .qstop .. => true
  | .moveAbs .. => true
  | .moveRel .. => true
  | .velocity .. => true
  | .clear .. => true
  | .unlatch .. => true
  | .reacquire .. => true
  | .reacquireTimeout .. => true
  | .learn .. => true
  | .learnEnd .. => true
  | .align .. => true
  | .alignHoldEnd .. => true
  | .axisPreset .. => true
  | .axisSave .. => true
  | .axisAbort .. => true
  | .profileAtRest .. => true
  | .atTarget .. => true
  | .stopTimeout .. => true
  | .standbyDelay .. => true
  | .holdSettle .. => true
  | .transferDone .. => true
  | .quadratureEdge .. => true
  | .toothEdge .. => true
  | .lineBreak .. => true
  | .lineBreakClear .. => true
  | .ssiRead .. => true
  | .ssiReadEnd _ _ raw _ => decide (raw < 2 ^ 40)
  | .speedTimeout .. => true
  | .clearSuspect .. => true
  | .fbPreset .. => true
  | .fbSave .. => true
  | .unref .. => true
  | .cpoArm .. => true
  | .cpoStop .. => true
  | .fire .. => true
  | .cpoSave .. => true
  | .pulseEnd .. => true
  | .compareLineArrival .. => true
  | .start .. => true
  | .hold .. => true
  | .resume .. => true
  | .plnSave .. => true
  | .plnAbort .. => true
  | .blockRead .. => true
  | .override .. => true
  | .dwellEnd => true
  | .waitIoTimeout => true
  | .programEnd .. => true
  | .syncArrival .. => true
  | .syncArmRepeat => true
  | .syncGo => true
  | .syncTimeout => true
  | .groupHoldInstant => true
  | .streamTimeout .. => true
  | .larderInit .. => true
  | .lineRead _ dist => dist.all Disturb.fits
  | .scrubRead dist => dist.all Disturb.fits
  | .eccHour => true
  | .refresh => true
  | .dramTemp .. => true
  | .hoistWindowAccess .. => true
  | .pointerWrite .. => true
  | .lineCommit _ _ dist => dist.all Disturb.fits
  | .gatherTimeout .. => true
  | .flush .. => true
  | .fill .. => true
  | .copy .. => true
  | .crc .. => true
  | .hstAbort _ words => decide (words < 2 ^ 30)
  | .hoistOpEnd _ dist => dist.all Disturb.fits
  | .ethernetFrame _ _ _ f => f.fits
  | .arp .. => true
  | .icmpEcho .. => true
  | .arpAge => true
  | .macAge => true
  | .linkUp .. => true
  | .linkLost .. => true
  | .ptpSync .. => true
  | .ptpMessage .. => true
  | .ptpSyncTimeout => true
  | .ptpMasterSend => true
  | .ladderFrame .. => true
  | .discover .. => true
  | .discoverResponse .. => true
  | .status .. => true
  | .regRead .. => true
  | .regWrite .. => true
  | .hoistRead .. => true
  | .hoistWrite .. => true
  | .stream .. => true
  | .syncArm .. => true
  | .event .. => true
  | .eventRepeat => true
  | .stocktakeAt .. => true
  | .sessionExpiry => true
  | .partnerDiscover => true
  | .heartbeat => true
  | .partnerAbsent .. => true
  | .quarantineExpiry => true
  | .endSession .. => true
  | .clearQuar .. => true
  | .ladSave .. => true
  | .ptpSecRead .. => true
  | .hpRead .. => true
  | .hpWrite _ cmd _ data _ _ _ _ => decide (data.length = bitsOf cmd.toNat 25 16 + 1)
  | .hpPing .. => true
  | .hpWordReady .. => true
  | .selectRelease .. => true
  | .overclock .. => true
  | .portStart .. => true
  | .portDeferredStart .. => true
  | .portXferEnd .. => true
  | .portRdyTimeout .. => true
  | .busyRetry .. => true
  | .portFlush .. => true
  | .portSave .. => true
  | .portAbort .. => true
  | .portDataAccess .. => true
  | .stepEdge .. => true
  | .enaEdge .. => true
  | .hatchPairOpen .. => true
  | .hatchPairValid .. => true
  | .cmdaCalZero .. => true
  | .cmdaCalEnd _ sum => decide (sum.natAbs ≤ 8192 * 131072)
  | .hatSave .. => true
  | .hatAbort .. => true
  | .prechargeStart .. => true
  | .prechargeDone .. => true
  | .prechargeTimeout => true
  | .vmReversed .. => true
  | .inletUnblock .. => true
  | .brakeIneffective => true
  | .brakeHeatSave .. => true
  | .stopInput .. => true
  | .stopDelayEnd => true
  | .stopbBackstop .. => true
  | .stopDiscrepancy => true
  | .trapdoorShortTimeout .. => true
  | .gateLinkLoss .. => true
  | .gateLinkReturn .. => true
  | .replaceReasonClear .. => true
  | .pop .. => true
  | .faultFlush .. => true
  | .fltSave .. => true
  | .keyDataWrite .. => true
  | .keyProgram .. => true
  | .keyProgramEnd .. => true
  | .ringDataAccess .. => true
  | .lifetimeUpdate .. => true
  | .powerUp .. => true
  | .pllLock .. => true
  | .strongboxRead .. => true
  | .powerOff .. => true
  | .brownout .. => true
  | .brownoutRecovery .. => true
  | .rstN .. => true
  | .resetEnd .. => true
  | .resetShortTimeout => true
  | .pllLoss .. => true
  | .pllRelock .. => true
  | .pllLossTimeout => true
  | .extest .. => true
  | .idcode .. => true
  | .samplePreload .. => true
  | .highz .. => true
  | .clamp .. => true
  | .debugHalt .. => true
  | .debugRun .. => true
  | .bypass .. => true
  | .testLogicReset .. => true
  | .stopInputHigh .. => true
  | .vminBelow5v .. => true
  | .cmdaEdge .. => true

end Sys2Proof
end

