-- ==== Sys2Proof/Tests/Slice0.lean ====
section
/-! SUPPORT. Tests: ill-formed commands refused; examples and tables of the manual; and for every statement with
hypotheses a theorem that shows concrete states and operands that meet them, clause by clause. -/

open Sys2Proof Sys2Proof.Machine

section

/-! The kernel evaluates these tests one after another. -/
set_option Elab.async false

namespace Sys2Proof.Tests

/-- A running module with an Inventory of nothing. -/
def inv0 : Inventory :=
  { imageId := 7, for8836 := true, vgGd0 := false, vgGd1 := false, axes := [], pins := [], inletEn := true, brkEn := true,
    loops := [], sched := [], prot := ⟨0, 0, 0, 0, 0, 0, 0, 0, []⟩, feeds := [], hts := [], cmdas := [], ports := [],
    ladder := none, comps := [], cals := [] }

/-- The PLL has lock and the module is in power state `p`. -/
def at_ (p : Power) : State :=
  (({ State.reset with power := p } : State).setFlag F.CLK_PLL_STAT_LOCK true).setFlag F.SYS_STATUS_PLL_LOCK true

def bare : State := at_ .bare
def run0 : State := { at_ .configured with inv := some inv0 }

/-- Axis 0 is a two-phase stepper on LEG0 to LEG3 of quadrant 0, halt class HOLD. -/
def inv1 : Inventory :=
  { inv0 with
    axes := [⟨0, 0, 0, 0, true, false, 0⟩], sched := [⟨0, 3, false, 0, 100⟩],
    prot := ⟨0, 0, 0, 0, 0, 0, 0, 7, [⟨0, 10, 3, 1000, true, 0⟩]⟩ }

def cfg1 : State := { at_ .configured with inv := some inv1 }

/-- A module that runs `inv1`, with axis 0 in state `st` and both stop inputs high. -/
def ax (st : Nat) : State :=
  (((cfg1.setFld ⟨R.INV_LEG_MAP 0, 31, 0⟩ 0xFFFF0000).setFld (F.AX_STATE_STATE 0) st).setFlag
    F.FLT_STATUS_STOP_A true).setFlag F.FLT_STATUS_STOP_B true

/-- A shelf (Table 3.2). -/
def shelf (typ inst : Nat) (body : List Nat) : List Word :=
  let s0 : Word := BitVec.ofNat 36 (typ * 2 ^ 20 + inst * 256)
  let s1 : Word := BitVec.ofNat 36 body.length
  let b := body.map (BitVec.ofNat 36)
  s0 :: s1 :: BitVec.ofNat 36 (crc32Words (s0 :: s1 :: b)) :: b

/-- An image of shelves with its header (Table 3.1), pad and trailer under the blank key (R59, R60). -/
def image (flags count id : Nat) (shelves : List Word) : List Word :=
  let len := (8 + shelves.length + 9) / 2 * 2
  let h := [0xD1F0A7E45, 0x100, len, flags, count, id, 0].map (BitVec.ofNat 36)
  let ws := (h ++ [BitVec.ofNat 36 (crc32Words h)] ++ shelves ++ [0]).take (len - 8)
  ws ++ (List.range 8).map (fun i => BitVec.ofNat 36 (beNat (((hmac (List.replicate 32 0) (packWords ws)).drop (4 * i)).take 4)))

/-- The LOOP body of an open-loop axis: HMOD on input word 0 of AX0, COMMIT, END (Tables 3.9, 7.2, 7.3, 7.6). -/
def loopBody : List Nat :=
  [0, 200, 2000, 600, 600, 5, 0, 3, 0, 0x23 * 2 ^ 30, 0x10085 * 2 ^ 18 + 0x30000, 0x25 * 2 ^ 30, 0x30000, 0x3F * 2 ^ 30, 0, 0, 0]

/-- One two-phase stepper, AX0 on LEG0 to LEG3. -/
def shelves0 : List Word :=
  shelf 1 0 [0x10, 50 * 2 ^ 12] ++ shelf 2 0 (List.replicate 33 0) ++ shelf 3 0 loopBody ++ shelf 4 0 [1 * 2 ^ 29 + 1000, 250] ++
    shelf 5 0 [1700 * 2 ^ 18 + 200, 0, 0, 0, 50, 100 * 2 ^ 23 + 3 * 2 ^ 20 + 20 * 2 ^ 14 + 2 ^ 13] ++ shelf 11 0
    ([4] ++ [0, 1, 2, 3].flatMap (fun i => [i * 2 ^ 30 + 5000, 60000 * 2 ^ 18 + 65536]))

def img0 : List Word := image 3 6 0x77 shelves0

/-- A partial image that replaces the LOOP of AX0. -/
def img1 : List Word := image 11 1 0x78 (shelf 3 0 loopBody)

/-- Every open session's counter is below `n`. -/
theorem sessions_below {s : State} {n : Nat} (h : s.ladder.slots.all (fun o => o.all (fun e => decide (e.sent < n))) = true)
    (i : Nat) (e : Session) (hs : s.session i = some e) : e.sent < n := by
  unfold State.session at hs
  cases hg : s.ladder.slots[i]? with
  | none => simp [hg] at hs
  | some o =>
    simp [hg] at hs
    subst hs
    have := List.all_eq_true.mp h _ (List.mem_of_getElem? hg)
    simpa using this

end Sys2Proof.Tests

namespace Sys2Proof.Tests

/-! ### Commands that are not well formed -/

/-- R17 takes counts of link errors up to 200 in a cycle. -/
theorem test_ill_formed_link : (Instr.linkCycle 0 201).wellFormed = false := by decide

/-- A cell count of seven bits and a temperature of twelve. -/
theorem test_ill_formed_calibration : (Instr.delayCalibration 0 128 0).wellFormed = false ∧
    (Instr.delayCalibration 0 48 2048).wellFormed = false := by decide

/-- Sixty-four levels of twelve bits. -/
theorem test_ill_formed_comparators : (Instr.comparatorTick [1]).wellFormed = false ∧
    (Instr.comparatorTick (List.replicate 64 4096)).wellFormed = false ∧
    (Instr.comparatorActive 0 3 4096).wellFormed = false ∧ (Instr.comparatorRelease 0 3 4096).wellFormed = false := by decide

/-- Four inputs, sixteen bits of VAUX, twelve of temperature. -/
theorem test_ill_formed_frame : (Instr.motionFrame ⟨0, 0, 0, 0, [], 0⟩).wellFormed = false ∧
    (Instr.motionFrame ⟨0, 65536, 0, 0, [0, 0, 0, 0], 0⟩).wellFormed = false ∧
    (Instr.motionFrame ⟨2048, 0, 0, 0, [0, 0, 0, 0], 0⟩).wellFormed = false := by decide

/-- Readings, sums and counts past their widths. -/
theorem test_ill_formed_counts : (Instr.ssiReadEnd 0 0 (2 ^ 40) false).wellFormed = false ∧
    (Instr.hstAbort 0 (2 ^ 30)).wellFormed = false ∧ (Instr.cmdaCalEnd 0 (2 ^ 31)).wellFormed = false := by decide

/-- A disturbance of byte 48 of a line, which has 48. -/
theorem test_ill_formed_disturbance : (Instr.lineRead 0 [⟨1, [(48, 1)], []⟩]).wellFormed = false ∧
    (Instr.scrubRead [⟨1, [(48, 1)], []⟩]).wellFormed = false ∧
    (Instr.lineCommit 0 true [⟨1, [], [(48, 1)]⟩]).wellFormed = false ∧
    (Instr.hoistOpEnd 0 [⟨1, [], [(48, 1)]⟩]).wellFormed = false := by decide

/-- A payload longer than its frame. -/
theorem test_ill_formed_ethernet :
    (Instr.ethernetFrame 0 0 0 ⟨0, 0, 60, false, true, .icmp ⟨4, 5, true, false, 0, 0, 0⟩ true (List.replicate 15 0)⟩).wellFormed
      = false := by decide

/-- A WRITE of one word (COUNT 0) that brings none. -/
theorem test_ill_formed_host_write : (Instr.hpWrite 0 0x20000000B 0 [] 0 82 false []).wellFormed = false := by decide

/-- No row of the table gives bits: no word spells a command. -/
theorem test_no_word_spells_a_command : decodeTableWord 36 0x20000000B = none := by decide

/-! ### Worked examples and tables of the manual -/

/-- R33, the SCRATCH example: 0x0_03C0_0050 masked into 0x1_2345 gives 0x1_2355. -/
theorem test_masked_write : mergeWord 0xFFFFFFFFF 0 true 0x12345 0x03C00050 = 0x12355 := by decide

/-- R49: 0xD_1F0A_7E45 and 0x0_0000_0100 pack to D1 F0 A7 E4 50 00 00 01 00. -/
theorem test_pack : packWords [0xD1F0A7E45, 0x100] = [0xD1, 0xF0, 0xA7, 0xE4, 0x50, 0, 0, 1, 0] := by decide

/-- R52: the CRC-32 of "123456789" is 0xCBF4_3926. -/
theorem test_crc32 : crc32 [0x31, 0x32, 0x33, 0x34, 0x35, 0x36, 0x37, 0x38, 0x39] = 0xCBF43926 := by decide +kernel

/-- R378: the CRC-16 of "123456789" is 0x29B1. -/
theorem test_crc16 : [0x31, 0x32, 0x33, 0x34, 0x35, 0x36, 0x37, 0x38, 0x39].foldl (fun c b => crc16Num 8 b c) 0xFFFF = 0x29B1 := by
  decide +kernel

/-- FIPS 180-4: the digest of "abc" begins BA78 16BF. -/
theorem test_digest : (sha256 [0x61, 0x62, 0x63]).take 4 = [0xBA, 0x78, 0x16, 0xBF] := by decide +kernel

/-- The line of the R327 example before its check bytes. -/
def exampleLine : List Nat :=
  packWords [0x106000078, 0x006400000, 0xFF0600000, 0, 0, 0, 0, 0x5000] ++ [0x00, 0x40, 0x00, 0x02, 0xA5, 0xF3]

/-- R327, R328: the example's syndromes, and the three bits that the decoder clears. -/
theorem test_line_correction :
    let l := exampleLine ++ rsCheck exampleLine
    let bad := l.set 33 0x01 |>.set 34 0x51 |>.set 35 0x01
    rsSyndromes bad = [0x01, 0x59, 0x91, 0xA5, 0x0F, 0x59] ∧ (rsDecode bad).map (·.1) = some l ∧
      lineEcho l = 0x100000 ∧ lineStamp l = 0x2A5F3 := by decide +kernel

/-- R176: 180.0 V and 110.0 V have the codes 3686 and 2253. -/
theorem test_comparator_codes : vmCode 1800 = 3686 ∧ vmCode 1100 = 2253 := by decide

/-- R166: 78 800 under OFFSET −37 and GAIN 81 705 gives 98 288. -/
theorem test_calibrate : calibrate (-37) 81705 78800 = 98288 := by decide

/-- R412: 0.625 of 1200 full steps/s is 20 132 659 in units of the profile. -/
theorem test_analog_velocity : cmdaVel ⟨0, true, 0, 8, 1200⟩ (20000, 32000) = 20132659 := by decide

/-- Table 12.4: the replay window from H = 1000, nothing seen. -/
theorem test_replay_window :
    (windowTake 1000 1 1001).map (·.1) = some 1001 ∧
    (windowTake 1001 3 990).map (·.1) = some 1001 ∧
    windowTake 1001 (3 + 2 ^ 11) 990 = none ∧
    windowTake 1001 (3 + 2 ^ 11) 937 = none ∧
    (windowTake 1001 (3 + 2 ^ 11) 938).map (·.1) = some 1001 := by decide

/-- R380, R25: the fields of the command word 0x1_4001_9025. -/
theorem test_host_command : hpLanes 0x140019025 = 4 ∧ hpAddr 0x140019025 = 0x9025 := by decide

/-- R33, the SCRATCH example as one command of the host. -/
theorem test_scratch_write :
    (match exec (.registerWrite 5 .hp 0x020B 0x03C00050 ⟨true, [], 0, ⟨0, false⟩⟩) (run0.setReg R.SYS_SCRATCH 0x12345) with
      | .next t => t.reg R.SYS_SCRATCH
      | _ => 0) = 0x12355 := by decide +kernel

/-- The module idles on an empty queue. -/
theorem test_idle : step run0 = .next run0 := rfl

end Sys2Proof.Tests

namespace Sys2Proof.Tests.W01

def pend : State := { run0.setFlag F.SYS_STOCK_DONE_PENDING true with stock := ⟨9000, some (true, true), 0⟩ }
def pend2 : State := { run0.setFlag F.SYS_STOCK_DONE_PENDING true with stock := ⟨9000, some (true, false), 0⟩ }
def stk : Msg := ⟨1, 2, some 0, 10, false, 1, 0, 2, packWords [0, 20000], 0, 5⟩
def pend3 : State := { pend.setFlag F.LAD_STATUS_PTP_LOCKED true with ladder := { run0.ladder with txns := [stk] } }

/-- StocktakeRunsAndTimestampWraps: states and operands that meet the hypotheses of each clause. -/
theorem witness_StocktakeRunsAndTimestampWraps :
    (run0.reach 0 = true ∧ run0.flag F.SYS_STOCK_DONE_PENDING = false) ∧
    (run0.live = true) ∧
    (pend.live = true ∧ pend.flag F.SYS_STOCK_DONE_PENDING = true ∧ (pend.stock.caught = some (true, true)) ∧
      (true = true ∨ pend.hasDie 1 = false)) ∧
    (pend2.live = true ∧ pend2.flag F.SYS_STOCK_DONE_PENDING = true ∧ (pend2.stock.caught = some (true, false)) ∧
      (true = false ∨ false = false ∧ pend2.hasDie 1 = true)) :=
  ⟨by decide +kernel,
   by decide +kernel,
   by decide +kernel,
   by decide +kernel⟩

/-- PendingStocktakeRefusesRequests: states and operands that meet the hypotheses of each clause. -/
theorem witness_PendingStocktakeRefusesRequests :
    (pend.reach 0 = true ∧ pend.flag F.SYS_STOCK_DONE_PENDING = true) ∧
    (pend.flag F.SYS_STOCK_DONE_PENDING = true) ∧
    (pend3.ladder.txns = [stk] ∧ stk.typ = 10 ∧ pend3.ptpLocked = true ∧ pend3.flag F.SYS_STOCK_DONE_PENDING = true ∧
      { pend3 with clock := pend3.clock + 5 }.instantAt ((unpackWords 1 stk.body).getD 0 0) ((unpackWords 1 stk.body).getD 1 0) = some 10000 ∧ ↑stk.at_ + 4000 ≤ 10000 ∧ 10000 ≤ ↑stk.at_ + 50000000 ∧
      pend3.ladder.ending = none) :=
  ⟨by decide +kernel,
   by decide +kernel,
   by decide +kernel⟩

/-- WritesMergeByAccessCode: states and operands that meet the hypotheses of each clause. -/
theorem witness_WritesMergeByAccessCode : 2 < 36 ∧ 3 &&& 4 = 0 := by decide +kernel

/-- RegisterWriteLoadsScratch: states and operands that meet the hypotheses of each clause. -/
theorem witness_RegisterWriteLoadsScratch : bare.live = true ∧ bare.busIdle = true := by decide +kernel

end Sys2Proof.Tests.W01

namespace Sys2Proof.Tests.W02

def hot : State := { run0.setFlag F.SYS_STOCK_DONE_PENDING true with stock := ⟨4005, none, 0⟩ }
def hole : Txn := run0.newTxn false 15 1 [5]
def lgRead : Txn := { run0.newTxn true 0x8010 1 [] with wait := .link 100 }
def openS : State := { run0 with access := ⟨[(.hp, lgRead)], [], 0, []⟩, clock := 100 }
def evs : State := { run0 with clock := 1003, dies := run0.dies.set 0 { run0.dies[0] with
  adcUp := run0.dies[0].adcUp, events := (List.range 10).map (fun i => ⟨0x301, i, 1, none, 900 + i, false⟩) } }
def keyOn : State := run0.setFld ⟨R.BOX_OP_STAT, 4, 0⟩ 1

/-- StocktakeCopiesCounters: states and operands that meet the hypotheses of each clause. -/
theorem witness_StocktakeCopiesCounters : hot.live = true ∧ hot.flag F.SYS_STOCK_DONE_PENDING = true ∧
    hot.stock.caught = none := by decide +kernel

/-- UnmappedAndHolesReadZero: states and operands that meet the hypotheses of each clause. -/
theorem witness_UnmappedAndHolesReadZero :
    (run0.live = true ∧ run0.busIdle = true ∧ run0.implemented (64512 / 1024) = false) ∧
    (run0.live = true ∧ run0.busIdle = true ∧ run0.implemented (64512 / 1024) = false ∧ run0.access.open_ = []) ∧
    (run0.implemented hole.blk = true ∧ run0.specAt hole.blk hole.off = none ∧ (¬(hole.blk = 7 ∧ hole.off < 256))) :=
  ⟨by decide +kernel,
   by decide +kernel,
   by decide +kernel⟩

/-- StalledAccessesReturnOrTimeOut: states and operands that meet the hypotheses of each clause. -/
theorem witness_StalledAccessesReturnOrTimeOut :
    (run0.live = true ∧ run0.busIdle = true ∧ run0.access.open_ = [] ∧ (¬(run0.flag F.SYS_STOCK_DONE_PENDING = true ∧
      run0.stock.due ≤ run0.clock + 5 + 4000))) ∧
    (run0.live = true ∧ run0.busIdle = true ∧ run0.power ≠ Power.bare ∧ run0.implemented (32784 / 1024) = true ∧
      (blockDie (32784 / 1024)).isSome = true) ∧
    (hot.live = true ∧ hot.busIdle = true ∧ hot.access.open_ = [] ∧ hot.flag F.SYS_STOCK_DONE_PENDING = true ∧
      hot.stock.due ≤ hot.clock + 5 + 4000) ∧
    (openS.live = true ∧ openS.busIdle = true ∧ openS.power ≠ Power.bare ∧ (openS.access.open_ = [(Req.hp, lgRead)]) ∧
      lgRead.wait = Stall.link 100 ∧ lgRead.left = 1 ∧ lgRead.read = true ∧ lgRead.out = [] ∧
      blockDie lgRead.blk = some 0 ∧ openS.implemented lgRead.blk = true ∧ openS.linked lgRead.blk = true ∧
      (openS.specAt lgRead.blk lgRead.off = some ({ off := 16, cnt := 8, stride := 1, kind := RegKind.plain, rw := 0, w1c := 0, reset := 0 } : RegSpec)) ∧ (({ off := 16, cnt := 8, stride := 1, kind := RegKind.plain, rw := 0, w1c := 0, reset := 0 } : RegSpec).kind = RegKind.plain) ∧ openS.clock + 4999 < 100 + 5000 ∧ (openS.linkUse 0 (openS.clock + 4999)).down + 16 ≤ 288 ∧
      (openS.linkUse 0 (openS.clock + 4999)).up + 36 ≤ 112) ∧
    (openS.live = true ∧ openS.busIdle = true ∧ (openS.access.open_ = [(Req.hp, lgRead)]) ∧
      lgRead.wait = Stall.link 100 ∧ lgRead.left = 1 ∧ lgRead.read = true ∧ lgRead.out = []) :=
  ⟨by decide +kernel,
   by decide +kernel,
   by decide +kernel,
   by decide +kernel,
   by decide +kernel⟩

/-- LinkCycleCarriesEarliestEvents: states and operands that meet the hypotheses of each clause. -/
theorem witness_LinkCycleCarriesEarliestEvents : evs.live = true ∧ evs.busIdle = true ∧ evs.hasDie 0 = true ∧
    evs.dies[0].linkLost = false := by decide +kernel

/-- StepRunsFrontCommand: states and operands that meet the hypotheses of each clause. -/
theorem witness_StepRunsFrontCommand :
    (({ run0 with pending := [Instr.eccHour] }).pending = [Instr.eccHour]) ∧
    (run0.pending = []) :=
  ⟨by decide +kernel,
   by decide +kernel⟩

/-- EveryStepKeepsLegsAndTime: states and operands that meet the hypotheses of each clause. -/
theorem witness_EveryStepKeepsLegsAndTime : ({ evs with pending := [Instr.linkCycle 0 3] }).legsSafe = true :=
    by decide +kernel

/-- ResetsKeepWhatTheManualNames: states and operands that meet the hypotheses of each clause. -/
theorem witness_ResetsKeepWhatTheManualNames :
    (run0.reach 0 = true ∧ run0.opBusy R.BOX_OP_STAT = false) ∧
    ((¬run0.power ∈ [Power.off, Power.brownout, Power.reset]) ∧ run0.opBusy R.BOX_OP_STAT = false) ∧
    (({ run0 with power := Power.brownout }).power = Power.brownout ∧
      ({ run0 with power := Power.brownout }).opBusy R.BOX_OP_STAT = false) ∧
    (({ run0.setFlag F.CLK_PLL_STAT_LOCK false with seq := { run0.seq with lossAt := some 7 } }).seq.lossAt = some 7 ∧
      ({ run0.setFlag F.CLK_PLL_STAT_LOCK false with seq := { run0.seq with lossAt := some 7 } }).flag F.CLK_PLL_STAT_LOCK = false ∧
      ({ run0.setFlag F.CLK_PLL_STAT_LOCK false with seq := { run0.seq with lossAt := some 7 } }).opBusy R.BOX_OP_STAT = false) ∧
    ((¬keyOn.power ∈ [Power.off, Power.brownout, Power.reset]) ∧ keyOn.opBusy R.BOX_OP_STAT = true) ∧
    (({ keyOn with seq := { run0.seq with waitKey := true } }).opBusy R.BOX_OP_STAT = true ∧
      ({ keyOn with seq := { run0.seq with waitKey := true } }).seq.waitKey = true) :=
  ⟨by decide +kernel,
   by decide +kernel,
   by decide +kernel,
   by decide +kernel,
   by decide +kernel,
   by decide +kernel⟩

end Sys2Proof.Tests.W02

namespace Sys2Proof.Tests.W03

def off0 : State := { State.reset with power := .off }
def lostPll : State := { (ax 3).setFlag F.CLK_PLL_STAT_LOCK false with
   seq := { (ax 3).seq with lossAt := some 7 } }
def broken : State :=
    { ax 3 with dies := (ax 3).dies.set 0 { (ax 3).dies[0] with linkLost := true, onBackup := true, holdSince := some 4 } }
def jt (i : JtagInstr) (h : Bool) : State := { run0 with jtag := ⟨i, h, 0⟩ }
def keyed : State :=
    { (run0.setFld F.BOX_KEY_CRC_CRC (keyCrc (keyOf [1,2,3,4,5,6,7,8]))) with guard := { run0.guard with keyWords := [1,2,3,4,5,6,7,8] } }
def keyBusy : State := run0.setFld ⟨R.BOX_OP_STAT, 4, 0⟩ 1
def inl (v : Nat) : State := run0.setFld F.FLT_SUPPLY_INLET_STATE v
def brk : State := { run0.setRegBit R.CMP_OUT_HI 26 true with guard := { run0.guard with brkSince := some 9 } }
def stopping : State :=
    { ((ax 4).setFlag (F.AX_STATE_FAULT_STOP 0) true) with guard := { (ax 4).guard with stopAt := some 9, differAt := some 9 } }
def lowB : State := { ax 3 with dies := (ax 3).dies.set 0 { (ax 3).dies[0] with stopbLowAt := some 9 } }

/-- StartUpAndPowerOff: states and operands that meet the hypotheses of each clause. -/
theorem witness_StartUpAndPowerOff :
    (off0.power = Power.off) ∧
    (run0.power ≠ Power.off) ∧
    ((State.reset.power ∈ [Power.start, Power.reset]) ∧ State.reset.flag F.CLK_PLL_STAT_LOCK = false ∧
      State.reset.seq.waitKey = false) ∧
    ((at_ Power.start).power = Power.start ∧ (at_ Power.start).flag F.CLK_PLL_STAT_LOCK = true) ∧
    ((at_ Power.reset).power = Power.reset ∧ (at_ Power.reset).flag F.CLK_PLL_STAT_LOCK = true ∧
      (at_ Power.reset).seq.waitKey = false) ∧
    ((at_ Power.loading).power = Power.loading ∧ (at_ Power.loading).larderReady = false ∧
      (at_ Power.loading).flag F.LDC_STATUS_INIT_FAIL = false) :=
  ⟨by decide +kernel,
   by decide +kernel,
   by decide +kernel,
   by decide +kernel,
   by decide +kernel,
   by decide +kernel⟩

/-- LostClocksAndLinksActByHaltClass: states and operands that meet the hypotheses of each clause. -/
theorem witness_LostClocksAndLinksActByHaltClass :
    ((ax 3).flag F.CLK_PLL_STAT_LOCK = true ∧ (ax 3).power ≠ Power.off) ∧
    ((ax 3).hasDie 0 = true ∧ (ax 3).dies[0].onBackup = false ∧ (ax 3).power ≠ Power.off) ∧
    ((ax 3).fmRuns = true ∧ (ax 3).hasDie 0 = true ∧ (ax 3).dies[0].linkLost = false) ∧
    (lostPll.seq.lossAt = some 7 ∧ lostPll.flag F.CLK_PLL_STAT_LOCK = false ∧ lostPll.clock + 5 ≤ 7 + 4000000) ∧
    (broken.dies[0].linkLost = true) ∧
    (broken.dies[0].onBackup = true ∧ broken.flag F.CLK_PLL_STAT_LOCK = true) ∧
    (broken.dies[broken.axisDie 0].holdSince = some 4 ∧ broken.firstLeg 0 = some 0 ∧
      broken.dies[broken.axisDie 0].haltActs = true ∧ broken.holdClass 0 = true ∧ broken.axisOn 0 = true ∧
      broken.carriers[0].holdOff = false) :=
  ⟨by decide +kernel,
   by decide +kernel,
   by decide +kernel,
   by decide +kernel,
   by decide +kernel,
   by decide +kernel,
   by decide +kernel⟩

/-- TestAccessPortInstructions: states and operands that meet the hypotheses of each clause. -/
theorem witness_TestAccessPortInstructions :
    ((jt JtagInstr.bypass false).power ≠ Power.off ∧ (jt JtagInstr.bypass false).jtag.holdsOff = false) ∧
    ((jt JtagInstr.bypass false).power ≠ Power.off ∧ (jt JtagInstr.bypass false).jtag.holdsOff = false ∧
      ((Instr.highz 5, JtagInstr.highz) ∈ [(Instr.extest 5, JtagInstr.extest), (Instr.highz 5, JtagInstr.highz),
      (Instr.clamp 5, JtagInstr.clamp)])) ∧
    ((¬(jt JtagInstr.bypass false).power ∈ [Power.off, Power.reset]) ∧
      (jt JtagInstr.bypass false).jtag.holdsOff = false ∧ (jt JtagInstr.bypass false).jtag.halted = false) ∧
    ((jt JtagInstr.bypass true).power ≠ Power.off ∧ (jt JtagInstr.bypass true).jtag.holdsOff = false ∧
      (jt JtagInstr.bypass true).jtag.halted = true) ∧
    ((jt JtagInstr.extest false).power ≠ Power.off ∧ (jt JtagInstr.extest false).jtag.holdsOff = true ∧
      (Instr.idcode 5 ∈ [Instr.idcode 5, Instr.samplePreload 5, Instr.bypass 5])) :=
  ⟨by decide +kernel,
   ⟨by decide +kernel, by decide +kernel, by simp⟩,
   by decide +kernel,
   by decide +kernel,
   ⟨by decide +kernel, by decide +kernel, by simp⟩⟩

/-- SiteKeyRingAndLifetime: states and operands that meet the hypotheses of each clause. -/
theorem witness_SiteKeyRingAndLifetime :
    (run0.reach 3 = true) ∧
    (run0.reach 3 = true ∧
      (run0.opBusy R.BOX_OP_STAT = true ∨ run0.flag F.BOX_STATUS_KEY_SET = true ∨ run0.guard.keyWords.length ≠ 8 ∨ run0.allDisabled = false)) ∧
    (run0.fmRuns = true) ∧
    (keyed.reach 3 = true ∧ keyed.opBusy R.BOX_OP_STAT = false ∧ keyed.flag F.BOX_STATUS_KEY_SET = false ∧
      keyed.guard.keyWords.length = 8 ∧ keyOf keyed.guard.keyWords ≠ 0 ∧ keyed.allDisabled = true ∧
      keyCrc (keyOf keyed.guard.keyWords) = keyed.fld F.BOX_KEY_CRC_CRC) ∧
    (keyBusy.opBusy R.BOX_OP_STAT = true ∧ keyBusy.seq.waitKey = false) :=
  ⟨by decide +kernel,
   by decide +kernel,
   by decide +kernel,
   by decide +kernel,
   by decide +kernel⟩

/-- InletAndBrake: states and operands that meet the hypotheses of each clause. -/
theorem witness_InletAndBrake :
    ((inl 0).inletEnabled = true ∧ (inl 0).inlet = 0 ∧ (inl 0).guard.inletWait = false ∧
      (inl 0).flag F.FLT_STATUS_VM_REVERSED = false) ∧
    ((inl 0).fmRuns = true ∧ (inl 0).flag F.FLT_STATUS_VM_REVERSED = false) ∧
    ((inl 0).fmRuns = true) ∧
    ((inl 1).inlet = 1 ∧ (inl 1).clock + 5 ≤ (inl 1).guard.inletAt + 100000000) ∧
    ((inl 1).inlet = 1) ∧
    ((inl 3).inlet = 3 ∧ (inl 3).inletEnabled = true) ∧
    (brk.guard.brkSince = some 9 ∧ brk.guard.brkTold = false ∧ brk.cmpOut 58 = true) :=
  ⟨by decide +kernel,
   by decide +kernel,
   by decide +kernel,
   by decide +kernel,
   by decide +kernel,
   by decide +kernel,
   by decide +kernel⟩

/-- StopInputsStopEveryAxis: states and operands that meet the hypotheses of each clause. -/
theorem witness_StopInputsStopEveryAxis :
    ((ax 3).fmRuns = true ∧ (ax 3).flag (stopFld false) = true ∧ (ax 3).stopLow = false) ∧
    (((ax 3).setFlag F.FLT_STATUS_STOP_A false).fmRuns = true ∧
      ((ax 3).setFlag F.FLT_STATUS_STOP_A false).flag (stopFld true) = true ∧
      ((ax 3).setFlag F.FLT_STATUS_STOP_A false).stopLow = true) ∧
    (((ax 3).setFlag F.FLT_STATUS_STOP_B false).fmRuns = true ∧
      ((ax 3).setFlag F.FLT_STATUS_STOP_B false).flag (stopFld true) = false) ∧
    (stopping.guard.stopAt = some 9) ∧
    (stopping.guard.differAt = some 9 ∧ stopping.inv = some inv1 ∧ stopping.flag F.FLT_STATUS_STOP_DISC = false) ∧
    (lowB.dies[0].stopbLowAt = some 9 ∧ lowB.dies[0].backstop = false ∧ lowB.hasDie 0 = true) :=
  ⟨by decide +kernel,
   by decide +kernel,
   by decide +kernel,
   by decide +kernel,
   by decide +kernel,
   by decide +kernel⟩

end Sys2Proof.Tests.W03

namespace Sys2Proof.Tests.W04

def s0 := ax 0
def ev (c : Nat) (ac : Bool) : Event := ⟨c, 3, 0, some 0, 90, ac⟩
def inb (st : Nat) (l : List Event) (q : List FaultRec) : State := { ax st with clock := 100, fm := ⟨l, q, []⟩ }
def f1 := inb 3 [ev 0x121 false, ev 0x201 false] []
def f2 := inb 3 [ev 0x204 false] []
def f2' := inb 3 [ev 0x804 true] []
def f4 := inb 3 [ev 0x201 false] ((List.range 63).map (fun i => (f2.recordOf (ev (0x300 + i) false))))
def f5 := inb 3 [ev 0x101 false] []
def rea2 : State := (run0.setRegBit R.SYS_REPLACE_WHY 2 true).setFlag F.SYS_STATUS_REPLACE true
def short3 : State :=
    { (ax 0).setFld ⟨R.FLT_TRAP_STAT, 35, 0⟩ 0x10100 with legs := (ax 0).legs.map (fun l => { l with policy := some true }), seq := { (ax 0).seq with shorts := [(0, 0, 0)] } }
def boxed : State := (ax 3).setFlag F.BOX_STATUS_READY true

/-- SaveStoresARecordOfItsGroup: states and operands that meet the hypotheses of each clause. -/
theorem witness_SaveStoresARecordOfItsGroup :
    (((fun ok ↦ Instr.pwSave 5 1 ok, 36 + 1, pwSaveKeys 1) ∈ [(fun ok ↦ Instr.pwSave 5 1 ok, 36 + 1, pwSaveKeys 1),
      (fun ok ↦ Instr.axisSave 5 0 ok, 16 + 0, axisSaveKeys 0), (fun ok ↦ Instr.fbSave 5 2 ok, 24 + 2, [R.FB_CFG 2]),
      (fun ok ↦ Instr.cpoSave 5 ok, 13, cpoSaveKeys), (fun ok ↦ Instr.plnSave 5 ok, 9, plnSaveKeys),
      (fun ok ↦ Instr.ladSave 5 ok, 6, [R.LAD_CFG, R.LAD_RATE]), (fun ok ↦ Instr.portSave 5 1 ok, 5, prtSaveKeys),
      (fun ok ↦ Instr.fltSave 5 ok, 4, fltSaveKeys)]) ∧
      (s0.reach (fun ok ↦ Instr.pwSave 5 1 ok, 36 + 1, pwSaveKeys 1).snd.fst = true) ∧ s0.planned 0 = true) ∧
    (((fun ok ↦ Instr.lgSave 5 1 ok, 32 + 1, R.LG_OP_STAT 1, 4, lgSaveKeys 1) ∈ [(fun ok ↦ Instr.lgSave 5 1 ok,
      32 + 1, R.LG_OP_STAT 1, 4, lgSaveKeys 1), (fun ok ↦ Instr.cmpSave 5 ok, 11, R.CMP_OP_STAT, 2, cmpSaveKeys),
      (fun ok ↦ Instr.hatSave 5 ok, 12, R.HAT_OP_STAT, 2, hatSaveKeys)]) ∧
      (s0.reach (fun ok ↦ Instr.lgSave 5 1 ok, 32 + 1, R.LG_OP_STAT 1, 4, lgSaveKeys 1).snd.fst = true) ∧
      (s0.opBusy (fun ok ↦ Instr.lgSave 5 1 ok, 32 + 1, R.LG_OP_STAT 1, 4, lgSaveKeys 1).snd.snd.fst = false)) :=
  ⟨⟨by simp, by decide +kernel, by decide +kernel⟩,
   ⟨by simp, by decide +kernel, by decide +kernel⟩⟩

/-- FaultManagerQueuesEventsAndReasons: states and operands that meet the hypotheses of each clause. -/
theorem witness_FaultManagerQueuesEventsAndReasons :
    (firstEvent f1.fm.inbox = some (ev 289 false) ∧ f1.fmRuns = true ∧ f1.earlierOnDie (ev 289 false) = false) ∧
    (f4.reach 4 = true ∧
      ((Instr.pop 5, List.drop 1 f4.fm.queue) ∈ [(Instr.pop 5, List.drop 1 f4.fm.queue), (Instr.faultFlush 5, [])])) ∧
    (firstEvent f5.fm.inbox = some (ev 257 false) ∧ f5.fmRuns = true ∧ f5.earlierOnDie (ev 257 false) = false ∧
      ev 257 false ∈ f5.fm.inbox) ∧
    (rea2.fmRuns = true ∧ bitOf (BitVec.toNat (rea2.reg R.SYS_REPLACE_WHY)) 2 = true ∧
      (rea2.pass 5).reasonOver 2 = true) :=
  ⟨by decide +kernel,
   by decide +kernel,
   by decide +kernel,
   by decide +kernel⟩

/-- TrapdoorTimeLimitsAndBrownout: states and operands that meet the hypotheses of each clause. -/
theorem witness_TrapdoorTimeLimitsAndBrownout :
    (short3.planned 0 = true ∧ short3.shorted 0 = true) ∧
    (short3.seq.shorts ≠ []) ∧
    (boxed.power ≠ Power.off ∧ boxed.power ≠ Power.brownout) :=
  ⟨by decide +kernel,
   by decide +kernel,
   by decide +kernel⟩

end Sys2Proof.Tests.W04

namespace Sys2Proof.Tests.W05

def cmpS : State :=
    { (((((ax 0).setFld (F.CMP_CFG_MODE 3) 2).setFld (F.CMP_CFG_QUAL 3) 1).setFld (F.CMP_CFG_MODE 4) 1).setFld (F.CMP_CFG_MODE 5) 3).setFld (F.CMP_CFG_ACTION 4) 1 with
  cmps := ((ax 0).cmps.set 4 ⟨.continuous, 0, 0, 0⟩).set 5 ⟨.sampled, 0, 0, 0⟩, audit := ⟨[(6, .command)], 0, 0⟩ }
def cmpS1 : State := { cmpS with cmps := cmpS.cmps.set 3 ⟨.sampled, 1, 0, 0⟩ }
def cont (j : Fin 64) (s : State) : State := { s with cmps := s.cmps.set j ⟨.continuous, 0, 0, 900⟩ }
def cmpOn : State := (cont 4 cmpS).setCmpOut 4 true
def cmpAuto : State := cmpS.setFlag F.CMP_AUDIT_CFG_AUTO true
def cmpAud2 : State := { cmpS with audit := ⟨[(6, .auto), (7, .command), (8, .startUp)], 0, 0⟩ }
def cmpOwned : State :=
    ((cmpS.setFld (F.CMP_CFG_AXIS 3) 0).setFlag (F.CMP_CFG_OWNED 3) true).setFld (F.AX_STATE_STATE 0) 3
def seqS : State := { ax 3 with seqs := (ax 3).seqs.set 0 ⟨[(0, 0), (0, 1)], 0⟩ }
def rq : ConvReq := ⟨1, false, false, 700, 0⟩
def hkS0 : State :=
    { seqS with clock := 800, cores := seqS.cores.set 5 { seqS.cores[5] with due := [3, 4], hkInputs := 0xc, hkPeriod := 2 } }
def calC : State := { seqS with clock := 800, calRuns := seqS.calRuns.set 0 (some ⟨1, 0, 4, 0, 0, 3, 5⟩) }
def calC2 : State :=
    { calC with cores := seqS.cores.set 0 { seqS.cores[0] with busy := some ({ rq with cal := true, input := 4 }, 700) } }
def hkS : State := { seqS with clock := 800, cores := seqS.cores.set 1 { seqS.cores[1] with due := [3, 4] } }
def cv : Conv := ⟨0, 1, false, 700, 700, 900, 77⟩
def adcS : State := { seqS with clock := 1800, dies := seqS.dies.set 0 { seqS.dies[0] with adcUp := [cv] } }
def calI : Inventory := { inv0 with cals := [⟨0, 4, 0, 100, 50000, 65536⟩] }
def calS : State :=
    { run0 with inv := some calI, box := { run0.box with cals := [(calKey 0 4 0, 0x000040005, 0x000050000, 100)] } }
def calB : State := calS.setFld ⟨R.AD_OP_STAT 0, 4, 0⟩ 1
def cd0 : CalDef := ⟨0, 4, 0, 100, 50000, 65536⟩
def calZ : State := { calB with calRuns := calB.calRuns.set 0 (some ⟨1, 0, 4, 0, 0, 0, 5000000⟩) }
def calF : State := { calB with calRuns := calB.calRuns.set 0 (some ⟨2, 0, 4, 0, 0, 0, 51200000⟩) }
def calF0 : State := { calB with calRuns := calB.calRuns.set 0 (some ⟨2, 0, 4, 0, 0, 0, 0⟩) }

/-- ComparatorsQualifyAndAct: states and operands that meet the hypotheses of each clause. -/
theorem witness_ComparatorsQualifyAndAct :
    (cmpS.live = true) ∧
    (cmpS1.cmpContinuous 58 = true ∧ cmpS1.cmpOut 58 = false ∧ cmpS1.cmpRaw 58 5 = true) ∧
    (cmpOn.cmpContinuous 4 = true ∧ cmpOn.cmpOut 4 = true ∧ cmpOn.cmpRaw 4 0 = false) :=
  ⟨by decide +kernel,
   by decide +kernel,
   by decide +kernel⟩

/-- ComparatorAuditsAndSettings: states and operands that meet the hypotheses of each clause. -/
theorem witness_ComparatorAuditsAndSettings :
    (cmpS.reach 11 = true ∧ cmpS.opBusy R.CMP_OP_STAT = false ∧
      ((if true = true then cmpIds.any fun j ↦ cmpS.auditAllowed j else cmpS.auditAllowed 3) = true)) ∧
    (cmpAuto.reach 11 = true ∧ cmpAuto.flag F.CMP_AUDIT_CFG_AUTO = true ∧ cmpAuto.autoAuditable 3 = true ∧
      ((cmpAuto.audit.todo.any fun e ↦ e.fst == 3) = false)) ∧
    (cmpAuto.reach 11 = true ∧ isSystem 3 = false ∧
      (true = true ∨ ∀ (n : AxisId), cmpAuto.cmpOwner 3 = some n → cmpAuto.axisSt n = stDisabled)) ∧
    (cmpS.audit.todo = [(6, AuditBy.command)]) ∧
    (((cmpAud2.setFld ({ key := R.CMP_OP_STAT, hi := 4, lo := 0 } : Fld) 1).reach 11 = true) ∧
      ((cmpAud2.setFld ({ key := R.CMP_OP_STAT, hi := 4, lo := 0 } : Fld) 1).opBusy R.CMP_OP_STAT = true)) ∧
    (cmpOwned.reach 11 = true ∧ isSystem 3 = false ∧ cmpOwned.cmpOwner 3 = some 0 ∧ cmpOwned.axisSt 0 ≠ stDisabled) :=
  ⟨by decide +kernel,
   by decide +kernel,
   by decide +kernel,
   by decide +kernel,
   by decide +kernel,
   by decide +kernel⟩

/-- ConversionsQueueRunAndArrive: states and operands that meet the hypotheses of each clause. -/
theorem witness_ConversionsQueueRunAndArrive :
    (seqS.live = true ∧ seqS.planned 0 = true) ∧
    (hkS0.live = true ∧ hkS0.hasDie ↑(coreDie 5) = true ∧ hkS0.cores[5].hkPeriod ≠ 0 ∧ 5 % 4 ≠ 0) ∧
    (calC.live = true ∧ calC.cores[0].due = [] ∧ calC.cores[0].busy = none ∧ calC.cores[0].queue = [] ∧
      (∀ (x : Nat), (calC.pass 5).nextTrigger 0 = some x → calC.clock + 5 + 200 ≤ x) ∧
      (calC.calRuns[coreDie 0] = some ({ op := 1, core := 0, input := 4, set := 0, since := 0, left := 3, sum := 5 } : CalRun)) ∧ (({ op := 1, core := 0, input := 4, set := 0, since := 0, left := 3, sum := 5 } : CalRun).core = 0) ∧
      (0 < ({ op := 1, core := 0, input := 4, set := 0, since := 0, left := 3, sum := 5 } : CalRun).left)) ∧
    ((calC2.cores[0].busy = some ({ rq with input := 4, cal := true }, 700)) ∧
      (({ rq with input := 4, cal := true }).input < 8)) ∧
    (hkS.live = true ∧ (hkS.cores[1].due = [3, 4]) ∧ hkS.cores[1].busy = none ∧ hkS.cores[1].queue = [] ∧
      (∀ (x : Nat), (hkS.pass 5).nextTrigger 1 = some x → hkS.clock + 5 + 200 ≤ x)) ∧
    (adcS.live = true ∧ adcS.dies[0].linkLost = false ∧ adcS.dies[0].adcUp = [cv] ∧ cv.core < 8 ∧
      (adcS.linkUse 0 adcS.clock).errs = 0 ∧
      (adcS.linkUse 0 (max adcS.clock (min (adcS.clock + 5) (cv.done + 250)))).adc < 10) :=
  ⟨by decide +kernel,
   by decide +kernel,
   by decide +kernel,
   by decide +kernel,
   by decide +kernel,
   by decide +kernel⟩

/-- CalibrationsStoreOrFail: states and operands that meet the hypotheses of each clause. -/
theorem witness_CalibrationsStoreOrFail :
    ((calSel 0 (4) = (0, 4, 0)) ∧ calS.reach (40 + 0) = true ∧ calS.opBusy (R.AD_OP_STAT 0) = false ∧
      (calS.calDef 0 4).isSome = true ∧ calS.inputInUse 0 4 = false ∧
      ((Instr.calZero 5 0 4, 1) ∈ [(Instr.calZero 5 0 4, 1), (Instr.calFull 5 0 4, 2)])) ∧
    ((calSel 0 (4) = (0, 4, 0)) ∧ calS.reach (40 + 0) = true ∧ calS.opBusy (R.AD_OP_STAT 0) = false ∧
      (calS.calDef 0 4).isSome = true ∧ calS.inputInUse 0 4 = false) ∧
    (calB.reach (40 + 0) = true ∧ calB.opBusy (R.AD_OP_STAT 0) = true) ∧
    ((calZ.calRuns[0] = some ({ op := 1, core := 0, input := 4, set := 0, since := 0, left := 0, sum := 5000000 } : CalRun)) ∧ (({ op := 1, core := 0, input := 4, set := 0, since := 0, left := 0, sum := 5000000 } : CalRun).left = 0) ∧ (calZ.calDef ({ op := 1, core := 0, input := 4, set := 0, since := 0, left := 0, sum := 5000000 } : CalRun).core ({ op := 1, core := 0, input := 4, set := 0, since := 0, left := 0, sum := 5000000 } : CalRun).input = some cd0) ∧
      (({ op := 1, core := 0, input := 4, set := 0, since := 0, left := 0, sum := 5000000 } : CalRun).op = 1)) ∧
    ((calF.calRuns[0] = some ({ op := 2, core := 0, input := 4, set := 0, since := 0, left := 0, sum := 51200000 } : CalRun)) ∧ (({ op := 2, core := 0, input := 4, set := 0, since := 0, left := 0, sum := 51200000 } : CalRun).left = 0) ∧ (calF.calDef ({ op := 2, core := 0, input := 4, set := 0, since := 0, left := 0, sum := 51200000 } : CalRun).core ({ op := 2, core := 0, input := 4, set := 0, since := 0, left := 0, sum := 51200000 } : CalRun).input = some cd0) ∧ (({ op := 2, core := 0, input := 4, set := 0, since := 0, left := 0, sum := 51200000 } : CalRun).op = 2) ∧ (calF.fullGain ({ op := 2, core := 0, input := 4, set := 0, since := 0, left := 0, sum := 51200000 } : CalRun) cd0 ({ op := 2, core := 0, input := 4, set := 0, since := 0, left := 0, sum := 51200000 } : CalRun).sum = some 65543) ∧
      (calF.calSet ({ op := 2, core := 0, input := 4, set := 0, since := 0, left := 0, sum := 51200000 } : CalRun).core ({ op := 2, core := 0, input := 4, set := 0, since := 0, left := 0, sum := 51200000 } : CalRun).input ({ op := 2, core := 0, input := 4, set := 0, since := 0, left := 0, sum := 51200000 } : CalRun).set = some (262149,
      327680))) ∧
    ((calF0.calRuns[0] = some ({ op := 2, core := 0, input := 4, set := 0, since := 0, left := 0, sum := 0 } : CalRun)) ∧ (({ op := 2, core := 0, input := 4, set := 0, since := 0, left := 0, sum := 0 } : CalRun).left = 0) ∧ (calF0.calDef ({ op := 2, core := 0, input := 4, set := 0, since := 0, left := 0, sum := 0 } : CalRun).core ({ op := 2, core := 0, input := 4, set := 0, since := 0, left := 0, sum := 0 } : CalRun).input = some cd0) ∧ (({ op := 2, core := 0, input := 4, set := 0, since := 0, left := 0, sum := 0 } : CalRun).op = 2) ∧
      (calF0.fullGain ({ op := 2, core := 0, input := 4, set := 0, since := 0, left := 0, sum := 0 } : CalRun) cd0 ({ op := 2, core := 0, input := 4, set := 0, since := 0, left := 0, sum := 0 } : CalRun).sum = none)) :=
  ⟨by decide +kernel,
   by decide +kernel,
   by decide +kernel,
   by decide +kernel,
   by decide +kernel,
   by decide +kernel⟩

end Sys2Proof.Tests.W05

namespace Sys2Proof.Tests.W06

def invS : State := ((ax 0).setFlag F.LDC_STATUS_READY true).setFld ⟨R.FLT_TRAP_STAT, 35, 0⟩ 0x100
def invN : State := invS.setFld (F.AX_STATE_STATE 0) 2
def invB : State := invS.setFld ⟨R.INV_OP_STAT, 4, 0⟩ 1
def ld : State := (at_ .loading).setFlag F.LDC_STATUS_READY true
def runOp (s : State) (op : Nat) : State := (s.setFld ⟨R.INV_OP_STAT, 4, 0⟩ 1).setFld ⟨R.INV_OP_STAT, 19, 16⟩ op
def slotS (op : Nat) : State := { runOp invS op with flash := (invS.flash.set 0 (slotOf img0)) }
def vA := slotS 7
def vN := runOp invS 7
def aA := slotS 3
def aN := runOp invS 3
def sA : State := runOp invS 1
def bo : State := { ld.setFld ⟨R.INV_OP_STAT, 4, 0⟩ 1 with invOp := { ld.invOp with boot := some [0, 1] }, flash := (ld.flash.set 0 (slotOf img0)) }

/-- InventoryOperationsStart: states and operands that meet the hypotheses of each clause. -/
theorem witness_InventoryOperationsStart :
    (invS.reach 2 = true ∧ invS.opBusy R.INV_OP_STAT = false ∧ invS.larderReady = true ∧
      invS.srcAddr < invS.variant.rbase ∧ invS.allQuiet = true ∧
      ((Instr.check 5, 1) ∈ [(Instr.check 5, 1), (Instr.apply 5, 2), (Instr.programA 5, 5), (Instr.programB 5, 6)])) ∧
    (invS.reach 2 = true ∧ invS.opBusy R.INV_OP_STAT = false ∧ invS.larderReady = true ∧ invS.allQuiet = true ∧
      ((Instr.applySlotA 5, 3, 1) ∈ [(Instr.applySlotA 5, 3, 1), (Instr.applySlotB 5, 4, 2)])) ∧
    (invS.reach 2 = true ∧ invS.opBusy R.INV_OP_STAT = false ∧
      ((Instr.verifyB 5, 8, 2) ∈ [(Instr.verifyA 5, 7, 1), (Instr.verifyB 5, 8, 2)])) ∧
    (invN.reach 2 = true ∧ invN.opBusy R.INV_OP_STAT = false ∧ invN.larderReady = true ∧ invN.allQuiet = false ∧
      ((Instr.applySlotB 5, 4) ∈ [(Instr.applySlotA 5, 3), (Instr.applySlotB 5, 4)])) ∧
    (invB.reach 2 = true ∧ invB.opBusy R.INV_OP_STAT = true ∧
      (Instr.check 5 ∈ [Instr.check 5, Instr.apply 5, Instr.applySlotA 5, Instr.applySlotB 5, Instr.programA 5,
      Instr.programB 5, Instr.verifyA 5, Instr.verifyB 5])) ∧
    (ld.power = Power.loading ∧ ld.live = true ∧ ld.larderReady = true ∧ ld.opBusy R.INV_OP_STAT = false) :=
  ⟨by decide +kernel,
   by decide +kernel,
   by decide +kernel,
   by decide +kernel,
   by decide +kernel,
   by decide +kernel⟩

/-- InventoryOperationsEnd: states and operands that meet the hypotheses of each clause. -/
theorem witness_InventoryOperationsEnd_0 : (vN.invRuns [1, 7, 8] = true) ∧
    ((vN.pass 5).invCheck (vN.lastOp R.INV_OP_STAT) true).2.isOk = false :=
  by decide +kernel

/-- InventoryOperationsEnd, a further clause. -/
theorem witness_InventoryOperationsEnd_1 : (aN.invRuns [2, 3, 4] = true) ∧ aN.invOp.partialImg = false ∧
    ((aN.pass 5).invCheck (aN.lastOp R.INV_OP_STAT) true).2.isOk = false :=
  by decide +kernel

/-- InventoryOperationsEnd, a further clause. -/
theorem witness_InventoryOperationsEnd_2 : sA.reach 2 = true ∧ sA.opBusy R.INV_OP_STAT = true ∧ sA.invOp.boot = none ∧
    (sA.lastOp R.INV_OP_STAT ∈ [1, 7, 8]) :=
  by decide +kernel

/-- InventoryOperationsEnd, a further clause. -/
theorem witness_InventoryOperationsEnd_3 : bo.live = true ∧ bo.power = Power.loading ∧
    (bo.invOp.boot = some [0, 1]) :=
  by decide +kernel


/-! ### The signatures of the two images, block by block -/

/-- A message under one half of an HMAC with the blank key. -/
def keyed (pad : Nat) (msg : List Nat) : List Nat := padded (List.replicate 64 pad ++ msg)

/-- Block `j` of a padded message. -/
def blockAt (msg : List Nat) (j : Nat) : List Nat := (msg.drop (64 * j)).take 64

/-- From digest `v` the blocks of a message from `j` on lead through the digests of a list. -/
def Leads (msg : List Nat) : Nat → Digest → List Digest → Prop
  | _, _, [] => True
  | j, v, w :: l => v.block (blockAt msg j) = w ∧ Leads msg (j + 1) w l

theorem blocks_of_leads (msg : List Nat) (l : List Digest) (v : Digest) (j : Nat) (h : Leads msg j v l) :
    v.blocks l.length (msg.drop (64 * j)) = l.foldl (fun _ w => w) v := by
  induction l generalizing v j with
  | nil => rfl
  | cons w l ih =>
    have h0 : v.block ((msg.drop (64 * j)).take 64) = w := h.1
    have h1 := ih w (j + 1) h.2
    simp only [List.length_cons, Digest.blocks, h0, List.drop_drop, List.foldl_cons]
    rw [show 64 * j + 64 = 64 * (j + 1) by omega]
    exact h1

/-- The bytes of a digest. -/
def hashOf (d : Digest) : List Nat := (d.front ++ d.back).flatMap (fun w => beBytes 4 w.toNat)

theorem sha_of_leads (m : List Nat) (l : List Digest) (hl : (padded m).length / 64 = l.length)
    (h : Leads (padded m) 0 Digest.start l) : sha256 m = hashOf (l.foldl (fun _ w => w) Digest.start) := by
  have hb := blocks_of_leads (padded m) l Digest.start 0 h
  unfold sha256 hashOf
  rw [hl]
  simp only [Nat.mul_zero, List.drop_zero] at hb
  rw [hb]

/-- HMAC with the blank key. -/
theorem hmac_blank (m h t : List Nat) (hi : sha256 (List.replicate 64 0x36 ++ m) = h)
    (ho : sha256 (List.replicate 64 0x5c ++ h) = t) : hmac (List.replicate 32 0) m = t := by
  subst hi; subst ho; rfl

/-- The signed bytes of image 0. -/
def body0 : List Nat := packWords (img0.take (img0.length - 8))

def in0_0 : Digest := ⟨[4099202733, 2535792975, 2430268064, 3742509290], [1692759311, 2744271233, 2185925419,
    4175449650]⟩
def in0_1 : Digest := ⟨[246782960, 734409369, 2597277048, 3099708733], [350103489, 498429889, 3735171446, 3356019817]⟩
def in0_2 : Digest := ⟨[2641011506, 3786336862, 2619277385, 2990408768], [3595449293, 2291665386, 2144102520,
    2245166336]⟩
def in0_3 : Digest := ⟨[2676087503, 1158022030, 2944357763, 1812061984], [2105978029, 1864250306, 2540085835,
    4269158315]⟩
def in0_4 : Digest := ⟨[2471733164, 2802248102, 2688119677, 3621007271], [3030135453, 865485731, 1701551805,
    2312689838]⟩
def in0_5 : Digest := ⟨[2248176982, 3764212153, 1707597399, 714916279], [969237942, 3476449205, 2814380718,
    326094935]⟩
def in0_6 : Digest := ⟨[2415192745, 3441192657, 677086386, 4287345531], [3886491324, 105563761, 3498766331,
    2301464474]⟩
def in0_7 : Digest := ⟨[2980959037, 2820187162, 2513286796, 2105187179], [3992972516, 1654978856, 4068589609,
    334729152]⟩

theorem in0_0_eq : Digest.block Digest.start (blockAt (keyed 0x36 body0) 0) = in0_0 := by decide +kernel
theorem in0_1_eq : Digest.block in0_0 (blockAt (keyed 0x36 body0) 1) = in0_1 := by decide +kernel
theorem in0_2_eq : Digest.block in0_1 (blockAt (keyed 0x36 body0) 2) = in0_2 := by decide +kernel
theorem in0_3_eq : Digest.block in0_2 (blockAt (keyed 0x36 body0) 3) = in0_3 := by decide +kernel
theorem in0_4_eq : Digest.block in0_3 (blockAt (keyed 0x36 body0) 4) = in0_4 := by decide +kernel
theorem in0_5_eq : Digest.block in0_4 (blockAt (keyed 0x36 body0) 5) = in0_5 := by decide +kernel
theorem in0_6_eq : Digest.block in0_5 (blockAt (keyed 0x36 body0) 6) = in0_6 := by decide +kernel
theorem in0_7_eq : Digest.block in0_6 (blockAt (keyed 0x36 body0) 7) = in0_7 := by decide +kernel

/-- The inner hash of image 0. -/
def hash0 : List Nat := hashOf in0_7

def out0_0 : Digest := ⟨[3548727311, 2059101303, 935970104, 1574446183], [2382641778, 1966355632, 3736610840,
    907888038]⟩
def out0_1 : Digest := ⟨[1783671095, 3374709808, 1268182464, 2395174600], [829073812, 273424414, 1749059072,
    1207728391]⟩

theorem out0_0_eq : Digest.block Digest.start (blockAt (keyed 0x5c hash0) 0) = out0_0 := by decide +kernel
theorem out0_1_eq : Digest.block out0_0 (blockAt (keyed 0x5c hash0) 1) = out0_1 := by decide +kernel

theorem inner0 : sha256 (List.replicate 64 0x36 ++ body0) = hash0 :=
  sha_of_leads _ [in0_0, in0_1, in0_2, in0_3, in0_4, in0_5, in0_6, in0_7] (by decide +kernel)
    ⟨in0_0_eq, in0_1_eq, in0_2_eq, in0_3_eq, in0_4_eq, in0_5_eq, in0_6_eq, in0_7_eq, trivial⟩

theorem tag0 : hmac (List.replicate 32 0) body0 = hashOf out0_1 :=
  hmac_blank _ _ _ inner0 (sha_of_leads _ [out0_0, out0_1] (by decide +kernel) ⟨out0_0_eq, out0_1_eq, trivial⟩)

/-- The signed bytes of image 1. -/
def body1 : List Nat := packWords (img1.take (img1.length - 8))

def in1_0 : Digest := in0_0
def in1_1 : Digest := ⟨[3411437819, 314607869, 1550968880, 1687254184], [1708495277, 2186368160, 2835258545,
    4268169465]⟩
def in1_2 : Digest := ⟨[533788410, 3067709396, 3903570970, 3288981557], [336850776, 2831932791, 3231078195,
    736392431]⟩
def in1_3 : Digest := ⟨[109776806, 3793927908, 2189696367, 4155423418], [3983803606, 1579910531, 3062770453,
    1552021224]⟩

theorem in1_0_eq : Digest.block Digest.start (blockAt (keyed 0x36 body1) 0) = in1_0 := by decide +kernel
theorem in1_1_eq : Digest.block in1_0 (blockAt (keyed 0x36 body1) 1) = in1_1 := by decide +kernel
theorem in1_2_eq : Digest.block in1_1 (blockAt (keyed 0x36 body1) 2) = in1_2 := by decide +kernel
theorem in1_3_eq : Digest.block in1_2 (blockAt (keyed 0x36 body1) 3) = in1_3 := by decide +kernel

/-- The inner hash of image 1. -/
def hash1 : List Nat := hashOf in1_3

def out1_0 : Digest := out0_0
def out1_1 : Digest := ⟨[3299669665, 314643522, 2787522141, 1939413810], [2000760668, 3046912874, 1012049205,
    512427060]⟩

theorem out1_0_eq : Digest.block Digest.start (blockAt (keyed 0x5c hash1) 0) = out1_0 := by decide +kernel
theorem out1_1_eq : Digest.block out1_0 (blockAt (keyed 0x5c hash1) 1) = out1_1 := by decide +kernel

theorem inner1 : sha256 (List.replicate 64 0x36 ++ body1) = hash1 :=
  sha_of_leads _ [in1_0, in1_1, in1_2, in1_3] (by decide +kernel)
    ⟨in1_0_eq, in1_1_eq, in1_2_eq, in1_3_eq, trivial⟩

theorem tag1 : hmac (List.replicate 32 0) body1 = hashOf out1_1 :=
  hmac_blank _ _ _ inner1 (sha_of_leads _ [out1_0, out1_1] (by decide +kernel) ⟨out1_0_eq, out1_1_eq, trivial⟩)


/-! ### The check of image 0 -/

theorem length0 : imgLength img0 = img0.length := by decide +kernel

theorem trailer0 : firstFail (trailerFails (List.replicate 32 0) img0) = none := by
  have h : imgTag (List.replicate 32 0) img0 (imgLength img0 - 8) = hashOf out0_1 := by rw [length0]; exact tag0
  unfold trailerFails
  simp only [h]
  decide +kernel

/-- The shelves of image 0, and where they end. -/
def parsed0 : List Shelf × Option Nat :=
    parseShelves (imgLength img0 - 8) (imgCount img0) 0 8 ((img0.drop 8).take (imgLength img0 - 8 - 8))

def ctx0 : ShelfCtx :=
  { variant := .lkm8836, strict := imgStrict img0, partialImg := false
    inv := inventoryOf (imgId img0) (bitsOf (img0.getD 3 0).toNat 0 0 = 1) parsed0.1 }

theorem header0 : firstFail (headerFails .lkm8836 img0) = none := by decide +kernel

theorem shelves0_pass :
    firstFail (ctx0.shelfFails Variant.lkm8836.rbase (imgLength img0 - 8) img0 parsed0.1 parsed0.2) = none :=
      by decide +kernel

theorem rules0_pass :
    firstRule (RuleCtx.rules { c := ctx0, l := parsed0.1, end_ := parsed0.2, userEnd := Variant.lkm8836.rbase, staged := none }) =
      none := by decide +kernel

theorem partial0 : imgPartial img0 = false := by decide +kernel

/-- Image 0 passes every check of R83, from a slot or staged at word 0. -/
theorem check0 (s : State) (src : ImgSource) (full : Bool) (hs : src = .slot ∨ src = .staged 0 false)
    (hv : s.variant = .lkm8836) (hk : s.imageKey = List.replicate 32 0) : (s.checkImage src full img0).isOk = true :=
      by
  have h2 := shelves0_pass
  have h3 := rules0_pass
  unfold ctx0 parsed0 at h2 h3
  unfold State.checkImage
  rw [hv, hk, header0, trailer0, partial0]
  rcases hs with rfl | rfl
  · simp only [Bool.false_and, h2, h3]; rfl
  · have h4 : decide (Variant.lkm8836.rbase < 0 + imgLength img0) = false := by decide +kernel
    simp only [Bool.false_and, h2, h3, h4]; rfl


/-! ### A slot that holds an image reads as that image -/

/-- What a run of bytes, stored from key `off` on but for those that read so unlisted, reads as. -/
theorem cells_read (d : Nat → Byte) (f : Nat × Nat → Option (Nat × Byte))
    (hf : ∀ b a, f (b, a) = if BitVec.ofNat 8 b = d a then none else some (a, BitVec.ofNat 8 b))
    (bs : List Nat) (off a : Nat) (hb : ∀ b ∈ bs, b < 256) :
    (Cells.read d ((bs.zipIdx off).filterMap f) a).toNat =
      if off ≤ a ∧ a < off + bs.length then bs.getD (a - off) 0 else (d a).toNat := by
  induction bs generalizing off with
  | nil => rw [if_neg (by simp)]; rfl
  | cons b bs ih =>
    have ih := ih (off + 1) (fun b h => hb b (List.mem_cons_of_mem _ h))
    have h0 : (BitVec.ofNat 8 b).toNat = b := by
      have := hb b (List.mem_cons_self ..)
      simp; omega
    have step : (Cells.read d (((b :: bs).zipIdx off).filterMap f) a).toNat =
        if a = off then b else (Cells.read d ((bs.zipIdx (off + 1)).filterMap f) a).toNat := by
      rw [List.zipIdx_cons, List.filterMap_cons, hf]
      by_cases he : BitVec.ofNat 8 b = d off
      · rw [if_pos he]
        by_cases ha : a = off
        · subst ha
          rw [if_pos rfl, ih, if_neg (by omega), ← he, h0]
        · rw [if_neg ha]
      · rw [if_neg he]
        by_cases ha : a = off
        · simp [Cells.read, ha, h0]
        · simp [Cells.read, ha]
    rw [step, ih]
    by_cases ha : a = off
    · subst ha
      rw [if_pos rfl, if_pos ⟨by omega, by simp⟩]
      simp
    · rw [if_neg ha]
      by_cases hr : off + 1 ≤ a ∧ a < off + 1 + bs.length
      · rw [if_pos hr, if_pos ⟨by omega, by simp; omega⟩, show a - off = a - (off + 1) + 1 by omega,
        List.getD_cons_succ]
      · rw [if_neg hr, if_neg (by simp; omega)]

theorem byte_ff (b : Nat) : (BitVec.ofNat 8 b = (0xFF : Byte)) = (b % 256 = 0xFF) := by
  rw [← BitVec.toNat_inj]; simp

theorem slot_bytes (s : State) (k : Fin 2) (ws : List Word) (m : Nat) (h : s.flash[k] = slotOf ws)
    (hb : ∀ b ∈ packWords ws, b < 256) (hm : m ≤ (packWords ws).length) :
    (List.range m).map (fun a => s.flashByte k a) = (packWords ws).take m := by
  apply List.ext_getElem
  · simp; omega
  · intro i h1 h2
    simp only [List.length_map, List.length_range] at h1
    simp only [List.getElem_map, List.getElem_range, List.getElem_take, State.flashByte, h]
    unfold slotOf
    rw [cells_read (fun _ => (0xFF : Byte)) _ (fun b a => by simp only [byte_ff]) _ 0 i hb, if_pos ⟨by omega,
      by omega⟩]
    simp [List.getD_eq_getElem?_getD, List.getElem?_eq_getElem (show i < (packWords ws).length by omega)]

theorem slot_words (s : State) (k : Fin 2) (ws : List Word) (n : Nat) (h : s.flash[k] = slotOf ws)
    (hb : ∀ b ∈ packWords ws, b < 256) (hm : ceilDiv n 2 * 9 ≤ (packWords ws).length) :
    s.slotWords k n = (unpackWords (ceilDiv n 2) ((packWords ws).take (ceilDiv n 2 * 9))).take n := by
  unfold State.slotWords
  rw [slot_bytes s k ws _ h hb hm]

theorem bytes0 : ∀ b ∈ packWords img0, b < 256 := by decide +kernel
theorem head0 : (unpackWords 4 ((packWords img0).take 36)).take 8 = img0.take 8 := by decide +kernel
theorem unpack0 : (unpackWords (ceilDiv img0.length 2) ((packWords img0).take (ceilDiv img0.length 2 * 9))).take img0.length = img0 :=
    by decide +kernel

theorem slot0 (s : State) (h : s.flash[(0 : Fin 2)] = slotOf img0) (hv : s.variant = .lkm8836) :
    (s.readSlot 0 true).2 = .ok img0 := by
  have h8 : s.slotWords 0 8 = img0.take 8 := by
    rw [slot_words s 0 img0 8 h bytes0 (by decide +kernel)]; exact head0
  have hx : s.imgExtent (img0.take 8) = img0.length := by
    unfold State.imgExtent
    rw [hv, if_pos (by decide +kernel)]
    decide +kernel
  unfold State.readSlot
  simp only [if_true, h8, hx]
  rw [slot_words s 0 img0 _ h bytes0 (by decide +kernel), unpack0]

/-- A slot that holds image 0 passes the check of an operation. -/
theorem slotCheck0 (s : State) (op : Nat) (ho : opStaged op = false) (hk : opSlot op = 0) (h : s.flash[(0 : Fin 2)] = slotOf img0)
    (hv : s.variant = .lkm8836) (hkey : s.imageKey = List.replicate 32 0) : (s.invCheck op true).2.isOk = true := by
  have hr := slot0 s h hv
  have hc := check0 s .slot (decide (2 < op)) (.inl rfl) hv hkey
  unfold State.invCheck
  simp only [ho, hk, Bool.false_eq_true, if_false, hr]
  revert hc
  cases s.checkImage .slot (decide (2 < op)) img0 <;> simp [Except.isOk, Except.toBool]


/-! ### Lines that hold an image read as that image -/

/-- The words of line `i` of an image staged at word 0. -/
def lineOf (ws : List Word) (i : Nat) : List Word := (ws.drop (8 * i) ++ List.replicate 8 0).take 8

/-- The codewords of the lines of an image. -/
def codesOf (ws : List Word) : List (List Nat) :=
    (List.range (ceilDiv ws.length 8)).map (fun i => lineCode (lineOf ws i) (8 * i) 1)

/-- The DRAM that holds them. -/
def memOf (ws : List Word) : Cells Byte :=
  (codesOf ws).flatten.zipIdx.filterMap (fun (b, a) =>
    if BitVec.ofNat 8 b = larderByte a then none else some (a, BitVec.ofNat 8 b))

theorem flat_at (l : List (List Nat)) (i b : Nat) (h : ∀ c ∈ l, c.length = 48) (hi : i < l.length) (hb : b < 48) :
    48 * i + b < l.flatten.length ∧ l.flatten.getD (48 * i + b) 0 = (l.getD i []).getD b 0 := by
  induction l generalizing i with
  | nil => simp at hi
  | cons c l ih =>
    have hc : c.length = 48 := h c (List.mem_cons_self ..)
    rw [List.flatten_cons, List.length_append, hc]
    cases i with
    | zero =>
      refine ⟨by omega, ?_⟩
      simp only [Nat.mul_zero, Nat.zero_add, List.getD_eq_getElem?_getD]
      rw [List.getElem?_append_left (by omega)]
      rfl
    | succ i =>
      have ih := ih i (fun c hc => h c (List.mem_cons_of_mem _ hc)) (by simpa using hi)
      refine ⟨by omega, ?_⟩
      rw [List.getD_cons_succ, ← ih.2, List.getD_eq_getElem?_getD, List.getElem?_append_right (by omega),
        List.getD_eq_getElem?_getD]
      congr 2; omega

/-- A codeword that a line may hold: 48 bytes, a clean code, the line's echo and the words of the line. -/
def Clean (ws : List Word) (i : Nat) (c : List Nat) : Prop :=
  c.length = 48 ∧ (∀ b ∈ c, b < 256) ∧ (rsSyndromes c).all (· = 0) = true ∧ lineEcho c = i * 8 ∧
    lineWords c = lineOf ws i

/-- The Larder of a state holds the lines of an image from word 0 on. -/
structure Holds (s : State) (ws : List Word) : Prop where
  mem : s.larder.mem = memOf ws
  phys : ∀ i, s.physLine i = i
  poison : s.larder.poisoned = []

theorem line_reads (s : State) (ws : List Word) (i : Nat) (h : Holds s ws) (hi : i < ceilDiv ws.length 8)
    (hc : ∀ i < ceilDiv ws.length 8, Clean ws i (lineCode (lineOf ws i) (8 * i) 1)) :
    s.readLine 4 i [] = (s, some (lineOf ws i)) := by
  have hl : ∀ c ∈ codesOf ws, c.length = 48 := by
    intro c h
    simp only [codesOf, List.mem_map, List.mem_range] at h
    obtain ⟨j, hj, rfl⟩ := h
    exact (hc j hj).1
  have hb : ∀ b ∈ (codesOf ws).flatten, b < 256 := by
    intro b h
    obtain ⟨c, h, hm⟩ := List.mem_flatten.mp h
    simp only [codesOf, List.mem_map, List.mem_range] at h
    obtain ⟨j, hj, rfl⟩ := h
    exact (hc j hj).2.1 b hm
  have hm : Memory.line s.larder.mem (s.physLine i) = lineCode (lineOf ws i) (8 * i) 1 := by
    rw [h.mem, h.phys]
    apply List.ext_getElem
    · simp [Memory.line, (hc i hi).1]
    · intro b h1 h2
      have hb48 : b < 48 := by simpa [Memory.line] using h1
      have hf := flat_at (codesOf ws) i b hl (by simpa [codesOf] using hi) hb48
      simp only [Memory.line, List.getElem_map, List.getElem_range, Memory.read, memOf]
      rw [cells_read larderByte _ (fun b a => rfl) _ 0 _ hb, if_pos ⟨by omega, by omega⟩, Nat.sub_zero, hf.2]
      simp [codesOf, hi, List.getD_eq_getElem?_getD, List.getElem?_eq_getElem h2]
  obtain ⟨-, -, h3, h4, h5⟩ := hc i hi
  unfold State.readLine
  simp only [hm, h.poison, disturbOf, List.find?_nil, flipBytes, List.foldl_nil, rsDecode, h3]
  simp [h4, h5]

theorem lines_read (s : State) (ws : List Word) (n i : Nat) (h : Holds s ws) (hi : i + n ≤ ceilDiv ws.length 8)
    (hc : ∀ i < ceilDiv ws.length 8, Clean ws i (lineCode (lineOf ws i) (8 * i) 1)) :
    s.readLines n i = (s, (List.range' i n).flatMap (lineOf ws), none) := by
  induction n generalizing i with
  | zero => rfl
  | succ n ih =>
    simp only [State.readLines, line_reads s ws i h (by omega) hc, ih (i + 1) (by omega), List.range'_succ,
      List.flatMap_cons]

/-- An image staged at word 0 is read whole. -/
theorem staged_reads (s : State) (ws : List Word) (h : Holds s ws)
    (hc : ∀ i < ceilDiv ws.length 8, Clean ws i (lineCode (lineOf ws i) (8 * i) 1))
    (he : s.imgExtent (lineOf ws 0) = ws.length) (hr : ws.length ≤ s.variant.rbase) (hn : 8 ≤ ws.length)
    (hw : (((List.range' 0 1).flatMap (lineOf ws)) ++ (List.range' 1 (ceilDiv ws.length 8 - 1)).flatMap (lineOf ws)).take ws.length = ws) :
    s.readStaged 0 = (s, ws, none) := by
  have h1 : 1 ≤ ceilDiv ws.length 8 := by unfold ceilDiv; omega
  have e1 := lines_read s ws 1 0 h (by omega) hc
  have e2 := lines_read s ws (ceilDiv ws.length 8 - 1) 1 h (by omega) hc
  have he' : s.imgExtent ((List.range' 0 1).flatMap (lineOf ws)) = ws.length := by simpa using he
  unfold State.readStaged
  simp only [Nat.zero_div, e1, he', Nat.zero_add, if_neg (show ¬ s.variant.rbase < ws.length by omega), e2, hw,
    Option.map_none]


/-! ### The lines of the two images, and the check of image 1 -/

theorem clean_of (ws : List Word) (i : Nat) (h : (decide ((lineCode (lineOf ws i) (8 * i) 1).length = 48) &&
    (lineCode (lineOf ws i) (8 * i) 1).all (fun b => decide (b < 256)) &&
    (rsSyndromes (lineCode (lineOf ws i) (8 * i) 1)).all (fun x => decide (x = 0)) &&
    decide (lineEcho (lineCode (lineOf ws i) (8 * i) 1) = i * 8) &&
    decide (lineWords (lineCode (lineOf ws i) (8 * i) 1) = lineOf ws i)) = true) :
    Clean ws i (lineCode (lineOf ws i) (8 * i) 1) := by
  simp only [Bool.and_eq_true, decide_eq_true_eq, List.all_eq_true] at h
  exact ⟨h.1.1.1.1, h.1.1.1.2, by simpa using h.1.1.2, h.1.2, h.2⟩

theorem clean0_0 : Clean img0 0 (lineCode (lineOf img0 0) (8 * 0) 1) := clean_of _ _ (by decide +kernel)
theorem clean0_1 : Clean img0 1 (lineCode (lineOf img0 1) (8 * 1) 1) := clean_of _ _ (by decide +kernel)
theorem clean0_2 : Clean img0 2 (lineCode (lineOf img0 2) (8 * 2) 1) := clean_of _ _ (by decide +kernel)
theorem clean0_3 : Clean img0 3 (lineCode (lineOf img0 3) (8 * 3) 1) := clean_of _ _ (by decide +kernel)
theorem clean0_4 : Clean img0 4 (lineCode (lineOf img0 4) (8 * 4) 1) := clean_of _ _ (by decide +kernel)
theorem clean0_5 : Clean img0 5 (lineCode (lineOf img0 5) (8 * 5) 1) := clean_of _ _ (by decide +kernel)
theorem clean0_6 : Clean img0 6 (lineCode (lineOf img0 6) (8 * 6) 1) := clean_of _ _ (by decide +kernel)
theorem clean0_7 : Clean img0 7 (lineCode (lineOf img0 7) (8 * 7) 1) := clean_of _ _ (by decide +kernel)
theorem clean0_8 : Clean img0 8 (lineCode (lineOf img0 8) (8 * 8) 1) := clean_of _ _ (by decide +kernel)
theorem clean0_9 : Clean img0 9 (lineCode (lineOf img0 9) (8 * 9) 1) := clean_of _ _ (by decide +kernel)
theorem clean0_10 : Clean img0 10 (lineCode (lineOf img0 10) (8 * 10) 1) := clean_of _ _ (by decide +kernel)
theorem clean0_11 : Clean img0 11 (lineCode (lineOf img0 11) (8 * 11) 1) := clean_of _ _ (by decide +kernel)
theorem clean0_12 : Clean img0 12 (lineCode (lineOf img0 12) (8 * 12) 1) := clean_of _ _ (by decide +kernel)

theorem clean0 : ∀ i < ceilDiv img0.length 8, Clean img0 i (lineCode (lineOf img0 i) (8 * i) 1) := by
  intro i hi
  have hi : i < 13 := hi
  match i, hi with
  | 0, _ => exact clean0_0
  | 1, _ => exact clean0_1
  | 2, _ => exact clean0_2
  | 3, _ => exact clean0_3
  | 4, _ => exact clean0_4
  | 5, _ => exact clean0_5
  | 6, _ => exact clean0_6
  | 7, _ => exact clean0_7
  | 8, _ => exact clean0_8
  | 9, _ => exact clean0_9
  | 10, _ => exact clean0_10
  | 11, _ => exact clean0_11
  | 12, _ => exact clean0_12
  | n + 13, h => exact absurd h (by omega)

theorem clean1_0 : Clean img1 0 (lineCode (lineOf img1 0) (8 * 0) 1) := clean_of _ _ (by decide +kernel)
theorem clean1_1 : Clean img1 1 (lineCode (lineOf img1 1) (8 * 1) 1) := clean_of _ _ (by decide +kernel)
theorem clean1_2 : Clean img1 2 (lineCode (lineOf img1 2) (8 * 2) 1) := clean_of _ _ (by decide +kernel)
theorem clean1_3 : Clean img1 3 (lineCode (lineOf img1 3) (8 * 3) 1) := clean_of _ _ (by decide +kernel)
theorem clean1_4 : Clean img1 4 (lineCode (lineOf img1 4) (8 * 4) 1) := clean_of _ _ (by decide +kernel)

theorem clean1 : ∀ i < ceilDiv img1.length 8, Clean img1 i (lineCode (lineOf img1 i) (8 * i) 1) := by
  intro i hi
  have hi : i < 5 := hi
  match i, hi with
  | 0, _ => exact clean1_0
  | 1, _ => exact clean1_1
  | 2, _ => exact clean1_2
  | 3, _ => exact clean1_3
  | 4, _ => exact clean1_4
  | n + 5, h => exact absurd h (by omega)


/-! ### The operations that complete -/

theorem ok_of (p : State × Except (Nat × Nat × Nat) (Checked × List Word)) (h : p.2.isOk = true) :
    ∃ u c ws, p = (u, .ok (c, ws)) := by
  obtain ⟨u, e | ⟨c, ws⟩⟩ := p
  · cases h
  · exact ⟨u, c, ws, rfl⟩

theorem slot_set (f : Vector (Cells Byte) 2) (c : Cells Byte) : (f.set 0 c)[(0 : Fin 2)] = c := by simp

/-- Image 0 is staged at word 0, and PROGRAM_A runs. -/
def pA : State := (runOp invS 5).setMem (memOf img0)

theorem holds_of (s : State) (ws : List Word) (hm : s.larder.mem = memOf ws) (hr : s.box.remap = [])
    (hp : s.larder.poisoned = []) : Holds s ws :=
  ⟨hm, fun i => by simp [State.physLine, State.spareOf, hr], hp⟩

/-- An operation on staged image 0 finds no failure. -/
theorem stagedCheck0 (s : State) (op : Nat) (ho : opStaged op = true) (h2 : op ≠ 2) (ha : s.stagedAt = 0)
    (h : Holds s img0) (hv : s.variant = .lkm8836) (hk : s.imageKey = List.replicate 32 0) (dev : Bool) :
    (s.invCheck op dev).2.isOk = true := by
  have hx : s.imgExtent (lineOf img0 0) = img0.length := by
    unfold State.imgExtent
    rw [hv, if_pos (by decide +kernel)]
    decide +kernel
  have hr := staged_reads s img0 h clean0 hx (by rw [hv]; decide +kernel) (by decide +kernel) (by decide +kernel)
  have hc := check0 s (.staged 0 false) (decide (2 < op)) (.inr rfl) hv hk
  unfold State.invCheck
  simp only [ho, if_true, ha, hr, h2, decide_false]
  revert hc
  cases s.checkImage (.staged 0 false) (decide (2 < op)) img0 <;> simp [Except.isOk, Except.toBool]

/-- InventoryOperationsEnd, a further clause: the check of R83 passes. -/
theorem witness_InventoryOperationsEnd_verify :
    vA.invRuns [1, 7, 8] = true ∧
      ∃ u c ws, (vA.pass 5).invCheck (vA.lastOp R.INV_OP_STAT) true = (u, .ok (c, ws)) :=
  ⟨by decide +kernel, ok_of _ (by
    rw [show vA.lastOp R.INV_OP_STAT = 7 by decide +kernel]
    exact slotCheck0 _ 7 rfl rfl (slot_set invS.flash _) (by decide +kernel) (by decide +kernel))⟩

/-- InventoryOperationsEnd, a further clause: the check of R83 passes. -/
theorem witness_InventoryOperationsEnd_applySlot :
    aA.invRuns [2, 3, 4] = true ∧ aA.invOp.partialImg = false ∧
      ∃ u c ws, (aA.pass 5).invCheck (aA.lastOp R.INV_OP_STAT) true = (u, .ok (c, ws)) :=
  ⟨by decide +kernel, rfl, ok_of _ (by
    rw [show aA.lastOp R.INV_OP_STAT = 3 by decide +kernel]
    exact slotCheck0 _ 3 rfl rfl (slot_set invS.flash _) (by decide +kernel) (by decide +kernel))⟩

/-- InventoryOperationsEnd, a further clause: the check of R83 passes. -/
theorem witness_InventoryOperationsEnd_program :
    pA.invRuns [5, 6] = true ∧
      ∃ u c ws, (pA.pass 5).invCheck (pA.lastOp R.INV_OP_STAT) true = (u, .ok (c, ws)) :=
  ⟨by decide +kernel, ok_of _ (by
    rw [show pA.lastOp R.INV_OP_STAT = 5 by decide +kernel]
    exact stagedCheck0 _ 5 rfl (by decide) (by decide +kernel)
      (holds_of _ img0 rfl (by decide +kernel) (by decide +kernel)) (by decide +kernel)
      (by decide +kernel) true)⟩

/-- InventoryOperationsEnd, a further clause: the check of R83 passes. -/
theorem witness_InventoryOperationsEnd_boot :
    bo.live = true ∧ bo.power = .loading ∧ bo.invOp.boot = some [0, 1] ∧
      ∃ u ws c, (bo.pass 5).readSlot 0 true = (u, .ok ws) ∧ (bo.pass 5).checkImage .slot true ws = .ok c := by
  have hr := slot0 (bo.pass 5) (slot_set ld.flash _) (by decide +kernel)
  have hc := check0 (bo.pass 5) .slot true (.inl rfl) (by decide +kernel) (by decide +kernel)
  refine ⟨by decide +kernel, rfl, rfl, ((bo.pass 5).readSlot 0 true).1, img0, ?_⟩
  cases h : (bo.pass 5).checkImage .slot true img0 with
  | error e => rw [h] at hc; cases hc
  | ok c => exact ⟨c, Prod.ext rfl hr, rfl⟩

/-! ### A partial image -/

/-- The Inventory of image 0 runs, image 1 is staged at word 0, and APPLY runs. -/
def qA : State :=
  { (runOp invS 2).setMem (memOf img1) with inv := some ctx0.inv, invOp := { invS.invOp with partialImg := true } }

theorem trailer1 : firstFail (trailerFails (List.replicate 32 0) img1) = none := by
  have h : imgTag (List.replicate 32 0) img1 (imgLength img1 - 8) = hashOf out1_1 := by
    rw [show imgLength img1 = img1.length by decide +kernel]; exact tag1
  unfold trailerFails
  simp only [h]
  decide +kernel

/-- The shelves of image 1, and where they end. -/
def parsed1 : List Shelf × Option Nat :=
  parseShelves (imgLength img1 - 8) (imgCount img1) 0 8 ((img1.drop 8).take (imgLength img1 - 8 - 8))

def ctx1 : ShelfCtx :=
  { variant := .lkm8836, strict := imgStrict img1, partialImg := true, inv := mergeInventory ctx0.inv parsed1.1 }

theorem header1 : firstFail (headerFails .lkm8836 img1) = none := by decide +kernel

theorem shelves1_pass :
    firstFail (ctx1.shelfFails Variant.lkm8836.rbase (imgLength img1 - 8) img1 parsed1.1 parsed1.2) = none :=
      by decide +kernel

theorem rules1_pass :
    firstRule (RuleCtx.rules { c := ctx1, l := parsed1.1, end_ := parsed1.2, userEnd := Variant.lkm8836.rbase
                               staged := some (0, imgLength img1) }) = none := by decide +kernel

theorem partial1 : imgPartial img1 = true := by decide +kernel

/-- What the check of image 1 gives. -/
def checked1 : Checked :=
  { inv := ctx1.inv, isPartial := true, tables := (ofTyp parsed1.1 12).map tableRange
    loops := (ofTyp parsed1.1 3).map (·.inst), feeds := (ofTyp parsed1.1 6).map (·.inst) }

theorem check1 (s : State) (hi : s.inv = some ctx0.inv) (hv : s.variant = .lkm8836) (hk : s.imageKey = List.replicate 32 0) :
    s.checkImage (.staged 0 true) false img1 = .ok checked1 := by
  have h2 := shelves1_pass
  have h3 := rules1_pass
  have h4 : decide (Variant.lkm8836.rbase < 0 + imgLength img1) = false := by decide +kernel
  unfold ctx1 parsed1 at h2 h3
  unfold State.checkImage
  rw [hv, hk, hi, header1, trailer1, partial1]
  simp only [Bool.true_and, Bool.false_or, Option.isNone_some, h2, h3, h4]
  rfl

theorem stagedCheck1 (s : State) (ha : s.stagedAt = 0) (h : Holds s img1) (hi : s.inv = some ctx0.inv) (hv : s.variant = .lkm8836)
    (hk : s.imageKey = List.replicate 32 0) (dev : Bool) : s.invCheck 2 dev = (s, .ok (checked1, img1)) := by
  have hx : s.imgExtent (lineOf img1 0) = img1.length := by
    unfold State.imgExtent
    rw [hv, if_pos (by decide +kernel)]
    decide +kernel
  have hr := staged_reads s img1 h clean1 hx (by rw [hv]; decide +kernel) (by decide +kernel) (by decide +kernel)
  have hc := check1 s hi hv hk
  unfold State.invCheck
  simp only [show opStaged 2 = true from rfl, if_true, ha, hr, decide_true, show decide (2 < 2) = false from rfl, hc]

/-- InventoryOperationsEnd, a further clause: the check of R83 passes. -/
theorem witness_InventoryOperationsEnd_partial :
    qA.invRuns [2] = true ∧ qA.invOp.partialImg = true ∧
      ∃ u c ws l, (qA.pass 5).invCheck 2 true = (u, .ok (c, ws)) ∧ u.places c = some l := by
  have hc := stagedCheck1 (qA.pass 5) (by decide +kernel)
    (holds_of _ img1 rfl (by decide +kernel) (by decide +kernel))
    rfl (by decide +kernel)
    (by decide +kernel) true
  have hp : ((qA.pass 5).places checked1).isSome = true := by decide +kernel
  obtain ⟨l, hl⟩ := Option.isSome_iff_exists.mp hp
  exact ⟨by decide +kernel, rfl, _, _, _, l, hc, hl⟩

end Sys2Proof.Tests.W06

namespace Sys2Proof.Tests.W07

def vg (st : Nat) : State := { ax st with dies := (ax st).dies.set 0 { (ax st).dies[0] with vgUp := true } }
def vgL : State := { ax 3 with dies := (ax 3).dies.set 0 { (ax 3).dies[0] with vgUp := true, vgLow := true } }
def leg (l0 : Leg) (st : Nat) : State :=
  { ax st with legs := (ax st).legs.set 0 l0, carriers := (ax st).carriers.set 0 { (ax st).carriers[0] with next := some 9000, start := 2750, m := 1, active := some ⟨0, [100000, 100000, 100000, 100000], 0, false, 0, 0, 0⟩ } }
def sw0 : Switch := Switch.reset
def edgeS : State := leg { Leg.reset with riseDue := true, fallDue := true } 3
def waitS : State :=
    (leg { Leg.reset with lo := { sw0 with wait := some 3200 }, hi := { sw0 with offAt := 3300 } } 3).setLegState 0 lgActive
def holdS : State := leg { Leg.reset with hi := { sw0 with soft := .hold 77 } } 3
def onS : State :=
    (leg { Leg.reset with lo := { sw0 with on := true, onAt := 1600, watched := true } } 3).setLegState 0 lgActive
def retS : State :=
    (leg { Leg.reset with lo := { sw0 with heldShort := true, retryAt := some 77 } } 3).setLegState 0 lgHeld
def latS : State := ((leg { Leg.reset with retries := [5] } 0).setLegState 0 lgLatched).setLegState 1 lgRetired
def latS' : State := { latS with box := { latS.box with retired := [1] } }
def busyLg : State := (ax 0).setFld ⟨R.LG_OP_STAT 0, 4, 0⟩ 1
def wireI : State := ((ax 0).setLegState 0 lgIdle).setLegState 1 lgIdle
def wireV : State := wireI.setFld F.FLT_SUPPLY_VM_MEAS 100
def w0 : WireTest := ⟨.cmd 0, [0], 1, 50, [(2, 3)], false, 0⟩
def wt0 : State := { ax 0 with wireTests := [w0] }
def w1 : WireTest := ⟨.cmd 0, [0], 7, 50, [(2, 3)], false, 0⟩
def wt1 : State := { ax 0 with wireTests := [w1] }
def w2 : WireTest := ⟨.axis 0, [0], 7, 50, [], false, 0⟩
def wt2 : State :=
    { ax 1 with wireTests := [w2], axes := (ax 1).axes.set 0 { (ax 1).axes[0] with check := some ⟨.arm, 3, 40⟩ } }
def lk : State := (ax 0).setLegState 0 lgIdle
def lt0 : LeakTest := ⟨.cmd 0, [(0, true)], 0⟩
def lkR : State := { lk with leakTests := [lt0] }
def lkA : LeakTest := ⟨.axis 0, [(0, true)], 0⟩
def lkC : State :=
    { (ax 1).setFld F.FLT_SUPPLY_VM_MEAS 100 with leakTests := [lkA], axes := (ax 1).axes.set 0 { (ax 1).axes[0] with check := some ⟨.arm, 2, 40⟩ } }

/-- GateSuppliesEnableSwitches: states and operands that meet the hypotheses of each clause. -/
theorem witness_GateSuppliesEnableSwitches :
    ((ax 3).live = true ∧ (ax 3).hasDie 0 = true) ∧
    ((vg 3).dies[0].vgUp = true ∧ (vg 3).dies[0].vgLow = false ∧ 90 + 25 < (vg 3).vgSel 0) ∧
    (vgL.dies[0].vgLow = true ∧ vgL.vgSel 0 < 119 + 15) ∧
    ((vgL.legAxis 1).isSome = true ∧ vgL.legs[1].cfLow = false) ∧
    (vgL.legAxis 1 = some 0 ∧ vgL.dies[legDie 1].vgUp = true) :=
  ⟨by decide +kernel,
   by decide +kernel,
   by decide +kernel,
   by decide +kernel,
   by decide +kernel⟩

/-- GateEdgesKeepDeadTimeAndHandshake: states and operands that meet the hypotheses of each clause. -/
theorem witness_GateEdgesKeepDeadTimeAndHandshake :
    (edgeS.legAxis 0 = some 0 ∧ edgeS.carriers[0].active.isSome = true ∧ edgeS.carriers[0].next.isSome = true ∧
      ((if true = true then edgeS.legs[0].riseDue else edgeS.legs[0].fallDue && !edgeS.legs[0].riseDue) = true)) ∧
    ((waitS.legs[0].sw false).wait = some 3200 ∧ waitS.requested 0 false = true ∧
      (waitS.legs[0].sw !false).on = false ∧ (waitS.requested 0 !decide (false = false)) = true) ∧
    ((holdS.legs[0].sw true).soft = Soft.hold 77) :=
  ⟨by decide +kernel,
   by decide +kernel,
   by decide +kernel⟩

/-- ShortsRetryAndLatch: states and operands that meet the hypotheses of each clause. -/
theorem witness_ShortsRetryAndLatch :
    ((onS.legAxis 0).isSome = true ∧ (onS.legs[0].sw false).on = true ∧ (onS.legs[0].sw false).watched = true ∧
      (true = true → (∀ (t0 : Nat), (onS.legs[0].sw false).soft ≠ Soft.hold t0) ∧
      50 + onS.hsTimeout 0 = (onS.legs[0].sw false).onAt / 32 + onS.hsTimeout 0) ∧
      (true = false → (onS.legs[0].sw false).soft = Soft.none ∧
      50 + onS.hsTimeout 0 = (onS.legs[0].sw false).offAt / 32 + onS.hsTimeout 0 ∨ ∃ t0,
      (onS.legs[0].sw false).soft = Soft.discharge t0 ∧ 50 + onS.hsTimeout 0 = t0 + 2000)) ∧
    (onS.senseActive 0 false GateLevel.high = true ∧ (onS.legAxis 0).isSome = true) ∧
    ((retS.legs[0].sw false).retryAt = some 77) :=
  ⟨⟨by decide +kernel, by decide +kernel, by decide +kernel,
    fun _ => ⟨by rw [show (onS.legs[0].sw false).soft = Soft.none by decide +kernel]; nofun, by decide +kernel⟩,
    nofun⟩,
   by decide +kernel,
   by decide +kernel⟩

/-- LegCommandsActOnFreeLegs: states and operands that meet the hypotheses of each clause. -/
theorem witness_LegCommandsActOnFreeLegs :
    (latS'.reach (32 + 0) = true ∧ latS'.opBusy (R.LG_OP_STAT 0) = false ∧
      (((lgLegs 0 3).all fun l ↦ latS'.legFree l) = true)) ∧
    (latS'.reach (32 + ↑(legQ 0)) = true ∧ latS'.legFree 0 = true) ∧
    (onS.reach (32 + ↑(legQ 0)) = true ∧ onS.legFree 0 = false) ∧
    (busyLg.reach (32 + 0) = true ∧ busyLg.opBusy (R.LG_OP_STAT 0) = true) :=
  ⟨by decide +kernel,
   by decide +kernel,
   by decide +kernel,
   by decide +kernel⟩

/-- WiringTestRunsItsSteps: states and operands that meet the hypotheses of each clause. -/
theorem witness_WiringTestRunsItsSteps :
    (wireI.reach (32 + 0) = true ∧ wireI.opBusy (R.LG_OP_STAT 0) = false ∧
      (((lgLegs 0 1).all fun l ↦ wireI.legFree l) = true) ∧
      ([0] = List.filter (fun n ↦ (lgLegs 0 1).any fun l ↦ wireI.legAxis l == some n) axisIds) ∧ [0] ≠ [] ∧
      (∀ (n : AxisId), n ∈ [0] → wireI.shorted n = false) ∧ wireI.vmInWindow = true) ∧
    (wireV.reach (32 + 0) = true ∧ wireV.opBusy (R.LG_OP_STAT 0) = false ∧
      (((lgLegs 0 1).all fun l ↦ wireV.legFree l) = true) ∧
      ([0] = List.filter (fun n ↦ (lgLegs 0 1).any fun l ↦ wireV.legAxis l == some n) axisIds) ∧ [0] ≠ [] ∧
      (∀ (n : AxisId), n ∈ [0] → wireV.shorted n = false) ∧ wireV.vmInWindow = false) ∧
    ((List.find? (fun w ↦ w.owner == ownerOf (TestRef.quadrant 0)) wt0.wireTests = some w0) ∧
      wt0.wireOver w0 = false) ∧
    ((List.find? (fun w ↦ w.owner == TestOwner.cmd 0) wt1.wireTests = some w1) ∧ wt1.wireOver w1 = true) ∧
    ((List.find? (fun w ↦ w.owner == TestOwner.axis 0) wt2.wireTests = some w2) ∧ wt2.wireOver w2 = true ∧
      wt2.planned 0 = true ∧ wt2.axisSt 0 = stChecking) :=
  ⟨by decide +kernel,
   by decide +kernel,
   by decide +kernel,
   by decide +kernel,
   by decide +kernel⟩

/-- LeakageChecksLearnAndRetire: states and operands that meet the hypotheses of each clause. -/
theorem witness_LeakageChecksLearnAndRetire :
    (lk.reach (32 + 0) = true ∧ lk.opBusy (R.LG_OP_STAT 0) = false ∧
      (((lgLegs 0 1).all fun l ↦ lk.legFree l) = true) ∧
      (lk.leakable [0] = lk.leakable (List.filter (fun l ↦ (lk.legAxis l).isSome) (lgLegs 0 1))) ∧
      lk.leakable [0] ≠ []) ∧
    (lk.reach (32 + 0) = true ∧ lk.opBusy (R.LG_OP_STAT 0) = false ∧
      (((lgLegs 0 128).all fun l ↦ lk.legFree l) = true) ∧
      ([] = lk.leakable (List.filter (fun l ↦ (lk.legAxis l).isSome) (lgLegs 0 128)))) ∧
    (lk.live = true ∧ (lk.legAxis 0).isSome = true ∧ lk.legFree 0 = true ∧ lk.leakEn 0 = true ∧
      (lk.legs[0].sw true).on = false ∧ lk.switchBusy 0 true = false) ∧
    ((List.find? (fun k ↦ decide ((0, true) ∈ k.todo)) lkR.leakTests = some lt0) ∧
      (∀ (m : Nat), lt0.owner ≠ TestOwner.axis m) ∧ 16383 = leakNow none none) ∧
    ((List.find? (fun k ↦ decide ((0, true) ∈ k.todo)) lkC.leakTests = some lkA) ∧ lkA.owner = TestOwner.axis 0 ∧
      lkC.planned 0 = true ∧ lkC.axisSt 0 = stChecking ∧ lkC.axes[0].check.isSome = true) :=
  ⟨by decide +kernel,
   by decide +kernel,
   by decide +kernel,
   ⟨by decide +kernel, nofun, by decide +kernel⟩,
   by decide +kernel⟩

end Sys2Proof.Tests.W07

namespace Sys2Proof.Tests.W08

def grp : Group := ⟨0, [100, 200, 300, 400], 2, true, 3000, 1000, 1200⟩
def car (sh : Option Group) (rel : Bool) : State :=
  { (ax 3).setFld ⟨R.FLT_TRAP_STAT, 35, 0⟩ 0x10100 with
    carriers := (ax 3).carriers.set 0 { (ax 3).carriers[0] with next := some 9000, start := 2750, m := 1, shadow := sh, release := rel },
    legs := (ax 3).legs.map (fun l => { l with policy := some false }) }
def carA := car (some grp) true
def carC := car none false
def arr : State := { ax 3 with dies := (ax 3).dies.set 0 { (ax 3).dies[0] with down := [grp] } }
def crs0 : State := (ax 3).setFlag (F.PW_CAL_STAT_COARSE 0) true
def trI : Inventory := { inv1 with pins := [⟨0, false, 2, 3⟩] }
def trS : State :=
    { ((((ax 3).setFld (F.PW_TRIP_CFG_LEGS 0 2) 1).setFld (F.PW_TRIP_CFG_LEGS 1 2) 1).setLegState 0 lgActive) with inv := some trI, legs := (ax 3).legs.set 0 { Leg.reset with hi := { Switch.reset with on := true } } }
def trB : State := { trS with dies := trS.dies.set 0 { trS.dies[0] with blankEnd := List.replicate 8 900 } }
def trX : State := { trB with pins := { trB.pins with xio := 1 } }
def trL : State := trS.setRegBit (R.PW_TRIP_STAT 0) 2 true

/-- CarriersTakeGroupsAndCalibrate: states and operands that meet the hypotheses of each clause. -/
theorem witness_CarriersTakeGroupsAndCalibrate :
    (carA.carriers[0].next = some 9000 ∧ carA.groupFor 0 9000 = some grp) ∧
    (carC.carriers[0].next = some 9000 ∧ carC.groupFor 0 9000 = none) ∧
    (arr.live = true ∧ arr.dies[arr.axisDie 0].linkLost = false ∧
      (List.find? (fun g ↦ g.axis == 0) arr.dies[arr.axisDie 0].down = some grp) ∧ arr.firstLeg 0 = some 0 ∧
      arr.lands 0 1000 250 5 = arr.lands (arr.axisDie 0) grp.at_ 250 5) ∧
    (crs0.live = true ∧ crs0.hasDie ↑(quadDie 0) = true ∧ crs0.flag (F.PW_CAL_STAT_COARSE 0) = true ∧
      crs0.regions[0].told = false) ∧
    ((ax 3).flag F.CLK_PLL_STAT_LOCK = true ∧ (ax 3).hasDie ↑(quadDie 0) = true ∧
      (ax 3).dies[quadDie 0].onBackup = false) :=
  ⟨by decide +kernel,
   by decide +kernel,
   by decide +kernel,
   by decide +kernel,
   by decide +kernel⟩

/-- TripsLatchPerQuadrant: states and operands that meet the hypotheses of each clause. -/
theorem witness_TripsLatchPerQuadrant :
    (trS.pinOf 3 2 = some 0 ∧ true ≠ trS.pinInvert 0) ∧
    (trS.pinOf 3 2 = some 0 ∧ false = trS.pinInvert 0 ∧ trS.pins.tripCmp[2]?.getD [] = []) ∧
    (trX.hasDie 0 = true ∧ trX.tripActive 2 = true) ∧
    (trL.reach (36 + 0) = true) ∧
    ((ax 0).reach (36 + ↑(legQ 0)) = true ∧ (ax 0).legFree 0 = true) ∧
    ((ax 3).reach (36 + ↑(legQ 0)) = true ∧ (ax 3).legFree 0 = false) :=
  ⟨by decide +kernel,
   by decide +kernel,
   by decide +kernel,
   by decide +kernel,
   by decide +kernel,
   by decide +kernel⟩

end Sys2Proof.Tests.W08

namespace Sys2Proof.Tests.W09

def fd (k : Nat) : FeedDef := ⟨0, k, 0, true, 500, 0, 7, 3, 100, 0, 1, 0, 2, 16⟩
def fdI (k : Nat) : Inventory := { inv1 with feeds := [fd k] }
def fb (k st : Nat) : State := { ax st with inv := some (fdI k) }
def dd (s : State) (a b : Bool) : Int :=
    if (quadPlace a b + 4 - quadPlace s.chans[(0 : AxisId)].a s.chans[(0 : AxisId)].b) % 4 = 1 then 1 else -1
def xx (s : State) (d : Int) : Int := (fd 0).tickNum * (if (fd 0).dirInv then -d else d) + s.chans[(0 : AxisId)].rem
def fbA := fb 1 3
def fbA0 := fb 0 3
def fbZ1 := (fb 0 3).setFld (F.FB_CFG_Z_GATE 0) 1
def tooth (x : FbChan → FbChan) : State :=
  let s := fb 2 3; { s with chans := s.chans.set 0 (x s.chans[(0 : AxisId)]) }
def t1 := tooth (fun x => { x with extra := 2 })
def t2 := tooth id
def t3 := tooth (fun x => { x with toothEdges := 2, toothAt := some 10, toothIvl := some 30 })
def fbh : State := { fb 3 3 with inv := some { fdI 3 with pins := [⟨0, false, 0, 4⟩] } }
def hs : State := { fbh with pins := { (fb 3 3).pins with hall := (fb 3 3).pins.hall.set 0 5 } }
def run1 := tooth (fun x => { x with run := [(77, 5)] })

/-- CountsFollowTheirEdges: states and operands that meet the hypotheses of each clause. -/
theorem witness_CountsFollowTheirEdges :
    (fbA.filterPasses 0 4096 = true ∧ fbA.feedOfChan 0 = some (fd 1) ∧ ((fd 1).kind ∈ [0, 1, 5]) ∧ fbA.live = true ∧
      fbA.chanBroken 0 = false ∧ (true ≠ fbA.chans[0].a ↔ false = fbA.chans[0].b) ∧
      (dd fbA true false = if (quadPlace true false + 4 - quadPlace fbA.chans[0].a fbA.chans[0].b) % 4 = 1 then 1 else -1) ∧ (xx fbA (dd fbA true false) = (↑(fd 1).tickNum * if (fd 1).dirInv = true then -dd fbA true false else dd fbA true false) + ↑fbA.chans[0].rem) ∧
      ((fd 1).kind = 1 ∨ true = fbA.flag (F.FB_CFG_Z_POL 0))) ∧
    (fbZ1.filterPasses 0 4096 = true ∧ fbZ1.feedOfChan 0 = some (fd 0) ∧ ((fd 0).kind ∈ [0, 1, 5]) ∧
      fbZ1.live = true ∧ fbZ1.chanBroken 0 = false ∧ (false ≠ fbZ1.chans[0].a ↔ true = fbZ1.chans[0].b) ∧
      (dd fbA0 false true = if (quadPlace false true + 4 - quadPlace fbZ1.chans[0].a fbZ1.chans[0].b) % 4 = 1 then 1 else -1) ∧ (xx fbA0 (dd fbA0 false true) = (↑(fd 0).tickNum * if (fd 0).dirInv = true then -dd fbA0 false true else dd fbA0 false true) + ↑fbZ1.chans[0].rem) ∧ (fd 0).kind ≠ 1 ∧ true ≠ fbZ1.flag (F.FB_CFG_Z_POL 0) ∧ fbZ1.chans[0].zDone = false ∧ 2 * bit false + bit true = fbZ1.fld (F.FB_CFG_Z_GATE 0) ∧
      fbZ1.chans[0].refLast = none) ∧
    (t1.filterPasses 0 4096 = true ∧ t1.feedOfChan 0 = some (fd 2) ∧ (fd 2).kind = 2 ∧ t1.live = true ∧
      t1.chanBroken 0 = false ∧ 0 < t1.chans[0].extra) ∧
    (t2.filterPasses 0 4096 = true ∧ t2.feedOfChan 0 = some (fd 2) ∧ (fd 2).kind = 2 ∧ t2.live = true ∧
      t2.chanBroken 0 = false ∧ t2.chans[0].extra = 0 ∧ t2.chans[0].extraGroup = false ∧ t2.chans[0].toothEdges < 2) ∧
    (t3.filterPasses 0 4096 = true ∧ t3.feedOfChan 0 = some (fd 2) ∧ (fd 2).kind = 2 ∧ t3.live = true ∧
      t3.chanBroken 0 = false ∧ t3.chans[0].extra = 0 ∧ t3.chans[0].extraGroup = false ∧ 2 ≤ t3.chans[0].toothEdges ∧
      t3.wheelBack 0 = t3.chans[0].toothBack ∧ t3.chans[0].toothAt = some 10 ∧ t3.chans[0].toothIvl = some 30 ∧
      (fd 2).refKind = 0 ∧ t3.chans[0].refLast = none ∧ 3 * ((fd 2).refTeeth + 1) * 30 < 4 * (t3.clock + 500 - 10)) ∧
    (hs.live = true ∧ hs.chanKind 0 = 3 ∧ hs.hallsFitted 0 = true ∧ hs.pins.hall.getD (0) 0 = 5 ∧ hallSector 5 ≠ 7 ∧
      hallSector (1) ≠ 7 ∧ (sectorStep (hallSector 5) (hallSector (1))).natAbs = 1) ∧
    (run1.feedOfChan 0 = some (fd 2) ∧ (run1.chans[0].run.head? = some (77, 5))) ∧
    (0 < 2 ^ fbA.fld (F.FB_CFG_FILTER 0)) :=
  ⟨by decide +kernel,
   by decide +kernel,
   by decide +kernel,
   by decide +kernel,
   by decide +kernel,
   by decide +kernel,
   by decide +kernel,
   by decide +kernel⟩

end Sys2Proof.Tests.W09

namespace Sys2Proof.Tests.W10

def fd (k : Nat) : FeedDef := ⟨0, k, 0, true, 500, 0, 7, 3, 100, 0, 1, 0, 2, 16⟩
def fdI (k : Nat) : Inventory := { inv1 with feeds := [fd k] }
def fb (k st : Nat) : State := { ax st with inv := some (fdI k) }
def fb03 := fb 0 3
def fb33 : State := { fb 3 3 with inv := some { fdI 3 with pins := [⟨0, false, 0, 4⟩] } }
def ssi0 : State :=
    (((fb 4 3).setFlag (F.PRT_P_CFG_USED 0) true).setRegBit R.CLK_POWER 4 true).setFld (F.PRT_P_LEN_CLOCK_KHZ 0) 500
def ssiR (bad : Nat) : State :=
    { ssi0 with prt := ssi0.prt.set 0 { ssi0.prt[(0 : PortId)] with ssi := some (0, 300) }, chans := ssi0.chans.set 0 { ssi0.chans[(0 : AxisId)] with ssiBad := bad } }
def ssi1 := ssiR 2
def rr (s : State) (raw : Nat) := raw % 2 ^ ((fd 4).ssiBits + s.fld (F.FB_CFG_SSI_EXTRA 0))
def idle0 : State := ((fb 0 0).setFlag (F.FB_STATUS_SUSPECT 0) true).setReg (R.FB_PRESET_VAL 0) 0x876543210
def cp0 : State := ((fb03.setFld (F.CPO_PTR_LEN 0) 10).setFld (F.CPO_LIST_ADDR 0) 64).setFlag F.LDC_STATUS_READY true
def cp1 : State := cp0.setRegBit R.CPO_STATUS (17+0) true
def pe : State := { cp0 with compares := cp0.compares.set 0 { cp0.compares[(0 : AxisId)] with pulseEnd := some 9 } }
def dnone : Delivered := ⟨.compare 0, none⟩
def arrL (d : Delivered) (held : List Word) (x : Word) : State :=
    { cp1.setReg (R.FB_POS 0) 0x20 with larder := { cp1.larder with arrived := [d] }, compares := cp1.compares.set 0 { cp1.compares[(0 : AxisId)] with held := held, asked := true, crossAt := x } }
def an := arrL dnone [] 0
def wsL : List Word := [0x10,0x20,0x30,0x40,0x50,0x60,0x70,0x80]
def dl : Delivered := ⟨.compare 0, some [(64, wsL)]⟩
def ah := (arrL dl [0x8,0x9] 0).setFld (F.CPO_PTR_INDEX 0) 1
def ah2 := arrL dl [] 0

/-- FeedbackFaultsReadingsAndCommands: states and operands that meet the hypotheses of each clause. -/
theorem witness_FeedbackFaultsReadingsAndCommands :
    (watched (fb03.chanKind 0) 2 = true ∧ fb03.live = true ∧ fb03.flag (lbFld 0 2) = false) ∧
    (fb03.filterPasses 0 4096 = true ∧ (fb03.chanKind 0 ∈ [0, 1, 5]) ∧ fb03.live = true ∧ fb03.chanBroken 0 = false ∧
      true ≠ fb03.chans[0].a ∧ true ≠ fb03.chans[0].b) ∧
    (fb33.live = true ∧ fb33.chanKind 0 = 3 ∧ fb33.hallsFitted 0 = true ∧ fb33.pins.hall.getD (0) 0 ≠ 7 ∧
      hallSector (7) = 7) ∧
    ((ssi0.ssiPort 0 = some (0, fd 4)) ∧ ssi0.live = true ∧ ssi0.portOn 0 = true ∧ ssi0.prt[0].ssi = none ∧
      ssi0.prt[0].run = none) ∧
    ((ssi1.ssiPort 0 = some (0, fd 4)) ∧ ssi1.live = true ∧ (ssi1.prt[0].ssi = some (0, 300)) ∧
      rr ssi1 1193046 = 1193046 % 2 ^ ((fd 4).ssiBits + ssi1.fld (F.FB_CFG_SSI_EXTRA 0))) ∧
    (idle0.reach (24 + 0) = true ∧ idle0.chanFree 0 = true ∧ idle0.chanBroken 0 = false) ∧
    (idle0.reach (24 + 0) = true ∧ idle0.chanFree 0 = true) :=
  ⟨by decide +kernel,
   by decide +kernel,
   by decide +kernel,
   by decide +kernel,
   by decide +kernel,
   by decide +kernel,
   by decide +kernel⟩

/-- CompareOutputsArmAndFire: states and operands that meet the hypotheses of each clause. -/
theorem witness_CompareOutputsArmAndFire :
    (cp0.reach 13 = true) ∧
    (pe.compares[0].pulseEnd = some 9) ∧
    ((List.find? (fun d ↦ d.user == LineUser.compare 0) an.larder.arrived = some dnone) ∧ an.cpoArmed 0 = true ∧
      dnone.lines = none) ∧
    ((List.find? (fun d ↦ d.user == LineUser.compare 0) ah.larder.arrived = some dl) ∧ ah.cpoArmed 0 = true ∧
      (dl.lines = some [(64, wsL)]) ∧ ah.compares[0].held ≠ [] ∧ 10 = max 1 (ah.fld (F.CPO_PTR_LEN 0)) ∧
      3 = (ah.fld (F.CPO_PTR_INDEX 0) + ah.compares[0].held.length) % 10) ∧
    ((List.find? (fun d ↦ d.user == LineUser.compare 0) ah2.larder.arrived = some dl) ∧ ah2.cpoArmed 0 = true ∧
      (dl.lines = some [(64, wsL)]) ∧ ah2.compares[0].held = [] ∧ 10 = max 1 (ah2.fld (F.CPO_PTR_LEN 0)) ∧
      0 = ah2.fld (F.CPO_PTR_INDEX 0) % 10 ∧ List.take (10 - 0) (List.drop (0 % 8) wsL) = 16 :: List.drop 1 wsL ∧
      1 = crossing 16 ah2.compares[0].crossAt (ah2.reg (R.FB_POS (Fin.ofNat 8 (ah2.fld (F.CPO_CFG_SRC 0)))))) :=
  ⟨by decide +kernel,
   by decide +kernel,
   by decide +kernel,
   by decide +kernel,
   by decide +kernel⟩

end Sys2Proof.Tests.W10

namespace Sys2Proof.Tests.W11

def pp (f : Port → Port) : State :=
  let s := ((((ax 3).setFlag (F.PRT_P_CFG_USED 0) true).setRegBit R.CLK_POWER 4 true).setFld (F.PRT_P_LEN_CLOCK_KHZ 0) 500).setFld (F.PRT_P_LEN_UNIT_BITS 0) 20
  { s with prt := s.prt.set 0 (f s.prt[(0 : PortId)]) }
def xf (dir : Bool) (c u : Nat) : PortXfer := ⟨2, dir, c, u, [], 0, 0, none⟩
def p0 := pp (fun x => { x with tx := [1, 2], freeAt := 900 })
def pd := pp (fun x => { x with deferred := some (xf true 2 3), freeAt := 900 })
def pr := pp (fun x => { x with run := some (xf true 2 3), freeAt := 900, rx := [7] })
def rxw : List Word := [0xABCDEF123, 0x000120000, 0x3]
def pb : State := (pr.setFlag (F.PRT_P_CFG_BUSY_EN 0) true).setReg (R.PRT_P_BUSYPAT 0) 0xABCDE
def xt : PortXfer := { xf true 2 3 with retryAt := some 777 }
def pt := pp (fun x => { x with run := some xt, freeAt := 900, rx := [7] })
def py : State := pr.setFlag (F.PRT_P_CFG_RDY_EN 0) true
def pq : State := pr.setFld ⟨R.PRT_P_STAT 0, 4, 0⟩ 1
def p7 := pp (fun x => { x with rx := [7, 8] })
def ld0 : LoopDef := ⟨0, 0, 0, 200, 2000, 600, 600, [0x23 * 2 ^ 30, 0x10085 * 2 ^ 18 + 0x30000, 0x25 * 2 ^ 30,
    0x30000, 0x3F * 2 ^ 30].map (BitVec.ofNat 36), [], [0,0,0], []⟩
def eng (st : Nat) (f : AxisEng → AxisEng) : State :=
  let s := ax st
  { s with inv := some { inv1 with loops := [ld0] }, engs := s.engs.set 0 (f { s.engs[(0 : AxisId)] with prog := ld0.prog, st := List.replicate 16 0 }) }
def e3 := eng 3 id
def e3r : State :=
    { e3 with regions := e3.regions.set 0 { e3.regions[(0 : Quad)] with next := some (true, 2) }, axes := e3.axes.set 0 { e3.axes[(0 : AxisId)] with k := 3 } }
def e3f : State := e3.setFlag (F.ENG_SUPV_STALE 0) false
def wf (sec off st : Nat) (f : AxisEng →
    AxisEng) : State :=
    ((eng st (fun x => f { x with coef := List.replicate 20 5, tables := List.replicate 70 6 })).setFld F.ENG_WIN_SEL_SECTION sec).setFld F.ENG_WIN_SEL_OFFSET off
def wf1 := wf 1 4 3 id
def wst : State := { wf1 with engine := { wf1.engine with staged := [(0, 3, 0x77)] } }
def wap : State := (wst.setFld ⟨R.ENG_OP_STAT, 4, 0⟩ 1).setFld ⟨R.ENG_OP_STAT, 19, 16⟩ 1
def wbusy : State := (wst.setFld ⟨R.ENG_OP_STAT, 4, 0⟩ 1)

/-- PortsTransferUnits: states and operands that meet the hypotheses of each clause. -/
theorem witness_PortsTransferUnits :
    (p0.reach 5 = true ∧
      (xf true 2 3 = ({ sel := 2, dir := true, cmdUnits := 2, dataUnits := 3, kept := [], since := 0, retries := 0, retryAt := none } : PortXfer)) ∧ p0.startBad 0 (xf true 2 3) = false ∧
      p0.ssiChans 0 = []) ∧
    (p0.reach 5 = true ∧ p0.portBusy 0 = false) ∧
    (p0.reach 5 = true ∧ p0.prt[0].rx = []) ∧
    (p0.reach 5 = true ∧
      (xf false 2 3 = ({ sel := 2, dir := false, cmdUnits := 2, dataUnits := 3, kept := [], since := 0, retries := 0, retryAt := none } : PortXfer)) ∧
      p0.startBad 0 (xf false 2 3) = true) ∧
    (pd.prt[0].deferred = some (xf true 2 3) ∧ pd.live = true ∧
      (pd.pass 5).ssiClear 0 (max (pd.clock + 5) pd.prt[0].freeAt) (pd.xferTime 0 (xf true 2 3)) = true) ∧
    (pr.live = true ∧ pr.prt[0].run = some (xf true 2 3) ∧ (xf true 2 3).retryAt = none ∧
      (unitsIn 20 3 rxw = if (xf true 2 3).dir = true then unitsIn (pr.unitBits 0) (xf true 2 3).dataUnits rxw else []) ∧
      (pr.flag (F.PRT_P_CFG_BUSY_EN 0) = false ∨ (xf true 2 3).dir = false ∨ pr.busyMatch 0 (unitsIn 20 3 rxw) = false)) ∧
    (pb.live = true ∧ pb.prt[0].run = some (xf true 2 3) ∧ (xf true 2 3).retryAt = none ∧
      (unitsIn 20 3 rxw = if (xf true 2 3).dir = true then unitsIn (pb.unitBits 0) (xf true 2 3).dataUnits rxw else []) ∧ pb.flag (F.PRT_P_CFG_BUSY_EN 0) = true ∧ (xf true 2 3).dir = true ∧
      pb.busyMatch 0 (unitsIn 20 3 rxw) = true) ∧
    (pt.live = true ∧ pt.prt[0].run = some xt ∧ xt.retryAt = some 777) ∧
    (py.live = true ∧ py.prt[0].run = some (xf true 2 3) ∧ (xf true 2 3).retryAt = none ∧
      py.flag (F.PRT_P_CFG_RDY_EN 0) = true) ∧
    (pq.reach 5 = true ∧ pq.portBusy 0 = true) ∧
    (p0.reach 5 = true ∧ p0.prt[0].tx.length < p0.fifoDepth 0) ∧
    (p7.reach 5 = true ∧ (p7.prt[0].rx = [7, 8])) :=
  ⟨by decide +kernel,
   by decide +kernel,
   by decide +kernel,
   by decide +kernel,
   by decide +kernel,
   by decide +kernel,
   by decide +kernel,
   by decide +kernel,
   by decide +kernel,
   by decide +kernel,
   by decide +kernel,
   by decide +kernel⟩

/-- EngineFramesAndSlotsRun: states and operands that meet the hypotheses of each clause. -/
theorem witness_EngineFramesAndSlotsRun :
    (e3r.live = true) ∧
    (e3.slotDue 0 = true ∧ 1 = (some 1).getD (progOf e3.engs[0].prog).length ∧ 1 ≤ (progOf e3.engs[0].prog).length) ∧
    (e3.slotDue 0 = true) ∧
    (e3.live = true ∧ (∀ (n : AxisId), some 0 = some n → e3.planned ↑n = true)) ∧
    (e3f.live = true ∧ e3f.planned 0 = true ∧ e3f.flag (F.ENG_SUPV_STALE 0) = false) ∧
    (e3f.live = true) :=
  ⟨by decide +kernel,
   by decide +kernel,
   by decide +kernel,
   by decide +kernel,
   by decide +kernel,
   by decide +kernel⟩

/-- CoefficientsAreStagedAndApplied: states and operands that meet the hypotheses of each clause. -/
theorem witness_CoefficientsAreStagedAndApplied :
    (wf1.reach 10 = true) ∧
    (wf1.reach 10 = true ∧ wf1.opBusy R.ENG_OP_STAT = false) ∧
    (wap.live = true ∧ wap.opBusy R.ENG_OP_STAT = true ∧ wap.lastOp R.ENG_OP_STAT = 1) ∧
    (wbusy.reach 10 = true ∧ wbusy.opBusy R.ENG_OP_STAT = true) ∧
    (wbusy.reach 10 = true ∧ wbusy.opBusy R.ENG_OP_STAT = true ∧
      (Instr.applyCoef 5 ∈ [Instr.applyCoef 5, Instr.discard 5])) :=
  ⟨by decide +kernel,
   by decide +kernel,
   by decide +kernel,
   by decide +kernel,
   by decide +kernel⟩

end Sys2Proof.Tests.W11

namespace Sys2Proof.Tests.W12

def fd (k : Nat) : FeedDef := ⟨0, k, 0, true, 500, 0, 7, 3, 100, 0, 1, 0, 2, 16⟩
def ld0 : LoopDef := ⟨0, 0, 1, 200, 2000, 600, 600, [0x0C * 2 ^ 30 + 3 * 2 ^ 14, 0x30000 * 2 ^ 18 + 0x30000,
    0x3F * 2 ^ 30, 0].map (BitVec.ofNat 36), [], [0,0,0], []⟩
def invF : Inventory := { inv1 with feeds := [fd 0], loops := [ld0] }
def axf (st : Nat) : State :=
  let s : State := [0,1,2,3].foldl (fun s m => (s.setFld (F.LG_LEG_CFG_SC_THRESH_H 0 m) 100).setFld (F.LG_LEG_CFG_SC_THRESH_L 0 m) 100) (ax st)
  { s with inv := some invF, engs := s.engs.set 0 { s.engs[(0 : AxisId)] with prog := ld0.prog, coef := List.replicate 8 0, init := [0,0,0] } }
def a0 := axf 0
def b0 := a0.setLegState 1 lgLatched
def ap0 : State := { a0.setFld ⟨R.INV_OP_STAT, 4, 0⟩ 1 with invOp := { a0.invOp with affected := [0] } }
def lr0 : State := a0.setFld (F.AX_LEARN_CFG_LEARN_ADDR 0) 4
def chk (st : Nat) (p : Purpose) : State :=
    { axf 1 with axes := (axf 1).axes.set 0 { (axf 1).axes[(0 : AxisId)] with check := some ⟨p, st, 40⟩ } }
def c1 := chk 1 .arm
def prm (s : State) : State :=
    (((s.setFld (F.AX_PROF_VMAX_LIMIT 0) 1000).setFld (F.AX_PROF_AMAX_LIMIT 0) 100).setFld (F.AX_PROF_JMAX_LIMIT 0) 10).setFld (F.AX_PROF_QDEC_LIMIT 0) 200
def c4 := prm (chk 4 .arm)
def c4x := chk 4 .arm

/-- ArmingChecksComeFirst: states and operands that meet the hypotheses of each clause. -/
theorem witness_ArmingChecksComeFirst :
    (a0.reach (16 + 0) = true ∧ a0.planned 0 = true ∧
      ((Instr.arm 5 0, Purpose.arm, decide (a0.axisSt 0 = stDisabled) && !a0.stopLow && !a0.guard.armBar,
      0) ∈ [(Instr.arm 5 0, Purpose.arm, decide (a0.axisSt 0 = stDisabled) && !a0.stopLow && !a0.guard.armBar, 0),
      (Instr.reacquire 5 0, Purpose.reacquire, decide (a0.axisSt 0 = stFaulted) && decide (a0.axes[0].cause = 1345),
      10), (Instr.learn 5 0, Purpose.learn, decide (a0.axisSt 0 = stDisabled) && a0.learnOk 0, 11), (Instr.align 5 0,
      Purpose.align, decide (a0.axisSt 0 = stDisabled) && (a0.axisChan 0).isSome, 12)]) ∧
      ((Instr.arm 5 0, Purpose.arm, decide (a0.axisSt 0 = stDisabled) && !a0.stopLow && !a0.guard.armBar,
      0).snd.snd.fst = true) ∧
      ((Instr.arm 5 0, Purpose.arm, decide (a0.axisSt 0 = stDisabled) && !a0.stopLow && !a0.guard.armBar,
      0).snd.fst = Purpose.reacquire ∨ a0.applyBars 0 = false) ∧
      (∀ (l : LegId), l ∈ a0.axisLegs 0 → ¬a0.legState l ∈ [lgForcedOff, lgLatched, lgRetired] ∧
      a0.fld (F.LG_LEG_CFG_SC_THRESH_H (legQ l) (legM l)) ≠ 0 ∧
      a0.fld (F.LG_LEG_CFG_SC_THRESH_L (legQ l) (legM l)) ≠ 0) ∧ a0.supplyReady 0 = false) ∧
    (b0.reach (16 + 0) = true ∧ b0.planned 0 = true ∧
      ((Instr.arm 5 0, Purpose.arm, decide (b0.axisSt 0 = stDisabled) && !b0.stopLow && !b0.guard.armBar,
      0) ∈ [(Instr.arm 5 0, Purpose.arm, decide (b0.axisSt 0 = stDisabled) && !b0.stopLow && !b0.guard.armBar, 0),
      (Instr.reacquire 5 0, Purpose.reacquire, decide (b0.axisSt 0 = stFaulted) && decide (b0.axes[0].cause = 1345),
      10), (Instr.learn 5 0, Purpose.learn, decide (b0.axisSt 0 = stDisabled) && b0.learnOk 0, 11), (Instr.align 5 0,
      Purpose.align, decide (b0.axisSt 0 = stDisabled) && (b0.axisChan 0).isSome, 12)]) ∧
      ((Instr.arm 5 0, Purpose.arm, decide (b0.axisSt 0 = stDisabled) && !b0.stopLow && !b0.guard.armBar,
      0).snd.snd.fst = true) ∧
      ((Instr.arm 5 0, Purpose.arm, decide (b0.axisSt 0 = stDisabled) && !b0.stopLow && !b0.guard.armBar,
      0).snd.fst = Purpose.reacquire ∨ b0.applyBars 0 = false) ∧ (∃ l, l ∈ b0.axisLegs 0 ∧
      b0.legState l ∈ [lgForcedOff, lgLatched, lgRetired])) ∧
    (ap0.reach (16 + 0) = true ∧ ap0.planned 0 = true ∧ ap0.axisSt 0 = stDisabled ∧ ap0.stopLow = false ∧
      ap0.guard.armBar = false ∧ ap0.applyBars 0 = true) ∧
    (lr0.reach (16 + 0) = true ∧ lr0.planned 0 = true ∧ lr0.axisSt 0 = stDisabled ∧
      ((Instr.learn 5 0, lr0.learnOk 0, 11, 1377) ∈ [(Instr.learn 5 0, lr0.learnOk 0, 11, 1377), (Instr.align 5 0,
      (lr0.axisChan 0).isSome, 12, 1378)]) ∧ lr0.applyBars 0 = false ∧
      ((Instr.learn 5 0, lr0.learnOk 0, 11, 1377).snd.fst = false)) ∧
    (c1.planned 0 = true ∧ (c1.checkOf 0 = some ({ purpose := Purpose.arm, stage := 1, since := 40 } : Check)) ∧
      (({ purpose := Purpose.arm, stage := 1, since := 40 } : Check).stage = 1) ∧ c1.supplyReady 0 = false) ∧
    ((c4.checkOf 0 = some ({ purpose := Purpose.arm, stage := 4, since := 40 } : Check)) ∧
      (({ purpose := Purpose.arm, stage := 4, since := 40 } : Check).stage = 4) ∧ c4.startUpAudits = false ∧
      c4.markedCmp 0 = none ∧ c4.paramsOk 0 = true) ∧
    ((c4x.checkOf 0 = some ({ purpose := Purpose.arm, stage := 4, since := 40 } : Check)) ∧
      (({ purpose := Purpose.arm, stage := 4, since := 40 } : Check).stage = 4) ∧ c4x.startUpAudits = false ∧
      c4x.planned 0 = true ∧ (c4x.markedCmp 0 ≠ none ∨ c4x.paramsOk 0 = false)) :=
  ⟨by decide +kernel,
   by decide +kernel,
   by decide +kernel,
   by decide +kernel,
   by decide +kernel,
   by decide +kernel,
   by decide +kernel⟩

end Sys2Proof.Tests.W12

namespace Sys2Proof.Tests.W13

def mot (st : Nat) (f : AxisMot →
    AxisMot) : State :=
    { ax st with axes := (ax st).axes.set 0 (f { (ax st).axes[(0 : AxisId)] with mo := ⟨12345, 0, 0⟩ }) }
def busy (s : State) (op : Nat) : State := (s.setFld ⟨R.AX_OP_STAT 0, 4, 0⟩ 1).setFld ⟨R.AX_OP_STAT 0, 19, 16⟩ op
def m2 := busy (mot 2 id) 0xC
def m3 := busy (mot 3 id) 5
def m4 := mot 4 id
def m5 := mot 5 id
def m6 := mot 6 id
def d8 := mot 2 (fun a => { a with disarm := some 8 })
def s4c := mot 4 (fun a => { a with req := some (.stop false) })
def tg (s : State) : State := ((s.setFld ⟨R.AX_TARGET_POS 0, 35, 0⟩ 0xF00000123).setFld ⟨R.AX_SET_POS 0, 35, 0⟩ 0x55)
def v3 := tg m3
def v2 := tg (mot 2 (fun a => { a with settled := true }))
def v2u := tg (mot 2 id)
def sb := mot 2 (fun a => { a with cfg := { a.cfg with ctrl := 0x8005 } })
def hd := mot 2 (fun a => { a with holdSince := some 44 })
def fd (k : Nat) : FeedDef := ⟨0, k, 0, true, 500, 0, 7, 3, 100, 0, 1, 0, 2, 16⟩
def alg (ph ang th : Nat) : State :=
  let s := busy (mot 2 (fun a => { a with align := some ⟨true, ph, 5, th⟩, amp := ⟨1000, 1000, 8, true⟩ })) 0xC
  { s with inv := some { inv1 with feeds := [fd 0] }, chans := s.chans.set 0 { s.chans[(0 : AxisId)] with ang := ang } }
def g0 := alg 0 777 0
def g1 := alg 1 66000 500
def lrn (p : List (Int × Nat × Int × Nat)) : Learn := ⟨true, 0, p⟩
def ln1 : State :=
  let s := busy (mot 3 (fun a => { a with learn := some (lrn [(1,1,1,1)]) })) 0xB; { s with inv := some { inv1 with feeds := [fd 0] } }
def rq := busy (mot 2 (fun a => { a with reacquire := some (some 50) })) 0xA
def xf0 : Xfer := ⟨2, 8, 8, 5, 6, 7, false⟩
def xf := mot 3 (fun a => { a with xfer := some xf0, track := true })

/-- StopsAndReleasesOfAnAxis: states and operands that meet the hypotheses of each clause. -/
theorem witness_StopsAndReleasesOfAnAxis :
    (m2.reach (16 + 0) = true ∧ m2.planned 0 = true ∧ m2.axisSt 0 = stArmed) ∧
    (m2.reach (16 + 0) = true ∧ m2.planned 0 = true ∧ m2.opBusy (R.AX_OP_STAT 0) = true) ∧
    (m3.reach (16 + 0) = true ∧ m3.planned 0 = true ∧ m3.axisSt 0 = stRunning) ∧
    (m4.reach (16 + 0) = true ∧ m4.planned 0 = true ∧ m4.axisSt 0 = stStopping ∧ m4.faultStopping 0 = false) ∧
    (m4.axisSt 0 = stStopping ∧ m4.profileOver 0 = true ∧ m4.planned 0 = true) ∧
    (m5.reach (16 + 0) = true ∧ m5.planned 0 = true ∧ m5.axisSt 0 = stFaulted ∧ m5.stopLow = false) ∧
    (m6.reach (16 + 0) = true ∧ m6.planned 0 = true ∧ m6.axisSt 0 = stLatched ∧
      m6.flag F.FLT_STATUS_VM_REVERSED = false ∧ m6.flag F.FLT_STATUS_STOP_DISC = false) ∧
    (m3.reach (16 + 0) = true ∧ m3.planned 0 = true ∧
      ((Instr.stop 5 0, false) ∈ [(Instr.stop 5 0, false), (Instr.qstop 5 0, true)]) ∧ m3.axisSt 0 = stRunning) ∧
    (m5.reach (16 + 0) = true ∧ m5.planned 0 = true ∧
      ((Instr.stop 5 0, [stRunning]) ∈ [(Instr.stop 5 0, [stRunning]), (Instr.clear 5 0, [stFaulted]),
      (Instr.unlatch 5 0, [stLatched])]) ∧ (¬m5.axisSt 0 ∈ (Instr.stop 5 0, [stRunning]).snd)) ∧
    (d8.axes[0].disarm = some 8 ∧ 8 ≤ 8 ∧ d8.axisSt 0 = stArmed) ∧
    (s4c.axisSt 0 = stStopping ∧ s4c.profileOver 0 = false ∧ s4c.planned 0 = true) :=
  ⟨by decide +kernel,
   by decide +kernel,
   by decide +kernel,
   by decide +kernel,
   by decide +kernel,
   by decide +kernel,
   by decide +kernel,
   by decide +kernel,
   by decide +kernel,
   by decide +kernel,
   by decide +kernel⟩

/-- MovesStartOnAKnownRotor: states and operands that meet the hypotheses of each clause. -/
theorem witness_MovesStartOnAKnownRotor :
    (v3.reach (16 + 0) = true ∧ v3.planned 0 = true ∧ v3.moveAllowed 0 = true ∧
      ((Instr.moveAbs 5 0, 5, v3.reg (R.AX_TARGET_POS 0)) ∈ [(Instr.moveAbs 5 0, 5, v3.reg (R.AX_TARGET_POS 0)),
      (Instr.moveRel 5 0, 6, v3.reg (R.AX_SET_POS 0) + v3.reg (R.AX_TARGET_POS 0))]) ∧ v3.axisSt 0 = stRunning) ∧
    (v3.reach (16 + 0) = true ∧ v3.planned 0 = true ∧ v3.moveAllowed 0 = true ∧ v3.axisSt 0 = stRunning) ∧
    (v3.axisSt 0 = stRunning ∧ v3.profileOver 0 = true ∧ v3.axes[0].mo.a = 0 ∧ v3.opBusy (R.AX_OP_STAT 0) = true ∧
      (v3.lastOp (R.AX_OP_STAT 0) ∈ [5, 6])) ∧
    (v2.reach (16 + 0) = true ∧ v2.planned 0 = true ∧ v2.moveAllowed 0 = true ∧
      ((Instr.moveAbs 5 0, 5, v2.reg (R.AX_TARGET_POS 0)) ∈ [(Instr.moveAbs 5 0, 5, v2.reg (R.AX_TARGET_POS 0)),
      (Instr.moveRel 5 0, 6, v2.reg (R.AX_SET_POS 0) + v2.reg (R.AX_TARGET_POS 0))]) ∧ v2.axisSt 0 = stArmed ∧
      v2.axes[0].align = none ∧ v2.needsAlign 0 = false ∧ v2.rotor 0 ≠ 0) ∧
    (v2.reach (16 + 0) = true ∧ v2.planned 0 = true ∧ (v2.axisSt 0 = stDisabled ∨ v2.armedRest 0 = true)) ∧
    (v2u.reach (16 + 0) = true ∧ v2u.planned 0 = true ∧ v2u.moveAllowed 0 = true ∧
      (Instr.velocity 5 0 ∈ [Instr.moveAbs 5 0, Instr.moveRel 5 0, Instr.velocity 5 0]) ∧ v2u.axisSt 0 = stArmed ∧
      (v2u.axes[0].align ≠ none ∨ v2u.needsAlign 0 = true ∨ v2u.rotor 0 = 0 ∧
      v2u.flag (F.AX_PROF_CTRL_FORCE 0) = false)) ∧
    (sb.armedRest 0 = true ∧ sb.axes[0].cfg.autoStandby = true ∧ sb.regime 0 ≠ 2) ∧
    (hd.axes[0].holdSince = some 44 ∧ hd.axisOn 0 = true ∧ hd.drive 0 = 0 ∧ hd.locked 0 = false) :=
  ⟨by decide +kernel,
   by decide +kernel,
   by decide +kernel,
   by decide +kernel,
   by decide +kernel,
   by decide +kernel,
   by decide +kernel,
   by decide +kernel⟩

/-- AxisOperationsEnd: states and operands that meet the hypotheses of each clause. -/
theorem witness_AxisOperationsEnd :
    ((g0.axes[0].align = some ({ fromDisabled := true, phase := 0, since := 5, theta1 := 0 } : Align)) ∧
      g0.axisSt 0 = stArmed ∧ (({ fromDisabled := true, phase := 0, since := 5, theta1 := 0 } : Align).phase = 0)) ∧
    ((g1.axes[0].align = some ({ fromDisabled := true, phase := 1, since := 5, theta1 := 500 } : Align)) ∧
      g1.axisSt 0 = stArmed ∧ (({ fromDisabled := true, phase := 1, since := 5, theta1 := 500 } : Align).phase = 1) ∧
      (angDiff 66000 500 = angDiff ((g1.axisChan 0).elim 0 fun c ↦ g1.chans[c].ang) ({ fromDisabled := true, phase := 1, since := 5, theta1 := 500 } : Align).theta1)) ∧
    ((ln1.axes[0].learn = some (lrn [(1, 1, 1, 1)])) ∧ ln1.axisSt 0 = stRunning ∧ ((lrn [(1, 1, 1, 1)]).back = true) ∧
      ln1.profileOver 0 = true ∧ ln1.opBusy (R.AX_OP_STAT 0) = true) ∧
    (rq.axes[0].reacquire = some (some 50) ∧ rq.axisSt 0 = stArmed ∧ rq.locked 0 = false ∧ rq.planned 0 = true) ∧
    (xf.axes[0].xfer = some xf0 ∧ xf0.steps ≤ xf0.k ∧ xf0.quiet = false) :=
  ⟨by decide +kernel,
   by decide +kernel,
   by decide +kernel,
   by decide +kernel,
   by decide +kernel⟩

end Sys2Proof.Tests.W13

namespace Sys2Proof.Tests.W14

def mot (st : Nat) (f : AxisMot →
    AxisMot) : State :=
    { ax st with axes := (ax st).axes.set 0 (f { (ax st).axes[(0 : AxisId)] with mo := ⟨12345, 0, 0⟩ }) }
def ldc (s : State) : State := s.setFlag F.LDC_STATUS_READY true
def prog0 (s : State) : State :=
    (((ldc s).setFld (F.PLN_PROG_AXES 5) 1).setFld (F.PLN_PROG_LINE 5) 77).setFlag (F.PLN_PROG_VALID 5) true
def st0 := prog0 (mot 2 (fun a => { a with settled := true }))
def plan (f : Planner →
    Planner) (st : Nat) : State :=
    { ldc (ax st) with planner := f { Planner.reset with axes := [0], line := 70, primed := true } }
def pl0 := plan id 3
def pl1 := plan (fun p => { p with hold := true }) 3
def pl2 := (plan (fun p => { p with velAxes := [0] }) 3).setFld ⟨R.PLN_OP_STAT, 4, 0⟩ 1
def dl (l : Option (List (Nat × List Word))) : Delivered := ⟨.planner, l⟩
def arr (d : Delivered) : State := { pl0 with larder := { pl0.larder with arrived := [d] } }
def ar0 := arr (dl none)
def blk (h : Nat) (l : List Nat) : List Word := (h :: l ++ List.replicate (7 - l.length) 0).map (BitVec.ofNat 36)
def bBad := blk (5 * 2 ^ 32 + 9) []
def bIo := blk (7 * 2 ^ 32 + 9) [0xF0, 0x50]
def bEnd := blk (14 * 2 ^ 32 + 10) []
def ar1 := arr (dl (some [(70, bBad)]))
def ar2 := arr (dl (some [(70, bIo)]))
def ar3 := arr (dl (some [(70, bEnd)]))
def it (op : PlanOp) : PlanItem := ⟨70, 9, 0, op⟩
def dw := plan (fun p => { p with wait := .dwell 0, queue := [it (.dwell 3)] }) 3
def io1 := plan (fun p => { p with wait := .io 4, queue := [it (.waitIo 1 1 4 (some 90))] }) 3
def fi := (plan (fun p => { p with queue := [it .fin] }) 3).setFld ⟨R.PLN_OP_STAT, 4, 0⟩ 1
def sy (f : Planner → Planner) : State := plan (fun p => f { p with queue := [it (.sync 3 7 10)] }) 3
def sy0 := sy id
def sy1 := sy (fun p => { p with wait := .sync, ta := 999, repeatAt := 800, arrived := 700, tgo := some 4000 })
def gh (b : Bool) : State := plan (fun p => { p with groupAt := some (5000, b), hold := true }) 3
def gh0 := gh false
def stI : Inventory := { inv1 with axes := [⟨0, 0, 0, 2, true, false, 0⟩] }
def sm : State := { ax 3 with inv := some stI, planner := { Planner.reset with missed := [100000,0,0,0,0,0,0,0], points := [(0,1,2,3),(1,1,2,3)] } }

/-- ProgramsStartHoldAndEnd: states and operands that meet the hypotheses of each clause. -/
theorem witness_ProgramsStartHoldAndEnd :
    (st0.reach 9 = true ∧ st0.planOn = false ∧ [0] = maskAxes (st0.fld (F.PLN_PROG_AXES 5)) ∧
      77 = st0.fld (F.PLN_PROG_LINE 5) ∧ st0.flag (F.PLN_PROG_VALID 5) = true ∧ [0] ≠ [] ∧ st0.lineOk 77 = true ∧
      (∀ (n : AxisId), n ∈ idsOf [0] → Option.any (fun r ↦ decide (r.source = 0)) (st0.axisRec ↑n) = true ∧
      st0.axisSt n = stArmed ∧ st0.opBusy (R.AX_OP_STAT n) = false ∧ st0.axes[n].align = none ∧
      st0.needsAlign n = false ∧ st0.rotor n ≠ 0)) ∧
    (st0.reach 9 = true ∧ st0.planOn = false ∧ [] = maskAxes (st0.fld (F.PLN_PROG_AXES 6)) ∧
      0 = st0.fld (F.PLN_PROG_LINE 6) ∧
      (st0.flag (F.PLN_PROG_VALID 6) = false ∨ ([] : List AxisId) = [] ∨ st0.lineOk 0 = false)) ∧
    (pl0.reach 9 = true ∧ pl0.planOn = true) ∧
    (pl0.reach 9 = true ∧ pl0.planOn = true ∧ pl0.planner.aborting = false ∧ pl0.fld F.PLN_EXEC_GROUP = 0) ∧
    (pl1.reach 9 = true ∧ pl1.planOn = true ∧ pl1.planner.aborting = false ∧ pl1.fld F.PLN_EXEC_GROUP = 0 ∧
      (pl1.planner.hold = true ∨ pl1.planner.groupHold = true) ∧ pl1.planner.late = false) ∧
    (pl2.reach 9 = true ∧ pl2.planOn = true ∧ pl2.opBusy R.PLN_OP_STAT = true) ∧
    (ar0.live = true ∧ ar0.planOn = true ∧ ar0.planner.aborting = false ∧ ar0.planner.err = none ∧
      ar0.planner.open_ = none ∧
      (List.find? (fun d ↦ d.user == LineUser.planner) ar0.larder.arrived = some (dl none)) ∧
      (dl none).lines = none) ∧
    (ar1.live = true ∧ ar1.planOn = true ∧ ar1.planner.aborting = false ∧ ar1.planner.err = none ∧
      ar1.planner.open_ = none ∧
      (List.find? (fun d ↦ d.user == LineUser.planner) ar1.larder.arrived = some (dl (some [(70, bBad)]))) ∧
      ((dl (some [(70, bBad)])).lines = some [(70, bBad)]) ∧ ar1.blockOk bBad = false) ∧
    (ar2.live = true ∧ ar2.planOn = true ∧ ar2.planner.aborting = false ∧ ar2.planner.err = none ∧
      ar2.planner.open_ = none ∧
      (List.find? (fun d ↦ d.user == LineUser.planner) ar2.larder.arrived = some (dl (some [(70, bIo)]))) ∧
      ((dl (some [(70, bIo)])).lines = some [(70, bIo)]) ∧ ar2.blockOk bIo = true ∧
      fieldOf (bIo.getD 0 0) 35 32 = 7) ∧
    (ar3.live = true ∧ ar3.planOn = true ∧ ar3.planner.aborting = false ∧ ar3.planner.err = none ∧
      ar3.planner.open_ = none ∧
      (List.find? (fun d ↦ d.user == LineUser.planner) ar3.larder.arrived = some (dl (some [(70, bEnd)]))) ∧
      ((dl (some [(70, bEnd)])).lines = some [(70, bEnd)]) ∧ ar3.blockOk bEnd = true ∧
      fieldOf (bEnd.getD 0 0) 35 32 = 14) ∧
    (dw.planner.wait = PlanWait.dwell 0) ∧
    (io1.planner.wait = PlanWait.io 4 ∧
      (io1.planner.queue = [({ addr := 70, lineNo := 9, depth := 0, op := PlanOp.waitIo 1 1 4 (some 90) } : PlanItem)]) ∧ 4 ≠ 0 ∧
      4 ≤ 4) ∧
    (fi.planner.queue.head? = some (it PlanOp.fin) ∧ (it PlanOp.fin).op = PlanOp.fin ∧ fi.programRest = true) :=
  ⟨by decide +kernel,
   by decide +kernel,
   by decide +kernel,
   by decide +kernel,
   by decide +kernel,
   by decide +kernel,
   by decide +kernel,
   by decide +kernel,
   by decide +kernel,
   by decide +kernel,
   by decide +kernel,
   by decide +kernel,
   by decide +kernel⟩

/-- ModulesWaitAndHoldTogether: states and operands that meet the hypotheses of each clause. -/
theorem witness_ModulesWaitAndHoldTogether :
    ((sy0.planner.queue = [({ addr := 70, lineNo := 9, depth := 0, op := PlanOp.sync 3 7 10 } : PlanItem)]) ∧
      sy0.pathRest = true ∧ sy0.planner.wait = PlanWait.none) ∧
    ((sy1.planner.queue = [({ addr := 70, lineNo := 9, depth := 0, op := PlanOp.sync 3 7 10 } : PlanItem)]) ∧
      sy1.planner.wait = PlanWait.sync ∧ sy1.planner.ta ≠ 0) ∧
    ((sy1.planner.queue = [({ addr := 70, lineNo := 9, depth := 0, op := PlanOp.sync 3 7 10 } : PlanItem)]) ∧
      sy1.planner.wait = PlanWait.sync ∧ sy1.planner.tgo = some 4000 ∧
      ([1] = List.filter (fun m ↦ (sy1.slotOfModule m).isNone || !sy1.planner.held.any fun h ↦ h.module == m && h.id == 7 && h.modules == 3 && h.held &&& 3 == 3) (sy1.otherModules 3))) ∧
    ((sy1.planner.queue = [({ addr := 70, lineNo := 9, depth := 0, op := PlanOp.sync 3 7 10 } : PlanItem)]) ∧
      sy1.planner.wait = PlanWait.sync ∧ 10 ≠ 0 ∧ sy1.planner.late = false) ∧
    ((gh0.planner.groupAt = some (5000, false)) ∧ gh0.planOn = true) ∧
    ((Option.any (fun r ↦ decide (r.source = 2)) (sm.axisRec 0) = true) ∧ sm.axisSt 0 = stRunning ∧
      max 1 (sm.fld F.PLN_STREAM_CFG_TIMEOUT) ≤ sm.streamMissed 0) :=
  ⟨by decide +kernel,
   by decide +kernel,
   by decide +kernel,
   by decide +kernel,
   by decide +kernel,
   by decide +kernel⟩

end Sys2Proof.Tests.W14

namespace Sys2Proof.Tests.W15

def L0 : State := (ax 0).setFlag F.LDC_STATUS_READY true
def rq (cls : Nat) (u : LineUser) (line : Nat) : LineReq := ⟨cls, u, [line], []⟩
def LR (cls : Nat) (u : LineUser) (line : Nat) (f : Larder →
    Larder) : State := { L0 with larder := f { L0.larder with reqs := [rq cls u line] } }
def c10 : List Nat := lineCode (List.replicate 8 0) 80 0
def s1 := LR 2 (.compare 3) 10 id
def d1 : List Disturb := [⟨10, [(3, 0x55), (40, 1)], []⟩]
def d1' : List Disturb := [⟨10, [(3, 0x55), (40, 1)], [(3, 0x55)]⟩]
def d2 : List Disturb := [⟨10, [(3, 0x55), (40, 1), (1, 7), (5, 9), (6, 2)], []⟩]
def sW := LR 5 (.window true) 10 id
def sc := (L0.setFlag F.LDC_SCRUB_CFG_EN true).setFld F.LDC_SCRUB_POS_LINE 44

/-- LinesAreReadCorrectedOrLost: states and operands that meet the hypotheses of each clause. -/
theorem witness_LinesAreReadCorrectedOrLost :
    (s1.larderReady = true ∧ s1.larder.grant = some (rq 2 (LineUser.compare 3) 10) ∧
      (rq 2 (LineUser.compare 3) 10).lines = [10] ∧ (rq 2 (LineUser.compare 3) 10).cls < 5 ∧
      (∀ (hp : Bool), (rq 2 (LineUser.compare 3) 10).user ≠ LineUser.window hp) ∧
      (∀ (n : Nat), (rq 2 (LineUser.compare 3) 10).user ≠ LineUser.image n) ∧ (¬10 ∈ s1.larder.poisoned) ∧
      (rsDecode (flipBytes (Memory.line s1.larder.mem (s1.physLine 10)) (disturbOf [] 10).fst) = some (c10, [])) ∧
      lineEcho c10 = 10 * 8) ∧
    (s1.larderReady = true ∧ s1.larder.grant = some (rq 2 (LineUser.compare 3) 10) ∧
      (rq 2 (LineUser.compare 3) 10).lines = [10] ∧ (rq 2 (LineUser.compare 3) 10).cls < 5 ∧
      (∀ (hp : Bool), (rq 2 (LineUser.compare 3) 10).user ≠ LineUser.window hp) ∧
      (∀ (n : Nat), (rq 2 (LineUser.compare 3) 10).user ≠ LineUser.image n) ∧ (¬10 ∈ s1.larder.poisoned) ∧
      (rsDecode (flipBytes (Memory.line s1.larder.mem (s1.physLine 10)) (disturbOf d1 10).fst) = some (c10, [3,
      40])) ∧ ([3, 40] ≠ []) ∧ lineEcho c10 = 10 * 8) ∧
    (s1.larderReady = true ∧ s1.larder.grant = some (rq 2 (LineUser.compare 3) 10) ∧
      (rq 2 (LineUser.compare 3) 10).lines = [10] ∧ (rq 2 (LineUser.compare 3) 10).cls < 5 ∧
      (∀ (hp : Bool), (rq 2 (LineUser.compare 3) 10).user ≠ LineUser.window hp) ∧
      (∀ (n : Nat), (rq 2 (LineUser.compare 3) 10).user ≠ LineUser.image n) ∧
      (false = false →
      10 ∈ s1.larder.poisoned ∨ rsDecode (flipBytes (Memory.line s1.larder.mem (s1.physLine 10)) (disturbOf d2 10).fst) = none) ∧ (false = true → ¬10 ∈ s1.larder.poisoned ∧ ∃ c pos, rsDecode (flipBytes (Memory.line s1.larder.mem (s1.physLine 10)) (disturbOf d2 10).fst) = some (c, pos) ∧
      lineEcho c ≠ 10 * 8)) ∧
    (sW.larderReady = true ∧ sW.larder.grant = some (rq 5 (LineUser.window true) 10) ∧
      (rq 5 (LineUser.window true) 10).lines = [10] ∧ (rq 5 (LineUser.window true) 10).cls = 5 ∧
      (rq 5 (LineUser.window true) 10).user = LineUser.window true ∧ sW.larder.hp.closing = [] ∧
      sW.larder.lad.closing = [] ∧ (¬10 ∈ sW.larder.poisoned) ∧
      (rsDecode (Memory.line sW.larder.mem (sW.physLine 10)) = some (c10, [])) ∧ lineEcho c10 = 10 * 8) :=
  ⟨⟨by decide +kernel, by decide +kernel, by decide +kernel, by decide +kernel, by decide +kernel,
    by intro n; simp [rq], by decide +kernel, by decide +kernel, by decide +kernel⟩,
   ⟨by decide +kernel, by decide +kernel, by decide +kernel, by decide +kernel, by decide +kernel,
     by intro n; simp [rq], by decide +kernel, by decide +kernel, by decide +kernel, by decide +kernel⟩,
   ⟨by decide +kernel, by decide +kernel, by decide +kernel, by decide +kernel, by decide +kernel,
     by intro n; simp [rq], by decide +kernel, nofun⟩,
   by decide +kernel⟩

/-- LarderScrubsAndRefreshes: states and operands that meet the hypotheses of each clause. -/
theorem witness_LarderScrubsAndRefreshes :
    (sc.live = true ∧ sc.larderReady = true ∧ sc.flag F.LDC_SCRUB_CFG_EN = true ∧
      sc.fld F.LDC_SCRUB_POS_LINE < sc.variant.dramLines) ∧
    (sc.live = true ∧ sc.larderReady = true) ∧
    (L0.live = true ∧ 700 = max (100 : Int) (max (-1 : Int) (700 : Int))) :=
  ⟨by decide +kernel,
   by decide +kernel,
   by decide +kernel⟩

end Sys2Proof.Tests.W15

namespace Sys2Proof.Tests.W16

def L0 : State := (ax 0).setFlag F.LDC_STATUS_READY true
def PT (a : Nat) (f : Pointer →
    Pointer) : State := { L0.setFld ⟨ptrKey true, 29, 0⟩ a with larder := { L0.larder with hp := f L0.larder.hp } }
def w1 : Word := 0xABC123456
def p0 := PT 83 id
def pr1 := PT 83 (fun p => { p with present := [(10, some [1,2,3,4,5,6,7,8])] })
def wsP : Option (List Word) := some [1,2,3,4,5,6,7,8]
def pOut := PT (2^30 - 1) id
def full : List (Nat × Word) := (List.range 8).map (fun i => (i, BitVec.ofNat 36 (i * 77)))
def pg := PT 83 (fun p => { p with gather := some (10, full), present := [(3, none), (9, none)] })
def pc := PT 83 (fun p => { p with closing := [(10, [(3, 9)]), (11, full)] })
def pcp : State := { pc with larder := { pc.larder with poisoned := [10] } }
def hc (src dst len : Nat) : State :=
    ((L0.setFld F.HST_SRC_ADDR src).setFld F.HST_DST_ADDR dst).setFld F.HST_LEN_ADDR len
def h1 := hc 80 160 8
def h2 := hc 80 160 0
def op_ (o : HoistOp) : State := { h1 with larder := { h1.larder with op := some o } }
def o2 : HoistOp := ⟨2, 80, 160, 8, 0x123⟩
def o3 : HoistOp := ⟨3, 80, 160, 8, 0x123⟩
def o4 : HoistOp := ⟨4, 80, 160, 8, 0x123⟩
def h1a := op_ o2
def h1b := op_ o3
def h1c := op_ o4

/-- PointersGatherAndCommit: states and operands that meet the hypotheses of each clause. -/
theorem witness_PointersGatherAndCommit :
    (p0.live = true ∧ p0.busIdle = true ∧ true = (Req.hp == Req.hp) ∧ 83 = p0.ptrAddr true ∧
      (∀ (x : Req × Txn), x ∈ p0.access.open_ → x.fst ≠ Req.hp) ∧ p0.hoistOk true 83 = true ∧
      (∀ (g : Nat × List (Nat × Word)), (p0.ptr true).gather = some g → g.fst = 83 / 8) ∧
      ([] = (p0.ptr true).gather.elim [] fun x ↦ x.snd)) ∧
    (p0.live = true ∧ p0.busIdle = true ∧ true = (Req.hp == Req.hp) ∧ 83 = p0.ptrAddr true ∧
      (∀ (x : Req × Txn), x ∈ p0.access.open_ → x.fst ≠ Req.hp) ∧ p0.hoistOk false 83 = true ∧
      (p0.ptr true).gather = none ∧ (List.find? (fun e ↦ e.fst == 83 / 8) (p0.ptr true).present = none) ∧
      p0.larder.reqs = []) ∧
    (p0.reach 7 = true ∧ (p0.ptr true).closing = [] ∧ (p0.ptr true).gather = none) ∧
    (pr1.live = true ∧ pr1.busIdle = true ∧ true = (Req.hp == Req.hp) ∧ 83 = pr1.ptrAddr true ∧
      (∀ (x : Req × Txn), x ∈ pr1.access.open_ → x.fst ≠ Req.hp) ∧ pr1.hoistOk false 83 = true ∧
      (pr1.ptr true).gather = none ∧
      (List.find? (fun e ↦ e.fst == 83 / 8) (pr1.ptr true).present = some (83 / 8, wsP))) ∧
    (pOut.live = true ∧ pOut.busIdle = true ∧ true = (Req.hp == Req.hp) ∧ 2 ^ 30 - 1 = pOut.ptrAddr true ∧
      (∀ (x : Req × Txn), x ∈ pOut.access.open_ → x.fst ≠ Req.hp) ∧
      pOut.hoistOk (some w1).isSome (2 ^ 30 - 1) = false) ∧
    (pg.reach 7 = true ∧ (pg.ptr true).closing = [] ∧ ((pg.ptr true).gather = some (10, full)) ∧
      (∀ (i : Nat), i < 8 → ∃ e, e ∈ full ∧ e.fst = i) ∧ (∀ (i : Nat), i < 8 → pg.hoistOk true (10 * 8 + i) = true) ∧
      (∀ (e : Nat × Word), e ∈ full → e.fst < 8)) ∧
    (pc.live = true ∧ ((pc.ptr true).closing = [(10, [(3, 9)]), (11, full)]) ∧
      (∀ (e : Nat × Word), e ∈ [(3, 9)] → e.fst < 8) ∧ ([(3, 9)] ≠ []) ∧
      (∀ (i : Nat), i < 8 → pc.hoistOk true (10 * 8 + i) = true) ∧ LineReads pc 10 (List.replicate 8 0) ∧
      (disturbOf [] 10 = ([], []) ∨ ∀ (i : Nat), i < 8 → ∃ e, e ∈ [(3, 9)] ∧ e.fst = i)) ∧
    (pcp.live = true ∧ ((pcp.ptr true).closing = [(10, [(3, 9)]), (11, full)]) ∧
      (∀ (e : Nat × Word), e ∈ [(3, 9)] → e.fst < 8) ∧ ([(3, 9)] ≠ []) ∧
      (∀ (i : Nat), i < 8 → pcp.hoistOk true (10 * 8 + i) = true) ∧ 10 ∈ pcp.larder.poisoned ∧ (∃ i, i < 8 ∧
      ∀ (e : Nat × Word), e ∈ [(3, 9)] → e.fst ≠ i)) :=
  ⟨by decide +kernel,
   by decide +kernel,
   by decide +kernel,
   by decide +kernel,
   by decide +kernel,
   by decide +kernel,
   ⟨by decide +kernel, by decide +kernel, by decide +kernel, by decide +kernel, by decide +kernel,
     by unfold LineReads; decide +kernel, by decide +kernel⟩,
   by decide +kernel⟩

/-- HoistOperationsRunAndEnd: states and operands that meet the hypotheses of each clause. -/
theorem witness_HoistOperationsRunAndEnd :
    (p0.reach 7 = true ∧ (p0.ptr true).closing = [] ∧ (p0.ptr !true).closing = [] ∧ (p0.ptr !true).gather = none ∧
      (p0.ptr true).gather = none) ∧
    (pg.reach 7 = true ∧ (pg.ptr true).closing = [] ∧ (pg.ptr !true).closing = [] ∧ (pg.ptr !true).gather = none ∧
      ((pg.ptr true).gather = some (10, full)) ∧ (∀ (i : Nat), i < 8 → ∃ e, e ∈ full ∧ e.fst = i) ∧
      (∀ (e : Nat × Word), e ∈ full → e.fst < 8) ∧ (∀ (i : Nat), i < 8 → pg.hoistOk true (10 * 8 + i) = true)) ∧
    (h1.reach 7 = true ∧ ((Instr.copy 5, 3) ∈ [(Instr.fill 5, 2), (Instr.copy 5, 3), (Instr.crc 5, 4)]) ∧
      80 = h1.fld F.HST_SRC_ADDR ∧ 160 = h1.fld F.HST_DST_ADDR ∧ 8 = h1.fld F.HST_LEN_ADDR ∧ h1.larder.op = none ∧
      h1.hoistOpOk 3 80 160 8 = true) ∧
    (h2.reach 7 = true ∧ ((Instr.crc 5, 4) ∈ [(Instr.fill 5, 2), (Instr.copy 5, 3), (Instr.crc 5, 4)]) ∧
      80 = h2.fld F.HST_SRC_ADDR ∧ 160 = h2.fld F.HST_DST_ADDR ∧ 0 = h2.fld F.HST_LEN_ADDR ∧ h2.larder.op = none ∧
      (0 = 0 ∨ 4 ≠ 2 ∧ h2.variant.rbase < 80 + 0 ∨ 4 ≠ 4 ∧ h2.variant.rbase < 160 + 0 ∨ h2.larderReady = false)) ∧
    (h1a.reach 7 = true ∧ ((Instr.copy 5, 3) ∈ [(Instr.fill 5, 2), (Instr.copy 5, 3), (Instr.crc 5, 4)]) ∧
      80 = h1a.fld F.HST_SRC_ADDR ∧ 160 = h1a.fld F.HST_DST_ADDR ∧ 8 = h1a.fld F.HST_LEN_ADDR ∧
      h1a.larder.op ≠ none) ∧
    (h1a.reach 7 = true ∧ h1a.larder.op = some o2) ∧
    (h1.reach 7 = true ∧ h1.larder.op = none) ∧
    (h1a.live = true ∧ h1a.larder.op = some o2 ∧ h1a.larder.hp.closing = [] ∧ h1a.larder.lad.closing = [] ∧
      h1a.hoistOpOk o2.op o2.src o2.dst o2.len = true ∧ o2.len = 8 ∧ o2.op = 2 ∧ o2.dst = 20 * 8) ∧
    (h1a.live = true ∧ h1a.larder.op = some o2 ∧ h1a.larder.hp.closing = [] ∧ h1a.larder.lad.closing = [] ∧
      h1a.hoistOpOk o2.op o2.src o2.dst o2.len = true) ∧
    (h1b.live = true ∧ h1b.larder.op = some o3 ∧ h1b.larder.hp.closing = [] ∧ h1b.larder.lad.closing = [] ∧
      h1b.hoistOpOk o3.op o3.src o3.dst o3.len = true ∧ o3.len = 8 ∧ o3.src = 10 * 8 ∧
      LineReads h1b 10 (List.replicate 8 0) ∧ o3.op = 3 ∧ o3.dst = 20 * 8) ∧
    (h1c.live = true ∧ h1c.larder.op = some o4 ∧ h1c.larder.hp.closing = [] ∧ h1c.larder.lad.closing = [] ∧
      h1c.hoistOpOk o4.op o4.src o4.dst o4.len = true ∧ o4.len = 8 ∧ o4.src = 10 * 8 ∧
      LineReads h1c 10 (List.replicate 8 0) ∧ o4.op = 4) :=
  ⟨by decide +kernel,
   by decide +kernel,
   by decide +kernel,
   by decide +kernel,
   by decide +kernel,
   by decide +kernel,
   by decide +kernel,
   by decide +kernel,
   by decide +kernel,
   ⟨by decide +kernel, by decide +kernel, by decide +kernel, by decide +kernel, by decide +kernel, by decide +kernel,
     by decide +kernel, by unfold LineReads; decide +kernel, by decide +kernel, by decide +kernel⟩,
   ⟨by decide +kernel, by decide +kernel, by decide +kernel, by decide +kernel, by decide +kernel, by decide +kernel,
     by decide +kernel, by unfold LineReads; decide +kernel, by decide +kernel⟩⟩

end Sys2Proof.Tests.W16

namespace Sys2Proof.Tests.W17

def up (f : Ladder → Ladder) : State :=
  let s := ((ax 0).setRegBit R.LAD_PORT_STAT 0 true).setRegBit R.LAD_PORT_STAT 2 true
  { s with ladder := f s.ladder }
def n0 := up id
def ipH (src : BitVec 32) : IpHdr := ⟨4, 5, true, false, 0, src, n0.myIp⟩
def fr (b : Packet) : Frame := ⟨0x123456789A, n0.myMac, 200, false, true, b⟩
def frO (b : Packet) : Frame := ⟨0x123456789A, 0x0A0000001234, 200, false, true, b⟩
def fA := fr (.arp true 0x123456789A 0x0A000009 n0.myIp)
def fBad := { fA with vlan := true }
def pm (k : PtpKind) : PtpMsg := ⟨k, 0, 77, 5, 1000000, 3, 0, ⟨[128, 6]⟩, 3⟩
def nA := up (fun l => { l with fdb := [(1, 0, 9), (2, 1, 5)], arp := [(7, 1, 9), (8, 2, 5)] })
def e0 : Nat × Nat × Frame := (1, 3, frO .other)
def rx (f : Frame) (g : Ladder → Ladder) : State := up (fun l => g { l with rx := [e0, (0, 4, f), e0] })
def ra := rx fA id
def bb (s : State) := (bucketTake 200 200 (s.clock + 5) s.ladder.arpTokens).getD (0,0)
def rz := rx fA (fun l => { l with arpTokens := (0, 99999999) })
def fI := fr (.icmp (ipH 9) true [1,2,3])
def ri := rx fI id
def bs (s : State) := (bucketTake 2000 64 (s.clock + 5) s.ladder.shared).getD (0,0)
def rq := rx fI (fun l => { l with quar := [(9, 999999)] })
def dn := ((ax 0).setRegBit R.CLK_POWER 0 true)
def mF : PtpMsg := ⟨.followUp, 0, 77, 5, 2000, 3, 0, ⟨[128, 6]⟩, 3⟩
def mS : PtpMsg := ⟨.sync, 0, 77, 5, 0, 4, 0, ⟨[128, 6]⟩, 3⟩
def fF2 := fr (.ptp (ipH 9) mF)
def fS2 := fr (.ptp (ipH 9) mS)
def rk : ClockRank := ⟨[128, 6]⟩
def pt (good bad : Nat) (lk : Bool) : State :=
  let s := up (fun l => { l with rx := [(0, 1003, fS2), (0, 1200, fF2)], ptp := { l.ptp with map := ⟨2000, 1000, 2, 1⟩, master := some (77, rk), good := good, bad := bad } })
  (s.setFlag F.LAD_STATUS_PTP_LOCKED lk).setFld F.LAD_PTP_STAT_STATE (if lk then 3 else 2)
def off (s : State) : Int := (s.ladder.ptp.map.at (1003 / 4 * 4) : Int) - (2000 + (3 + 4) + s.ladder.ptp.delay)
def p1 := pt 3 0 false
def p3 := pt 15 1 true
def msg (k : PtpKind) (st : Nat) (g : Ladder →
    Ladder) : State := (rx (fr (.ptp (ipH 9) { pm k with answers := n0.ptpId })) g).setFld F.LAD_PTP_STAT_STATE st
def g1 := msg .announce 1 id
def g2 := msg .delayResp 2 (fun l => { l with ptp := { l.ptp with reqAt := some 400, reqSeq := 5 } })
def g3 := msg .delayReq ptpMaster id
def g4 := msg .other 1 id
def ld1 : LadderDef := ⟨0x0A000001, 0xFFFFFF00, 1, 0, 47360, 0, [(0x0A000002, 47360)]⟩
def ms (st : Nat) : State := { n0 with inv := some { inv1 with ladder := some ld1 } }.setFld F.LAD_PTP_STAT_STATE st
def ms1 := ms ptpMaster
def ms2 := ms 1

/-- SwitchForwardsAndAnswers: states and operands that meet the hypotheses of each clause. -/
theorem witness_SwitchForwardsAndAnswers :
    (n0.live = true ∧ 0 ∈ n0.ports ∧ n0.portUp 0 = true ∧
      (fBad.vlan = true ∨ fBad.body = Packet.pause ∨ 1518 < fBad.bytes ∨ fBad.fcsOk = false)) ∧
    (n0.live = true ∧ n0.portUp 0 = true) ∧
    (n0.live = true ∧ 0 ∈ n0.ports ∧ n0.portUp 0 = true ∧ fA.vlan = false ∧ fA.body ≠ Packet.pause ∧ fA.bytes ≤ 1518 ∧
      fA.fcsOk = true ∧ false = (decide (1 - 0 ∈ n0.ports) && n0.portUp (1 - 0) && fA.dstMac != n0.myMac) ∧
      (0 = (List.filter (fun at_ ↦ decide (n0.clock + 5 < at_)) (n0.ladder.fwd.getD (1 - 0) [])).length)) ∧
    (nA.live = true ∧ (nA.ladder.fdb.getLast? = some (2, 1, 5))) ∧
    (nA.live = true ∧ (nA.ladder.arp.getLast? = some (8, 2, 5))) ∧
    ((ra.ladder.rx = [e0] ++ [(0, 4, fA), e0]) ∧
      (∀ (e : Nat × Nat × Frame), e ∈ [e0] → ∀ (r : Bool) (m : BitVec 48) (i g : BitVec 32),
      e.snd.snd.body ≠ Packet.arp r m i g) ∧ fA.body = Packet.arp true 78187493530 167772169 n0.myIp ∧
      bucketTake 200 200 (ra.clock + 5) ra.ladder.arpTokens = some (bb ra)) ∧
    ((rz.ladder.rx = [e0] ++ [(0, 4, fA), e0]) ∧
      (∀ (e : Nat × Nat × Frame), e ∈ [e0] → ∀ (r : Bool) (m : BitVec 48) (i g : BitVec 32),
      e.snd.snd.body ≠ Packet.arp r m i g) ∧ fA.body = Packet.arp true 78187493530 167772169 n0.myIp ∧
      bucketTake 200 200 (rz.clock + 5) rz.ladder.arpTokens = none) ∧
    ((ri.ladder.rx = [e0] ++ [(0, 4, fI), e0]) ∧
      (∀ (e : Nat × Nat × Frame), e ∈ [e0] → ∀ (h : IpHdr) (e' : Bool) (d : List Byte),
      e.snd.snd.body ≠ Packet.icmp h e' d) ∧ (fI.body = Packet.icmp (ipH 9) true [1, 2, 3]) ∧
      { ri with clock := ri.clock + 5 }.quarantined (ipH 9).src = false ∧
      bucketTake 2000 64 (ri.clock + 5) ri.ladder.shared = some (bs ri)) ∧
    ((rq.ladder.rx = [e0] ++ [(0, 4, fI), e0]) ∧
      (∀ (e : Nat × Nat × Frame), e ∈ [e0] → ∀ (h : IpHdr) (e' : Bool) (d : List Byte),
      e.snd.snd.body ≠ Packet.icmp h e' d) ∧ (fI.body = Packet.icmp (ipH 9) true [1, 2, 3]) ∧
      { rq with clock := rq.clock + 5 }.quarantined (ipH 9).src = true) ∧
    (dn.live = true ∧ 0 ∈ dn.ports ∧ dn.portUp 0 = false ∧ dn.regBit R.CLK_POWER 0 = true) :=
  ⟨by decide +kernel,
   by decide +kernel,
   ⟨by decide +kernel, by decide +kernel, by decide +kernel, by decide +kernel, by decide +kernel, by decide +kernel,
     by decide +kernel, by simp [fA, fr], by decide +kernel⟩,
   by decide +kernel,
   by decide +kernel,
   ⟨rfl, by simp [e0, frO], rfl, by decide +kernel⟩,
   ⟨rfl, by simp [e0, frO], rfl, by decide +kernel⟩,
   ⟨rfl, by simp [e0, frO], rfl, by decide +kernel, by decide +kernel⟩,
   ⟨rfl, by simp [e0, frO], rfl, by decide +kernel⟩,
   by decide +kernel⟩

/-- PtpFollowsAndLocks: states and operands that meet the hypotheses of each clause. -/
theorem witness_PtpFollowsAndLocks_0 : (p1.ladder.rx = [(0, 1003, fS2)] ++ [(0, 1200, fF2)]) ∧
    (∀ (e : Nat × Nat × Frame), e ∈ [(0, 1003, fS2)] → ∀ (h : IpHdr) (y : PtpMsg),
    e.snd.snd.body = Packet.ptp h y → y.kind ≠ PtpKind.followUp) ∧ fF2.body = Packet.ptp (ipH 9) mF ∧
    mF.kind = PtpKind.followUp ∧ ((0, 1003, fS2) ∈ [(0, 1003, fS2)] ++ []) ∧ fS2.body = Packet.ptp (ipH 9) mS ∧
    mS.kind = PtpKind.sync ∧ mS.source = mF.source ∧ mS.seq = mF.seq ∧
    (∀ (e : Nat × Nat × Frame), e ∈ [(0, 1003, fS2)] ++ [] → ∀ (h : IpHdr) (y : PtpMsg),
    e.snd.snd.body = Packet.ptp h y → y.kind = PtpKind.sync → y.source = mF.source → e = (0, 1003, fS2)) ∧
    (p1.ladder.ptp.master = some (mF.source, rk)) ∧ p1.fld F.LAD_PTP_STAT_STATE ≠ ptpMaster ∧
    off p1 = ↑(p1.ladder.ptp.map.at (1003 / 4 * 4)) - (↑mF.time + (mF.corr + mS.corr) + p1.ladder.ptp.delay) :=
  ⟨rfl, by simp [fS2, fr, mS], rfl, by decide +kernel, by simp, rfl, by decide +kernel, by decide +kernel,
    by decide +kernel, by simp, by decide +kernel, by decide +kernel, by decide +kernel⟩

/-- PtpFollowsAndLocks, a further clause. -/
theorem witness_PtpFollowsAndLocks_1 : p3.live = true ∧ p3.ptpLocked = true ∧
    p3.fld F.LAD_PTP_STAT_STATE = ptpSlave :=
  by decide +kernel

/-- PtpFollowsAndLocks, a further clause. -/
theorem witness_PtpFollowsAndLocks_2 : (g1.ladder.rx = [e0] ++ [(0, 4,
    fr (Packet.ptp (ipH 9) ({ pm PtpKind.announce with answers := n0.ptpId }))), e0]) ∧
    (∀ (e : Nat × Nat × Frame), e ∈ [e0] → ∀ (h : IpHdr) (y : PtpMsg),
    e.snd.snd.body = Packet.ptp h y → y.kind = PtpKind.sync ∨ y.kind = PtpKind.followUp) ∧
    (fr (Packet.ptp (ipH 9) ({ pm PtpKind.announce with answers := n0.ptpId }))).body = Packet.ptp (ipH 9) ({ pm PtpKind.announce with answers := n0.ptpId }) ∧ ({ pm PtpKind.announce with answers := n0.ptpId }).kind = PtpKind.announce ∧ g1.ladder.ptp.master = none ∧ g1.ladderDef.ptpRole = 0 ∧ g1.fld F.LAD_PTP_STAT_STATE ≠ ptpMaster ∧
    g1.fld F.LAD_PTP_STAT_STATE ≠ ptpSlave :=
  ⟨rfl, by simp [e0, frO], rfl, by decide +kernel, by decide +kernel, by decide +kernel, by decide +kernel,
    by decide +kernel⟩

/-- PtpFollowsAndLocks, a further clause. -/
theorem witness_PtpFollowsAndLocks_3 : (g2.ladder.rx = [e0] ++ [(0, 4,
    fr (Packet.ptp (ipH 9) ({ pm PtpKind.delayResp with answers := n0.ptpId }))), e0]) ∧
    (∀ (e : Nat × Nat × Frame), e ∈ [e0] → ∀ (h : IpHdr) (y : PtpMsg),
    e.snd.snd.body = Packet.ptp h y → y.kind = PtpKind.sync ∨ y.kind = PtpKind.followUp) ∧
    (fr (Packet.ptp (ipH 9) ({ pm PtpKind.delayResp with answers := n0.ptpId }))).body = Packet.ptp (ipH 9) ({ pm PtpKind.delayResp with answers := n0.ptpId }) ∧ ({ pm PtpKind.delayResp with answers := n0.ptpId }).kind = PtpKind.delayResp ∧ g2.ladder.ptp.reqAt = some 400 ∧ ({ pm PtpKind.delayResp with answers := n0.ptpId }).answers = g2.ptpId ∧
    ({ pm PtpKind.delayResp with answers := n0.ptpId }).seq = g2.ladder.ptp.reqSeq :=
  ⟨rfl, by simp [e0, frO], rfl, by decide +kernel, by decide +kernel,
    by show n0.ptpId = g2.ptpId; unfold State.ptpId State.myMac State.reg; rfl, by decide +kernel⟩

/-- PtpFollowsAndLocks, a further clause. -/
theorem witness_PtpFollowsAndLocks_4 : (g3.ladder.rx = [e0] ++ [(0, 4,
    fr (Packet.ptp (ipH 9) ({ pm PtpKind.delayReq with answers := n0.ptpId }))), e0]) ∧
    (∀ (e : Nat × Nat × Frame), e ∈ [e0] → ∀ (h : IpHdr) (y : PtpMsg),
    e.snd.snd.body = Packet.ptp h y → y.kind = PtpKind.sync ∨ y.kind = PtpKind.followUp) ∧
    (fr (Packet.ptp (ipH 9) ({ pm PtpKind.delayReq with answers := n0.ptpId }))).body = Packet.ptp (ipH 9) ({ pm PtpKind.delayReq with answers := n0.ptpId }) ∧ ({ pm PtpKind.delayReq with answers := n0.ptpId }).kind = PtpKind.delayReq ∧
    g3.fld F.LAD_PTP_STAT_STATE = ptpMaster :=
  ⟨rfl, by simp [e0, frO], rfl, by decide +kernel, by decide +kernel⟩

/-- PtpFollowsAndLocks, a further clause. -/
theorem witness_PtpFollowsAndLocks_5 : (g4.ladder.rx = [e0] ++ [(0, 4,
    fr (Packet.ptp (ipH 9) ({ pm PtpKind.other with answers := n0.ptpId }))), e0]) ∧
    (∀ (e : Nat × Nat × Frame), e ∈ [e0] → ∀ (h : IpHdr) (y : PtpMsg),
    e.snd.snd.body = Packet.ptp h y → y.kind = PtpKind.sync ∨ y.kind = PtpKind.followUp) ∧
    (fr (Packet.ptp (ipH 9) ({ pm PtpKind.other with answers := n0.ptpId }))).body = Packet.ptp (ipH 9) ({ pm PtpKind.other with answers := n0.ptpId }) ∧
    ({ pm PtpKind.other with answers := n0.ptpId }).kind = PtpKind.other :=
  ⟨rfl, by simp [e0, frO], rfl, by decide +kernel⟩

/-- PtpFollowsAndLocks, a further clause. -/
theorem witness_PtpFollowsAndLocks_6 : ms1.live = true ∧ ms1.ladderDef.ptpRole = 1 ∧
    ms1.fld F.LAD_PTP_STAT_STATE = ptpMaster ∧ ms1.ladder.ptp.nextSync ≤ ms1.ladder.ptp.nextAnnounce :=
  by decide +kernel

/-- PtpFollowsAndLocks, a further clause. -/
theorem witness_PtpFollowsAndLocks_7 : ms2.live = true ∧ ms2.ladderDef.ptpRole = 1 ∧
    ms2.fld F.LAD_PTP_STAT_STATE ≠ 0 ∧ ms2.fld F.LAD_PTP_STAT_STATE ≠ ptpMaster :=
  by decide +kernel

/-- PtpFollowsAndLocks, a further clause. -/
theorem witness_PtpFollowsAndLocks_8 : n0.reach 6 = true ∧
    n0.ladder.ptp.map.at (n0.clock + 5) / 1000000000 < 2 ^ 36 :=
  by decide +kernel


end Sys2Proof.Tests.W17

namespace Sys2Proof.Tests.W18

def up (f : Ladder → Ladder) : State :=
  let s := ((ax 0).setRegBit R.LAD_PORT_STAT 0 true).setRegBit R.LAD_PORT_STAT 2 true
  { s with ladder := f s.ladder }
def n0 := up id
def ipH : IpHdr := ⟨4, 5, true, false, 0, 9, n0.myIp⟩
def fr (b : Packet) : Frame := ⟨0x123456789A, n0.myMac, 200, false, true, b⟩
def e0 : Nat × Nat × Frame := (1, 3, fr .other)
def sess : Session := ⟨9, 5000, 0x111, 0x222, 5, 5, false, 70, 1, 0, 64 * 500000000, 0, false, 0⟩
def pk (l : List Nat) : Frame :=
    fr (.udp ipH 5000 (BitVec.ofNat 16 n0.ladderDef.udpPort) true (l.map (BitVec.ofNat 8)))
def st (l : List Nat) (g : Ladder → Ladder) : State := up (fun x => g { x with rx := [e0, (0, 4, pk l), e0] })
def sl (g : Ladder → Ladder) (x : Ladder) : Ladder := g { x with slots := x.slots.set 3 (some sess) }
def uu (s : State) : State := { s with clock := s.clock + 5 }
def l2 : List Nat := [20, 2, 0, 0, 0, 0, 0, 100, 0, 0, 0, 0, 0, 0, 0, 0, 173, 226, 127, 122, 105, 52, 246, 243, 218,
    26, 255, 207, 171, 88, 227, 48]
def k1 := st l2 (sl (fun x => { x with quar := [(9, 99999)] }))
def k2 := st l2 (fun x => { x with shared := (0, 99999999) })
def l3 := [0x20, 2, 3]
def k3 := st l3 id
def l4 : List Nat := [16, 2, 0, 0, 0, 0, 0, 100, 0, 0, 0, 0, 0, 0, 0, 0]
def k4 := st l4 (sl id)
def mm (l : List Nat) (typ seq words arg : Nat) : Msg := ⟨9, 5000, some 3, typ, false, seq, arg, words,
    (l.drop 16).take (l.length - 32), 0, 5⟩
def k5 := st l2 (sl id)
def l6 : List Nat := [20, 3, 0, 0, 0, 0, 0, 69, 0, 1, 0, 0, 0, 0, 0, 11, 37, 165, 114, 147, 100, 213, 226, 126, 237,
    156, 118, 33, 40, 121, 42, 90]
def l7 : List Nat := [20, 3, 0, 0, 0, 0, 0, 70, 0, 1, 0, 0, 0, 0, 0, 11, 241, 35, 102, 108, 62, 218, 8, 32, 21, 170,
    63, 239, 25, 49, 221, 11]
def k7 := st l7 (sl id)
def k9 := st l6 (fun x => { x with pendings := [{ sess with high := 0 }] })
def lD : List Nat := [16, 1, 0, 0, 0, 0, 0, 0, 0, 0, 0, 0, 0, 0, 0, 0, 7, 7, 7, 7, 7, 7, 7, 7, 7, 7, 7, 7, 7, 7, 7, 7]
def kD := st lD id

/-- FramesPassTheirChecks: states and operands that meet the hypotheses of each clause. -/
theorem witness_FramesPassTheirChecks :
    ((k1.ladder.rx = [e0] ++ [(0, 4, pk l2), e0]) ∧
      (∀ (e : Nat × Nat × Frame), e ∈ [e0] → ∀ (i : IpHdr) (a b : BitVec 16) (c : Bool) (d : List Byte),
      e.snd.snd.body ≠ Packet.udp i a b c d) ∧
      (pk l2).body = Packet.udp ipH 5000 (BitVec.ofNat 16 n0.ladderDef.udpPort) true (List.map (BitVec.ofNat 8) l2) ∧
      (l2 = List.map (fun b ↦ BitVec.toNat b) (List.map (BitVec.ofNat 8) l2)) ∧
      uu k1 = { k1 with clock := k1.clock + 5 } ∧
      (∀ (i : Nat) (e : Session), k1.session i = some e → e.sent < 2 ^ 48 - 1) ∧ (uu k1).quarantined ipH.src = true) ∧
    ((k2.ladder.rx = [e0] ++ [(0, 4, pk l2), e0]) ∧
      (∀ (e : Nat × Nat × Frame), e ∈ [e0] → ∀ (i : IpHdr) (a b : BitVec 16) (c : Bool) (d : List Byte),
      e.snd.snd.body ≠ Packet.udp i a b c d) ∧
      (pk l2).body = Packet.udp ipH 5000 (BitVec.ofNat 16 n0.ladderDef.udpPort) true (List.map (BitVec.ofNat 8) l2) ∧
      (l2 = List.map (fun b ↦ BitVec.toNat b) (List.map (BitVec.ofNat 8) l2)) ∧
      uu k2 = { k2 with clock := k2.clock + 5 } ∧
      (∀ (i : Nat) (e : Session), k2.session i = some e → e.sent < 2 ^ 48 - 1) ∧ (uu k2).quarantined ipH.src = false ∧
      (uu k2).frameToken ipH.src 5000 = none) ∧
    ((k3.ladder.rx = [e0] ++ [(0, 4, pk l3), e0]) ∧
      (∀ (e : Nat × Nat × Frame), e ∈ [e0] → ∀ (i : IpHdr) (a b : BitVec 16) (c : Bool) (d : List Byte),
      e.snd.snd.body ≠ Packet.udp i a b c d) ∧
      (pk l3).body = Packet.udp ipH 5000 (BitVec.ofNat 16 n0.ladderDef.udpPort) true (List.map (BitVec.ofNat 8) l3) ∧
      (l3 = List.map (fun b ↦ BitVec.toNat b) (List.map (BitVec.ofNat 8) l3)) ∧
      uu k3 = { k3 with clock := k3.clock + 5 } ∧
      (∀ (i : Nat) (e : Session), k3.session i = some e → e.sent < 2 ^ 48 - 1) ∧ (uu k3).quarantined ipH.src = false ∧
      (uu k3).frameToken ipH.src 5000 ≠ none ∧
      (l3.length < 16 ∨ (headerOf l3).ver ≠ 1 ∨ lengthAgrees l3 (headerOf l3) = false)) ∧
    ((k4.ladder.rx = [e0] ++ [(0, 4, pk l4), e0]) ∧
      (∀ (e : Nat × Nat × Frame), e ∈ [e0] → ∀ (i : IpHdr) (a b : BitVec 16) (c : Bool) (d : List Byte),
      e.snd.snd.body ≠ Packet.udp i a b c d) ∧
      (pk l4).body = Packet.udp ipH 5000 (BitVec.ofNat 16 n0.ladderDef.udpPort) true (List.map (BitVec.ofNat 8) l4) ∧
      (l4 = List.map (fun b ↦ BitVec.toNat b) (List.map (BitVec.ofNat 8) l4)) ∧
      uu k4 = { k4 with clock := k4.clock + 5 } ∧
      (∀ (i : Nat) (e : Session), k4.session i = some e → e.sent < 2 ^ 48 - 1) ∧ (uu k4).quarantined ipH.src = false ∧
      (uu k4).frameToken ipH.src 5000 ≠ none ∧ 16 ≤ l4.length ∧ (headerOf l4).ver = 1 ∧
      lengthAgrees l4 (headerOf l4) = true ∧ ((headerOf l4).auth = false ∧
      (headerOf l4).typ ≠ 1 ∨ (headerOf l4).auth = true ∧
      ∀ (e : Session), (∃ i,
      k4.session i = some e) ∨ e ∈ k4.ladder.pendings → e.ip = ipH.src → e.port = 5000 →
      tagOk e.keyIn ipH.src ipH.dst (5000) k4.ladderDef.udpPort l4 = false) ∧
      (k4.ladder.bad = List.filter (fun e ↦ decide (k4.clock + 5 < e.snd + 10 * second)) k4.ladder.bad)) ∧
    ((k5.ladder.rx = [e0] ++ [(0, 4, pk l2), e0]) ∧
      (∀ (e : Nat × Nat × Frame), e ∈ [e0] → ∀ (i : IpHdr) (a b : BitVec 16) (c : Bool) (d : List Byte),
      e.snd.snd.body ≠ Packet.udp i a b c d) ∧
      (pk l2).body = Packet.udp ipH 5000 (BitVec.ofNat 16 n0.ladderDef.udpPort) true (List.map (BitVec.ofNat 8) l2) ∧
      (l2 = List.map (fun b ↦ BitVec.toNat b) (List.map (BitVec.ofNat 8) l2)) ∧
      uu k5 = { k5 with clock := k5.clock + 5 } ∧
      (∀ (i : Nat) (e : Session), k5.session i = some e → e.sent < 2 ^ 48 - 1) ∧ (uu k5).quarantined ipH.src = false ∧
      (uu k5).frameToken ipH.src 5000 ≠ none ∧ 16 ≤ l2.length ∧ (headerOf l2).ver = 1 ∧
      lengthAgrees l2 (headerOf l2) = true ∧ (headerOf l2).auth = true ∧ (headerOf l2).resp = false ∧
      k5.sessionOf ipH.src 5000 = some 3 ∧ k5.session 3 = some sess ∧
      tagOk sess.keyIn ipH.src ipH.dst (5000) k5.ladderDef.udpPort l2 = true ∧ 0 < (headerOf l2).seq ∧
      (headerOf l2).seq < 2 ^ 48 - 1 ∧ [] = List.take (l2.length - 32) (List.drop 16 l2) ∧
      (mm l2 2 100 0 0 = { (headerOf l2) with ip := ipH.src, port := 5000, slot := some 3, resp := false, body := [], at_ := k5.clock + 5 }) ∧ (sess.high < (headerOf l2).seq ∨ sess.high - (headerOf l2).seq ≤ 63 ∧
      bitOf sess.seen (sess.high - (headerOf l2).seq) = false)) ∧
    ((k7.ladder.rx = [e0] ++ [(0, 4, pk l7), e0]) ∧
      (∀ (e : Nat × Nat × Frame), e ∈ [e0] → ∀ (i : IpHdr) (a b : BitVec 16) (c : Bool) (d : List Byte),
      e.snd.snd.body ≠ Packet.udp i a b c d) ∧
      (pk l7).body = Packet.udp ipH 5000 (BitVec.ofNat 16 n0.ladderDef.udpPort) true (List.map (BitVec.ofNat 8) l7) ∧
      (l7 = List.map (fun b ↦ BitVec.toNat b) (List.map (BitVec.ofNat 8) l7)) ∧
      uu k7 = { k7 with clock := k7.clock + 5 } ∧
      (∀ (i : Nat) (e : Session), k7.session i = some e → e.sent < 2 ^ 48 - 1) ∧ (uu k7).quarantined ipH.src = false ∧
      (uu k7).frameToken ipH.src 5000 ≠ none ∧ 16 ≤ l7.length ∧ (headerOf l7).ver = 1 ∧
      lengthAgrees l7 (headerOf l7) = true ∧ (headerOf l7).auth = true ∧ (headerOf l7).resp = false ∧
      k7.sessionOf ipH.src 5000 = some 3 ∧ k7.session 3 = some sess ∧
      tagOk sess.keyIn ipH.src ipH.dst (5000) k7.ladderDef.udpPort l7 = true ∧ 0 < (headerOf l7).seq ∧
      (headerOf l7).seq < 2 ^ 48 - 1 ∧ [] = List.take (l7.length - 32) (List.drop 16 l7) ∧
      (mm l7 3 70 1 11 = { (headerOf l7) with ip := ipH.src, port := 5000, slot := some 3, resp := false, body := [], at_ := k7.clock + 5 }) ∧ (headerOf l7).seq ≤ sess.high ∧
      (63 < sess.high - (headerOf l7).seq ∨ bitOf sess.seen (sess.high - (headerOf l7).seq) = true)) ∧
    ((k9.ladder.rx = [e0] ++ [(0, 4, pk l6), e0]) ∧
      (∀ (e : Nat × Nat × Frame), e ∈ [e0] → ∀ (i : IpHdr) (a b : BitVec 16) (c : Bool) (d : List Byte),
      e.snd.snd.body ≠ Packet.udp i a b c d) ∧
      (pk l6).body = Packet.udp ipH 5000 (BitVec.ofNat 16 n0.ladderDef.udpPort) true (List.map (BitVec.ofNat 8) l6) ∧
      (l6 = List.map (fun b ↦ BitVec.toNat b) (List.map (BitVec.ofNat 8) l6)) ∧
      uu k9 = { k9 with clock := k9.clock + 5 } ∧
      (∀ (i : Nat) (e : Session), k9.session i = some e → e.sent < 2 ^ 48 - 1) ∧ (uu k9).quarantined ipH.src = false ∧
      (uu k9).frameToken ipH.src 5000 ≠ none ∧ 16 ≤ l6.length ∧ (headerOf l6).ver = 1 ∧
      lengthAgrees l6 (headerOf l6) = true ∧ (headerOf l6).auth = true ∧ (headerOf l6).resp = false ∧
      k9.sessionOf ipH.src 5000 = none ∧ k9.ladder.pendings = [{ sess with high := 0 }] ∧
      ({ sess with high := 0 }).ip = ipH.src ∧ ({ sess with high := 0 }).port = 5000 ∧
      k9.clock + 5 < ({ sess with high := 0 }).since + second ∧ ({ sess with high := 0 }).sent < 2 ^ 48 - 1 ∧
      ({ sess with high := 0 }).high < (headerOf l6).seq ∧ (headerOf l6).seq < 2 ^ 48 - 1 ∧
      tagOk ({ sess with high := 0 }).keyIn ipH.src ipH.dst (5000) k9.ladderDef.udpPort l6 = true ∧
      (uu k9).slotFor ipH.src 5000 = some 0 ∧ 0 < k9.ladder.slots.length) ∧
    ((kD.ladder.rx = [e0] ++ [(0, 4, pk lD), e0]) ∧
      (∀ (e : Nat × Nat × Frame), e ∈ [e0] → ∀ (i : IpHdr) (a b : BitVec 16) (c : Bool) (d : List Byte),
      e.snd.snd.body ≠ Packet.udp i a b c d) ∧
      (pk lD).body = Packet.udp ipH 5000 (BitVec.ofNat 16 n0.ladderDef.udpPort) true (List.map (BitVec.ofNat 8) lD) ∧
      (lD = List.map (fun b ↦ BitVec.toNat b) (List.map (BitVec.ofNat 8) lD)) ∧
      uu kD = { kD with clock := kD.clock + 5 } ∧
      (∀ (i : Nat) (e : Session), kD.session i = some e → e.sent < 2 ^ 48 - 1) ∧ (uu kD).quarantined ipH.src = false ∧
      (uu kD).frameToken ipH.src 5000 ≠ none ∧ 16 ≤ lD.length ∧ (headerOf lD).ver = 1 ∧
      lengthAgrees lD (headerOf lD) = true ∧ (headerOf lD).auth = false ∧ (headerOf lD).typ = 1 ∧
      (({ ip := 9, port := 5000, slot := none, typ := 1, resp := false, seq := 0, arg := 0, words := 0, body := List.replicate 16 7, status := 0, at_ := 5 } : Msg) = { (headerOf lD) with ip := ipH.src, port := 5000, slot := none, typ := 1, body := List.drop 16 lD, at_ := kD.clock + 5 }) ∧
      malformed (headerOf lD) (List.drop 16 lD) = false) :=
  ⟨⟨rfl, by simp [e0, fr], rfl, by decide +kernel, rfl, fun _ _ => sessions_below (by decide +kernel) _ _,
    by decide +kernel⟩,
   ⟨rfl, by simp [e0, fr], rfl, by decide +kernel, rfl, fun _ _ => sessions_below (by decide +kernel) _ _,
     by decide +kernel, by decide +kernel⟩,
   ⟨rfl, by simp [e0, fr], rfl, by decide +kernel, rfl, fun _ _ => sessions_below (by decide +kernel) _ _,
     by decide +kernel, by decide +kernel, by decide +kernel⟩,
   ⟨rfl, by simp [e0, fr], rfl, by decide +kernel, rfl, fun _ _ => sessions_below (by decide +kernel) _ _,
     by decide +kernel, by decide +kernel, by decide +kernel, by decide +kernel, by decide +kernel,
     .inl (by decide +kernel), by decide +kernel⟩,
   ⟨rfl, by simp [e0, fr], rfl, by decide +kernel, rfl, fun _ _ => sessions_below (by decide +kernel) _ _,
     by decide +kernel, by decide +kernel, by decide +kernel, by decide +kernel, by decide +kernel,
     by decide +kernel, by decide +kernel, by decide +kernel, by decide +kernel, by decide +kernel,
     by decide +kernel, by decide +kernel, by decide +kernel, by decide +kernel, by decide +kernel⟩,
   ⟨rfl, by simp [e0, fr], rfl, by decide +kernel, rfl, fun _ _ => sessions_below (by decide +kernel) _ _,
     by decide +kernel, by decide +kernel, by decide +kernel, by decide +kernel, by decide +kernel,
     by decide +kernel, by decide +kernel, by decide +kernel, by decide +kernel, by decide +kernel,
     by decide +kernel, by decide +kernel, by decide +kernel, by decide +kernel, by decide +kernel,
     by decide +kernel⟩,
   ⟨rfl, by simp [e0, fr], rfl, by decide +kernel, rfl, fun _ _ => sessions_below (by decide +kernel) _ _,
     by decide +kernel, by decide +kernel, by decide +kernel, by decide +kernel, by decide +kernel,
     by decide +kernel, by decide +kernel, by decide +kernel, by decide +kernel, by decide +kernel,
     by decide +kernel, by decide +kernel, by decide +kernel, by decide +kernel, by decide +kernel,
     by decide +kernel, by decide +kernel, by decide +kernel⟩,
   ⟨rfl, by simp [e0, fr], rfl, by decide +kernel, rfl, fun _ _ => sessions_below (by decide +kernel) _ _,
     by decide +kernel, by decide +kernel, by decide +kernel, by decide +kernel, by decide +kernel,
     by decide +kernel, by decide +kernel, by decide +kernel, by decide +kernel⟩⟩

end Sys2Proof.Tests.W18

namespace Sys2Proof.Tests.W19

def up (f : Ladder → Ladder) : State :=
  let s := ((ax 0).setRegBit R.LAD_PORT_STAT 0 true).setRegBit R.LAD_PORT_STAT 2 true
  { s with ladder := f s.ladder }
def sess (k : Nat) : Session := ⟨9, 5000, 0x111, 0x222, 5, 5, false, 70, 1, k, 64 * 500000000, 0, true, 2⟩
def x0 : Msg := ⟨7, 1, none, 2, false, 0, 0, 0, [], 0, 0⟩
def dm : Msg := ⟨9, 5000, none, 1, false, 33, 0, 0, List.replicate 16 7, 0, 5⟩
def uu (s : State) : State := { s with clock := s.clock + 5 }
def op (s : State) : List Session := s.ladder.pendings.filter (fun e => decide (s.clock + 5 < e.since + second))
def sd1 := up (fun l => { l with msgs := [x0, dm, x0], pendings := [sess 0, sess 1, sess 2, sess 3] })
def sd2 := up (fun l => { l with msgs := [x0, dm, x0], pendings := [sess 0] })
def ld1 : LadderDef := ⟨0x0A000001, 0xFFFFFF00, 0, 0, 47360, 0, [(0x0A000002, 47360), (0x0A000003, 47360)]⟩
def net (f : Ladder →
    Ladder) : State := { up f with inv := some { inv1 with ladder := some ld1 } }.setFld F.LAD_IP_ADDR_ADDR 0x0A000001
def ni0 : Nat := 0x12345
def nr0 : List Nat := List.replicate 16 3
def ws0 : List Nat := List.replicate 18 1
def rm (ok : Bool) : Msg := ⟨0x0A000003, 47360, none, 1, true, 0, 0, 4,
    nr0 ++ ws0 ++ (if ok then (net id).proof (beBytes 16 ni0) nr0 ws0 else List.replicate 16 0), 0, 5⟩
def mOk := rm true
def mNo := rm false
def rs1 := net (fun l => { l with msgs := [x0, mOk], asked := [(0, 5), (1, ni0)] })
def rs2 := net (fun l => { l with msgs := [x0, mNo], asked := [(0, 5), (1, ni0)] })
def hb := net (fun l => { l with slots := l.slots.set 1 (some { sess 4 with present := true }) })
def qr := net (fun l => { l with quar := [(4, 900), (5, 800)] })
def mg (typ words : Nat) (ws : List Word) : Msg := ⟨9, 5000, some 1, typ, false, 44, 0, words, packWords ws, 0, 5⟩
def nm (m : Msg) (f : Ladder →
    Ladder) : State := net (fun l => f { l with msgs := [x0', m, x0'], slots := l.slots.set 1 (some (sess 4)) })
  where x0' : Msg := ⟨7, 1, none, 6, false, 0, 0, 0, [], 0, 0⟩
def z0 : Msg := ⟨7, 1, none, 6, false, 0, 0, 0, [], 0, 0⟩
def m2 := mg 2 0 []
def s2 := nm m2 id
def wsS : List Word := [0, 3000000, BitVec.ofNat 36 (0 * 2 ^ 33), 0x55, 0x66]
def m7 := mg 7 5 wsS
def s7 := nm m7 id
def strI : Inventory := { inv1 with axes := [⟨0, 0, 0, 2, true, false, 0⟩], ladder := some ld1 }
def s7l (c : Nat) (a : Nat) : State :=
    { (nm m7 id).setFlag F.LAD_STATUS_PTP_LOCKED true with inv := some strI, clock := c }.setFld (F.AX_STATE_STATE 0) a
def s7a := s7l 100 3
def w8 : Word := BitVec.ofNat 36 (3 * 2 ^ 20 + 3 * 2 ^ 16 + 77)
def m8 := mg 8 3 [w8, 0, 400]
def s8 := nm m8 id
def m9 (k : Nat) := mg 9 3 [BitVec.ofNat 36 (k * 2 ^ 32 + 3 * 2 ^ 16 + 77), 0, 400]
def m90 := m9 0
def m91 := m9 1
def w90 : List Word := unpackWords 2 m90.body
def w91 : List Word := unpackWords 2 m91.body
def s90 := nm m90 id
def s90a := nm m90 (fun l => { l with acted := [(9, 77)] })
def s91 : State := { (nm m91 id).setFld F.PLN_EXEC_GROUP 3 with planner := { Planner.reset with axes := [0] } }
def ev0 : EventOut := ⟨0, 5, 4, 0, 2, 700⟩
def ev1 : EventOut := ⟨0, 6, 4, 0, 1, 600⟩
def se := net (fun l => { l with events := [ev0, ev1], slots := l.slots.set 1 (some (sess 4)) })

/-- SessionsOpenAndEnd: states and operands that meet the hypotheses of each clause. -/
theorem witness_SessionsOpenAndEnd :
    ((sd1.ladder.msgs = [x0] ++ [dm, x0]) ∧ uu sd1 = { sd1 with clock := sd1.clock + 5 } ∧
      (op sd1 = List.filter (fun e ↦ decide (sd1.clock + 5 < e.since + second)) sd1.ladder.pendings) ∧ dm.typ = 1 ∧
      dm.resp = false ∧ (∀ (x : Msg), x ∈ [x0] → x.typ ≠ 1 ∨ x.resp = true) ∧
      (4 ≤ (op sd1).length ∨ (uu sd1).slotFor dm.ip dm.port = none)) ∧
    (sd1.reach 6 = true) ∧
    ((sd2.ladder.msgs = [x0] ++ [dm, x0]) ∧ uu sd2 = { sd2 with clock := sd2.clock + 5 } ∧
      (op sd2 = List.filter (fun e ↦ decide (sd2.clock + 5 < e.since + second)) sd2.ladder.pendings) ∧ dm.typ = 1 ∧
      dm.resp = false ∧ (∀ (x : Msg), x ∈ [x0] → x.typ ≠ 1 ∨ x.resp = true) ∧ (op sd2).length < 4 ∧
      (uu sd2).slotFor dm.ip dm.port ≠ none) ∧
    (rs1.ladder.msgs = [x0] ++ [mOk] ∧ uu rs1 = { rs1 with clock := rs1.clock + 5 } ∧
      (op rs1 = List.filter (fun e ↦ decide (rs1.clock + 5 < e.since + second)) rs1.ladder.pendings) ∧ mOk.typ = 1 ∧
      mOk.resp = true ∧ (∀ (x : Msg), x ∈ [x0] → x.typ ≠ 1 ∨ x.resp = false) ∧
      rs1.partnerSlot mOk.ip mOk.port = some 1 ∧
      (List.find? (fun a ↦ decide (a.fst = 1)) rs1.ladder.asked = some (1, ni0)) ∧ 1 < rs1.ladder.slots.length ∧
      nr0 = List.take 16 mOk.body ∧ ws0 = List.take 18 (List.drop 16 mOk.body) ∧ mOk.status = 0 ∧
      mOk.body.length = 50 ∧ List.drop 34 mOk.body = rs1.proof (beBytes 16 ni0) nr0 ws0) ∧
    (rs1.live = true ∧ rs1.toAsk ≠ []) ∧
    (rs2.ladder.msgs = [x0] ++ [mNo] ∧ uu rs2 = { rs2 with clock := rs2.clock + 5 } ∧
      (op rs2 = List.filter (fun e ↦ decide (rs2.clock + 5 < e.since + second)) rs2.ladder.pendings) ∧ mNo.typ = 1 ∧
      mNo.resp = true ∧ (∀ (x : Msg), x ∈ [x0] → x.typ ≠ 1 ∨ x.resp = false) ∧
      rs2.partnerSlot mNo.ip mNo.port = some 1 ∧
      (List.find? (fun a ↦ decide (a.fst = 1)) rs2.ladder.asked = some (1, ni0)) ∧ 1 < rs2.ladder.slots.length ∧
      nr0 = List.take 16 mNo.body ∧ ws0 = List.take 18 (List.drop 16 mNo.body) ∧
      (mNo.status ≠ 0 ∨ mNo.body.length ≠ 50 ∨ List.drop 34 mNo.body ≠ rs2.proof (beBytes 16 ni0) nr0 ws0)) ∧
    (sd2.ladder.pendings = [sess 0]) ∧
    (hb.namedValid ≠ [] ∧ (∀ (i : Nat) (e : Session), hb.session i = some e → e.sent < 2 ^ 48 - 2)) ∧
    (hb.session 1 = some ({ sess 4 with present := true }) ∧ ({ sess 4 with present := true }).present = true ∧
      hb.planOn = false) ∧
    (hb.reach 6 = true ∧ hb.session 1 = some ({ sess 4 with present := true }) ∧ hb.planOn = false) ∧
    (((5, 800) ∈ qr.ladder.quar) ∧ (∀ (x : BitVec 32 × Nat), x ∈ qr.ladder.quar → (5, 800).snd ≤ x.snd)) :=
  ⟨⟨by decide +kernel, rfl, by decide +kernel, by decide +kernel, by decide +kernel, by decide +kernel,
    by decide +kernel⟩,
   by decide +kernel,
   ⟨by decide +kernel, rfl, by decide +kernel, by decide +kernel, by decide +kernel, by decide +kernel,
     by decide +kernel, by decide +kernel⟩,
   ⟨by decide +kernel, rfl, by decide +kernel, by decide +kernel, by decide +kernel, by decide +kernel,
     by decide +kernel, by decide +kernel, by decide +kernel, by decide +kernel, by decide +kernel,
     by decide +kernel, by decide +kernel, by decide +kernel⟩,
   by decide +kernel,
   ⟨by decide +kernel, rfl, by decide +kernel, by decide +kernel, by decide +kernel, by decide +kernel,
     by decide +kernel, by decide +kernel, by decide +kernel, by decide +kernel, by decide +kernel,
     by decide +kernel⟩,
   by decide +kernel,
   ⟨by decide +kernel, fun _ _ => sessions_below (by decide +kernel) _ _⟩,
   by decide +kernel,
   by decide +kernel,
   by decide +kernel⟩

/-- MessagesAct: states and operands that meet the hypotheses of each clause. -/
theorem witness_MessagesAct :
    ((s2.ladder.msgs = [z0] ++ [m2, z0]) ∧ m2.resp = false ∧
      (∀ (x : Msg), x ∈ [z0] → x.typ ≠ m2.typ ∨ x.resp = true) ∧ uu s2 = { s2 with clock := s2.clock + 5 } ∧
      m2.typ = 2) ∧
    ((s7.ladder.msgs = [z0] ++ [m7, z0]) ∧ m7.resp = false ∧
      (∀ (x : Msg), x ∈ [z0] → x.typ ≠ m7.typ ∨ x.resp = true) ∧ uu s7 = { s7 with clock := s7.clock + 5 } ∧
      m7.typ = 7 ∧ wsS = List.take m7.words (unpackWords ((m7.words + 1) / 2) m7.body) ∧
      (s7.ptpLocked = false ∨ ∃ r, r ∈ streamRecs (List.drop 2 wsS) ∧
      Option.any (fun a ↦ decide (a.source = 2)) (s7.axisRec ↑r.fst) = false)) ∧
    ((s7a.ladder.msgs = [z0] ++ [m7, z0]) ∧ m7.resp = false ∧
      (∀ (x : Msg), x ∈ [z0] → x.typ ≠ m7.typ ∨ x.resp = true) ∧ uu s7a = { s7a with clock := s7a.clock + 5 } ∧
      m7.typ = 7 ∧ wsS = List.take m7.words (unpackWords ((m7.words + 1) / 2) m7.body) ∧ s7a.ptpLocked = true ∧
      (streamRecs (List.drop 2 wsS) = [(0, 85, 102)]) ∧
      (Option.any (fun a ↦ decide (a.source = 2)) (s7a.axisRec 0) = true) ∧
      (uu s7a).instantAt (wsS.getD 0 0) (wsS.getD 1 0) = some 1500000 ∧
      (s7a.axisOn 0 = true → s7a.ladder.owners.getD (0) none = none ∨ s7a.ladder.owners.getD (0) none = some (m7.ip,
      m7.port))) ∧
    ((s8.ladder.msgs = [z0] ++ [m8, z0]) ∧ m8.resp = false ∧
      (∀ (x : Msg), x ∈ [z0] → x.typ ≠ m8.typ ∨ x.resp = true) ∧ uu s8 = { s8 with clock := s8.clock + 5 } ∧
      m8.typ = 8 ∧ s8.senderModule m8 = some 2 ∧ BitVec.toNat w8 = BitVec.toNat ((unpackWords 2 m8.body).getD 0 0) ∧
      instantOf (uu s8).ptpNow ((unpackWords 2 m8.body).getD 1 0) ((unpackWords 2 m8.body).getD 2 0) = some 400) ∧
    ((s90.ladder.msgs = [z0] ++ [m90, z0]) ∧ m90.resp = false ∧
      (∀ (x : Msg), x ∈ [z0] → x.typ ≠ m90.typ ∨ x.resp = true) ∧ uu s90 = { s90 with clock := s90.clock + 5 } ∧
      m90.typ = 9 ∧ w90 = unpackWords ((m90.words + 1) / 2) m90.body ∧
      (∀ (a : BitVec 32 × Nat),
      a ∈ s90.ladder.acted → a.fst = m90.ip → a.snd ≠ BitVec.toNat (w90.getD 0 0) % 2 ^ 16) ∧
      BitVec.toNat (w90.getD 0 0) / 2 ^ 32 = 0) ∧
    ((s90a.ladder.msgs = [z0] ++ [m90, z0]) ∧ m90.resp = false ∧
      (∀ (x : Msg), x ∈ [z0] → x.typ ≠ m90.typ ∨ x.resp = true) ∧ uu s90a = { s90a with clock := s90a.clock + 5 } ∧
      m90.typ = 9 ∧ w90 = unpackWords ((m90.words + 1) / 2) m90.body ∧ (∃ a, a ∈ s90a.ladder.acted ∧ a.fst = m90.ip ∧
      a.snd = BitVec.toNat (w90.getD 0 0) % 2 ^ 16)) ∧
    ((s91.ladder.msgs = [z0] ++ [m91, z0]) ∧ m91.resp = false ∧
      (∀ (x : Msg), x ∈ [z0] → x.typ ≠ m91.typ ∨ x.resp = true) ∧ uu s91 = { s91 with clock := s91.clock + 5 } ∧
      m91.typ = 9 ∧ w91 = unpackWords ((m91.words + 1) / 2) m91.body ∧
      (∀ (a : BitVec 32 × Nat),
      a ∈ s91.ladder.acted → a.fst = m91.ip → a.snd ≠ BitVec.toNat (w91.getD 0 0) % 2 ^ 16) ∧
      (BitVec.toNat (w91.getD 0 0) / 2 ^ 32 = 1 ∨ BitVec.toNat (w91.getD 0 0) / 2 ^ 32 = 2) ∧
      s91.senderModule m91 = some 2 ∧ instantOf (uu s91).ptpNow (w91.getD 1 0) (w91.getD 2 0) = some 400 ∧
      bitOf (bitsOf (BitVec.toNat (w91.getD 0 0)) 19 16) s91.ladderDef.moduleNo = true ∧ s91.planOn = true ∧
      s91.fld F.PLN_EXEC_GROUP ≠ 0) ∧
    (ev1 ∈ se.ladder.events ∧ (∀ (x : EventOut), x ∈ se.ladder.events → x ≠ ev1 → ev1.next < x.next)) :=
  ⟨⟨by decide +kernel, by decide +kernel, by decide +kernel, rfl, by decide +kernel⟩,
   ⟨by decide +kernel, by decide +kernel, by decide +kernel, rfl, by decide +kernel, by decide +kernel,
     by decide +kernel⟩,
   ⟨by decide +kernel, by decide +kernel, by decide +kernel, rfl, by decide +kernel, by decide +kernel,
     by decide +kernel, by decide +kernel, by decide +kernel, by decide +kernel, by decide +kernel⟩,
   ⟨by decide +kernel, by decide +kernel, by decide +kernel, rfl, by decide +kernel, by decide +kernel,
     by decide +kernel, by decide +kernel⟩,
   ⟨by decide +kernel, by decide +kernel, by decide +kernel, rfl, by decide +kernel, by decide +kernel,
     by decide +kernel, by decide +kernel⟩,
   ⟨by decide +kernel, by decide +kernel, by decide +kernel, rfl, by decide +kernel, by decide +kernel,
     by decide +kernel⟩,
   ⟨by decide +kernel, by decide +kernel, by decide +kernel, rfl, by decide +kernel, by decide +kernel,
     by decide +kernel, by decide +kernel, by decide +kernel, by decide +kernel, by decide +kernel,
     by decide +kernel, by decide +kernel⟩,
   by decide +kernel⟩

end Sys2Proof.Tests.W19

namespace Sys2Proof.Tests.W20

def ldc (s : State) : State := s.setFlag F.LDC_STATUS_READY true
def sess : Session := ⟨9, 5000, 0x111, 0x222, 5, 5, false, 70, 1, 4, 64 * 500000000, 0, true, 2⟩
def mg (typ words arg : Nat) (body : List Nat) : Msg := ⟨9, 5000, some 3, typ, false, 44, arg, words, body, 0, 5⟩
def z0 : Msg := ⟨7, 1, none, 3, false, 0, 0, 1, [], 0, 0⟩
def q (m : Msg) (f : State → State) : State :=
  let s := ldc (ax 0); f { s with ladder := { s.ladder with txns := [m, z0], slots := s.ladder.slots.set 3 (some sess) } }
def uu (s : State) : State := { s with clock := s.clock + 5 }
def rd (a : Nat) : Msg := mg 3 1 a []
def r1 := rd 0xFC00
def s1 := q r1 id
def r2 := rd (0x10 * 1024 + 3)
def s2 := q r2 id
def r3 := rd (0x20 * 1024 + 3)
def s3 := q r3 id
def xx (s : State) (m : Msg) := s.newTxn true (BitVec.ofNat 16 m.arg) 1 []
def sp3 : RegSpec := ⟨3, 1, 1, .plain, 131072, 0, 0⟩
def wb (ws : List Word) : List Nat := packWords ws
def m4 := mg 4 1 0xB (wb [0x123456789])
def s4 := q m4 id
def ptL (a : Nat) (f : Pointer →
    Pointer) (s : State) : State :=
    { s.setFld ⟨ptrKey false, 29, 0⟩ a with larder := { s.larder with lad := f s.larder.lad } }
def m5 := mg 5 1 0 []
def m6 := mg 6 1 0 (wb [0x123456789])
def s5 := q m5 (ptL 83 id)
def s5p := q m5 (ptL 83 (fun p => { p with present := [(10, some [1,2,3,4,5,6,7,8])] }))
def s6 := q m6 (ptL 83 id)
def s5o := q m5 (ptL (2 ^ 30 - 1) id)
def mA := mg 10 2 0 (wb [0, 400000])
def sA0 := q mA id
def sA := sA0.setFlag F.LAD_STATUS_PTP_LOCKED true

/-- LadderTransactionsRun: states and operands that meet the hypotheses of each clause. -/
theorem witness_LadderTransactionsRun :
    (s1.live = true ∧ (s1.ladder.txns = [r1, z0]) ∧ r1.words = 1 ∧ s1.ladder.run = none ∧ s1.ladder.ending = none ∧
      uu s1 = { s1 with clock := s1.clock + 5 } ∧ r1.typ = 3 ∧ s1.busIdle = true ∧
      xx s1 r1 = s1.newTxn true (BitVec.ofNat 16 r1.arg) 1 [] ∧ s1.implemented (xx s1 r1).blk = false) ∧
    (s2.live = true ∧ (s2.ladder.txns = [r2, z0]) ∧ r2.words = 1 ∧ s2.ladder.run = none ∧ s2.ladder.ending = none ∧
      uu s2 = { s2 with clock := s2.clock + 5 } ∧ r2.typ = 3 ∧ s2.busIdle = true ∧
      xx s2 r2 = s2.newTxn true (BitVec.ofNat 16 r2.arg) 1 [] ∧ s2.implemented (xx s2 r2).blk = true ∧
      blockDie (xx s2 r2).blk = none ∧ s2.power ≠ Power.bare ∧ (¬((xx s2 r2).blk = 7 ∧ (xx s2 r2).off < 256)) ∧
      s2.specAt (xx s2 r2).blk (xx s2 r2).off = some sp3 ∧ heldKind (xx s2 r2).blk (xx s2 r2).off sp3 = false ∧
      (¬(xx s2 r2).blk * 512 + (xx s2 r2).off ∈ [R.LAD_PTP_SEC, R.ENG_WIN_DATA]) ∧ (¬((xx s2 r2).blk = 5 ∧
      16 ≤ (xx s2 r2).off ∧ (xx s2 r2).off % 8 = 2))) ∧
    (s3.live = true ∧ (s3.ladder.txns = [r3, z0]) ∧ r3.words = 1 ∧ s3.ladder.run = none ∧ s3.ladder.ending = none ∧
      uu s3 = { s3 with clock := s3.clock + 5 } ∧ r3.typ = 3 ∧ s3.busIdle = true ∧
      xx s3 r3 = s3.newTxn true (BitVec.ofNat 16 r3.arg) 1 [] ∧ s3.implemented (xx s3 r3).blk = true ∧
      (blockDie (xx s3 r3).blk).isSome = true ∧ s3.power ≠ Power.bare) ∧
    (s4.live = true ∧ (s4.ladder.txns = [m4, z0]) ∧ m4.words = 1 ∧ s4.ladder.run = none ∧ s4.ladder.ending = none ∧
      uu s4 = { s4 with clock := s4.clock + 5 } ∧ m4.typ = 4 ∧ s4.busIdle = true ∧
      (m4.arg = if false = true then 523 else 11) ∧ (unpackWords 1 m4.body).getD 0 0 = 4886718345 ∧
      (unpackWords 1 m4.body).length = 2) ∧
    (s5.live = true ∧ (s5.ladder.txns = [m5, z0]) ∧ m5.words = 1 ∧ s5.ladder.run = none ∧ s5.ladder.ending = none ∧
      uu s5 = { s5 with clock := s5.clock + 5 } ∧ bitOf m5.arg 31 = false ∧ 83 = s5.ptrAddr false ∧
      (s5.ptr false).gather = none ∧ (s5.ptr false).closing = [] ∧ m5.typ = 5 ∧ s5.hoistOk false 83 = true ∧
      (List.find? (fun e ↦ e.fst == 83 / 8) (s5.ptr false).present = none)) ∧
    (s5p.live = true ∧ (s5p.ladder.txns = [m5, z0]) ∧ m5.words = 1 ∧ s5p.ladder.run = none ∧
      s5p.ladder.ending = none ∧ uu s5p = { s5p with clock := s5p.clock + 5 } ∧ bitOf m5.arg 31 = false ∧
      83 = s5p.ptrAddr false ∧ (s5p.ptr false).gather = none ∧ (s5p.ptr false).closing = [] ∧ m5.typ = 5 ∧
      s5p.hoistOk false 83 = true ∧
      (List.find? (fun e ↦ e.fst == 83 / 8) (s5p.ptr false).present = some (83 / 8, some [1, 2, 3, 4, 5, 6, 7, 8]))) ∧
    (s6.live = true ∧ (s6.ladder.txns = [m6, z0]) ∧ m6.words = 1 ∧ s6.ladder.run = none ∧ s6.ladder.ending = none ∧
      uu s6 = { s6 with clock := s6.clock + 5 } ∧ bitOf m6.arg 31 = false ∧ 83 = s6.ptrAddr false ∧
      (s6.ptr false).gather = none ∧ (s6.ptr false).closing = [] ∧ m6.typ = 6 ∧ s6.hoistOk true 83 = true ∧
      (unpackWords 1 m6.body).getD 0 0 = 4886718345 ∧ (unpackWords 1 m6.body).length = 2) ∧
    (s5o.live = true ∧ (s5o.ladder.txns = [m5, z0]) ∧ m5.words = 1 ∧ s5o.ladder.run = none ∧
      s5o.ladder.ending = none ∧ uu s5o = { s5o with clock := s5o.clock + 5 } ∧ bitOf m5.arg 31 = false ∧
      2 ^ 30 - 1 = s5o.ptrAddr false ∧ (s5o.ptr false).gather = none ∧ (s5o.ptr false).closing = [] ∧
      ((Instr.hoistRead 5, m5.typ) ∈ [(Instr.hoistRead 5, 5), (Instr.hoistWrite 5, 6)]) ∧
      s5o.hoistOk (decide (m5.typ = 6)) (2 ^ 30 - 1) = false) ∧
    ((sA.ladder.txns = [mA, z0]) ∧ mA.typ = 10 ∧ sA.ladder.ending = none ∧ uu sA = { sA with clock := sA.clock + 5 } ∧
      sA.ptpLocked = true ∧
      (uu sA).instantAt ((unpackWords 1 mA.body).getD 0 0) ((unpackWords 1 mA.body).getD 1 0) = some 200000 ∧
      ↑mA.at_ + 4000 ≤ 200000 ∧ 200000 ≤ ↑mA.at_ + 50000000 ∧ sA.flag F.SYS_STOCK_DONE_PENDING = false) ∧
    ((sA0.ladder.txns = [mA, z0]) ∧ mA.typ = 10 ∧ sA0.ladder.ending = none ∧
      uu sA0 = { sA0 with clock := sA0.clock + 5 } ∧
      (sA0.ptpLocked = false ∨ sA0.flag F.SYS_STOCK_DONE_PENDING = true ∨ ∀ (at_ : Int),
      (uu sA0).instantAt ((unpackWords 1 mA.body).getD 0 0) ((unpackWords 1 mA.body).getD 1 0) = some at_ →
      at_ < ↑mA.at_ + 4000 ∨ ↑mA.at_ + 50000000 < at_)) :=
  ⟨⟨by decide +kernel, by decide +kernel, by decide +kernel, by decide +kernel, by decide +kernel, rfl,
    by decide +kernel, by decide +kernel, by decide +kernel, by decide +kernel⟩,
   ⟨by decide +kernel, by decide +kernel, by decide +kernel, by decide +kernel, by decide +kernel, rfl,
     by decide +kernel, by decide +kernel, by decide +kernel, by decide +kernel, by decide +kernel,
     by decide +kernel, by decide +kernel, by decide +kernel, by decide +kernel, by decide +kernel,
     by decide +kernel⟩,
   ⟨by decide +kernel, by decide +kernel, by decide +kernel, by decide +kernel, by decide +kernel, rfl,
     by decide +kernel, by decide +kernel, by decide +kernel, by decide +kernel, by decide +kernel,
     by decide +kernel⟩,
   ⟨by decide +kernel, by decide +kernel, by decide +kernel, by decide +kernel, by decide +kernel, rfl,
     by decide +kernel, by decide +kernel, by decide +kernel, by decide +kernel, by decide +kernel⟩,
   ⟨by decide +kernel, by decide +kernel, by decide +kernel, by decide +kernel, by decide +kernel, rfl,
     by decide +kernel, by decide +kernel, by decide +kernel, by decide +kernel, by decide +kernel,
     by decide +kernel, by decide +kernel⟩,
   ⟨by decide +kernel, by decide +kernel, by decide +kernel, by decide +kernel, by decide +kernel, rfl,
     by decide +kernel, by decide +kernel, by decide +kernel, by decide +kernel, by decide +kernel,
     by decide +kernel, by decide +kernel⟩,
   ⟨by decide +kernel, by decide +kernel, by decide +kernel, by decide +kernel, by decide +kernel, rfl,
     by decide +kernel, by decide +kernel, by decide +kernel, by decide +kernel, by decide +kernel,
     by decide +kernel, by decide +kernel, by decide +kernel⟩,
   ⟨by decide +kernel, by decide +kernel, by decide +kernel, by decide +kernel, by decide +kernel, rfl,
     by decide +kernel, by decide +kernel, by decide +kernel, by decide +kernel, by decide +kernel,
     by decide +kernel⟩,
   ⟨by decide +kernel, by decide +kernel, by decide +kernel, rfl, by decide +kernel, by decide +kernel,
     by decide +kernel, by decide +kernel, by decide +kernel⟩,
   ⟨by decide +kernel, by decide +kernel, by decide +kernel, rfl, by decide +kernel⟩⟩

end Sys2Proof.Tests.W20

namespace Sys2Proof.Tests.W21

def h0 : State := ax 0
def uu (s : State) : State := { s with clock := s.clock + 5 }
def cmd (op lanes words addr : Nat) : Word :=
    BitVec.ofNat 36 (op * 2 ^ 32 + lanes * 2 ^ 30 + (words - 1) * 2 ^ 16 + addr)
def crc (w : Word) : BitVec 16 := BitVec.ofNat 16 (crc16Words [w])
def cp := cmd 3 0 1 0
def sp3 : RegSpec := ⟨3, 1, 1, .plain, 131072, 0, 0⟩
def ho : State := { h0 with hp := { h0.hp with abort := true } }
def cr := cmd 1 0 1 0x4003
def crG := cmd 1 1 1 0x8003
def xx (s : State) (c : Word) := s.newTxn true (hpAddr c) 1 []
def cw := cmd 2 0 1 0xB
def hs := h0.setReg R.SYS_SCRATCH 0x12345
def tx : Txn := ⟨true, 0, false, 6, false, 1, [], [0x77], false, false, false, false, false, .held, false, false, []⟩
def hh : State := { h0 with hp := { h0.hp with phase := .running, run := some tx, words := 2, edges := 200, lanes := 2 } }
def hh2 : State := { hh.setFlag F.SYS_STOCK_DONE_PENDING true with stock := { hh.stock with due := 50 } }
def hr : State := { h0 with hp := { h0.hp with phase := .rejected } }
def he : State := { h0 with hp := { h0.hp with phase := .ended } }

/-- HostPortTransacts: states and operands that meet the hypotheses of each clause. -/
theorem witness_HostPortTransacts :
    (h0.live = true ∧ h0.busIdle = true ∧ h0.hp.phase ≠ HpPhase.running ∧ uu h0 = { h0 with clock := h0.clock + 5 } ∧
      (Instr.hpPing 5 cp (crc cp) 20 = Instr.hpPing 5 cp (crc cp) 20 ∨ (∃ k,
      Instr.hpPing 5 cp (crc cp) 20 = Instr.hpRead 5 cp (crc cp) 20 k) ∨ ∃ d dc k es,
      Instr.hpPing 5 cp (crc cp) 20 = Instr.hpWrite 5 cp (crc cp) d dc 20 k es) ∧ 20 < 26) ∧
    (h0.live = true ∧ h0.hp.phase ≠ HpPhase.rejected) ∧
    (h0.live = true ∧ h0.busIdle = true ∧ h0.hp.phase ≠ HpPhase.running ∧ uu h0 = { h0 with clock := h0.clock + 5 } ∧
      (Instr.hpRead 5 cp (crc cp + 1) 60 true = Instr.hpPing 5 cp (crc cp + 1) 60 ∨ (∃ k,
      Instr.hpRead 5 cp (crc cp + 1) 60 true = Instr.hpRead 5 cp (crc cp + 1) 60 k) ∨ ∃ d dc k es,
      Instr.hpRead 5 cp (crc cp + 1) 60 true = Instr.hpWrite 5 cp (crc cp + 1) d dc 60 k es) ∧ 26 ≤ 60 ∧ (0 = 0 ∧
      (crc cp + 1).toNat ≠ crc16Words [cp] ∨ 0 = 1 ∧ (crc cp + 1).toNat = crc16Words [cp] ∧ hpBad cp = true)) ∧
    (ho.live = true ∧ ho.busIdle = true ∧ ho.hp.phase ≠ HpPhase.running ∧ uu ho = { ho with clock := ho.clock + 5 } ∧
      (crc cp).toNat = crc16Words [cp] ∧ hpBad cp = false ∧
      2 ^ 10 = bit ho.hp.isOver * 2 ^ 11 + bit ho.hp.abort * 2 ^ 10 ∧ hpOpcode cp = 3 ∧ 54 ≤ 60) ∧
    (h0.live = true ∧ h0.busIdle = true ∧ h0.hp.phase ≠ HpPhase.running ∧ uu h0 = { h0 with clock := h0.clock + 5 } ∧
      (crc cr).toNat = crc16Words [cr] ∧ hpBad cr = false ∧ 0 = bit h0.hp.isOver * 2 ^ 11 + bit h0.hp.abort * 2 ^ 10 ∧
      2 = hpLanes cr ∧ hpWords cr = 1 ∧ 54 + ceilDiv 36 2 + 16 / 2 ≤ 80 ∧ hpOpcode cr = 1 ∧
      xx h0 cr = h0.newTxn true (hpAddr cr) 1 [] ∧ h0.implemented (xx h0 cr).blk = true ∧
      blockDie (xx h0 cr).blk = none ∧ h0.power ≠ Power.bare ∧ (¬((xx h0 cr).blk = 7 ∧ (xx h0 cr).off < 256)) ∧
      h0.specAt (xx h0 cr).blk (xx h0 cr).off = some sp3 ∧ heldKind (xx h0 cr).blk (xx h0 cr).off sp3 = false ∧
      (¬(xx h0 cr).blk * 512 + (xx h0 cr).off ∈ [R.LAD_PTP_SEC, R.ENG_WIN_DATA]) ∧ (¬((xx h0 cr).blk = 5 ∧
      16 ≤ (xx h0 cr).off ∧ (xx h0 cr).off % 8 = 2))) ∧
    (h0.live = true ∧ h0.busIdle = true ∧ h0.hp.phase ≠ HpPhase.running ∧ uu h0 = { h0 with clock := h0.clock + 5 } ∧
      (crc crG).toNat = crc16Words [crG] ∧ hpBad crG = false ∧
      0 = bit h0.hp.isOver * 2 ^ 11 + bit h0.hp.abort * 2 ^ 10 ∧ 4 = hpLanes crG ∧ hpWords crG = 1 ∧
      54 + ceilDiv 36 4 + 16 / 4 ≤ 80 ∧ hpOpcode crG = 1 ∧ xx h0 crG = h0.newTxn true (hpAddr crG) 1 [] ∧
      h0.implemented (xx h0 crG).blk = true ∧ (blockDie (xx h0 crG).blk).isSome = true ∧ h0.power ≠ Power.bare) ∧
    (hs.live = true ∧ hs.busIdle = true ∧ hs.hp.phase ≠ HpPhase.running ∧ uu hs = { hs with clock := hs.clock + 5 } ∧
      (crc cw).toNat = crc16Words [cw] ∧ hpBad cw = false ∧ 0 = bit hs.hp.isOver * 2 ^ 11 + bit hs.hp.abort * 2 ^ 10 ∧
      2 = hpLanes cw ∧ hpWords cw = 1 ∧ 54 + ceilDiv 36 2 + 16 / 2 ≤ 56 + 18 + 8 ∧ hpOpcode cw = 2 ∧
      (hpAddr cw = if false = true then 523 else 11) ∧ 56 + ceilDiv 36 2 + 16 / 2 ≤ 56 + 18 + 8) ∧
    (hh.live = true ∧ hh.busIdle = true ∧ hh.hp.run = some tx ∧ tx.wait = Stall.held ∧ tx.read = true ∧ tx.left = 1 ∧
      tx.blk = 0 ∧ tx.off = 6 ∧ hh.hp.write = false ∧ { hh with clock := hh.clock + 5 }.stockHolds = false) ∧
    (hh2.live = true ∧ hh2.busIdle = true ∧ hh2.hp.run = some tx ∧ tx.wait = Stall.held ∧ tx.read = true ∧
      tx.left = 1 ∧ tx.blk = 0 ∧ tx.off = 6 ∧ hh2.hp.write = false ∧
      { hh2 with clock := hh2.clock + 5 }.stockHolds = true) ∧
    (hr.live = true ∧ hr.hp.phase = HpPhase.rejected) ∧
    (he.live = true ∧ he.hp.phase = HpPhase.ended ∧ he.hp.isOver = false) :=
  ⟨⟨by decide +kernel, by decide +kernel, by decide +kernel, rfl, .inl rfl, by decide +kernel⟩,
   by decide +kernel,
   ⟨by decide +kernel, by decide +kernel, by decide +kernel, rfl, .inr (.inl ⟨true, rfl⟩), by decide +kernel,
     by decide +kernel⟩,
   ⟨by decide +kernel, by decide +kernel, by decide +kernel, rfl, by decide +kernel, by decide +kernel,
     by decide +kernel, by decide +kernel, by decide +kernel⟩,
   ⟨by decide +kernel, by decide +kernel, by decide +kernel, rfl, by decide +kernel, by decide +kernel,
     by decide +kernel, by decide +kernel, by decide +kernel, by decide +kernel, by decide +kernel,
     by decide +kernel, by decide +kernel, by decide +kernel, by decide +kernel, by decide +kernel,
     by decide +kernel, by decide +kernel, by decide +kernel, by decide +kernel⟩,
   ⟨by decide +kernel, by decide +kernel, by decide +kernel, rfl, by decide +kernel, by decide +kernel,
     by decide +kernel, by decide +kernel, by decide +kernel, by decide +kernel, by decide +kernel,
     by decide +kernel, by decide +kernel, by decide +kernel, by decide +kernel⟩,
   ⟨by decide +kernel, by decide +kernel, by decide +kernel, rfl, by decide +kernel, by decide +kernel,
     by decide +kernel, by decide +kernel, by decide +kernel, by decide +kernel, by decide +kernel,
     by decide +kernel, by decide +kernel⟩,
   by decide +kernel,
   by decide +kernel,
   by decide +kernel,
   by decide +kernel⟩

end Sys2Proof.Tests.W21

namespace Sys2Proof.Tests.W22

def htr (m : Nat) : HtRec := ⟨0, true, m, 0, true, true, 5⟩
def hv (m : Nat) : Inventory := { inv1 with hts := [htr m], cmdas := [⟨0, true, 0, 10, 100⟩, ⟨0, true, 1, 10, 100⟩] }
def ha (m st : Nat) (f : StepChan → StepChan) : State :=
  let s := (ax st).setFlag F.CLK_POWER_HATCH_EN true; { s with inv := some (hv m), hatch := { s.hatch with steps := s.hatch.steps.set 0 (f s.hatch.steps[(0 : AxisId)]) } }
def a0 := ha 0 3 id
def dd (s : State) : Int := if s.hatch.steps[(0 : AxisId)].b != s.flag (F.HAT_HT_CFG_DIR_INV 0) then 1 else -1
def a0d := ha 0 0 (fun x => { x with b := true })
def a1 := ha 1 3 id
def a2 := ha 2 3 id
def vv (s : State) (now : Bool) := ({ s with clock := s.clock + 5 } : State).setRegBit R.HAT_STATUS 28 now
def ww (s : State) (now high : Bool) : State := let v := vv s now; { v with hatch := { s.hatch with steps := s.hatch.steps.set 0 { s.hatch.steps[(0 : AxisId)] with ena := high } } }
def wasOf (s : State) := s.enaActive 0 (s.hatch.steps[(0 : AxisId)]).ena
def e0 := ha 0 0 id
def e1 := ha 0 3 (fun x => { x with ena := true })
def ao := a0.setRegBit R.HAT_STATUS 16 true
def z0 := ha 0 0 id
def zb : State := { z0.setFld ⟨R.HAT_OP_STAT, 4, 0⟩ 1 with hatch := { z0.hatch with cal := some (0, 30) } }

/-- HatchCountsEnablesAndCalibrates: states and operands that meet the hypotheses of each clause. -/
theorem witness_HatchCountsEnablesAndCalibrates :
    (a0.reach 12 = true ∧ a0.flag F.CLK_POWER_HATCH_EN = true ∧ a0.htRec 0 = some (htr 0) ∧ (htr 0).used = true ∧
      a0.htAxis 0 = some 0 ∧ a0.pairOpen 0 = false ∧ 4 * 2 ^ (htr 0).filter ≤ 100000 ∧ (htr 0).mode = 0 ∧
      (false = false ∨ a0.hatch.steps[0].a = true)) ∧
    (a0.reach 12 = true ∧ a0.htAxis 0 = some 0 ∧ a0.flag F.CLK_POWER_HATCH_EN = true ∧ a0.pairOpen 0 = false) ∧
    (a0.reach 12 = true ∧ a0.flag F.CLK_POWER_HATCH_EN = true ∧ a0.htRec 0 = some (htr 0) ∧ (htr 0).used = true ∧
      a0.htAxis 0 = some 0 ∧ a0.pairOpen 0 = false ∧ 4 * 2 ^ (htr 0).filter ≤ 100000 ∧ (htr 0).mode = 0 ∧
      a0.hatch.steps[0].a = false ∧
      (dd a0 = if (a0.hatch.steps[0].b != a0.flag (F.HAT_HT_CFG_DIR_INV 0)) = true then 1 else -1) ∧
      a0.axisSt 0 = stRunning) ∧
    (a0d.reach 12 = true ∧ a0d.flag F.CLK_POWER_HATCH_EN = true ∧ a0d.htRec 0 = some (htr 0) ∧ (htr 0).used = true ∧
      a0d.htAxis 0 = some 0 ∧ a0d.pairOpen 0 = false ∧ 4 * 2 ^ (htr 0).filter ≤ 100000 ∧ (htr 0).mode = 0 ∧
      a0d.hatch.steps[0].a = false ∧
      (dd a0d = if (a0d.hatch.steps[0].b != a0d.flag (F.HAT_HT_CFG_DIR_INV 0)) = true then 1 else -1) ∧
      a0d.axisSt 0 = stDisabled) ∧
    (a1.reach 12 = true ∧ a1.flag F.CLK_POWER_HATCH_EN = true ∧ a1.htRec 0 = some (htr 1) ∧ (htr 1).used = true ∧
      a1.htAxis 0 = some 0 ∧ a1.pairOpen 0 = false ∧ 4 * 2 ^ (htr 1).filter ≤ 100000 ∧ (htr 1).mode = 1 ∧
      a1.axisSt 0 = stRunning ∧ a1.hatch.steps[0].a = false ∧ a1.hatch.steps[0].b = false) ∧
    (a2.reach 12 = true ∧ a2.flag F.CLK_POWER_HATCH_EN = true ∧ a2.htRec 0 = some (htr 2) ∧ (htr 2).used = true ∧
      a2.htAxis 0 = some 0 ∧ a2.pairOpen 0 = false ∧ 4 * 2 ^ (htr 2).filter ≤ 100000 ∧ 2 ≤ (htr 2).mode ∧
      true ≠ a2.hatch.steps[0].a ∧ true ≠ a2.hatch.steps[0].b) ∧
    (a2.reach 12 = true ∧ a2.flag F.CLK_POWER_HATCH_EN = true ∧ a2.htRec 0 = some (htr 2) ∧ (htr 2).used = true ∧
      a2.htAxis 0 = some 0 ∧ a2.pairOpen 0 = false ∧ 4 * 2 ^ (htr 2).filter ≤ 100000 ∧ 2 ≤ (htr 2).mode ∧
      true ≠ a2.hatch.steps[0].a ∧ false = a2.hatch.steps[0].b ∧ a2.axisSt 0 = stRunning ∧
      (-1 = if ((true == false) == a2.flag (F.HAT_HT_CFG_DIR_INV 0)) = true then -1 else 1)) ∧
    (a0.reach 12 = true ∧ wasOf a0 = a0.enaActive 0 a0.hatch.steps[0].ena ∧
      vv a0 (a0.enaActive 0 false) = ({ a0 with clock := a0.clock + 5 }).setRegBit R.HAT_STATUS (28 + 0) (a0.enaActive 0 false) ∧ ww a0 (a0.enaActive 0 false) false = { (vv a0 (a0.enaActive 0 false)) with hatch := have __src := a0.hatch; { __src with steps := a0.hatch.steps.set (0) (have __src := a0.hatch.steps[0]; { __src with ena := false }) } } ∧
      (a0.enaActive 0 false = wasOf a0 ∨ a0.enaAxis 0 = none)) ∧
    (e0.reach 12 = true ∧ wasOf e0 = e0.enaActive 0 e0.hatch.steps[0].ena ∧
      vv e0 (e0.enaActive 0 true) = ({ e0 with clock := e0.clock + 5 }).setRegBit R.HAT_STATUS (28 + 0) (e0.enaActive 0 true) ∧ ww e0 (e0.enaActive 0 true) true = { (vv e0 (e0.enaActive 0 true)) with hatch := have __src := e0.hatch; { __src with steps := e0.hatch.steps.set (0) (have __src := e0.hatch.steps[0]; { __src with ena := true }) } } ∧ e0.enaActive 0 true ≠ wasOf e0 ∧ e0.enaAxis 0 = some 0 ∧ e0.enaActive 0 true = true ∧
      e0.axisSt 0 = stDisabled) ∧
    (e1.reach 12 = true ∧ wasOf e1 = e1.enaActive 0 e1.hatch.steps[0].ena ∧
      vv e1 (e1.enaActive 0 false) = ({ e1 with clock := e1.clock + 5 }).setRegBit R.HAT_STATUS (28 + 0) (e1.enaActive 0 false) ∧ ww e1 (e1.enaActive 0 false) false = { (vv e1 (e1.enaActive 0 false)) with hatch := have __src := e1.hatch; { __src with steps := e1.hatch.steps.set (0) (have __src := e1.hatch.steps[0]; { __src with ena := false }) } } ∧ e1.enaActive 0 false ≠ wasOf e1 ∧ e1.enaAxis 0 = some 0 ∧ e1.enaActive 0 false = false ∧
      e1.axisOn 0 = true) ∧
    (ao.reach 12 = true ∧ ao.pairOpen 0 = true) ∧
    (z0.reach 12 = true ∧ z0.opBusy R.HAT_OP_STAT = false ∧ z0.calZeroOk 0 = true) ∧
    (a0.reach 12 = true ∧ (a0.opBusy R.HAT_OP_STAT = true ∨ a0.calZeroOk 0 = false)) ∧
    (zb.reach 12 = true ∧ zb.opBusy R.HAT_OP_STAT = true) ∧
    (zb.reach 12 = true ∧ (zb.hatch.cal = some (0, 30)) ∧ zb.opBusy R.HAT_OP_STAT = true ∧ -33554432 ≤ -77777 ∧
      -77777 ≤ 33553919) ∧
    (z0.reach 12 = true ∧ z0.cmdaKind 1 = some 1 ∧ 1 ≠ 0) ∧
    (a0.reach 12 = true ∧ a0.flag F.CLK_POWER_HATCH_EN = true ∧ a0.htRec 0 = some (htr 0) ∧ (htr 0).used = true ∧
      a0.htAxis 0 = some 0 ∧ a0.pairOpen 0 = false ∧ 0 < 4 * 2 ^ (htr 0).filter) :=
  ⟨by decide +kernel,
   by decide +kernel,
   by decide +kernel,
   by decide +kernel,
   by decide +kernel,
   by decide +kernel,
   by decide +kernel,
   by decide +kernel,
   by decide +kernel,
   by decide +kernel,
   by decide +kernel,
   by decide +kernel,
   by decide +kernel,
   by decide +kernel,
   by decide +kernel,
   by decide +kernel,
   by decide +kernel⟩

end Sys2Proof.Tests.W22

end
end

section
/-! PROOFS. The register interface: a request for a Stocktake while one is pending (R39), and accesses to unimplemented
blocks and to holes (R28, R29). -/

namespace Sys2Proof.Machine

open Sys2Proof

variable {s t : State}

/-! ### What the commands of this chapter answer with -/

theorem exec_stocktake {dt : Nat} {req : Req} {d : Word} :
    exec (.stocktake dt req d) s = .next (s.after (stocktake req (s.pass dt))) := by rfl

theorem exec_stocktakeAt {dt : Nat} : exec (.stocktakeAt dt) s = .next (s.after (stocktakeAt (s.pass dt))) := by rfl

theorem exec_registerWrite {dt : Nat} {req : Req} {addr : BitVec 16} {data : Word} {e : AccessEnv} :
    exec (.registerWrite dt req addr data e) s = .next (s.after ((s.busPass dt).singleAccess req false addr [data] e)) := by rfl

theorem exec_rhRead {dt : Nat} {req : Req} {addr : BitVec 16} :
    exec (.rhRead dt req addr) s = .next (s.after (rhRead req addr (s.busPass dt))) := by rfl

/-! ### Registers that a flag leaves alone -/

/-- A flag of a register among those that may differ. -/
theorem RegsBut.setFlag {l : List Nat} {f : Fld} {b : Bool} (h : RegsBut s t l) (hf : f.key ∈ l) :
    RegsBut s (t.setFlag f b) l :=
  fun k hk => (reg_setFlag_ne (ne_of_mem_of_not_mem hf hk).symm).trans (h k hk)

theorem RegsBut.pass {dt : Nat} {l : List Nat} : RegsBut s (s.pass dt) l := fun _ _ => rfl

/-! ### The end of a Ladder transaction (R355, R346) -/

/-- R346: sending a datagram adds to what the transmit queues hold, and does nothing else. -/
theorem sendTo_appends {queue : Nat} {ip : BitVec 32} {port : BitVec 16} {bytes : List Nat} :
    ∃ l, s.sendTo queue ip port bytes = s.modLadder (fun x => { x with sent := x.sent ++ l }) := by
  unfold State.sendTo
  dsimp only
  split
  · exact ⟨_, rfl⟩
  · exact ⟨_, congrArg (fun l => s.modLadder (fun x => { x with sent := l })) (List.append_assoc ..)⟩

/-- R355: so does a response. -/
theorem respond_appends {m : Msg} {status : Nat} {wrap : Bool} {ws : List Word} :
    ∃ l, s.respond m status wrap ws = s.modLadder (fun x => { x with sent := x.sent ++ l }) := by
  have unsent : s = s.modLadder (fun x => { x with sent := x.sent ++ [] }) :=
    congrArg (fun l => s.modLadder (fun x => { x with sent := l })) (List.append_nil _).symm
  unfold State.respond
  split
  · exact ⟨[], unsent⟩
  · split
    · exact ⟨[], unsent⟩
    · exact sendTo_appends

/-- R365: a transaction that ends no session leaves the queue, and its response is sent; nothing but the Ladder changes. -/
theorem txnDone_ladder {m : Msg} {status : Nat} {wrap : Bool} {ws : List Word} (h : s.ladder.ending = none) :
    ∃ l, s.txnDone m status wrap ws =
      s.modLadder (fun x => { x with txns := x.txns.drop 1, run := none, sent := x.sent ++ l }) := by
  obtain ⟨l, hl⟩ := respond_appends (s := s.modLadder (fun l => { l with txns := l.txns.drop 1, run := none })) (m := m)
    (status := status) (wrap := wrap) (ws := ws)
  refine ⟨l, ?_⟩
  unfold State.txnDone
  simp only [hl, modLadder_ladder, h]
  rfl

/-! ### A Stocktake while one is pending (R39) -/

/-- R39: the request is refused. -/
theorem scheduleStock_pending {at_ source : Nat} (h : s.flag F.SYS_STOCK_DONE_PENDING = true) :
    s.scheduleStock at_ source = (s.setFlag F.SYS_STATUS_STOCK_REFUSED true, false) := if_pos h

/-- R38, R39: a write to SYS.STOCKTAKE while a capture is pending. -/
theorem stocktake_pending {req : Req} (hr : s.reach 0 = true) (h : s.flag F.SYS_STOCK_DONE_PENDING = true) :
    stocktake req s = s.setFlag F.SYS_STATUS_STOCK_REFUSED true := by
  unfold stocktake
  rw [if_pos hr, scheduleStock_pending h]

/-- R372, R39: a STOCKTAKE_AT for an instant within its window, while a capture is pending, is refused and answered so. -/
theorem stocktakeAt_pending {m : Msg} {rest : List Msg} {at_ : Int} (hq : s.ladder.txns = m :: rest) (ht : m.typ = 10)
    (hl : s.ptpLocked = true) (h : s.flag F.SYS_STOCK_DONE_PENDING = true)
    (hi : s.instantAt ((unpackWords 1 m.body).getD 0 0) ((unpackWords 1 m.body).getD 1 0) = some at_)
    (hlo : (m.at_ : Int) + 4000 ≤ at_) (hhi : at_ ≤ (m.at_ : Int) + 50000000) :
    stocktakeAt s = (s.setFlag F.SYS_STATUS_STOCK_REFUSED true).txnDone m 3 false [] := by
  have window : ¬ (at_ < (m.at_ : Int) + 4000 ∨ (m.at_ : Int) + 100 * msec < at_) := by
    simp only [msec]; omega
  unfold stocktakeAt
  simp only [hq, List.head?_cons, ht, ne_eq, not_true_eq_false, if_false, hl, if_true, hi, window, scheduleStock_pending h,
    Bool.false_eq_true]

/-- Settles O2: every way to request a Stocktake comes to `scheduleStock`, which refuses while one is pending. -/
theorem pendingStocktakeRefusesRequests : Obligations.PendingStocktakeRefusesRequests := by
  unfold Obligations.PendingStocktakeRefusesRequests
  refine ⟨?_, fun at_ source s h => scheduleStock_pending h, ?_⟩
  · intro dt req d s hr h
    have e := stocktake_pending (s := s.pass dt) (req := req) hr h
    refine ⟨_, exec_stocktake, ?_⟩
    rw [e]
    refine ⟨?_, ?_, ?_, rfl⟩
    · rw [after_flag]; exact flag_setFlag_self (by decide)
    · intro f _ hf
      rw [after_fld]; exact fld_setFlag_apart (s := s.pass dt) (by decide) hf
    · exact RegsBut.setFlag (t := s.pass dt) RegsBut.pass (by decide)
  · intro dt m rest at_ u s hq ht hu hl h hi hlo hhi hend
    subst hu
    obtain ⟨l, hd⟩ := txnDone_ladder (s := (s.pass dt).setFlag F.SYS_STATUS_STOCK_REFUSED true) (m := m) (status := 3)
      (wrap := false) (ws := []) hend
    refine ⟨_, exec_stocktakeAt, ?_⟩
    rw [stocktakeAt_pending (s := s.pass dt) hq ht hl h hi hlo hhi, hd]
    refine ⟨?_, rfl, ?_⟩
    · rw [after_flag, modLadder_flag]; exact flag_setFlag_self (by decide)
    · exact RegsBut.setFlag (t := s.pass dt) RegsBut.pass (by decide)

/-! ### Unimplemented blocks and holes (R28, R29) -/

/-- R29: an unimplemented block counts as one with k = 9. -/
theorem blockK_unimplemented {blk : Nat} (h : s.implemented blk = false) : s.blockK blk = 9 := by
  unfold State.blockK State.blockSpec
  rw [h]; rfl

/-- R36, R29: an access to an unimplemented block crosses no gate link. -/
theorem crosses_unimplemented {x : Txn} (h : s.implemented x.blk = false) : s.crosses x = false := by
  unfold State.crosses
  rw [h, Bool.and_false, Bool.false_and]

/-- R29: an access to an unimplemented block moves the word 0 and sets UNMAPPED. -/
theorem txnAccess_unimplemented {req : Req} {e : AccessEnv} {x : Txn} (h : s.implemented x.blk = false) :
    s.txnAccess req e x =
      (s.setFlag F.SYS_STATUS_UNMAPPED true, { x.moved (s.blockK x.blk) 0 with unmapped := true }) := by
  unfold State.txnAccess
  simp only [h, Bool.not_false, if_true]

/-- R28: an access to a hole moves the word 0 and changes nothing, in bare mode as well. -/
theorem txnAccess_hole {req : Req} {e : AccessEnv} {x : Txn} (hb : s.implemented x.blk = true)
    (hs : s.specAt x.blk x.off = none) (hw : ¬ (x.blk = 7 ∧ x.off < 256)) :
    s.txnAccess req e x = (s, x.moved (s.blockK x.blk) 0) := by
  unfold State.txnAccess
  simp only [hb, Bool.not_true, Bool.false_eq_true, if_false, hw, hs, ite_self]

/-- R29, R23: a single access to an unimplemented block over an idle bus sets UNMAPPED, takes its turn of the bus and, as a
read, returns 0. -/
theorem singleAccess_unimplemented {req : Req} {read : Bool} {addr : BitVec 16} {data : List Word} {e : AccessEnv}
    (h : s.live = true) (hi : s.busIdle = true) (hn : s.implemented (addr.toNat / 1024) = false) :
    s.singleAccess req read addr data e = (s.setFlag F.SYS_STATUS_UNMAPPED true).modAccess (fun a =>
      { a with read := if read then [0] else [], freeAt := 3 * s.clock + busSlot }) := by
  have hl : ((s.newTxn read addr 1 data).moved (s.blockK (addr.toNat / 1024)) 0).left = 0 := moved_left rfl
  have hd := singleAccess_done (e := e) (data := data) (req := req) (read := read) h hi rfl (crosses_unimplemented hn)
    (txnAccess_unimplemented (s := s.granted req (s.newTxn read addr 1 data) e) hn) hl
    ((live_setFlag (by decide)).trans h) (busIdle_wants hi).1
  rw [hd]
  cases read <;> rfl

/-- R40: a requester with no access under way tries none again. -/
theorem retryAccess_none {req : Req} {wait : Stall} (h : s.access.open_ = []) : s.retryAccess req wait = none := by
  unfold State.retryAccess State.findAccess
  rw [h]; rfl

/-- R40, R29: a read by RH_READ at an address of an unimplemented block. -/
theorem rhRead_unimplemented {req : Req} {addr : BitVec 16} (h : s.live = true) (hi : s.busIdle = true)
    (hn : s.implemented (addr.toNat / 1024) = false) (ho : s.access.open_ = []) :
    rhRead req addr s = (s.setFlag F.SYS_STATUS_UNMAPPED true).modAccess (fun a =>
      { a with read := [0], freeAt := 3 * s.clock + busSlot }) := by
  unfold rhRead
  simp only [h, Bool.not_true, Bool.false_eq_true, if_false, retryAccess_none ho]
  exact singleAccess_unimplemented h hi hn

/-- Settles O6: the bus grants an access to an unimplemented block at once, and such an access does no more than
`txnAccess` says. -/
theorem unmappedAndHolesReadZero : Obligations.UnmappedAndHolesReadZero := by
  unfold Obligations.UnmappedAndHolesReadZero
  refine ⟨?_, ?_, fun req e x s => txnAccess_hole⟩
  · intro dt req addr data e s h hi hn
    refine ⟨blockK_unimplemented hn, _, exec_registerWrite, ?_⟩
    rw [busPass_idle hi, singleAccess_unimplemented (s := s.pass dt) h (busIdle_pass hi) hn]
    refine ⟨?_, rfl, ?_, rfl⟩
    · rw [after_flag, modAccess_flag]; exact flag_setFlag_self (by decide)
    · exact RegsBut.setFlag (t := s.pass dt) RegsBut.pass (by decide)
  · intro dt req addr s h hi hn ho
    refine ⟨_, exec_rhRead, ?_⟩
    rw [busPass_idle hi, rhRead_unimplemented (s := s.pass dt) h (busIdle_pass hi) hn ho]
    refine ⟨ho, rfl, ?_, ?_, rfl⟩
    · rw [after_flag, modAccess_flag]; exact flag_setFlag_self (by decide)
    · exact RegsBut.setFlag (t := s.pass dt) RegsBut.pass (by decide)

end Sys2Proof.Machine
end

section
/-! PROOFS. Protection: the inlet (R419, R420) and the brake (R423, R424). -/

namespace Sys2Proof.Machine

open Sys2Proof

variable {s t : State}

/-! ### What the commands of the inlet and the brake answer with -/

theorem exec_prechargeStart {dt : Nat} : exec (.prechargeStart dt) s = .next (s.after (prechargeStart (s.pass dt))) := by rfl

theorem exec_prechargeDone {dt : Nat} : exec (.prechargeDone dt) s = .next (s.after (prechargeDone (s.pass dt))) := by rfl

theorem exec_prechargeTimeout : exec .prechargeTimeout s = .next (s.after (prechargeTimeout s)) := by rfl

theorem exec_vminBelow5v {dt : Nat} : exec (.vminBelow5v dt) s =
    .next (s.after ((s.pass dt).modGuard (fun g => { g with inletWait := false }))) := by rfl

theorem exec_vmReversed {dt : Nat} : exec (.vmReversed dt) s = .next (s.after (vmReversed (s.pass dt))) := by rfl

theorem exec_inletUnblock {dt : Nat} : exec (.inletUnblock dt) s = .next (s.after (inletUnblock (s.pass dt))) := by rfl

theorem exec_brakeIneffective : exec .brakeIneffective s = .next (s.after (brakeIneffective s)) := by rfl

theorem exec_brakeHeatSave {ok : Bool} : exec (.brakeHeatSave ok) s = .next (s.after (brakeHeatSave ok s)) := by rfl

/-- A command that does not turn time back leaves the state that it made, under the interlock of R104. -/
theorem after_later (h : s.clock ≤ t.clock) : s.after t = { t.interlocked with pending := s.pending } := by
  have e : (s.after t).clock = t.clock := Nat.max_eq_right h
  exact congrArg (fun c => { t.interlocked with pending := s.pending, clock := c }) e

/-- A command that waits for an instant leaves the module at that instant, or now if it has passed. -/
theorem after_clock_atLeast {k : Nat} (h : t.clock = max s.clock k) : (s.after t).clock = max s.clock k := by
  rw [after_clock, h, Nat.max_eq_right (Nat.le_max_left ..)]

/-! ### INLET_STATE and INLET_ON -/

@[simp] theorem after_inlet : (s.after t).inlet = t.inlet := (rfl)
@[simp] theorem modGuard_inlet (f : Protect → Protect) : (s.modGuard f).inlet = s.inlet := (rfl)
@[simp] theorem raiseLD_inlet (c o : Nat) (a : Option Nat) : (s.raiseLD c o a).inlet = s.inlet := (rfl)

/-- A field of a register among those that may differ. -/
theorem RegsBut.setFld {l : List Nat} {f : Fld} {v : Nat} (h : RegsBut s t l) (hf : f.key ∈ l) :
    RegsBut s (t.setFld f v) l :=
  fun k hk => (reg_setFld_ne (ne_of_mem_of_not_mem hf hk).symm).trans (h k hk)

theorem RegsBut.atLeast {l : List Nat} {k : Nat} : RegsBut s (s.atLeast k) l := fun _ _ => rfl

theorem RegsBut.after {l : List Nat} (h : RegsBut s t l) : RegsBut s (s.after t) l := h

theorem RegsBut.modGuard {l : List Nat} {f : Protect → Protect} (h : RegsBut s t l) : RegsBut s (t.modGuard f) l := h

theorem RegsBut.raiseLD {l : List Nat} {c o : Nat} {a : Option Nat} (h : RegsBut s t l) : RegsBut s (t.raiseLD c o a) l := h

theorem RegsBut.setInlet {v : Nat} (h : RegsBut s t [R.FLT_SUPPLY, R.FLT_STATUS]) :
    RegsBut s (t.setInlet v) [R.FLT_SUPPLY, R.FLT_STATUS] :=
  RegsBut.setFlag (RegsBut.setFld h (by decide)) (by decide)

/-- Table 15.9: INLET_STATE has two bits. -/
theorem inlet_setInlet {v : Nat} (h : v < 4) : (s.setInlet v).inlet = v :=
  (fld_setFlag_key (by decide)).trans ((fld_setFld_self (by decide)).trans (Nat.mod_eq_of_lt h))

theorem inletOn_setInlet {v : Nat} : (s.setInlet v).flag F.FLT_STATUS_INLET_ON = decide (v = inOn) :=
  flag_setFlag_self (by decide)

theorem setInlet_vmReversed {v : Nat} : (s.setInlet v).flag F.FLT_STATUS_VM_REVERSED = s.flag F.FLT_STATUS_VM_REVERSED :=
  (flag_setFlag_apart (by decide) (by decide)).trans (flag_setFld_key (by decide))

/-! ### The inlet (R419, R420) -/

/-- R419: a precharge of an enabled inlet. -/
theorem precharge_enabled (h : s.inletEnabled = true) :
    s.precharge = (s.setInlet inPrecharge).modGuard (fun g => { g with inletAt := s.clock, inletWait := false }) := if_pos h

theorem prechargeStart_starts (he : s.inletEnabled = true) (hi : s.inlet = inOff) (hw : s.guard.inletWait = false)
    (hr : s.flag F.FLT_STATUS_VM_REVERSED = false) : prechargeStart s = s.precharge := by
  unfold prechargeStart
  simp only [he, hi, hw, hr, decide_true, Bool.not_false, Bool.and_self, if_true]

theorem prechargeDone_inTime (hi : s.inlet = inPrecharge) (hc : s.clock ≤ s.guard.inletAt + prechargeLimit) :
    prechargeDone s = s.setInlet inOn := if_pos ⟨hi, hc⟩

/-- R419: a precharge lasts 200 ms. -/
theorem prechargeTimeout_precharging (hi : s.inlet = inPrecharge) :
    prechargeTimeout s = (((s.atLeast (s.guard.inletAt + 100000000)).setInlet inOff).raiseLD 0x104 0 none).modGuard
      (fun g => { g with inletWait := true }) := if_pos hi

theorem vmReversed_first (hf : s.fmRuns = true) (hr : s.flag F.FLT_STATUS_VM_REVERSED = false) :
    vmReversed s = ((s.setFlag F.FLT_STATUS_VM_REVERSED true).setInlet inBlocked).raiseLD 0x103 0 none := by
  unfold vmReversed
  simp only [hf, hr, Bool.not_true, Bool.or_self, Bool.false_eq_true, if_false]

theorem inletUnblock_blocked (hi : s.inlet = inBlocked) :
    inletUnblock s = (s.setFlag F.FLT_STATUS_VM_REVERSED false).precharge := if_pos hi

/-! ### The brake (R423, R424) -/

/-- R424: the first time in which BRK has stayed high for 100 ms. -/
theorem brakeIneffective_first {t0 : Nat} (hs : s.guard.brkSince = some t0) (ht : s.guard.brkTold = false)
    (hc : s.cmpOut 58 = true) :
    brakeIneffective s = ((s.atLeast (t0 + 50000000)).raiseLD 0x112 0 none).modGuard
      (fun g => { g with brkTold := true }) := by
  unfold brakeIneffective
  simp only [msec, hs, ht, hc, Bool.not_true, Bool.or_self, Bool.false_eq_true, if_false]

/-- R423: time stands at `k` or later, and the next write of the heat counts from there. -/
def State.heatWrittenAt (s : State) (k : Nat) : State := (s.atLeast k).modGuard (fun g => { g with heatAt := max s.clock k })

/-- R423: H goes to the Strongbox 1 s after the last write. -/
theorem brakeHeatSave_stored (hf : s.fmRuns = true) :
    brakeHeatSave true s = (s.heatWrittenAt (s.guard.heatAt + 500000000)).modBox (fun x => { x with heat := s.guard.heat }) := by
  unfold brakeHeatSave
  rw [hf]
  rfl

theorem brakeHeatSave_fails (hf : s.fmRuns = true) :
    brakeHeatSave false s = (s.heatWrittenAt (s.guard.heatAt + 500000000)).boxWriteFail := by
  unfold brakeHeatSave
  rw [hf]
  rfl

theorem RegsBut.heatWrittenAt {l : List Nat} {k : Nat} : RegsBut s (s.heatWrittenAt k) l := fun _ _ => rfl

/-- Table 15.11: a failed write is told. -/
theorem boxWriteFail_told : s.boxWriteFail.flag F.BOX_STATUS_WRITE_FAIL = true := by
  unfold State.boxWriteFail
  rw [raiseLD_flag, flag_setFlag_self (by decide)]

/-- Settles O18: each command takes its one effective branch, and what it writes is read back. -/
theorem inletAndBrake : Obligations.InletAndBrake := by
  unfold Obligations.InletAndBrake
  refine ⟨?start, ?done, ?timeout, ?below5v, ?reversed, ?unblock, ?ineffective, ?heat⟩
  case start =>
    intro dt s he hi hw hr
    refine ⟨_, exec_prechargeStart, ?_⟩
    rw [prechargeStart_starts (s := s.pass dt) he hi hw hr, precharge_enabled (s := s.pass dt) he]
    refine ⟨?_, ?_, rfl, RegsBut.pass.setInlet.modGuard.after, after_later (Nat.le_add_right s.clock dt)⟩
    · rw [after_inlet, modGuard_inlet, inlet_setInlet (by decide)]
    · rw [after_flag, modGuard_flag, inletOn_setInlet]; rfl
  case done =>
    intro dt s hi hc
    refine ⟨_, exec_prechargeDone, ?_⟩
    rw [prechargeDone_inTime (s := s.pass dt) hi hc]
    refine ⟨?_, ?_, RegsBut.pass.setInlet.after, after_later (Nat.le_add_right s.clock dt)⟩
    · rw [after_inlet, inlet_setInlet (by decide)]
    · rw [after_flag, inletOn_setInlet]; rfl
  case timeout =>
    intro s hi
    refine ⟨_, exec_prechargeTimeout, ?_⟩
    rw [prechargeTimeout_precharging hi, after_clock_atLeast (k := s.guard.inletAt + 100000000) rfl]
    refine ⟨rfl, ?_, ?_, rfl, rfl, RegsBut.atLeast.setInlet.raiseLD.modGuard.after, after_later (Nat.le_max_left ..)⟩
    · rw [after_inlet, modGuard_inlet, raiseLD_inlet, inlet_setInlet (by decide)]
    · rw [after_flag, modGuard_flag, raiseLD_flag, inletOn_setInlet]; rfl
  case below5v =>
    intro dt s
    exact ⟨_, exec_vminBelow5v, rfl, after_later (Nat.le_add_right s.clock dt)⟩
  case reversed =>
    intro dt s hf hr
    refine ⟨_, exec_vmReversed, ?_⟩
    rw [vmReversed_first (s := s.pass dt) hf hr]
    refine ⟨?_, ?_, ?_, rfl, (RegsBut.pass.setFlag (by decide)).setInlet.raiseLD.after,
      after_later (Nat.le_add_right s.clock dt)⟩
    · rw [after_flag, raiseLD_flag, setInlet_vmReversed, flag_setFlag_self (by decide)]
    · rw [after_inlet, raiseLD_inlet, inlet_setInlet (by decide)]
    · rw [after_flag, raiseLD_flag, inletOn_setInlet]; rfl
  case unblock =>
    intro dt s hi he
    refine ⟨_, exec_inletUnblock, ?_⟩
    rw [inletUnblock_blocked (s := s.pass dt) hi,
      precharge_enabled (s := (s.pass dt).setFlag F.FLT_STATUS_VM_REVERSED false) he]
    refine ⟨?_, ?_, rfl, (RegsBut.pass.setFlag (by decide)).setInlet.modGuard.after,
      after_later (Nat.le_add_right s.clock dt)⟩
    · rw [after_flag, modGuard_flag, setInlet_vmReversed, flag_setFlag_self (by decide)]
    · rw [after_inlet, modGuard_inlet, inlet_setInlet (by decide)]
  case ineffective =>
    intro t0 s hs ht hc
    refine ⟨_, exec_brakeIneffective, ?_⟩
    rw [brakeIneffective_first hs ht hc, after_clock_atLeast (k := t0 + 50000000) rfl]
    exact ⟨rfl, rfl, after_later (Nat.le_max_left ..)⟩
  case heat =>
    intro s hf
    refine ⟨⟨_, exec_brakeHeatSave, ?_⟩, _, exec_brakeHeatSave, ?_⟩
    · rw [brakeHeatSave_stored hf, after_clock_atLeast (k := s.guard.heatAt + 500000000) rfl]
      exact ⟨rfl, after_later (Nat.le_max_left ..)⟩
    · rw [brakeHeatSave_fails hf, after_clock_atLeast (k := s.guard.heatAt + 500000000) rfl]
      refine ⟨?_, rfl, (RegsBut.heatWrittenAt.setFlag (by decide)).raiseLD.after, after_later (Nat.le_max_left ..)⟩
      rw [after_flag, boxWriteFail_told]

end Sys2Proof.Machine
end
